-- ==== Sys2Proof/Word.lean ====
section
/-!
DEFINITION. Word.lean: the value type of the model.
The dictionary's objects are 8 to 80 bits wide or are octet strings (spec/14 R449), and the registers behind
them have the widths INVENTORY.md lists: a value is held as the number its bytes spell, most significant byte
first, and the operation that writes it says its width. Bit fields are taken out with the helpers of
Machine/Bits.lean.
-/
namespace Sys2Proof

/-- The content of an object or a register: the number its bits spell. Signed objects hold the two's
complement pattern of their width (spec/14 R449). -/
abbrev Reg := Nat

/-- One instant of the time base in nanoseconds (spec/13 R428). -/
abbrev Ns := Nat

end Sys2Proof
end

