-- ==== Sys2Proof/Syntax.lean ====
section
/-!
DEFINITION. Syntax.lean: the commands of the block, one constructor of Instr per row of spec/opcode_table.json,
in the table's order, and the data their operands carry. A host's write carries its access (role and master,
spec/00 R21, spec/11 R391); what a pin, a lane, a terminal, a module or another member delivers is carried as
operands, with the outcome of a check that the spec names and gives no algorithm for (log entry 6).
-/
namespace Sys2Proof

/-- The role an access is made under (spec/00 R21). -/
inductive Role where
  | observer
  | operator
  | tenant (n : Nat)
  | owner
  | vendor
  deriving DecidableEq, Repr

/-- An access: the role it is made under and the master that issues it (spec/00 R21, spec/11 R391). -/
structure Acc where
  role : Role
  master : Nat
  deriving DecidableEq, Repr

/-- A functional write to a word of a protected memory (spec/12 R409, R412): the word's number, the bytes it
covers as a mask (bit o for byte o; all eight for a whole-word write), and the data in their places. What is written
into the memories is not laid out by the spec, so the writes a command makes are its operands (log entry 14). -/
structure MemWrite where
  mem : Nat
  word : Nat
  bytes : Nat
  data : Nat
  deriving DecidableEq, Repr

/-- A word that a command's consumer reads uncorrectable or poisoned (spec/12 R413). -/
inductive Poison where
  /-- A deficit (sub 0) or token (sub 8 committed, 9 peak) word of a scheduler node or queue. -/
  | token (index inst sub : Nat)
  /-- A link word of a queue. -/
  | link (up : Bool) (queue : Nat)
  /-- A meter's bucket word. -/
  | meter (meter : Nat)
  /-- The owner tag of a buffer. -/
  | tag (pool buf : Nat)
  /-- A word of a tree port's copy of a key slot (spec/07 R239). -/
  | slotCopy (slot : Nat)
  /-- A table entry, by its object index and instance: a user or static MAC entry, a trie node, a next hop, a rule,
  a flow record or a fragment entry; for a learned MAC entry (index 0x4B10) the entry's place in the table. -/
  | entry (index inst : Nat)
  deriving DecidableEq, Repr

/-- A failing bit a self-test finds (spec/12 R423). -/
structure FailBit where
  word : Nat
  bitPos : Nat
  background : Nat
  element : Nat
  value : Nat
  deriving DecidableEq, Repr

/-- A PTP message as the time engine sees it (spec/13 R437, R439); its layout is IEEE 1588's. An Announce has the data that the
best-master choice compares, its sender's port identity, the grandmaster's clock class, the steps removed and the UTC offset.
Times and corrections are in ns, delay is what the PCS, FEC and alignment markers took, in ps, and freq the source's frequency
in units of 0.01 ppb. -/
inductive PtpMsg where
  | announce (data parent gmClass steps utc : Nat)
  | sync (twoStep : Bool) (origin correction freq : Int)
  | followUp (origin correction : Int) (freq : Int)
  | delayReq
  | delayResp (receive correction : Int)
  deriving DecidableEq, Repr

/-- The PTP messages the time engine sends (spec/13 R437). -/
inductive PtpSend where
  | announce | sync | delayReq
  deriving DecidableEq, Repr

/-- A frame received on a management port (spec/14 R453): an ARP or neighbour discovery request or an ICMP echo for an
address, a UDP datagram to an address and port, or anything else. -/
inductive MgmtFrame where
  | resolve (v6 : Bool) (address : Nat)
  | echo (v6 : Bool) (address : Nat)
  | udp (v6 : Bool) (address port : Nat)
  | other
  deriving DecidableEq, Repr

/-- What another member says of its port of a Type-B pair (spec/02 R81): mode, precoding, PON-ID, frame phase and mode generation,
and its change: its state (0 none, 1 announced or dark, 2 cancelled), target mode * 2 + precoding, switch frame and dark frames
(log entry 113). -/
structure FarPort where
  mode : Nat
  precoding : Nat
  ponId : Nat
  phase : Nat
  gen : Nat
  change : Nat
  target : Nat
  switch : Nat
  dark : Nat
  deriving DecidableEq, Repr

/-- A record of a signal frame (spec/10 R359), and what the partner says of its port beside it, if anything. -/
structure SigRecord where
  sender : Nat
  partner : Nat
  state : Nat
  claim : Nat
  frame : Nat
  far : Option FarPort
  deriving DecidableEq, Repr

/-- What the grant engine writes to the emitter as one map entry (spec/05 R165, R168). A pinned entry names its grant
start, a beat entry its quiet window; kind is the step of R168: 0 open slot, 1 beat, 2 fixed, 3 keep-alive, 4 PLOAMu,
5 cooperative, 6 share. For a beat entry alloc is its kind: 0 discovery, 1 ranging, 2 rejoin, 3 recovery discovery. -/
structure MapEntry where
  onu : Nat
  alloc : Nat
  bytes : Nat
  profile : Nat
  dbru : Bool
  ploamu : Bool
  kind : Nat
  pin : Option Nat
  opens : Nat
  closes : Nat
  deriving DecidableEq, Repr

/-- One forecast window of a CTI Report (spec/05 R189): the instant from which the data leaves the radio units, in ns of
the time base, and its bytes. -/
structure Forecast where
  start : Nat
  bytes : Nat
  deriving DecidableEq, Repr

/-- A span of one upstream frame, in bits from the frame's start (spec/03 R104). -/
structure LitSpan where
  start : Nat
  stop : Nat
  deriving DecidableEq, Repr

/-- A run of 64-bit blocks of one upstream frame as the energy detector measures it (spec/03 R103): its first block, its length
in blocks, and the mean amplitude of each block in mV. -/
structure LightIn where
  block : Nat
  length : Nat
  level : Nat
  deriving DecidableEq, Repr

/-- A position that the burst receiver tests for the delimiter (spec/03 R94, R95): where the delimiter would end, in bits at
49.7664 Gb/s from E (on a standby port from the working port's arrival, spec/02 R83), and how many of its bits differ. -/
structure DelimIn where
  pos : Int
  errors : Nat
  deriving DecidableEq, Repr

/-- A burst as the receiver hears it (spec/03 R94 to R102): the delimiter positions, the bits that FEC corrected, the codewords
that it could not correct, the ONU-ID of the FS burst header (none when its HEC fails), whether the FS burst trailer matches, and
the bytes between header and trailer, descrambled and decoded. The checks whose codes are the standards' come with it (log entry
6): dbrus, the byte offset and the value in bytes of each DBRu whose CRC is right; heads, the byte offset of each place where
the HEC of an XGEM header is right, with the bit that it corrects, if any. -/
structure BurstIn where
  hits : List DelimIn
  corrected : Nat
  bad : List Nat
  header : Option Nat
  trailerOk : Bool
  body : List Nat
  dbrus : List (Nat × Nat)
  heads : List (Nat × Option Nat)
  deriving DecidableEq, Repr

/-- One flam grant of a bulletin (spec/05 R182, R184): the grant start in units of 32 bits from the start of upstream frame
N, and the granted bytes. -/
structure FlamGrant where
  onu : Nat
  alloc : Nat
  start : Nat
  bytes : Nat
  profile : Nat
  dbru : Bool
  deriving DecidableEq, Repr

/-- A firmware image as the boot ROM or the device reads it (spec/15 R485 to R487): whether its source answers, how many bytes
it returns, the 512 header bytes, SM3 of the body as loaded, whether the two signatures verify and the level's major is the boot
ROM's, and the features it lists: f, level, scope and name (spec/11 R401). -/
structure ImageIn where
  answers : Bool
  bytes : Nat
  header : List Nat
  bodyHash : Nat
  knabexOk : Bool
  ownerOk : Bool
  majorOk : Bool
  features : List (Nat × Nat × Nat × Nat)
  deriving DecidableEq, Repr

/-- What a read of the board identity memory brings (spec/15 R493): whether it answers, and its bytes. -/
structure BoardIn where
  answers : Bool
  bytes : List Nat
  deriving DecidableEq, Repr

/-- What a module's identity memory says (spec/15 R496, R497): the 256 bytes at address 0x50, under CMIS with page 00h above byte
127; whether SFF-8024 assigns byte 0 to a CMIS module, and one of its applications has PAM4 modulation, both by that standard's
tables; and the byte of the transmitter fault: byte 110 at address 0x51 under SFF-8472, that of the flags of page 11h under
CMIS. -/
structure ModuleIn where
  memory : List Nat
  cmis : Bool
  pam4 : Bool
  flags : Nat
  deriving DecidableEq, Repr

/-- What the device finds at a start (spec/01 R36 to R43; spec/15 R482 to R499): how long PORST_N was low, in ns, the straps
BOOTSEL1 and BOOTSEL0 as a number, TEST_EN, the ten sensors, the states of the four reference clocks with their offsets in 0.01 ppm, the measured clocks of engine and
pipe islands in kHz, the two images, whether the image that runs brings the dictionary on line within the start timeout, the board identity
memory, the stack pages that cannot be repaired, the modules in the cages, and FREF's frequency as 0x5C00.12 codes it. -/
structure BootIn where
  width : Nat
  straps : Nat
  testEn : Bool
  sensors : List Int
  refs : List (Nat × Int)
  clocks : List (Nat × Nat)
  imageA : ImageIn
  imageB : ImageIn
  onLine : Bool
  board : BoardIn
  pages : List Nat
  modules : List (Nat × ModuleIn)
  fref : Nat
  deriving DecidableEq, Repr

/-- A Rosuth Object Link message as it reaches a ROL engine (spec/14 R453, R454, R469): the management port it came by, the
client's address and UDP port in 18 bytes, the entry member when a kind 6 frame brought it, and its bytes, the tag last (that of a CONFIRM comes apart). -/
structure RolIn where
  port : Nat
  peer : Nat
  via : Option Nat
  bytes : List Nat
  deriving DecidableEq, Repr

/-- What the world outside decides for one packet that a pipe takes: the buffers it gets (log entry 13), what it writes into the
memories (log entry 14), and the poisoned words that its stages read (spec/12 R413). -/
structure Turn where
  picks : List Nat
  writes : List MemWrite
  poison : List Poison
  deriving DecidableEq, Repr

/-- What the rule of the object written meets beyond the value: the device's part of a switch in ns (spec/02 R85), the
features that the image of an upgrade lists (spec/11 R401), what an image written brings (spec/15 R491), and what another member
says of its port when one is paired with it (spec/02 R81). -/
structure WriteIn where
  took : Nat
  features : List (Nat × Nat × Nat × Nat)
  image : ImageIn
  far : FarPort
  deriving DecidableEq, Repr

/-- The commands: one constructor per row of spec/opcode_table.json. -/
inductive Instr where
  /-- OBJECT_WRITE (R20). A write to an object that has no row of its own is checked against access code, role, range and RWD conditions and then applied or refused. -/
  | objectWrite (acc : Acc) (index inst sub : Nat) (data : List Nat) (beyond : WriteIn)
  /-- VENDOR_ENABLE (R506). The owner writes 1 to 0x1112.01 and the vendor role becomes usable. -/
  | vendorEnable (acc : Acc)
  /-- VENDOR_DISABLE (R506). The owner writes 0 to 0x1112.01, the vendor role is disabled and every ROL session carrying it is closed with cause 3. -/
  | vendorDisable (acc : Acc)
  /-- POWER_ON_RESET (R36). PORST_N rises, the straps and TEST_EN are sampled, and the device starts or stays in reset. -/
  | powerOnReset (boot : BootIn)
  /-- START_TIMEOUT (R489). An accepted image that has not brought the object dictionary on line within the start timeout causes a reset, a new zeroing and a try of the other image. -/
  | startTimeout (boot : BootIn)
  /-- RECOVERY_LOAD (R490). In recovery the host writes 1 to the recovery command and the device reads the image by DMA, checks it and runs it from memory or reports its refusal cause. -/
  | recoveryLoad (addr length : Nat) (image : ImageIn) (boot : BootIn)
  /-- AVS_SET_POINT_STEP (R34). The device issues a 5 mV VDD_CORE set-point step, at most one per 1 ms, within the floor and ceiling. -/
  | avsSetPointStep (up : Bool)
  /-- AVS_ACKNOWLEDGE (R34). The regulator acknowledges an AVSBus command and the acknowledged set point becomes the new nominal. -/
  | avsAcknowledge
  /-- AVS_NO_RESPONSE (R34). After 3 unacknowledged attempts the device keeps the last set point, stops commands for 1 s and raises event 3972. -/
  | avsNoResponse
  /-- AVS_RETRY (R34). The 1 s pause after an AVSBus failure ends and the device tries again. -/
  | avsRetry
  /-- RAIL_SAMPLE (R39). The on-die monitors sample every rail every 1 µs and update readings, minima and maxima. -/
  | railSample (readings : List Nat)
  /-- RAIL_EXCURSION (R39). A rail stays outside tolerance for 10 µs but above its brown-out threshold, and event 3971 is raised. -/
  | railExcursion (rail : Nat)
  /-- RAIL_EXCURSION_CLEAR (R56). A rail stays within tolerance for 1 s and event 3971 clears. -/
  | railExcursionClear (rail : Nat)
  /-- BROWN_OUT (R39). A rail below its brown-out threshold for 2 µs turns off transmitters and cage pins, drops READY, asserts FAULT_N and holds every island in reset. -/
  | brownOut (rail : Nat)
  /-- RAIL_STATS_CLEAR (R54). A write to 0x1041[rail].05 resets the rail's minimum, maximum and excursion count. -/
  | railStatsClear (acc : Acc) (rail value : Nat)
  /-- TEMPERATURE_SAMPLE (R42). Each sensor reading is compared with the warning, critical and shutdown thresholds and their 3 °C clearing margins. -/
  | temperatureSample (sensor : Nat) (reading : Int)
  /-- REFERENCE_LOST (R46). CREF, LNREF0, LNREF1 or PCIE_REFCLK is absent for 2 µs, event 3973 is raised and the affected PLLs hold or the PCIe link goes down. -/
  | referenceLost (clock : Nat)
  /-- REFERENCE_OFFSET (R46). A reference clock offset beyond tolerance is detected within 10 ms and event 3974 is raised. -/
  | referenceOffset (clock : Nat) (offset : Int)
  /-- LANE_REFERENCE_HOLD_EXPIRY (R46). Lanes whose reference has been lost for 10 ms stop transmitting and go OFF. -/
  | laneReferenceHoldExpiry (clock : Nat)
  /-- REFERENCE_RESTORED (R56). A reference clock stays in tolerance for 10 ms, its events clear and affected lanes restart by blind bring-up. -/
  | referenceRestored (reading : Nat × Int)
  /-- ISLAND_RESET (R411). An island is reset, its work and drains end without individual counts, and its memories are zeroed before release. -/
  | islandReset (island : Nat)
  /-- MEMORY_ZEROING_DONE (R411). Zeroing of a memory completes and the memory is released to its consumers. -/
  | memoryZeroingDone (memory : Nat)
  /-- FRAME_BOUNDARY (R57). A tree's 125 µs frame grid reaches a frame start and the counter, map, PLOAM partition, bulletin of point 0 and key boundaries take effect. -/
  | frameBoundary (tree : Nat) (runs : List (Nat × Nat)) (levels : List Nat)
  /-- MAIN_LANE_ENABLE (R80). Writing 1 to the main-lane enable starts the lane at the next frame boundary. -/
  | mainLaneEnable (acc : Acc) (tree : Nat)
  /-- MAIN_LANE_DRAIN (R80). Writing 0 to the main-lane enable puts the lane into draining and abandons any announced or dark mode change. -/
  | mainLaneDrain (acc : Acc) (tree : Nat)
  /-- DOWNSTREAM_DRAIN_EXPIRY (R80). The drain limit of a downstream lane expires and staged XGEM frames are discarded and counted. -/
  | downstreamDrainExpiry (tree lane : Nat)
  /-- DOWNSTREAM_DRAIN_END (R80). At the next frame boundary after draining the lane sends electrical idle and reports disabled. -/
  | downstreamDrainEnd (tree lane : Nat)
  /-- COEX_LANE_ENABLE (R80). Writing 1 to the coexistence enable starts the coexistence lane at the next frame boundary. -/
  | coexLaneEnable (acc : Acc) (tree : Nat)
  /-- COEX_LANE_DRAIN (R80). Writing 0 to the coexistence enable puts the coexistence lane into draining. -/
  | coexLaneDrain (acc : Acc) (tree : Nat)
  /-- MODE_SWITCH_REQUEST (R72). Writing 1 to the switch command requests a mode change, which is refused, ignored as a no-op, or accepted with a switch frame S. -/
  | modeSwitchRequest (acc : Acc) (tree : Nat)
  /-- MODE_NOTICE_RESEND (R73). Every 8 frames the notice is resent to each terminal that has not acknowledged it, until frame S − 8. -/
  | modeNoticeResend (tree : Nat)
  /-- MODE_NOTICE_ACK (R77). A terminal's Acknowledgement of a mode notice or cancel notice is received and counted. -/
  | modeNoticeAck (terminal : Nat) (ack : Bool × Nat)
  /-- MODE_SWITCH_CANCEL (R75). Writing 0 to the switch command cancels an announced change, or is refused or has no effect depending on timing. -/
  | modeSwitchCancel (acc : Acc) (tree : Nat)
  /-- CANCEL_NOTICE_RESEND (R75). Every 8 frames up to S − 1 the cancel notice is resent to each terminal that has not acknowledged it. -/
  | cancelNoticeResend (tree : Nat)
  /-- CANCEL_DEADLINE (R75). At frame S of a cancelled change, terminals that did not acknowledge the cancel are counted in event 3. -/
  | cancelDeadline (tree : Nat)
  /-- MODE_SWITCH_DARK_START (R74). At frame S the main lane sends electrical idle for D dark frames and holds downstream traffic in the scheduler. -/
  | modeSwitchDarkStart (tree : Nat)
  /-- MODE_SWITCH_COMPLETE (R74). At frame S + D the lane sends the target mode, the mode generation increases and event 2 is raised. -/
  | modeSwitchComplete (tree : Nat)
  /-- PROTECTION_ENABLE (R81). Writing 1 to the protection enable pairs two tree ports, or is refused when their mode, PON-ID or phase differ. -/
  | protectionEnable (acc : Acc) (ports : Nat × FarPort)
  /-- PROTECTION_DISABLE (R81). Writing 0 to the protection enable unpairs the tree port. -/
  | protectionDisable (acc : Acc) (tree : Nat)
  /-- STANDBY_READY_LOSS (R84). The standby stops meeting its readiness conditions and raises event 6. -/
  | standbyReadyLoss (tree : Nat)
  /-- WORKING_ISLAND_FAULT (R85). The working port's tree port island leaves running, which triggers a protection switch with cause 1 unless locked out. -/
  | workingIslandFault (tree took : Nat)
  /-- BURST_LOSS_DETECT (R85). No burst is found in any granted window for the loss-detect count of frames, which triggers a switch with cause 2. -/
  | burstLossDetect (tree took : Nat)
  /-- PARTNER_SIGNAL_LOSS (R85). Protection signal frames from the partner are absent on every Vioth path for 4 µs, which triggers a switch with cause 4. -/
  | partnerSignalLoss (tree took : Nat)
  /-- MANUAL_SWITCH (R85). Writing the manual switch command triggers a protection switch with cause 5, even under lockout. -/
  | manualSwitch (acc : Acc) (tree took : Nat)
  /-- RESUME_WAIT_EXPIRY (R88). When the resume wait after a switch expires, unresumed terminals are counted in event 7 and handed to DARK. -/
  | resumeWaitExpiry (tree : Nat)
  /-- BURST_RECEIVE (R94). The burst receiver hunts the delimiter in a granted window, decodes the burst and delineates its XGEM frames. -/
  | burstReceive (tree frame start : Nat) (burst : BurstIn) (light : Nat) (writes : List MemWrite) (poison : List Poison)
  /-- REASSEMBLY_TIMEOUT (R102). An open SDU that receives no fragment for the reassembly timeout is discarded and counted. -/
  | reassemblyTimeout (tree alloc xgem : Nat)
  /-- COEX_BURST_RECEIVE (R108). The coexistence lane receives an XGS-PON burst, checks its frames and stages passed frames for the commit FIFO. -/
  | coexBurstReceive (tree frame start : Nat) (burst : BurstIn) (poison : List Poison)
  /-- COEX_STAGING_COMMIT (R108). A staged coexistence frame is written whole to the commit FIFO and committed when it wins arbitration. -/
  | coexStagingCommit (tree : Nat) (writes : List MemWrite)
  /-- COMMIT_FIFO_READ (R113). The parser reads a word from the draining bank, or an empty word with V = 0 when none is committed. -/
  | commitFifoRead (tree : Nat) (poison : Bool)
  /-- UPSTREAM_WINDOWS_CLOSED (R115). In upstream draining, the last widened window of the last map closes and the commit FIFO starts draining for the drain limit. -/
  | upstreamWindowsClosed (tree lane : Nat)
  /-- UPSTREAM_DRAIN_EXPIRY (R115). The upstream drain limit expires, unread records and open SDUs are discarded and counted, and the upstream reports disabled. -/
  | upstreamDrainExpiry (tree lane : Nat)
  /-- SIGNAL_STRENGTH_REQUEST (R106). Writing an ONU-ID to B+0x0A.01 requests a receive-power measurement, or is refused when pending or the terminal is not in operation. -/
  | signalStrengthRequest (acc : Acc) (tree onu : Nat)
  /-- SIGNAL_STRENGTH_READ (R106). 200 µs after the trigger ends the module's receive power is read over the cage bus and the result recorded. -/
  | signalStrengthRead (tree : Nat) (power : Option Nat)
  /-- SIGNAL_STRENGTH_TIMEOUT (R106). No qualifying burst is granted within 1 s of the request and the measurement fails. -/
  | signalStrengthTimeout (tree : Nat)
  /-- TERMINAL_BURST_STATS_CLEAR (R118). A write to B+0x10[onu].08 resets the terminal's burst counters. -/
  | terminalBurstStatsClear (acc : Acc) (tree onu : Nat)
  /-- TERMINAL_PROVISION (R128). Writing 1 to 0x3000[n].01 provisions a terminal into WAITING, or is refused when the device holds 16,384 terminals. -/
  | terminalProvision (acc : Acc) (terminal : Nat)
  /-- TERMINAL_UNPROVISION (R149). Writing 0 to 0x3000[n].01 drains the terminal and returns it to VACANT, or holds the command while PROBED. -/
  | terminalUnprovision (acc : Acc) (terminal : Nat)
  /-- TERMINAL_DEACTIVATE (R149). Writing 1 to 0x3000[n].0B drains the terminal and returns it to WAITING, or holds the command while PROBED. -/
  | terminalDeactivate (acc : Acc) (terminal : Nat)
  /-- TERMINAL_DRAIN_END (R149). The terminal's work in flight is done or its drain limit expires, remainders are counted, Deactivate_ONU-ID is sent and the state changes. -/
  | terminalDrainEnd (terminal : Nat)
  /-- RELEASE_MUFFLE (R123). Writing 1 to 0x3000[n].0C moves a MUFFLED terminal to WAITING with an enable message and event 1044. -/
  | releaseMuffle (acc : Acc) (terminal : Nat)
  /-- SERIAL_NUMBER_RESPONSE (R126). A serial number received in a discovery beat is admitted, assigned an ONU-ID and scheduled for ranging, or refused and counted. -/
  | serialNumberResponse (tree lane serial : Nat) (phase : Int)
  /-- RANGING_RESPONSE (R135). A response found in a ranging beat sets the equalisation delay, sends Ranging_Time and moves the terminal to OPERATION. -/
  | rangingResponse (terminal onu : Nat) (phase : Int)
  /-- RANGING_NO_RESPONSE (R123). A ranging beat closes without a response and another wide beat is scheduled or the terminal returns to WAITING. -/
  | rangingNoResponse (terminal : Nat)
  /-- REGISTRATION_RECEIVED (R129). A Registration message is compared with the registration ID and a mismatch deactivates the terminal. -/
  | registrationReceived (terminal id : Nat)
  /-- REGISTRATION_TIMEOUT (R129). No Registration arrives within 8 frames and the request is resent, or the terminal is treated as mismatched after the third. -/
  | registrationTimeout (terminal : Nat)
  /-- CAPABILITY_REPORT (R131). A Capability Report is received and the terminal's capabilities are recorded. -/
  | capabilityReport (terminal : Nat) (head content check : List Nat)
  /-- CAPABILITY_TIMEOUT (R130). No Capability Report arrives within 8 frames and the request is resent, or capabilities are recorded as 0 after the last try. -/
  | capabilityTimeout (terminal : Nat)
  /-- TERMINAL_LOSS (R146). Every burst granted to a terminal is missing for the loss-frame count and it goes DARK with keep-alive grants. -/
  | terminalLoss (terminal : Nat)
  /-- KEEP_ALIVE_PERIOD_EXPIRY (R148). The keep-alive period of a DARK terminal ends and rejoin beats start at the rejoin interval. -/
  | keepAlivePeriodExpiry (terminal : Nat)
  /-- REJOIN_BEAT_DUE (R148). A DARK terminal's rejoin interval expires and a rejoin beat falls due within the budget. -/
  | rejoinBeatDue (terminal : Nat)
  /-- TERMINAL_REJOIN (R144). A burst found in a keep-alive grant or rejoin beat returns a DARK terminal to OPERATION with a delay correction. -/
  | terminalRejoin (terminal path : Nat) (phase : Int)
  /-- REJOIN_HOLD_EXPIRY (R123). A DARK terminal's rejoin hold expires and it is deactivated to WAITING with cause 4. -/
  | rejoinHoldExpiry (terminal : Nat)
  /-- REST_BEAT_PLACE (R137). Due rest beats are placed in priority order within each lane's budget, or deferred and counted. -/
  | restBeatPlace (tree lane : Nat)
  /-- DISCOVERY_DUE (R140). A lane's discovery interval expires and a discovery beat falls due. -/
  | discoveryDue (tree lane : Nat)
  /-- DISCOVER_NOW (R140). Writing 1 to 0x3100[t].0E makes one discovery beat due at once without changing the interval. -/
  | discoverNow (acc : Acc) (tree : Nat)
  /-- DISCOVERY_BEAT_END (R140). After a discovery beat the interval is quartered or doubled depending on activity and the next due time is set. -/
  | discoveryBeatEnd (tree lane : Nat) (light : Bool)
  /-- MUFFLING_WITHHOLD_END (R153). The observe frames of a withholding step end, and the candidate is muffled if no frame was lit or its grants are restored. -/
  | mufflingWithholdEnd (tree : Nat)
  /-- MUFFLING_PROBE_END (R153). The observe frames of a disabling step end, and the candidate is muffled if no frame was lit or re-enabled to WAITING. -/
  | mufflingProbeEnd (tree : Nat)
  /-- MUFFLING_CONFIRM_END (R153). The confirmation frames end and either the loop continues for another rogue or recovery discovery starts. -/
  | mufflingConfirmEnd (tree : Nat)
  /-- RECOVERY_DISCOVERY_BEAT (R156). Every 4 frames after a clean confirmation a recovery discovery beat runs outside the budget until 16 beats or 2 empty ones. -/
  | recoveryDiscoveryBeat (tree : Nat)
  /-- UNATTRIBUTED_WAIT_END (R153). The 10 s wait after an exhausted probe order ends and detection resumes. -/
  | unattributedWaitEnd (tree : Nat)
  /-- MUFFLING_START (R159). Writing 1 to 0x3200[t].09 treats the current frame as a detection, or is refused with busy while a sequence runs. -/
  | mufflingStart (acc : Acc) (tree : Nat)
  /-- MUFFLING_ABORT (R157). Writing 1 to 0x3200[t].0A aborts a running sequence, re-enabling every PROBED terminal to WAITING. -/
  | mufflingAbort (acc : Acc) (tree : Nat)
  /-- MUFFLING_DISABLE (R158). Writing 0 to the muffling enable stops detection and aborts a running sequence as under abort. -/
  | mufflingDisable (acc : Acc) (tree : Nat)
  /-- INPUT_CUTOFF (R162). At offset 100 µs the grant engine closes the inputs for the next map. -/
  | inputCutoff (tree : Nat)
  /-- MAP_ENTRY_WRITE (R171). The grant engine writes a map entry to the emitter under its claim, and the sequencer places or refuses it. -/
  | mapEntryWrite (tree lane frame claim unit : Nat) (entry : MapEntry)
  /-- MAP_SEAL (R172). A seal for the next frame is accepted when in time, matching and under the accepted claim, or refused as late. -/
  | mapSeal (tree lane frame count claim unit : Nat)
  /-- SEAL_DEADLINE (R174). The seal deadline passes with no accepted seal and the frame is counted in a hold run. -/
  | sealDeadline (tree lane : Nat)
  /-- BULLETIN_SEAL (R181). The grant engine seals the bulletin of a flam point. -/
  | bulletinSeal (tree point claim unit : Nat) (grants : Option (List FlamGrant))
  /-- FLAM_POINT (R184). At each flam point the emitter checks and sends the sealed bulletin, or skips or refuses it. -/
  | flamPoint (tree point : Nat)
  /-- MUTE_SET_CHANGE (R173). The adaptation or activation engine sets or clears an ONU-ID in the emitter's mute set. -/
  | muteSetChange (tree onu : Nat) (set : Bool)
  /-- CTI_REPORT (R188). A CTI Report from the cooperative queue reaches the grant engine and pinned cooperative grants are placed, or it is discarded. -/
  | ctiReport (id : Nat) (report : Bool) (windows : List Forecast)
  /-- ALLOCATION_PROVISION (R197). Writing 1 to 0x3400[a].01 provisions an allocation, or is refused when the device holds 32,768. -/
  | allocationProvision (acc : Acc) (allocation : Nat)
  /-- ALLOCATION_DRAIN (R397). Writing 0 to 0x3400[a].01 drains the allocation's flows and grants with the tree's drain limit. -/
  | allocationDrain (acc : Acc) (allocation : Nat)
  /-- ALLOCATION_DRAIN_END (R397). An allocation's drain ends, remainders are counted and its place is freed. -/
  | allocationDrainEnd (allocation : Nat)
  /-- FLAM_SETTING_WRITE (R183). A write of flam enable, flam burst bytes, open-slot template or a profile is refused when the flam capacity test would fail. -/
  | flamSettingWrite (acc : Acc) (index inst sub value : Nat)
  /-- OWNERSHIP_IN_FORCE (R201). Writing a tenant number to 0x3800[r].01 puts an ownership record in force unless its range overlaps or is out of numbering. -/
  | ownershipInForce (acc : Acc) (record tenant : Nat)
  /-- OWNERSHIP_OUT_OF_FORCE (R201). Writing 0xFF to 0x3800[r].01 takes a record out of force unless an instance in its range is in use. -/
  | ownershipOutOfForce (acc : Acc) (record : Nat)
  /-- BINDING_WRITE (R202). A write binding instances is refused when it would bind instances of two owners. -/
  | bindingWrite (acc : Acc) (index inst sub value : Nat)
  /-- SHARE_WRITE (R205). A write of a guarantee, ceiling, committed capacity or contract is refused when it breaks the admission rules. -/
  | shareWrite (acc : Acc) (index inst sub value : Nat)
  /-- ADAPTATION_PERIOD_END (R216). At each adaptation period end the engine evaluates weights and profiles within the per-period change limit. -/
  | adaptationPeriodEnd (lane : Nat)
  /-- UP_HOLD_RESTORE (R223). After 1 hour with no step down from a profile, the terminal's doubled up-hold returns to the configured value. -/
  | upHoldRestore (terminal profile : Nat)
  /-- NOMINAL_WEIGHT_WRITE (R218). A write of the nominal weight or its bounds sets or clamps the current weight. -/
  | nominalWeightWrite (acc : Acc) (allocation sub value : Nat)
  /-- CURRENT_PROFILE_WRITE (R225). A host write of a terminal's current profile is taken, or refused while adaptation applies or when the profile is not allowed. -/
  | currentProfileWrite (acc : Acc) (terminal value : Nat)
  /-- ALLOWED_PROFILES_WRITE (R225). A write of the allowed mask that excludes the current profile moves the terminal to the nearest allowed lower profile. -/
  | allowedProfilesWrite (acc : Acc) (terminal value : Nat)
  /-- KEY_WRITE (R234). Key material is written to a slot through its write port and the slot's halves and state change. -/
  | keyWrite (acc : Acc) (slot len key : Nat)
  /-- KEY_ERASE (R238). Writing the erase command empties every half of a slot and may start a key exchange. -/
  | keyErase (acc : Acc) (slot : Nat)
  /-- KEY_SLOT_CONFIG_WRITE (R231). A write of a slot's kind or key length, or a binding of a slot, is checked against the slot's state, kind, length and owner. -/
  | keySlotConfigWrite (acc : Acc) (index inst sub value : Nat)
  /-- RETIRE_HOLD_EXPIRY (R234). A RETIRING slot's retire hold expires and the previous key is erased. -/
  | retireHoldExpiry (slot : Nat)
  /-- REKEY_NOW (R247). Writing 1 to 0x4200[n].07 starts a key exchange for the current mode's slot, or is refused while one runs. -/
  | rekeyNow (acc : Acc) (terminal : Nat)
  /-- KEY_REPORT (R250). A Key_Report or Stroke Key Report is received, checked and, once the whole key has arrived, written to the next half. -/
  | keyReport (terminal : Nat) (onu : List Nat) (kind seq : Nat) (content check : List Nat) (index : Option Nat) (wrapped : Nat)
  /-- KEY_EXCHANGE_TIMEOUT (R250). The whole key has not arrived within 8 frames and the request is resent, or the exchange fails after the third attempt. -/
  | keyExchangeTimeout (terminal : Nat)
  /-- KEY_EXCHANGE_RETRY (R250). Every 1 s after a failed exchange the device tries again while the terminal stays in OPERATION. -/
  | keyExchangeRetry (terminal : Nat)
  /-- BULK_RING_ENABLE (R257). Writing 1 to 0x4380[r].01 enables a bulk ring. -/
  | bulkRingEnable (acc : Acc) (ring : Nat)
  /-- BULK_RING_DRAIN (R257). Writing 0 to a bulk ring's enable puts the ring into draining and it fetches no new descriptor. -/
  | bulkRingDrain (acc : Acc) (ring : Nat)
  /-- BULK_DRAIN_EXPIRY (R257). The ring's drain limit expires, running jobs complete with status 8 and the ring reports disabled. -/
  | bulkDrainExpiry (input : Nat × List Nat × List Nat)
  /-- BULK_DOORBELL (R252). The host writes a ring's producer index and descriptors become available to fetch. -/
  | bulkDoorbell (acc : Acc) (ring value : Nat)
  /-- BULK_JOB_START (R255). A fetched descriptor is checked in full and its job starts or completes at once with a check status. -/
  | bulkJobStart (ring : Nat) (bytes : List Nat)
  /-- BULK_JOB_COMPLETE (R254). A bulk job ends, zeroing the output on late failure, and its completion record is written in order. -/
  | bulkJobComplete (ring fault : Nat) (input : List Nat × List Nat)
  /-- PACKET_INGRESS (R261). A packet enters a forwarding pipe and is parsed, resolved to a domain, looked up, classified and handed to the policer. -/
  | packetIngress (up : Bool) (port xgem : Nat) (bytes : List Nat) (wait : Bool) (picks : List (List Nat)) (writes : List (List MemWrite)) (poison : List (List Poison))
  /-- PACKET_RECIRCULATE (R267). A packet whose headers continue past byte 256 re-enters its pipe for a second parse pass. -/
  | packetRecirculate (pipe : Nat) (picks : List (List Nat)) (writes : List (List MemWrite)) (poison : List (List Poison))
  /-- FRAGMENT_HOLD_EXPIRY (R285). A held later fragment's hold time expires and it is forwarded unmatched with its owner's default class. -/
  | fragmentHoldExpiry (entry : Nat) (picks : List Nat) (poison : List Poison)
  /-- FRAGMENT_LIFETIME_EXPIRY (R283). A stored fragment decision reaches its lifetime and its entry is freed. -/
  | fragmentLifetimeExpiry (entry : Nat)
  /-- MAC_LEARN (R295). A maintenance engine serves a learn request, inserting, moving or challenging a MAC entry under the limits and move hold. -/
  | macLearn (engine : Nat)
  /-- AGING_VISIT (R296). Once per second the aging engine resets or advances each entry's age, removes aged learned entries and clears expired holds. -/
  | agingVisit
  /-- COAT_SWAP (R280). Writing 1 to 0x4480.04 makes the STANDBY coat current in all pipes and the old one DRAINING. -/
  | coatSwap (acc : Acc)
  /-- OLD_COAT_RELEASE (R280). No packet carrying the old coat number remains and the old slot becomes STANDBY. -/
  | oldCoatRelease
  /-- COAT_COPY (R281). Writing 1 to 0x4480.05 copies the current coat's rules into the STANDBY slot, holding it in COPYING. -/
  | coatCopy (acc : Acc)
  /-- COAT_COPY_DONE (R281). The coat copy completes and the target slot returns to STANDBY. -/
  | coatCopyDone
  /-- RULE_WRITE (R278). A rule write in a STANDBY slot is taken with forced owner bits, or refused when busy or invalid. -/
  | ruleWrite (acc : Acc) (rule sub value : Nat)
  /-- ROUTE_ADD (R287). A route command with operation 0x01 adds or replaces a prefix, visible to all pipes at one cycle, or is refused when full. -/
  | routeAdd (acc : Acc) (family table length pfx nextHop : Nat)
  /-- ROUTE_DELETE (R287). A route command with operation 0x02 deletes a prefix, or is refused when it does not exist. -/
  | routeDelete (acc : Acc) (family table length pfx : Nat)
  /-- MAC_ENTRY_ADD_USER (R292). An entry command with code 1 adds a user MAC entry, evicting a learned entry or returning a rehash request when needed. -/
  | macEntryAddUser (acc : Acc) (domain mac dest : Nat)
  /-- MAC_ENTRY_ADD_STATIC (R292). An entry command with code 2 adds a static MAC entry, evicting a learned entry or returning a rehash request when needed. -/
  | macEntryAddStatic (acc : Acc) (domain mac dest : Nat)
  /-- MAC_ENTRY_DELETE (R292). An entry command with code 3 deletes a MAC entry. -/
  | macEntryDelete (acc : Acc) (domain mac : Nat)
  /-- SALT_WRITE_REBUILD (R292). A new salt written while every domain is disabled makes the maintenance engines rebuild the table. -/
  | saltWriteRebuild (acc : Acc) (value : Nat)
  /-- DOMAIN_ENABLE (R272). Writing 1 to 0x4900[d].01 enables a forwarding domain. -/
  | domainEnable (acc : Acc) (domain : Nat)
  /-- DOMAIN_DRAIN (R272). Writing 0 to a domain's enable drops its new packets and drains it. -/
  | domainDrain (acc : Acc) (domain : Nat)
  /-- DOMAIN_DRAIN_END (R272). The domain's work in flight ends or its drain limit expires, learned entries are removed and it reports disabled. -/
  | domainDrainEnd (domain : Nat)
  /-- DOMAIN_FLUSH (R272). Writing 1 to 0x4900[d].0B removes the domain's learned MAC entries. -/
  | domainFlush (acc : Acc) (domain : Nat)
  /-- BUFFER_REQUEST (R307). An engine or host DMA channel requests one SRAM buffer or page and receives it or no buffer. -/
  | bufferRequest (requester pool pick : Nat)
  /-- BUFFER_RETURN (R310). A requester returns a pointer, which is freed or, on a failed check, recorded as a violation that freezes the requester. -/
  | bufferReturn (requester pointer : Nat)
  /-- PACKET_SELECT (R317). A scheduler parent with capacity selects a child in strict and DRR order and sends a whole packet, charging every shaper on its path. -/
  | packetSelect (port : Nat) (poison : List Poison) (bad : Bool)
  /-- SHAPER_REFILL (R319). Every 32 pipe cycles each rate-mode bucket gains its rate up to its burst. -/
  | shaperRefill
  /-- SHAPER_WRITE (R320). A write to a node's or queue's shaper fields resets both its buckets to zero. -/
  | shaperWrite (acc : Acc) (index inst sub value : Nat)
  /-- ATTACHMENT_WRITE (R316). An attachment or quantum write takes effect at the parent's next selection and sets the child's deficit to 0. -/
  | attachmentWrite (acc : Acc) (index inst sub value : Nat)
  /-- METER_WRITE (R323). A write to a meter's mode, rates or bursts fills both buckets, or is refused when inconsistent. -/
  | meterWrite (acc : Acc) (meter sub value : Nat)
  /-- METER_CLEAR (R328). A write to 0x4F00[m].0E resets the meter's byte and drop counters. -/
  | meterClear (acc : Acc) (meter value : Nat)
  /-- FLOW_MAP_WRITE (R313). A flow map write is refused when it names an unbound queue, exceeds 255 or crosses owners. -/
  | flowMapWrite (acc : Acc) (flow sub value : Nat)
  /-- QUEUE_ENABLE (R325). Writing 1 to a queue's enable starts it empty with zero tokens and deficit 0. -/
  | queueEnable (acc : Acc) (up : Bool) (queue : Nat)
  /-- QUEUE_DRAIN (R325). Writing 0 to a queue's enable stops admission and lets its parent serve it for the drain limit. -/
  | queueDrain (acc : Acc) (up : Bool) (queue : Nat)
  /-- QUEUE_DRAIN_EXPIRY (R325). The queue drain ends, remaining packets are discarded and counted, and the queue reports disabled. -/
  | queueDrainExpiry (up : Bool) (queue : Nat)
  /-- REQUESTER_RELEASE (R311). The owner writes 1 to 0x4C10[r].0A, the requester is released and its HELD buffers are reclaimed. -/
  | requesterRelease (acc : Acc) (requester value : Nat)
  /-- POOL_LOW_CLEAR (R327). A pool's free buffers stay above its low mark for 1 s and event 2562 clears. -/
  | poolLowClear (pool : Nat)
  /-- LANE_START (R338). A port enable moves its lanes from OFF to STARTING with their equalisation entries applied. -/
  | laneStart (lane : Nat)
  /-- LANE_PLL_LOCK (R338). A lane's PLL locks and it moves to SEARCHING, sending its stream or idle stream. -/
  | lanePllLock (lane : Nat)
  /-- LANE_PLL_TIMEOUT (R338). No PLL lock within 1 ms makes the lane retry, with event 2816 after the third failure. -/
  | lanePllTimeout (lane : Nat)
  /-- LANE_LOCK (R338). Signal and clock lock held for 10 µs with settled thresholds move a lane to LOCKED or SPARED. -/
  | laneLock (lane : Nat)
  /-- LANE_SEARCH_TIMEOUT (R338). A lane has been 100 ms in SEARCHING and event 2817 is raised while the search continues. -/
  | laneSearchTimeout (lane : Nat)
  /-- LANE_LOCK_LOSS (R338). A LOCKED or SPARED lane loses signal or clock lock and returns to SEARCHING. -/
  | laneLockLoss (lane : Nat)
  /-- LANE_RESTART (R339). Writing 1 to 0x5000[x].0F restarts a SPARED Vioth lane at STARTING with its written objects. -/
  | laneRestart (acc : Acc) (lane : Nat)
  /-- EQUALISATION_WRITE (R337). A write to a lane's equalisation objects is accepted only while OFF or SPARED. -/
  | equalisationWrite (acc : Acc) (lane sub value : Nat)
  /-- QUAD_MODE_WRITE (R342). A write of a quad mode creates or removes uplink ports, refused while any port of the quad or its pair is enabled. -/
  | quadModeWrite (acc : Acc) (quad value : Nat)
  /-- UPLINK_PORT_ENABLE (R346). Writing 1 to 0x5090[e].01 enables an uplink port and its lanes. -/
  | uplinkPortEnable (acc : Acc) (port : Nat)
  /-- UPLINK_PORT_DRAIN (R346). Writing 0 takes the port out of service, drops arriving frames and lets the transmitter drain its queues. -/
  | uplinkPortDrain (acc : Acc) (port : Nat)
  /-- UPLINK_DRAIN_EXPIRY (R346). The uplink drain limit expires, queued packets are discarded and the lanes go OFF. -/
  | uplinkDrainExpiry (port : Nat)
  /-- UPLINK_SERVICE_HOLD_END (R345). A port aligned without faults for the service hold enters service. -/
  | uplinkServiceHoldEnd (port : Nat)
  /-- UPLINK_SERVICE_LOSS (R345). Alignment is lost, a fault appears or FEC corrections exceed the threshold and the port leaves service within 2 µs. -/
  | uplinkServiceLoss (port : Nat) (loss : Nat × Nat)
  /-- ETHERNET_FRAME_RECEIVE (R344). The uplink MAC checks and strips the FCS, dropping bad, short, long and MAC control frames. -/
  | ethernetFrameReceive (port : Nat) (addresses payload fcs corrected : List Nat) (uncorrectable : Nat)
  /-- MGMT_PORT_ENABLE (R347). Writing 1 to 0x50C0[m].01 enables a management port at its rate. -/
  | mgmtPortEnable (acc : Acc) (port : Nat)
  /-- MGMT_PORT_DRAIN (R347). Writing 0 drains a management port for a fixed 1,000 µs and turns its lanes off. -/
  | mgmtPortDrain (acc : Acc) (port : Nat)
  /-- MGMT_FRAME_RECEIVE (R453). A management port frame is answered as ARP, neighbour discovery or echo, taken as ROL, passed to the host channel or dropped. -/
  | mgmtFrameReceive (port : Nat) (frame : MgmtFrame)
  /-- VIOTH_PORT_ENABLE (R369). Writing 1 to 0x5100[v].01 enables a Vioth port and its lanes. -/
  | viothPortEnable (acc : Acc) (port : Nat)
  /-- VIOTH_PORT_DRAIN (R369). Writing 0 sends going down, moves paths off and keeps sending queued frames for at least 250 µs. -/
  | viothPortDrain (acc : Acc) (port : Nat)
  /-- VIOTH_DRAIN_EXPIRY (R369). The Vioth drain limit expires, queued frames are discarded and the lanes go OFF. -/
  | viothDrainExpiry (port : Nat)
  /-- MARKER_SET_RECEIVE (R351). A set of lane markers is received and used for deskew, BIP-8 checking and the spare procedure. -/
  | markerSetReceive (port : Nat) (sync marks counts bip : List (List Nat)) (skew : List Int)
  /-- VIOTH_FRAME_RECEIVE (R355). A Vioth header is delineated and the frame is delivered, discarded, consumed locally or transited. -/
  | viothFrameReceive (port : Nat) (sync blocks : List (List (List Nat))) (picks : List Nat) (took : Nat)
  /-- VIOTH_FRAME_SEND (R367). An idle Vioth port sends its next whole frame in the strict priority order. -/
  | viothFrameSend (port : Nat)
  /-- MULTIFRAME_SEND (R357). Each port sends a multiframe overhead frame every 125 µs. -/
  | multiframeSend (port : Nat)
  /-- MULTIFRAME_RECEIVE (R358). A received multiframe updates the far identity, trace, defects, reach, link delay and level information. -/
  | multiframeReceive (port : Nat) (payload : List Nat) (beyond : List (Nat × Nat × Nat))
  /-- LOM_TIMEOUT (R360). No multiframe received for 375 µs in SYNC declares LOM. -/
  | lomTimeout (port : Nat)
  /-- DEFECT_CLEAR_HOLD_END (R360). A defect's clear hold passes and it clears, possibly returning the port and its paths to service. -/
  | defectClearHoldEnd (port code : Nat)
  /-- DEGRADE_SECOND (R360). At the end of each second BIP-8 errors are compared with the degrade threshold to declare or clear DEG. -/
  | degradeSecond (port : Nat)
  /-- SIGNAL_FRAME_SEND (R359). Every 1 µs a member sends a signal frame to each Type-B partner member on both ports. -/
  | signalFrameSend
  /-- SIGNAL_FRAME_RECEIVE (R359). A received signal frame updates the partner pair's role, readiness, lockout, switch request and claim. -/
  | signalFrameReceive (source : Nat) (records : List SigRecord) (took : Nat)
  /-- PRIMER_FILL_SEND (R365). Every 1 µs during a consequent defect primer fill is sent to each affected destination. -/
  | primerFillSend (port : Nat)
  /-- PRIMER_TIME_EXPIRY (R365). The primer time since the declaration passes and primer fill stops. -/
  | primerTimeExpiry (port : Nat)
  /-- PATH_WRITE (R364). A path table write from the claim holder sets working and protection ports and recomputes the active port. -/
  | pathWrite (acc : Acc) (member sub value : Nat)
  /-- SPARE_COMMAND (R370). Writing lane x to 0x5100[v].0E starts moving that logical lane onto the spare lane, refused when busy. -/
  | spareCommand (acc : Acc) (port lane : Nat)
  /-- SPARE_RETIRE (R371). Writing 0x80 + x turns off the transmitter of a SPARED lane and marks it RETIRED. -/
  | spareRetire (acc : Acc) (port lane : Nat)
  /-- SPARE_RESTORE (R371). Writing 0xFF takes the logical lane back from its physical lane and stops the copy, restarting a retired lane first. -/
  | spareRestore (acc : Acc) (port : Nat)
  /-- SPARE_LANE_FAIL (R372). The spare lane fails while carrying a lane, which is taken back within 1 µs or LOS is declared. -/
  | spareLaneFail (port : Nat)
  /-- CLAIM_WRITE (R378). A privileged output stage accepts or refuses a write by comparing its claim with the accepted claim and vacant flag. -/
  | claimWrite (stage inst claim unit : Nat)
  /-- WATCHDOG_EXPIRY (R382). An engine's firmware fails to kick its watchdog within the watchdog time and the hardware tolls a knell. -/
  | watchdogExpiry (engine : Nat)
  /-- CONTROL_FLOW_MISMATCH (R382). At a checkpoint the control-flow signature differs from the reference and a knell is tolled. -/
  | controlFlowMismatch (engine : Nat)
  /-- OUTPUT_IMPLAUSIBLE (R382). An engine output breaks its role's plausibility rule, is withheld and a knell is tolled. -/
  | outputImplausible (engine : Nat)
  /-- MEMORY_CHECK_KNELL (R507). An uncorrectable or poisoned cluster or private memory word knells the engine that R507 names. -/
  | memoryCheckKnell (reader memory word area flips : Nat)
  /-- SPARE_CLAIM_RAISE (R380). The assigned spare reads the accepted claims, writes with one higher and issues its first output from its mirror. -/
  | spareClaimRaise (engine : Nat)
  /-- ENGINE_TAKE_OUT (R384). Command 1 to 0x5400[e].05 knells the engine with cause 6 at the role's next safe point. -/
  | engineTakeOut (acc : Acc) (engine : Nat)
  /-- ENGINE_RELOAD (R384). Command 2 to 0x5400[e].05 reloads and self-tests a retired, spare or mirroring engine, refused otherwise. -/
  | engineReload (acc : Acc) (engine : Nat)
  /-- ENGINE_TAKE_ROLE_BACK (R384). Command 3 to 0x5400[e].05 has the engine take its role back at the next safe point. -/
  | engineTakeRoleBack (acc : Acc) (engine : Nat)
  /-- ENGINE_SELF_TEST_DONE (R384). A reloaded engine's self-test completes and it starts mirroring, becomes a spare, or is retired. -/
  | engineSelfTestDone (engine : Nat) (passed : Bool)
  /-- ENGINE_REVERT (R384). After mirroring, the engine reverts to its own role at the role's next safe point, raising its claim once more. -/
  | engineRevert (engine : Nat)
  /-- UNIT_PAIR_MISMATCH (R388). A self-checking fixed-function pair mismatches, tolls a knell and its standby or other units take over. -/
  | unitPairMismatch (unit : Nat)
  /-- PIPE_SERVICE_RETURN (R389). A physical pipe returns to service after its self-test once its logical pipe holds no packet. -/
  | pipeServiceReturn (pipe : Nat)
  /-- MASTER_RELEASE (R393). The owner writes 1 to 0x5480[k].05 and the master is released, its buffers reclaimed and an engine reloaded. -/
  | masterRelease (acc : Acc) (master value : Nat)
  /-- LEVEL_REPORT_SEND (R399). Every 10 ms a member sends a level report to every reachable member. -/
  | levelReportSend
  /-- LEVEL_REPORT_TIMEOUT (R399). A member that has sent no report for 50 ms is left out of the level computation. -/
  | levelReportTimeout (member : Nat)
  /-- LEVEL_COMMIT_SEND (R400). The leader sends a level commit once the lowest level has exceeded the committed level for 1 s. -/
  | levelCommitSend (lead : Nat)
  /-- LEVEL_COMMIT_INSTANT (R400). At the commit's TAI instant each member adopts the new level if its own lowest level allows. -/
  | levelCommitInstant
  /-- FEATURE_SWITCH_ON (R401). A feature's level condition has been met for 1 s and it switches on. -/
  | featureSwitchOn (feature : Nat)
  /-- UPGRADE_CLUSTER (R403). Writing a cluster number to 0x5500.02 starts a role-by-role upgrade, or is refused when busy or level-incompatible. -/
  | upgradeCluster (acc : Acc) (cluster : Nat) (features : List (Nat × Nat × Nat × Nat))
  /-- UPGRADE_STEP_END (R403). An upgrade step's end condition is met and the next step starts, or the upgrade stops on a failed self-test. -/
  | upgradeStepEnd (failed : Option Nat)
  /-- ROLL_BACK (R404). Writing 1 to 0x5500.03 runs the upgrade steps towards the cluster's previous image. -/
  | rollBack (acc : Acc)
  /-- SCRUB_STEP (R415). The scrubber reads its next word and writes back a corrected or poisoned word by compare-and-write. -/
  | scrubStep (memory flips : Nat)
  /-- SCRUB_PASS_END (R416). A scrub pass ends, repeats and lateness are judged, and a bank self-test may be requested. -/
  | scrubPassEnd (memory : Nat)
  /-- PASS_PERIOD_WRITE (R415). A write of a scrub pass period takes effect at once from the current address. -/
  | passPeriodWrite (acc : Acc) (memory value : Nat)
  /-- FLIP_MASK_ARM (R418). The owner writes 1 to 0x5840[m].04 to arm the flip mask, refused while armed. -/
  | flipMaskArm (acc : Acc) (memory : Nat)
  /-- FLIP_MASK_DISARM (R418). A write of 0 to 0x5840[m].04 disarms the flip mask. -/
  | flipMaskDisarm (acc : Acc) (memory : Nat)
  /-- MEMORY_STATS_CLEAR (R425). A write to 0x5800[m].0A resets the memory's error counters and last-error fields. -/
  | memoryStatsClear (acc : Acc) (memory value : Nat)
  /-- SELF_TEST_REQUEST (R420). A bank self-test request is accepted or refused with a cause and event 3592. -/
  | selfTestRequest (acc : Acc) (cluster bank : Nat)
  /-- SELF_TEST_STEP_END (R422). A self-test step finishes and the test moves to testing, repairing, copying back or its result. -/
  | selfTestStepEnd (cluster : Nat) (fails : List FailBit)
  /-- SELF_TEST_ABANDON (R424). Writing 0xFF to 0x5900[c].01 abandons a running test with the effect its current state calls for. -/
  | selfTestAbandon (acc : Acc) (cluster : Nat)
  /-- TIME_SOURCE_READING (R431). A phase source reading updates the filtered offset, which is slewed, locks, or is refused as a jump. -/
  | timeSourceReading (entry : Nat) (offset freq : Int)
  /-- PTP_MESSAGE_RECEIVE (R437). A PTP message on an uplink port is stamped and processed by the time engine or passed to the host. -/
  | ptpMessageReceive (port dest domain : Nat) (msg : PtpMsg × Nat)
  /-- PTP_MESSAGE_SEND (R437). The time engine sends Announce, Sync and Delay_Req messages at their rates. -/
  | ptpMessageSend (port : Nat) (msg : PtpSend) (delay : Nat)
  /-- ANNOUNCE_TIMEOUT (R437). The announce receipt timeout expires and the best-master choice is rerun. -/
  | announceTimeout (port domain : Nat)
  /-- SOURCE_UNUSABLE_TIMEOUT (R430). A source stops being usable because its Sync, ESMC, edges or host offset are absent too long, and selection changes. -/
  | sourceUnusableTimeout (entry : Nat)
  /-- ESMC_RECEIVE (R440). An ESMC message updates the quality level of a SyncE source. -/
  | esmcReceive (port ql : Nat) (freq : Int)
  /-- ESMC_SEND (R440). The time engine sends ESMC messages with the selected frequency source's quality level. -/
  | esmcSend (port : Nat)
  /-- HOST_OFFSET_WRITE (R430). A write to 0x5C00.10 provides a host phase reading. -/
  | hostOffsetWrite (acc : Acc) (value : Nat)
  /-- TIME_SET (R433). A time-set command is slewed out at once when within the threshold, or refused and held pending. -/
  | timeSet (acc : Acc) (value : Nat)
  /-- ACCEPT_SLEW (R434). Writing 1 to 0x5C00.08 accepts a pending correction by slewing it at the slew limit. -/
  | acceptSlew (acc : Acc)
  /-- ACCEPT_STEP (R434). Writing 2 to 0x5C00.08 steps the time base when every downstream lane is disabled, refused otherwise. -/
  | acceptStep (acc : Acc)
  /-- SLEW_COMPLETE (R508). An accepted slew removes its offset, event 3843 is raised and normal servo slewing resumes. -/
  | slewComplete
  /-- REFUSAL_CLEAR (R432). A refused offset from readings stays within the threshold for 10 s and the state returns to LOCKED. -/
  | refusalClear
  /-- HOLDOVER_IN_SPEC_EXPIRY (R432). HOLDOVER lasts longer than the in-spec time and the state becomes HOLDOVER OUT. -/
  | holdoverInSpecExpiry
  /-- FREF_LOST (R429). FREF is absent for 2 µs or off by more than 20 ppm, and the PLL holds on its internal oscillator. -/
  | frefLost
  /-- FREF_RETURN (R429). FREF has been back in tolerance for 10 ms and the PLL slews back to it. -/
  | frefReturn
  /-- EDGE_CAPTURE (R443). A selected edge on an edge-capture input is stamped and queued, or dropped when the queue is full. -/
  | edgeCapture (input : Nat) (falling : Bool)
  /-- EDGE_QUEUE_READ (R443). A read of 0x5D00[i].03 returns and removes the oldest capture entry. -/
  | edgeQueueRead (acc : Acc) (input : Nat)
  /-- TIMESTAMP_QUEUE_READ (R442). A read of 0x5D40[e].01 returns and removes the oldest transmit stamp, refused unless the port is in mode 2. -/
  | timestampQueueRead (acc : Acc) (port : Nat)
  /-- TX_TIMESTAMP_ENTRY (R441). A frame sent with a time-stamp request writes an entry to its port's queue, or is dropped when the queue is full. -/
  | txTimestampEntry (port ident seq : Nat) (oneStep : Bool) (delay : Nat)
  /-- PPS_PULSE (R444). At each whole second plus offset each enabled 1PPS output drives its pulse. -/
  | ppsPulse (output : Nat)
  /-- TOD_PAIR_COMPUTE (R445). At each whole second the device computes and publishes the time-of-day pair for every non-disabled lane. -/
  | todPairCompute
  /-- HELLO (R457). A HELLO naming an enabled principal takes a free slot into HANDSHAKE and gets a HELLO REPLY, or gets no answer. -/
  | hello (msg : RolIn)
  /-- CONFIRM (R457). A valid CONFIRM opens the session with the principal's role, a bad one frees the slot. -/
  | confirm (msg : RolIn) (tag : List Nat)
  /-- HANDSHAKE_TIMEOUT (R457). No CONFIRM arrives within 1 s and the slot returns to FREE. -/
  | handshakeTimeout (slot : Nat)
  /-- READ (R460). A READ's access items are executed in order and answered with a READ REPLY, truncated if needed. -/
  | read (msg : RolIn)
  /-- WRITE (R460). A WRITE's access items are executed in order and answered with a WRITE REPLY. -/
  | write (msg : RolIn) (beyond : WriteIn)
  /-- BLOCK_READ (R461). A BLOCK READ is answered by BLOCK DATA messages in offset order. -/
  | blockRead (msg : RolIn)
  /-- BLOCK_WRITE (R461). A BLOCK WRITE block is stored and acknowledged, and the value takes effect when all bytes have arrived. -/
  | blockWrite (msg : RolIn) (beyond : WriteIn)
  /-- BLOCK_TRANSFER_TIMEOUT (R461). A block transfer with no block for 1 s is abandoned with status 10. -/
  | blockTransferTimeout (slot number : Nat)
  /-- SUBSCRIBE (R462). A SUBSCRIBE sets or removes a session subscription and gets a reply. -/
  | subscribe (msg : RolIn)
  /-- NOTIFY_ACK (R462). A NOTIFY ACK releases the NOTIFY it names. -/
  | notifyAck (msg : RolIn)
  /-- NOTIFY_RETRY (R462). An unacknowledged NOTIFY is resent after 200 ms, and the session is closed after 5 tries. -/
  | notifyRetry (slot seq : Nat)
  /-- KEEPALIVE (R457). A KEEPALIVE keeps the session from reaching its idle time. -/
  | keepalive (msg : RolIn)
  /-- CLOSE (R457). A received CLOSE frees the session slot. -/
  | close (msg : RolIn)
  /-- SESSION_IDLE_TIMEOUT (R457). A session's idle time passes and it is closed with cause 2. -/
  | sessionIdleTimeout (slot : Nat)
  /-- SESSION_CLOSE_COMMAND (R457). Writing 1 to 0x1120[s].07 closes the session with cause 7. -/
  | sessionCloseCommand (acc : Acc) (slot : Nat)
  /-- PRINCIPAL_CHANGE (R457). A write of a principal's role or a disable closes its sessions with cause 3. -/
  | principalChange (acc : Acc) (principal sub value : Nat)
  /-- RELAY_FORWARD (R469). A ROL message targeting another member is relayed unchanged in a kind 6 frame, and answers are sent back to the client. -/
  | relayForward (msg : RolIn) (answerOf : Option Nat)
  /-- RELAY_TIMEOUT (R469). A relayed request unanswered for 10 ms gets a relay-generated ERROR with status 10. -/
  | relayTimeout (host : Bool) (target seq session peer : Nat)
  /-- HOST_REQUEST_RELAY (R470). A relayed host request is checked for tag and sequence and run as master 343 under the capped role, and answered as kind 2. -/
  | hostRequestRelay (msg : Nat × List Nat) (beyond : WriteIn)
  /-- MAILBOX_READ (R464). Writing 1 to a mailbox word 3 reads the named object under the mailbox role. -/
  | mailboxRead (mailbox word0 word1 word2 : Nat) (irq : Bool)
  /-- MAILBOX_WRITE (R464). Writing 2 to a mailbox word 3 writes the named object under the mailbox role. -/
  | mailboxWrite (mailbox word0 word1 word2 : Nat) (irq : Bool) (data : List Nat) (beyond : WriteIn)
  /-- DMA_DOORBELL (R465). The host writes a DMA channel's doorbell and its command descriptors become available to fetch. -/
  | dmaDoorbell (channel value : Nat)
  /-- DMA_READ (R465). A DMA descriptor with operation 0x01 reads an object into host memory and completes. -/
  | dmaRead (channel : Nat) (desc : List Nat)
  /-- DMA_WRITE (R465). A DMA descriptor with operation 0x02 writes an object from host memory and completes. -/
  | dmaWrite (channel : Nat) (desc : List Nat) (data : List Nat) (beyond : WriteIn)
  /-- DMA_BLOCK_READ (R465). A DMA descriptor with operation 0x03 reads a large object block into host memory. -/
  | dmaBlockRead (channel : Nat) (desc : List Nat)
  /-- DMA_BLOCK_WRITE (R465). A DMA descriptor with operation 0x04 writes a whole large value, taking effect at completion. -/
  | dmaBlockWrite (channel : Nat) (desc : List Nat) (data : List Nat) (beyond : WriteIn)
  /-- DMA_PACKET_SEND (R466). A DMA descriptor with operation 0x10 sends an Ethernet frame on an uplink or management port, bypassing the pipes. -/
  | dmaPacketSend (channel : Nat) (desc addresses payload : List Nat) (pick delay : Nat)
  /-- DMA_RECEIVE_FRAME (R467). A frame for a DMA channel fills the next posted receive entry, or is dropped when none fits. -/
  | dmaReceiveFrame (channel kind port : Nat) (stamp : Int) (bytes entry : List Nat)
  /-- DMA_CHANNEL_ENABLE (R468). Writing 1 to 0x1150[h].01 enables a DMA channel. -/
  | dmaChannelEnable (acc : Acc) (channel : Nat)
  /-- DMA_CHANNEL_DRAIN (R468). Writing 0 drains a DMA channel, fetching nothing and dropping its received frames. -/
  | dmaChannelDrain (acc : Acc) (channel : Nat)
  /-- DMA_DRAIN_EXPIRY (R468). Commands still in flight at the drain limit complete with status 13 and the channel reports disabled. -/
  | dmaDrainExpiry (channel : Nat)
  /-- EVENT_DISPATCH (R477). The event engine takes a record from the queue and copies it to the log, the PCIe event ring and matching subscriptions. -/
  | eventDispatch
  /-- EVENT_RING_CONSUMER_WRITE (R478). The host writes the event ring consumer index, freeing slots and raising vector 16 when entries remain. -/
  | eventRingConsumerWrite (value : Nat)
  /-- EVENT_UNMASK (R473). Writing 0 to an event mask regenerates a raised record for each pending instance, up to 1,024. -/
  | eventUnmask (acc : Acc) (number : Nat)
  /-- EVENT_MASK (R473). Writing 1 to an event mask stops its records reaching the queue and removes it from ALARM_N. -/
  | eventMask (acc : Acc) (number : Nat)
  /-- IMAGE_WRITE (R491). A block write of an image to a slot is checked and then programmed, or refused leaving the slot untouched. -/
  | imageWrite (acc : Acc) (slot : Nat) (image : ImageIn)
  /-- IMAGE_PROGRAM_DONE (R491). Programming of a slot completes and the image is verified by reading it back. -/
  | imageProgramDone (slot : Nat) (verified : Bool)
  /-- OWNER_KEY_HASH_PROGRAM (R488). The owner writes 32 bytes to 0x1320.02 to program the owner key hash fuses once. -/
  | ownerKeyHashProgram (acc : Acc) (value : Nat)
  /-- ROLLBACK_COMMIT (R492). Writing 1 to 0x1320.04 blows fuses until the counter equals the running image's rollback version. -/
  | rollbackCommit (acc : Acc)
  /-- MODULE_POLL (R496). Every 1 ms each cage is polled for presence and transmitter fault, and modules are identified or removed. -/
  | modulePoll (tree : Nat) (answer : Option ModuleIn) (took : Nat)
  /-- CALIBRATION_COMMIT (R500). Writing 1 to 0x1400.02 checks the staged set and starts committing it, or is refused. -/
  | calibrationCommit (acc : Acc)
  /-- CALIBRATION_COMMIT_DONE (R500). The commit completes, the old set is erased and event 3993 is raised. -/
  | calibrationCommitDone (done : Unit)
  /-- ATTESTATION_GENERATE (R503). Writing 1 to 0x1010.02 produces a signed attestation report within 10 ms. -/
  | attestationGenerate (acc : Acc)
  /-- ISLAND_STOP (R424). An island enters the stopped state of 0x1051, freezing its scrubber and any self-test in it, and event 3975 is raised. -/
  | islandStop (island : Nat)
  /-- ISLAND_RESUME (R424). A stopped island runs again, and a self-test frozen with it is abandoned with cause 5 under the effect of the state it had reached. -/
  | islandResume (island : Nat)
  /-- VIOTH_BLOCK_LOCK_LOSS (R351). A Vioth lane sees 16 invalid sync headers within 64 and loses block lock, declaring LOS and sending the framer to HUNT. -/
  | viothBlockLockLoss (heard : Nat × List Nat)
  /-- VIOTH_BLOCK_LOCK_GAIN (R351). A Vioth lane sees 64 consecutive valid sync headers at one position and gains block lock, allowing deskew and the clearing of LOS. -/
  | viothBlockLockGain (heard : Nat × List Nat)
  /-- UPLINK_PCS_ALIGNED (R345). An uplink port's PCS aligns, or its local or remote fault clears, and the port enters its service hold. -/
  | uplinkPcsAligned (aligned : Nat × Nat)
  /-- PCIE_LINK_CHANGED (R481). The PCIe link comes up after PCIE_PERST_N rises and link training ends, or goes down, changing 0x1140.02 and raising event 3990. -/
  | pcieLinkChanged (up : Bool) (lanes generation : Nat)
  /-- JTAG_RESET (R54). A reset requested through JTAG restarts the device and is recorded as reset cause 3 in 0x1040.0B. -/
  | jtagReset (boot : BootIn)
  deriving DecidableEq, Repr

end Sys2Proof
end

