-- ==== Sys2Proof/Decode.lean ====
section
/-!
DEFINITION. Decode.lean: the commands that a word spells by the bits of spec/opcode_table.json. No row of the
table has bits, so no word spells a command (log entry 12).
-/
namespace Sys2Proof

/-- The command that the word w of nbits bits spells: none. -/
def decodeTableWord (_nbits _w : Nat) : Option Instr := none

end Sys2Proof
end

