-- ==== Sys2Proof/Machine/Bits.lean ====
section
/-!
DEFINITION. Machine/Bits.lean: bit fields, two's complement, saturating and wrapping counters, and the
CRCs the spec gives.
-/
namespace Sys2Proof.Machine

/-- The field [hi:lo] of a value (spec/00 R15). -/
def field (hi lo : Nat) (v : Reg) : Reg := v / 2 ^ lo % 2 ^ (hi + 1 - lo)

/-- Bit i of a value. -/
def bit (i : Nat) (v : Reg) : Bool := v / 2 ^ i % 2 == 1

/-- The value with bit i set or cleared. -/
def setBit (i : Nat) (b : Bool) (v : Reg) : Reg :=
  match bit i v, b with
  | false, true => v + 2 ^ i
  | true, false => v - 2 ^ i
  | _, _ => v

/-- The value with its field [hi:lo] replaced. -/
def putField (hi lo : Nat) (x v : Reg) : Reg := v - field hi lo v * 2 ^ lo + x % 2 ^ (hi + 1 - lo) * 2 ^ lo

/-- The integer a w-bit two's complement pattern stands for (spec/00 R19, spec/14 R449). -/
def toInt (w : Nat) (v : Reg) : Int :=
  if 2 * (v % 2 ^ w) < 2 ^ w then (v % 2 ^ w : Nat) else (v % 2 ^ w : Nat) - (2 ^ w : Nat)

/-- The w-bit two's complement pattern of an integer. -/
def ofInt (w : Nat) (x : Int) : Reg := (x % ((2 ^ w : Nat) : Int)).toNat

/-- Absolute value of a difference. -/
def absDiff (a b : Nat) : Nat := (a - b) + (b - a)

/-- A counter of w bits that wraps. -/
def wrapAdd (w : Nat) (v n : Reg) : Reg := (v + n) % 2 ^ w

/-- A power of two. -/
def isPow2 (v : Reg) : Bool := v != 0 && v == 2 ^ v.log2

/-- The ceiling of a quotient. -/
def ceilDiv (a b : Nat) : Nat := (a + b - 1) / b

/-- One bit of the reflected CRC-32C register (polynomial of RFC 3720, reflected 0x82F63B78). -/
def crc32cBit (c : Nat) : Nat := if c % 2 = 1 then Nat.xor (c / 2) 0x82F63B78 else c / 2

/-- CRC-32C of RFC 3720 over a list of bytes from a preset, with the final inversion (spec/08 R263, R289). -/
def crc32cFrom (preset : Nat) (bytes : List Nat) : Nat :=
  Nat.xor (bytes.foldl (fun c b =>
    (List.range 8).foldl (fun x _ => crc32cBit x) (Nat.xor c (b % 256))) preset) 0xFFFFFFFF

/-- CRC-32C of RFC 3720 (spec/10 R334, spec/15 R493 and R498). -/
def crc32c (bytes : List Nat) : Nat := crc32cFrom 0xFFFFFFFF bytes

/-- One bit of the CRC-16 register of x^16 + x^12 + x^5 + 1, most significant bit first. -/
def crc16Bit (c : Nat) : Nat := if c / 2 ^ 15 = 1 then Nat.xor (2 * c % 2 ^ 16) 0x1021 else 2 * c % 2 ^ 16

/-- CRC-16 with preset 0xFFFF and no final inversion (spec/02 R70, spec/10 R353). -/
def crc16 (bytes : List Nat) : Nat :=
  bytes.foldl (fun c b => (List.range 8).foldl (fun x _ => crc16Bit x) (Nat.xor c (b % 256 * 256))) 0xFFFF

/-- The bytes of an octet string of n bytes held as a number, first byte first. -/
def bytesOf (n : Nat) (v : Reg) : List Nat := (List.range n).map fun i => v / 2 ^ (8 * (n - 1 - i)) % 256

/-- The number a list of bytes spells, first byte most significant. -/
def ofBytes (l : List Nat) : Reg := l.foldl (fun a b => a * 256 + b % 256) 0

/-- The number n bytes at place i spell. -/
def numAt (b : List Nat) (i n : Nat) : Nat := ofBytes ((b.drop i).take n)

/-- A number of n bytes at offset i, least significant byte first (spec/00 R16). -/
def leAt (b : List Nat) (i n : Nat) : Nat := ofBytes ((b.drop i).take n).reverse

/-- A number as n bytes, least significant first. -/
def leBytes (n v : Nat) : List Nat := (bytesOf n v).reverse

/-- The TIME80 value (spec/14 R449: 48-bit seconds, 32-bit nanoseconds) of an instant. -/
def time80 (t : Ns) : Reg := (t / 1000000000 % 2 ^ 48) * 2 ^ 32 + t % 1000000000

/-- The instant a TIME80 value names. -/
def ofTime80 (v : Reg) : Ns := v / 2 ^ 32 * 1000000000 + v % 2 ^ 32

/-- The 64-bit stamp of an instant (spec/14 R475): seconds [31:0] over nanoseconds. -/
def stamp64 (t : Ns) : Reg := (t / 1000000000 % 2 ^ 32) * 2 ^ 32 + t % 1000000000

/-- Number of set bits among the low n. -/
def popCount : Nat → Reg → Nat
  | 0, _ => 0
  | n + 1, v => v % 2 + popCount n (v / 2)

/-- The highest set bit of a mask below n, if any. -/
def highestBit : Nat → Reg → Option Nat
  | 0, _ => none
  | n + 1, v => if bit n v then some n else highestBit n v

/-- The lowest set bit of a mask below n, if any. -/
def lowestBit (n : Nat) (v : Reg) : Option Nat := (List.range n).find? fun i => bit i v

/-- The Gray value of a dibit ab (spec/02 R66), and the dibit of a Gray value. -/
def gray (d : Nat) : Nat := [0, 1, 3, 2].getD d 0

/-- The levels that a precoder sends for Gray values, from the level before them (spec/02 R69, spec/10 R331). -/
def precode : Nat → List Nat → List Nat
  | _, [] => []
  | p, g :: l => let q := (g + 4 - p % 4) % 4; q :: precode q l

/-- One bit of the reflected CRC-32 register of Ethernet. -/
def crc32Bit (c : Nat) : Nat := if c % 2 = 1 then Nat.xor (c / 2) 0xEDB88320 else c / 2

/-- The CRC-32 of Ethernet's FCS over a frame's bytes (spec/10 R344; log entry 135). -/
def crc32 (bytes : List Nat) : Nat :=
  Nat.xor (bytes.foldl (fun c b => (List.range 8).foldl (fun x _ => crc32Bit x) (Nat.xor c (b % 256))) 0xFFFFFFFF) 0xFFFFFFFF

/-- An element put before the first that it may stand before. -/
def insertBy {α : Type} (le : α → α → Bool) (a : α) : List α → List α
  | [] => [a]
  | b :: l => if le a b then a :: b :: l else b :: insertBy le a l

/-- A list in the order of a comparison; equal elements keep the order they stand in. -/
def sortBy {α : Type} (le : α → α → Bool) (l : List α) : List α := l.foldr (insertBy le) []

end Sys2Proof.Machine
end

