-- ==== Sys2Proof/Machine/Store.lean ====
section
/-!
DEFINITION. Machine/Store.lean: sparse tables of registers in one canonical form, and the named operations over
them. A table lists only the registers whose content differs from what an unlisted register holds (d), with the
keys strictly rising, so that equal contents are equal tables.
-/
namespace Sys2Proof.Machine

/-- The name of one register: an index (of the object dictionary, of a hidden register or of a memory), an
instance and a subindex. -/
structure Key where
  index : Nat
  inst : Nat
  sub : Nat
  deriving DecidableEq, Repr

/-- A sparse table of registers. -/
abbrev Store := List (Key × Reg)

/-- The order of the keys: index, then instance, then subindex. -/
def Key.lt (a b : Key) : Bool :=
  a.index < b.index || (a.index == b.index && (a.inst < b.inst || (a.inst == b.inst && a.sub < b.sub)))

/-- The listed content of a register. -/
def Store.find (k : Key) : Store → Option Reg
  | [] => none
  | (k', v) :: r => if k' = k then some v else Store.find k r

/-- The table without one register's entry. -/
def Store.erase (k : Key) : Store → Store
  | [] => []
  | (k', v) :: r => if k' = k then Store.erase k r else (k', v) :: Store.erase k r

/-- The table with an entry at its place in the order. -/
def Store.place (k : Key) (v : Reg) : Store → Store
  | [] => [(k, v)]
  | (k', v') :: r => if k.lt k' then (k, v) :: (k', v') :: r else (k', v') :: Store.place k v r

/-- The content of a register, d for the unlisted ones. -/
def Store.read (d : Key → Reg) (t : Store) (k : Key) : Reg := (Store.find k t).getD (d k)

/-- The table after a register is written; the value an unlisted register holds is not listed. -/
def Store.write (d : Key → Reg) (t : Store) (k : Key) (v : Reg) : Store :=
  if v = d k then Store.erase k t else Store.place k v (Store.erase k t)

/-- Strictly rising keys. -/
def Store.rising : Store → Bool
  | [] => true
  | [_] => true
  | a :: b :: r => a.1.lt b.1 && Store.rising (b :: r)

/-- The canonical form. -/
def Store.wf (d : Key → Reg) (t : Store) : Bool := Store.rising t && t.all fun e => e.2 != d e.1

/-- The table without the registers that a predicate on keys names: they hold what an unlisted one holds. -/
def Store.forget (p : Key → Bool) (t : Store) : Store := t.filter fun e => !p e.1

end Sys2Proof.Machine
end

