-- ==== Sys2Proof/Machine/State.lean ====
section
/-!
DEFINITION. Machine/State.lean: what the block holds, as plain data. The dictionary's objects are State.objs, the
registers the spec describes without giving them an object are State.regs (named by Aux), the words of the
protected memories are State.mem; queues, tables and records with a shape of their own are lists.
-/
namespace Sys2Proof.Machine

/-- What holds the device, or that it runs (spec/01 R36, R37, R39, R42, R43, R49; spec/15 R482, R483, R490). -/
inductive Phase where
  /-- PORST_N is low: every ball in the state of R49, every island in reset. -/
  | heldPorst
  /-- TEST_EN was high at the rising edge of PORST_N (R37). -/
  | heldTest
  /-- Thermal shutdown, until a PORST_N pulse with every sensor below 120 °C (R42, R43). -/
  | heldThermal
  /-- Brown-out, until a PORST_N pulse (R39). -/
  | heldBrownOut
  /-- An accepted image's engines have started and the dictionary is not on line yet (R489). -/
  | starting
  /-- The boot ROM waits for an image over PCIe (R490). -/
  | recovery
  /-- The object dictionary is on line: READY is high. -/
  | running
  deriving DecidableEq, Repr

/-- The registers the spec gives the device without an object. Each has up to two instance numbers. -/
inductive Aux where
  /-- instant of the last set-point step command + 1 (0 none yet) (R34); 64 bits. -/
  | avsLastStep
  /-- set point asked of the regulator and not yet acknowledged, mV (0 none) (R34); 16 bits. -/
  | avsAsked
  /-- set point acknowledged before the last one: the nominal for 100 us after an acknowledgement (R32); 16 bits. -/
  | avsPrev
  /-- commands stopped for the 1 s pause (R34); 1 bits. -/
  | avsPaused
  /-- instant the set point last changed + 1 (0 never) (R420); 64 bits. -/
  | avsChangedAt
  /-- instant + 1 from which the rail has been outside its tolerance (0 inside) (R39); per rail; 64 bits. -/
  | railLowSince
  /-- instant + 1 of the last VDD_CORE reading outside 3 % of the set point (R420); 64 bits. -/
  | vddBadAt
  /-- warning condition holds (R42); per sensor; 1 bits. -/
  | tempWarn
  /-- critical condition holds (R42); per sensor; 1 bits. -/
  | tempCrit
  /-- reference lost and not yet back in tolerance for 10 ms (R46); per clock; 1 bits. -/
  | refLost
  /-- lane went OFF because its reference was absent; it restarts when the reference is back (R338); per lane x; 1 bits. -/
  | laneByRef
  /-- main-lane enable written; the lane starts at the next frame boundary (R80); per tree; 1 bits. -/
  | mainPend
  /-- coexistence enable written; the lane starts at the next frame boundary (R80); per tree; 1 bits. -/
  | coexPend
  /-- framer drain done or expired: the lane stops at the next frame boundary (R80); per tree, lane; 1 bits. -/
  | drainOver
  /-- mode change: 0 none, 1 announced or dark, 2 cancelled with notices still being sent (R72 R75); per tree; 2 bits. -/
  | chgState
  /-- frame F in which the change (or its cancel) was accepted (R73); per tree; 51 bits. -/
  | chgStart
  /-- target mode * 2 + target precoding of the change accepted (R72); per tree; 2 bits. -/
  | chgTarget
  /-- dark-frame count D of the change accepted (R74); per tree; 5 bits. -/
  | chgDark
  /-- frame + 1 before which the main lane places no rest beat after a mode change (0 none) (R138); per tree; 51 bits. -/
  | beatHold
  /-- frame + 1 before which missing bursts of the main lane do not count (0 none) (R146); per tree; 51 bits. -/
  | lossHold
  /-- S + 1 of the lane's last mode change carried out or cancelled (R146); per tree; 51 bits. -/
  | lastSwitchS
  /-- instant + 1 of the last update of the feeder skew d (R84); per tree; 64 bits. -/
  | skewAt
  /-- terminal mirror current to the working port's last frame (R84); per tree; 1 bits. -/
  | mirrorOk
  /-- partner reachable (R84); per tree; 1 bits. -/
  | partnerOk
  /-- first full frame after the last switch + 1 (0 none) (R87); per tree; 51 bits. -/
  | postAt
  /-- sum of arrival errors in the first post-switch frame, two's complement (R87); per tree; 64 bits. -/
  | arrSum
  /-- bursts found in that frame (R87); per tree; 32 bits. -/
  | arrCount
  /-- receive reference correction of the port, bits, two's complement (R86 R87); per tree; 64 bits. -/
  | rxRef
  /-- transmit grid advance of the port, bits, two's complement (R86); per tree; 64 bits. -/
  | txAdv
  /-- consecutive frames without a burst delimiter in any granted window (R85); per tree; 8 bits. -/
  | silentRun
  /-- resume wait of a protection switch is running (R88); per tree; 1 bits. -/
  | resumeLeft
  /-- burst sequence number (R107); per tree; 32 bits. -/
  | burstSeq
  /-- records dropped since the first refusal (gap open when not 0) (R112); per tree; 32 bits. -/
  | fifoDrop
  /-- SDU bytes dropped in the gap (R112); per tree; 48 bits. -/
  | fifoDropB
  /-- stamp of the first drop (R112); per tree; 64 bits. -/
  | fifoFirst
  /-- stamp of the last drop (R112); per tree; 64 bits. -/
  | fifoLast
  /-- ONU-ID of the pending measurement (R106); per tree; 10 bits. -/
  | sigOnu
  /-- frame in which the request was written (R106); per tree; 51 bits. -/
  | sigFrame
  /-- instant + 1 at which the trigger ended (0 not triggered) (R106); per tree; 64 bits. -/
  | sigTrig
  /-- ranging attempts made (R123); per terminal n; 8 bits. -/
  | attempts
  /-- the ranging beat due is wide (R139); per terminal n; 1 bits. -/
  | rangeWide
  /-- Request_Registration messages sent, 0 when none is awaited (R129); per terminal n; 8 bits. -/
  | regTries
  /-- Capability Requests sent, 0 when none is awaited (R130); per terminal n; 8 bits. -/
  | capTries
  /-- DRAINING ends in 1 WAITING (.0B) or 2 VACANT (.01 = 0) (R149); per terminal n; 2 bits. -/
  | drainTo
  /-- command held while PROBED: 0 none, 1 deactivate, 2 unprovision (R149); per terminal n; 2 bits. -/
  | heldCmd
  /-- instant the terminal went DARK + 1 (R147); per terminal n; 64 bits. -/
  | darkAt
  /-- keep-alive period running (R147); per terminal n; 1 bits. -/
  | keepAlive
  /-- cause reported in event 1030 (R146); per terminal n; 2 bits. -/
  | darkCause
  /-- consecutive frames with every granted burst missing (R146); per terminal n; 8 bits. -/
  | lossRun
  /-- length of the drift run (R142); per terminal n; 8 bits. -/
  | driftLen
  /-- sum of the phases of the run, two's complement (R143); per terminal n; 64 bits. -/
  | driftSum
  /-- frame + 1 in which a burst of the terminal was last found (R146); per terminal n; 51 bits. -/
  | lastPhaseAt
  /-- discovery interval of the coexistence lane, ms (0: i_min) (R140); per tree; 32 bits. -/
  | discInt
  /-- class of the rogue: 0 continuous, 1 timing (R151); per tree; 1 bits. -/
  | mufClass
  /-- instant of the first lit frame + 1 (R153); per tree; 64 bits. -/
  | mufFirst
  /-- an observed frame of the current step was lit (R153); per tree; 1 bits. -/
  | mufLit
  /-- frames observed in the current step (R153); per tree; 8 bits. -/
  | mufObs
  /-- withholding candidates of the running sequence (R159); per tree; 8 bits. -/
  | mufA
  /-- observe frames of the running sequence (R159); per tree; 8 bits. -/
  | mufO
  /-- recovery discovery beats made (R156); per tree; 8 bits. -/
  | recBeats
  /-- consecutive recovery beats without a serial number (R156); per tree; 8 bits. -/
  | recEmpty
  /-- frame h of the hold run of the channel (R174); per tree, lane; 32 bits. -/
  | holdRun
  /-- frames without a fresh map in the run (R198); per tree, lane; 32 bits. -/
  | holdLost
  /-- target frame of the map being built + 1 (R161); per tree, lane; 51 bits. -/
  | mapBuild
  /-- input cut-off of the frame has passed (R162); per tree, lane; 1 bits. -/
  | mapCut
  /-- frame counted last in the hold run + 1 (R174); per tree, lane; 51 bits. -/
  | holdFor
  /-- consecutive "no report" results (R169); per allocation a; 8 bits. -/
  | noRep
  /-- frame of the last sealed main-lane map that left the owner no room + 1 (0 none) (R214); per tree, owner; 51 bits. -/
  | roomless
  /-- instant of the last flam service (R182); per allocation a; 64 bits. -/
  | lastFlam
  /-- bytes of cooperative grants placed and not yet received (R190); per binding c; 32 bits. -/
  | coopPend
  /-- allocation draining (R197); per allocation a; 1 bits. -/
  | allocDrain
  /-- allocation that the owner's pass of the last map served first + 1 (R211); per lane i, owner; 32 bits. -/
  | passFirst
  /-- last instance changed in the previous period + 1 (R219); per lane i; 32 bits. -/
  | adaptLast
  /-- bytes the allocation used of the grants that count in the adaptation period (R217); per allocation a; 64 bits. -/
  | adUsed
  /-- bytes of the grants that count, of found bursts in the period (R217); per allocation a; 64 bits. -/
  | adGranted
  /-- frames of the period in which it still wanted bytes after the pass (R217); per allocation a; 32 bits. -/
  | adWant
  /-- frames that count in the period (R217); per allocation a; 32 bits. -/
  | adFrames
  /-- bits received that the error rate counts (R221); per terminal n; 64 bits. -/
  | adBits
  /-- bit errors among them (R221); per terminal n; 64 bits. -/
  | adErr
  /-- uncorrectable codewords in the period (R222); per terminal n; 32 bits. -/
  | adUnc
  /-- header errors in the period (R222); per terminal n; 32 bits. -/
  | adHdr
  /-- doublings of the profile's up-hold for the terminal (R223); per terminal n, profile; 4 bits. -/
  | upHoldX
  /-- instant of the last accepted key write + 1 (R234); per slot k; 64 bits. -/
  | keyAt
  /-- key material of the half (R229); per slot k, half (0 current, 1 other); 256 bits. -/
  | keyMat
  /-- sequence + 1 of the mirrored key write that waits for the partner's acknowledgement (1: not yet sent; 0 none) (R245); per slot k; 33 bits. -/
  | keyUnacked
  /-- key material received in the exchange (R249); per terminal n; 256 bits. -/
  | kxKey
  /-- instant + 1 of the last write of the flow's cipher objects not yet in effect (R259); per flow f; 64 bits. -/
  | fcAt
  /-- the flow's cipher object in effect (R259); per flow f, subindex; 8 bits. -/
  | flowEff
  /-- a word of the slot is read with poison: EMPTY for operations (R239); per slot k; 1 bits. -/
  | keyPoison
  /-- event 2048 raised in this generation (R236); per slot k; 1 bits. -/
  | keySoft
  /-- key index of the other half (next in PENDING, previous in RETIRING) (R229); per slot k; 2 bits. -/
  | keyNextIdx
  /-- kind of the exchange that runs (0 none) (R247); per terminal n; 2 bits. -/
  | kxKind
  /-- requests sent in the exchange (R250); per terminal n; 2 bits. -/
  | kxTries
  /-- key index requested (R248); per terminal n; 2 bits. -/
  | kxIndex
  /-- generation requested (R248); per terminal n; 16 bits. -/
  | kxGen
  /-- fragments received, one bit each (R249); per terminal n; 2 bits. -/
  | kxFrag
  /-- exchanges to start, one bit per kind 1 and 2 (R236 R247); per terminal n; 2 bits. -/
  | kxNext
  /-- key encryption key and PLOAM integrity key derived from the session key (R246); per terminal n; 1 bits. -/
  | sesDerived
  /-- entry of the MAC table (R289); per bank * 131,072 + bucket, slot; 128 bits. -/
  | macEntry
  /-- instant of the last swap (R280); 64 bits. -/
  | swapAt
  /-- the buffer is out of use after a poisoned owner tag, until the next island reset (R413); per pool, buffer; 1 bits. -/
  | bufOut
  /-- a table entry read with poison and not yet rewritten (R413); per object index, instance; 1 bits. -/
  | entryPoison
  /-- DRR deficit of the child, bytes (R318); per node class, instance; 32 bits. -/
  | deficit
  /-- committed bucket, bytes (filled at configuration) (R322); per meter m; 32 bits. -/
  | mtrC
  /-- peak bucket, bytes (R322); per meter m; 32 bits. -/
  | mtrP
  /-- instant the buckets were last updated (R322); per meter m; 64 bits. -/
  | mtrAt
  /-- open stack page of the queue: pointer + 1 (0 none) (R305); per queue (dir, q); 40 bits. -/
  | queueOpen
  /-- next free byte of the open page (R305); per queue (dir, q); 15 bits. -/
  | queueOff
  /-- free buffers at or below the low mark (R327); per pool; 1 bits. -/
  | poolLow
  /-- failed PLL locks since STARTING (R338); per lane x; 8 bits. -/
  | laneTries
  /-- instant the lane entered STARTING (R338); per lane x; 64 bits. -/
  | laneSince
  /-- event 2817 raised in this entry to SEARCHING (R338); per lane x; 1 bits. -/
  | lane2817
  /-- the lane's logical lane is carried by the spare: it returns to SPARED (R339); per lane x; 1 bits. -/
  | laneSpare
  /-- block lock of a Vioth lane (R351); per lane x; 1 bits. -/
  | blockLock
  /-- logical lanes deskewed (R351); per port v; 1 bits. -/
  | deskew
  /-- marker count of the last set + 1 (R350); per port v; 16 bits. -/
  | markCnt
  /-- consecutive consistent marker sets (R351); per port v; 8 bits. -/
  | markOk
  /-- logical lane copied onto the spare transmitter + 1 (0 none) (R350); per port v; 4 bits. -/
  | spareTx
  /-- logical lane taken from the spare receiver + 1 (0 none) (R350); per port v; 4 bits. -/
  | spareRx
  /-- Spare transmit last received + 1 (R350); per port v; 4 bits. -/
  | farTx
  /-- consecutive marker sets received with that Spare transmit (R370); per port v; 8 bits. -/
  | farTxRun
  /-- Spare receive last received + 1 (R350); per port v; 4 bits. -/
  | farRx
  /-- consecutive clean marker sets received on a Vioth lane (R370, R371); per lane x; 8 bits. -/
  | cleanRun
  /-- logical lane that the spare procedure moves + 1 (0 none), copied from the next marker set sent (R370); per port v; 4 bits. -/
  | spareWant
  /-- at the next marker set sent: 1 the spare's copy is taken, 2 the lane is taken back (R370, R371); per port v; 2 bits. -/
  | spareMove
  /-- the scrambler of a Vioth lane: the last 58 line bits sent in data blocks, the latest in bit 0 (R348); per lane x; 58 bits. -/
  | scramTx
  /-- the descrambler of a Vioth lane: the last 58 line bits received in data blocks (R348); per lane x; 58 bits. -/
  | scramRx
  /-- BIP-8 of the scrambled payload sent since the lane's last marker (R350); per lane x; 8 bits. -/
  | bipTx
  /-- BIP-8 of the scrambled payload received since the lane's last marker (R350); per lane x; 8 bits. -/
  | bipRx
  /-- the last level before polarity that a PAM4 lane has sent, 0 before its first symbol (R331); per lane x; 2 bits. -/
  | txLevel
  /-- the last level that a PAM4 lane has received (R331); per lane x; 2 bits. -/
  | rxLevel
  /-- the last 64 sync headers of a lane with block lock, 1 for an invalid one, the latest in bit 0 (R351); per lane x; 64 bits. -/
  | syncHist
  /-- consecutive valid sync headers of a lane without block lock (R351); per lane x; 7 bits. -/
  | syncRun
  /-- the word of the lane's last data block (R348); per lane x; 64 bits. -/
  | rxWord
  /-- the words of the stream that wait for their row to fill (R349); per port v, place 0 to 7; 64 bits. -/
  | rowWord
  /-- how many they are (R349); per port v; 3 bits. -/
  | rowLen
  /-- data blocks sent on each lane since the last marker set (R350); per port v; 15 bits. -/
  | rowsTx
  /-- marker sets sent, modulo 65,536 (R350); per port v; 16 bits. -/
  | markTx
  /-- words from the first header of a candidate chain to the place where the framer looks (R355); per port v; 32 bits. -/
  | framePos
  /-- instant + 1 at which the port's drain began (R369); per port v; 64 bits. -/
  | drainFrom
  /-- link delays and transits beyond the far member on the way to m through the port, in ns + 1 (0 none) (R374); per port v, member m; 40 bits. -/
  | pathBeyond
  /-- restore command running (R371); per port v; 1 bits. -/
  | restoring
  /-- failures of the framer in SYNC (R355); per port v; 3 bits. -/
  | framerFail
  /-- consecutive headers with RDI set (R360); per port v; 4 bits. -/
  | rdiRun
  /-- consecutive headers without RDI (R360); per port v; 4 bits. -/
  | rdiClr
  /-- consecutive differing traces (R360); per port v; 3 bits. -/
  | timRun
  /-- consecutive matching traces (R360); per port v; 3 bits. -/
  | timClr
  /-- consecutive multiframes with a far defect (R360); per port v; 3 bits. -/
  | mfRdi
  /-- BIP-8 errors in the current second (R360); per port v; 32 bits. -/
  | bipSec
  /-- going down sent (R369); per port v; 1 bits. -/
  | goingDn
  /-- instant + 1 of the last multiframe with going down (R369); per port v; 64 bits. -/
  | farDn
  /-- multiframe count sent (R357); per port v; 32 bits. -/
  | mfCount
  /-- send time of the last multiframe received (R357); per port v; 64 bits. -/
  | mfSend
  /-- arrival time of that multiframe (R357); per port v; 64 bits. -/
  | mfArr
  /-- Reach received on the port (R357); per port v; 64 bits. -/
  | reachIn
  /-- code of the defect for which primer fill runs (0 none) (R365); per port v; 3 bits. -/
  | primer
  /-- members to which frames received on the port were forwarded in the 1 ms before its defect (R365); per port v; 64 bits. -/
  | primerFor
  /-- bytes waiting in the local class queue (R368); per port v, class; 32 bits. -/
  | vqBytes
  /-- PCS aligned without local or remote fault (R345); per port e; 1 bits. -/
  | upAlign
  /-- lanes of the port (0 no such port) (R342); per port e; 4 bits. -/
  | upQuad
  /-- sequence of the signal frames sent (R359); per member m; 32 bits. -/
  | sigSeq
  /-- privileged stage not vacant (1) or vacant (0); stages 0 map emitter of a tree, 1 key-store write port, 2 protection selector of a tree's pair, 3 LAG master, 4 domain path selector (R378); per stage, instance; 1 bits. -/
  | engVac
  /-- accepted claim of the stage (a map emitter's is 0x3600[t].13) (R378); per stage, instance; 16 bits. -/
  | engClaim
  /-- unit + 1 holding the accepted claim (R380); per stage, instance; 16 bits. -/
  | engHolds
  /-- instant + 1 of the engine's knells (R384); per engine e, 0 last, 1 and 2 the two before of causes 1-4; 64 bits. -/
  | knellAt
  /-- engine + 1 whose knell the role's next carrier answers (R406); per role engine e; 16 bits. -/
  | knellBy
  /-- role + 1 whose carrier rewrites the word whole before it reads it (R507 R414); per memory m, word; 16 bits. -/
  | badWord
  /-- order + 1 in which the role became unserved (0 served) (R386); per role engine e; 32 bits. -/
  | unserved
  /-- counter giving that order (R386); 32 bits. -/
  | unservedN
  /-- frame + 1 of the last checkpoint (R385); per engine e; 51 bits. -/
  | chkpt
  /-- step of the running upgrade (R403); 8 bits. -/
  | upStep
  /-- cluster being upgraded + 1 (R403); 8 bits. -/
  | upCluster
  /-- previous image of the cluster (R404); per cluster c; 1 bits. -/
  | prevImg
  /-- instant + 1 since which the lowest level exceeds the committed level (R400); 64 bits. -/
  | lvlAbove
  /-- level named in the commit received + 1 (R400); 16 bits. -/
  | lvlNew
  /-- TAI instant of that commit (R400); 64 bits. -/
  | lvlAt
  /-- member left in the level computation (R399); per member m; 1 bits. -/
  | lvlIn
  /-- instant + 1 since which the feature's condition has been met without a break (0 not met) (R401); per feature f; 64 bits. -/
  | featMet
  /-- sequence of the mirror records sent (R402); per member m, record type; 32 bits. -/
  | mirSeq
  /-- word address the scrubber visits next (R415); per memory m; 64 bits. -/
  | scrubAt
  /-- time the running pass may take, ns (0: one pass period) (R415); per memory m; 64 bits. -/
  | scrubAllow
  /-- instant the pass started (R416); per memory m; 64 bits. -/
  | scrubT0
  /-- corrections of the bank in this pass (R417); per bank 16c + b; 16 bits. -/
  | bankCorr
  /-- self-test of the bank to be requested (R417); per bank 16c + b; 1 bits. -/
  | bankReq
  /-- pass + 1 in which the word was last corrected (R417); per memory m, word; 64 bits. -/
  | lastCorr
  /-- failing bits found by the running test (R423); per cluster c; 32 bits. -/
  | stFail
  /-- rows repaired by the running test (R423); per cluster c; 8 bits. -/
  | stRows
  /-- spare rows exceeded or retest failed (R423); per cluster c; 1 bits. -/
  | stRetire
  /-- abandon cause of the running test (0 none) (R424); per cluster c; 3 bits. -/
  | stAban
  /-- instant the test started (R422); per cluster c; 64 bits. -/
  | stStart
  /-- readings taken since ACQUIRING (R432); 8 bits. -/
  | readings
  /-- the pending correction is from readings (0) or a time set (1) (R432); 1 bits. -/
  | timeFrom
  /-- state held before the refusal (R432); 3 bits. -/
  | timeBack
  /-- accepted slew running: 1 from readings, 2 time set (R508); 2 bits. -/
  | slewing
  /-- offset the slew has still to remove, two's complement (R508); 64 bits. -/
  | slewLeft
  /-- instant the slew started (R448); 64 bits. -/
  | slewAt
  /-- a correction is pending (R433); 1 bits. -/
  | pend3841
  /-- last locked to: 0 never, 1 PTP, 2 1PPS or host (R436); 2 bits. -/
  | lastLock
  /-- FREF lost (R429); 1 bits. -/
  | frefLost
  /-- seconds set by the time-set command (R430); 1 bits. -/
  | secsSet
  /-- instant HOLDOVER was entered (R432); 64 bits. -/
  | holdAt
  /-- quality level of the last ESMC + 1 (R440); per port e; 8 bits. -/
  | esmcQl
  /-- instant + 1 of the last stamped edge (R443); per input i; 64 bits. -/
  | edgeAt
  /-- running edge count (R443); per input i; 16 bits. -/
  | edgeCnt
  /-- consecutive edges 1 s apart (R430); per input i; 8 bits. -/
  | edgeRun
  /-- session value (R457); per slot s; 32 bits. -/
  | sesNonce
  /-- client-to-device, device-to-client and seal keys, and the confirmation value that the client owes (R456); per slot s, key; 256 bits. -/
  | sesKeys
  /-- highest client number seen (R459); per slot s; 64 bits. -/
  | sesHigh
  /-- which of the 64 numbers below it have been seen (R459); per slot s; 64 bits. -/
  | sesSeen
  /-- device's next sequence number - 1 (R459); per slot s; 64 bits. -/
  | sesSeq
  /-- tag failures in the current second (R455); per slot s; 32 bits. -/
  | sesFails
  /-- instant that second started (R455); per slot s; 64 bits. -/
  | sesFail0
  /-- records dropped since the last NOTIFY (R462); per slot s; 32 bits. -/
  | sesDrop
  /-- sequence of host requests sent to m (R470); per member m; 64 bits. -/
  | relaySeq
  /-- highest host-request sequence received from m (R470); per member m; 64 bits. -/
  | relayHigh
  /-- which of the 64 below it have been seen (R470); per member m; 64 bits. -/
  | relaySeen
  /-- mailbox words 0-3 (R463); per mailbox, word; 32 bits. -/
  | mbox
  /-- 128 bytes of value (R463); per mailbox; 1024 bits. -/
  | mboxData
  /-- producer index of the channel (R463); per channel h; 16 bits. -/
  | dmaProd
  /-- commands in flight (R468); per channel h; 16 bits. -/
  | dmaBusy
  /-- next entry of the receive ring (R467); per channel h; 16 bits. -/
  | dmaRx
  /-- event ring producer (R478); 32 bits. -/
  | ringProd
  /-- event ring consumer (R478); 32 bits. -/
  | ringCons
  /-- sequence of the event number (R476); per number; 32 bits. -/
  | evSeq
  /-- records lost and not yet reported in 3987 (R477); 64 bits. -/
  | evLostRep
  /-- sequence of the event log (R477); 64 bits. -/
  | logSeq
  /-- instant + 1 at which a rate-limited event was last raised (R477); per number, instance; 64 bits. -/
  | evLast
  /-- staged set, as a number (R500); 524288 bits. -/
  | calStaged
  /-- commit running (R500); 1 bits. -/
  | calBusy
  /-- the vendor role is enabled (R506); 1 bits. -/
  | vendorOn
  /-- buffer ownership word: [31:22] owner tag, [21:20] state, [19:6] replica count (R308); per pool, buffer; 32 bits. -/
  | bufWord
  /-- stack page held out of use until the next start-up (R484); per page; 1 bits. -/
  | pageHeld
  /-- fraction of a byte the bucket has gained, in 1/450,000 (R319); per node (index * 2^20 + instance), bucket; 20 bits. -/
  | tokFrac
  /-- the head of the parent's DRR round has had its quantum of this turn (R318); per parent level, instance; 1 bits. -/
  | turn
  /-- the excursion that the rail is in has been counted and raised (R39); per rail; 1 bits. -/
  | railOut
  /-- a rail sample has been taken since the last clear (R54); per rail; 1 bits. -/
  | railSeen
  /-- frequency of the source, 0.01 ppb, two's complement (R431); per entry s; 32 bits. -/
  | srcFreq
  /-- Sync messages arrive on the SLAVE port (R430); 1 bits. -/
  | syncOn
  /-- the host has written an offset in the last 2 s (R430); 1 bits. -/
  | hostOn
  /-- the parent's grandmaster clock class (R436); 8 bits. -/
  | gmClass
  /-- origin time of the last Sync, ns, two's complement (R437); per port e; 64 bits. -/
  | ptpT1
  /-- receive stamp of the last Sync, ns, two's complement (R437); per port e; 64 bits. -/
  | ptpT2
  /-- transmit stamp of the last Delay_Req, ns, two's complement (R437); per port e; 64 bits. -/
  | ptpT3
  /-- instant + 1 of a write that takes effect at the next whole second (R444); per output o, subindex; 64 bits. -/
  | ppsAt
  /-- the value in effect until then (R444); per output o, subindex; 32 bits. -/
  | ppsOld
  /-- instant + 1 a frame received on the port was last forwarded to m (R365); per port v, member m; 64 bits. -/
  | fwdAt
  /-- physical lanes with BIP-8 errors in the last marker set (R372); per port v; 9 bits. -/
  | bipLast
  /-- a multiframe has been received since LOM was declared (R360); per port v; 1 bits. -/
  | lomBack
  /-- the last 8 link delays measured, ns (R358); per port v, i; 32 bits. -/
  | linkDel
  /-- link delays measured, 8 at most, and the next place in [7:4] (R358); per port v; 8 bits. -/
  | linkN
  /-- the equalisation value in force since the lane last passed through STARTING (R337); per lane x, subindex; 40 bits. -/
  | eqIn
  /-- the partner's state byte in the last signal frame (R359); per tree; 8 bits. -/
  | farSig
  /-- the partner's protection selector claim (R359); per tree; 16 bits. -/
  | farClaim
  /-- the partner's frame counter bits [15:0] (R359); per tree; 16 bits. -/
  | farFrame
  /-- frame + 1 of the map whose later entries are all refused, times 8, plus the cause (R166); per tree, lane; 51 bits. -/
  | mapStop
  /-- bytes of flam grants not yet charged to a map (R206); per tree, owner; 32 bits. -/
  | flamBytes
  /-- binding draining until the next seal (R397); per binding c; 1 bits. -/
  | coopDrain
  /-- instant + 1 at which event 1025 last named the serial number (R126); per tree, serial number; 64 bits. -/
  | unkSeen
  /-- instant + 1 at which event 1046 last named the serial number (R128); per tree, serial number; 64 bits. -/
  | limSeen
  /-- first upstream frame whose phases count again, + 1 (0 none; all ones while a Ranging_Time waits to be sent) (R143); per terminal n; 53 bits. -/
  | driftHold
  /-- bursts found in an upstream frame not yet ended (R119); per tree, frame mod 16; 32 bits. -/
  | found
  /-- Dsn of the last serial-number response, bits (R134); per terminal n; 64 bits. -/
  | dsn
  /-- frame + 1 of the ranging or rejoin beat sent and not yet concluded (0 none) (R135); per terminal n; 52 bits. -/
  | beatOut
  /-- kind + 1 of the discovery beat sent and not yet ended (0 none) (R140); per tree, lane; 3 bits. -/
  | discOut
  /-- the terminal was DARK before it was found by discovery (R123); per terminal n; 1 bits. -/
  | fromDark
  /-- frame + 1 counted last in the loss run (R146); per terminal n; 52 bits. -/
  | lossAt
  /-- first frame observed in the current step (R153); per tree; 51 bits. -/
  | mufFrom
  /-- lit threshold of the running sequence (R159); per tree; 16 bits. -/
  | mufThr
  /-- terminals probed in the running sequence (R153); per tree; 16 bits. -/
  | mufProbed
  /-- the last recovery beat received a serial number (R156); per tree; 1 bits. -/
  | recHeard
  /-- next free word of the bank (R109); per tree, bank; 14 bits. -/
  | fifoNext
  /-- state of the lane's upstream: 0 disabled, 1 draining, 2 running (R115); per tree, lane; 2 bits. -/
  | upLane
  /-- last widened window of the last map has closed: the commit FIFO drains (R115); per tree, lane; 1 bits. -/
  | upClosed
  /-- first frame + 1 of the mode in force (0 none changed) (R240); per tree; 52 bits. -/
  | modeAt
  /-- the mode before that frame was double-stroke (R240); per tree; 1 bits. -/
  | oldStroke
  /-- switch request that the tree's signal records carry (0 none) (R359); per tree; 4 bits. -/
  | swReq
  /-- the memory is being zeroed after a reset of its island (R411); per memory m; 1 bits. -/
  | zeroing
  /-- the straps as sampled at the rising edge of PORST_N (R36); 2 bits. -/
  | bootSel
  /-- TEST_EN as sampled (R37); 1 bits. -/
  | bootTest
  /-- the image has been tried in this start (R489); per image slot; 1 bits. -/
  | slotTried
  /-- cause that the image was refused with in this start (R487); per image slot; 4 bits. -/
  | slotCause
  /-- start timeout that the image has passed in this start, s (0 none) (R489); per image slot; 6 bits. -/
  | startTo
  /-- slot of the last refusal, or 0xFF for straps (R490); 8 bits. -/
  | recSlot
  /-- image address of the recovery registers (R490); 64 bits. -/
  | recAddr
  /-- image length of the recovery registers (R490); 22 bits. -/
  | recLen
  /-- last cause of the recovery command and status word (R490); 8 bits. -/
  | recCause
  /-- accepted bit of that word (R490); 1 bits. -/
  | recOk
  /-- level (0), rollback version (1) and body digest (2) of the accepted image that is being programmed (R491); per image slot, field; 1024 bits. -/
  | imgHead
  /-- serial of the last module identified + 1 (0 none) (R497); per tree; 129 bits. -/
  | modSer
  /-- the module present advertises PAM4 modulation (R497); per tree; 1 bits. -/
  | modPam
  /-- consecutive polls without acknowledgement (R496); per tree; 2 bits. -/
  | modMiss
  /-- the owner public key of the image in the slot (2 the recovery image) (R488); per image slot, 2 for the recovery image; 512 bits. -/
  | slotKey
  /-- image slot that the engine runs (2 recovery image) (R384, R403); per engine e; 2 bits. -/
  | engImg
  /-- image slot that the upgrade leads to (R403); 1 bits. -/
  | upTarget
  /-- cluster + 1 whose upgrade a failed self-test has stopped (R404); 4 bits. -/
  | upStop
  /-- management port of the session's client (R453); per slot s; 8 bits. -/
  | sesPort
  /-- entry member + 1 of a session reached by relay (0 none) (R469); per slot s; 8 bits. -/
  | sesVia
  /-- instant of the session's last message (R457); per slot s; 64 bits. -/
  | sesAlive
  /-- frame of the last sealed map that asked the allocation for a DBRu + 1 (0 none) (R170); per allocation a; 64 bits. -/
  | dbruAt
  /-- frame of the last sealed map with a PLOAMu grant of the terminal + 1 (0 none) (R170); per terminal n; 64 bits. -/
  | ploamuAt
  /-- a message that requires an answer has been sent and no PLOAMu grant since (R170); per terminal n; 1 bits. -/
  | ploamWant
  /-- the drain of the main lane has abandoned a mode change: no rest beats until the lane is disabled (R138); per tree; 1 bits. -/
  | changeDrain
  /-- sequence number of the last PLOAM message sent to the ONU-ID (R77); per tree, ONU-ID; 8 bits. -/
  | ploamSeq
  /-- the old working port of a pair is not healthy yet: it becomes standby when it is (R86); per tree; 1 bits. -/
  | sick
  /-- frame + 1 of a held map sent (R169); per tree, 64 * lane + frame mod 64; 52 bits. -/
  | heldAt
  /-- frame + 1 of the last served frame (R169); per allocation a; 52 bits. -/
  | monFrame
  /-- bytes granted in the last served frame (R169); per allocation a; 32 bits. -/
  | monGrant
  /-- idle XGEM bytes in the last served frame (R169); per allocation a; 32 bits. -/
  | monIdle
  /-- FS burst trailers that did not match (R98); per tree; 64 bits. -/
  | trailerBad
  /-- sequence number of the Assign_Alloc-ID that was sent and not acknowledged (0 none) (R197); per allocation a; 8 bits. -/
  | allocSeq
  /-- sequence number of the terminal's Capability Request (0 not sent) (R131); per terminal n; 8 bits. -/
  | capSeq
  /-- a serial number has been received in the discovery beat that was sent last (R140); per tree, lane; 1 bits. -/
  | discHeard
  /-- instant at which the lane's next discovery beat is due + 1 (0 none yet) (R140); per tree, lane; 64 bits. -/
  | discNext
  /-- slot + 1 whose Disable_Serial_Number has not left yet: the probe step observes from the third frame after it (R153); per tree; 10 bits. -/
  | mufWait
  /-- frame + 1 of the last recovery discovery beat sent (0 none) (R156); per tree; 52 bits. -/
  | recAt
  /-- switch frame + 1 of the mode change before the last one (0 none) (R216); per tree; 52 bits. -/
  | oldS
  /-- frame + 1 up to which that change discards measurements (R216); per tree; 52 bits. -/
  | oldHold
  /-- up-hold count beyond what 0x3900[n].05 shows (R222); per terminal n; 16 bits. -/
  | upRun
  /-- sequence number of the request of the running exchange (0 not sent) (R249); per terminal n; 8 bits. -/
  | kxSeq
  /-- modes whose broadcast slot event 2055 has reported as unusable: bit 0 NRZ, bit 1 double-stroke (R244); per tree; 2 bits. -/
  | missMask
  /-- ring at which the round robin of the bulk engine goes on (R252); 3 bits. -/
  | bulkTurn
  /-- what the engine does at its role's safe point: 1 it is taken out, 2 it takes its role back (R384); per engine e; 2 bits. -/
  | safePoint
  /-- frame + 1 of the last map of which the sequencer accepted no entry under cause 2 or 4 (R382); per tree, lane; 51 bits. -/
  | mapWhole
  /-- instant + 1 since which the filtered offset has stayed within the threshold in REFUSED (0 it is beyond it) (R432); 64 bits. -/
  | okSince
  /-- the comparison data of the last Announce on the port + 1 (0 none within the receipt timeout) (R437); per uplink port e; 256 bits. -/
  | announceIn
  /-- the sender's port identity of that Announce (R437); per uplink port e; 80 bits. -/
  | annParent
  /-- its grandmaster clock class (R436); per uplink port e; 8 bits. -/
  | annClass
  /-- its steps removed (R437); per uplink port e; 16 bits. -/
  | annSteps
  /-- its UTC offset (R437); per uplink port e; 16 bits. -/
  | annUtc
  /-- the offset of record 2 of the calibration set in force at this start (R498); per sensor; 16 bits. -/
  | sensorTrim
  deriving DecidableEq, Repr

/-- What an unlisted hidden register holds (log entry 3). -/
def Aux.dflt (_ : Key) : Reg := 0

/-- What the block sends; the arguments in order are named with each kind. -/
inductive OutKind where
  /-- AVSBus set-point command to the core regulator: mV (spec/01 R34) -/
  | avs
  /-- completion record of a bulk job: ring, host address, then its 32 bytes (spec/07 R254) -/
  | completion
  /-- output of a bulk job written to host memory: ring, host address, then the bytes (spec/07 R255) -/
  | bulkOut
  /-- host memory zeroed by the bulk engine: address, length (spec/07 R255) -/
  | zeroArea
  /-- MSI-X interrupt: vector (spec/14 R467) -/
  | msix
  /-- downstream XGEM frame: tree port, lane, then its bytes: header, payload under its cipher, tag (spec/02 R63, spec/07 R242) -/
  | xgem
  /-- frame sent on an uplink port: port, flow, length, then its bytes without FCS (spec/08 R271, spec/09 R324) -/
  | uplinkFrame
  /-- frame passed to the host's receive channel: port kind, port, receive stamp in ps (spec/13 R438) -/
  | hostFrame
  /-- PTP message sent: port, type code of IEEE 1588, destination code, domain, clock class, time in ns (spec/13 R437) -/
  | ptp
  /-- ESMC message sent: port, quality level (spec/13 R440) -/
  | esmc
  /-- 1PPS pulse: output, its leading edge in ns of the time base, width in us (spec/13 R444) -/
  | pps
  /-- answer to ARP, neighbour discovery or echo: management port, address asked for (spec/14 R453) -/
  | mgmtReply
  /-- Vioth frame given to a port's stream: port, then its bytes: header, payload, padding (spec/10 R352, R353) -/
  | vioth
  /-- 66-bit block on a Vioth lane: port, physical lane, then its 33 PAM4 levels, or in forerunner mode its 66 bits (spec/10 R331, R348, R375) -/
  | viothBlock
  /-- what an uplink port sends in place of frames: port, 1 remote fault, 2 idle (spec/10 R344) -/
  | faultSignal
  /-- packet handed to the grant engines through the cooperative scheduling queue: flow, then its bytes (spec/08 R277) -/
  | cti
  /-- map sent: tree, lane, frame, 0 fresh 1 held 2 empty, then per entry ONU-ID, Alloc-ID, start, bytes, profile, DBRu + 2 PLOAMu, opening, closing (spec/05 R165, R174) -/
  | map
  /-- cage pin interval: tree, pin (0 BRST, 1 BEN, 2 CBRST, 3 RSSIT), frame, rise and fall in bits from the upstream frame start, two's complement of 64 bits (spec/01 R50, R52) -/
  | cage
  /-- bulletin sent on the flam flow: tree, then its XGEM frame: header with key index 0 and the XGEM port, then its bytes (spec/05 R184, R185) -/
  | bulletin
  /-- word that the parser reads from a commit FIFO: tree, the 16-bit tag, the 256-bit word (spec/03 R113) -/
  | fifoWord
  /-- downstream frame started: tree, lane, counter, PON-ID, bytes, mode (0 NRZ, 1 double-stroke), precoding, then what stands before the codewords: bytes, or in double-stroke the levels of symbols 0 to 191 (spec/02 R57 to R71) -/
  | frame
  /-- the codewords of a finished frame: tree, lane, counter, then bytes, or in double-stroke the levels of symbols 192 on (spec/02 R61, R65, R67, R71) -/
  | coded
  /-- scrambled idle fill at frame phase from now to the next frame boundary: tree (spec/02 R86) -/
  | idleFill
  /-- PLOAM message in a frame's partition: tree, lane, ONU-ID, kind, then its arguments (for a message whose layout the spec gives none), then its 48 bytes (spec/02 R62, R77; spec/04 R130; spec/07 R248) -/
  | ploam
  /-- ROL message sent over UDP: management port, client address and port, then its bytes (spec/14 R453, R454) -/
  | rol
  /-- DMA completion: channel, host address, then its 32 bytes (spec/14 R465) -/
  | dmaDone
  /-- data written to host memory: DMA channel, host address, then the bytes (spec/14 R465) -/
  | dmaData
  /-- receive entry filled: channel, host address, then its 32 bytes; the frame's bytes go as dmaData (spec/14 R467) -/
  | dmaReceive
  /-- frame of the host sent on a management port: port, then its bytes without FCS (spec/14 R466) -/
  | mgmtFrame
  /-- slot of the PCIe event ring written: slot, the 24-byte entry, the phase bit (spec/14 R478) -/
  | eventSlot
  /-- every lane transmitter turned off and every cage pin driven low: cage intervals sent before are void (spec/01 R39, R42) -/
  | shutOff
  /-- the per-burst record (spec/03 R107): 0 to the grant engine, 1 to the adaptation engine; the table's fields -/
  | burstRecord
  deriving DecidableEq, Repr

/-- One thing sent. -/
structure Out where
  kind : OutKind
  args : List Reg
  deriving DecidableEq, Repr

/-- One event record with its extension (spec/14 R475, R476). -/
structure Rec where
  num : Nat
  sev : Nat
  inst : Nat
  stamp : Ns
  a1 : Reg
  a2 : Reg
  seq : Nat
  deriving DecidableEq, Repr

/-- The status and value that the last access ended with (spec/14 R452). -/
structure Answer where
  status : Nat
  value : Reg
  deriving DecidableEq, Repr

/-- A packet, or one replica of it, waiting in a queue (spec/09 R305, R308, R309): its direction and queue, its
stored length, the flow it goes to, the requester it is charged to, and the buffer that stores it (pool 3: the
byte offset within the page). -/
structure Pkt where
  up : Bool
  queue : Nat
  len : Nat
  flow : Nat
  pool : Nat
  buf : Nat
  off : Nat
  /-- The DEI bit of its outer tag is to be set at the uplink (R324). -/
  dei : Bool
  /-- Its bytes as it leaves, tags pushed or removed and routed fields rewritten (spec/08 R270, R271). -/
  bytes : List Nat
  deriving DecidableEq, Repr

/-- The DRR round of one scheduler parent: its members in turn order (spec/09 R318). -/
structure Round where
  level : Nat
  inst : Nat
  members : List Nat
  deriving DecidableEq, Repr

/-- The FS frame that a lane is sending (spec/02 R61 to R65): its tree port, lane and counter, its mode, precoding and mode
generation, the bytes left of its payload for XGEM frames, and its bytes so far from the FS header on. -/
structure FsFrame where
  tree : Nat
  lane : Nat
  frame : Nat
  stroke : Bool
  precoding : Bool
  gen : Nat
  room : Nat
  bytes : List Nat
  deriving DecidableEq, Repr

/-- A downstream SDU in a tree port's framer (spec/02 R64) with what it latched of its key slot (spec/07 R233): the port and
lane that send it, its flow, its bytes not yet sent, its length, its key index, slot, key and generation, whether it started
in double-stroke mode, and the GCM blocks of the frames sent. -/
structure DownSdu where
  tree : Nat
  lane : Nat
  flow : Nat
  bytes : List Nat
  total : Nat
  keyIndex : Nat
  slot : Option Nat
  key : Reg
  gen : Nat
  stroke : Bool
  blocks : Nat
  deriving DecidableEq, Repr

/-- One entry of a map (spec/05 R165, R163): the terminal and allocation, the granted bytes, the profile, the DBRu and
PLOAMu flags, what it is for, and its place in the upstream frame in bits of the lane's rate. -/
structure Grant where
  onu : Nat
  alloc : Nat
  bytes : Nat
  profile : Nat
  dbru : Bool
  ploamu : Bool
  /-- 0 open slot, 1 beat, 2 fixed, 3 keep-alive, 4 PLOAMu, 5 cooperative, 6 share (R168). -/
  kind : Nat
  /-- Grant start s. -/
  start : Nat
  /-- The window that its burst occupies (R163). -/
  opens : Nat
  closes : Nat
  /-- It joins the burst of the entry before it (R165). -/
  joined : Bool
  deriving DecidableEq, Repr

/-- A map of one lane of a tree (0 main, 1 coexistence; 2 the flam grants merged into the main lane) for one frame (spec/05
R161, R176). -/
structure GrantMap where
  tree : Nat
  lane : Nat
  frame : Nat
  entries : List Grant
  deriving DecidableEq, Repr

/-- A quiet window of a rest beat (spec/04 R133, spec/05 R167, R179): the upstream frame that it opens in, and its
bits from that frame's start. -/
structure Quiet where
  tree : Nat
  lane : Nat
  /-- 0 discovery, 1 ranging, 2 rejoin, 3 recovery discovery. -/
  kind : Nat
  terminal : Nat
  frame : Nat
  opens : Nat
  closes : Nat
  deriving DecidableEq, Repr

/-- The PLOAM messages the device sends (spec/02 R77, spec/04 R123 to R130, spec/07 R247, R248; the rest are messages of
G.9804.2, named and not coded here). -/
inductive PloamKind where
  | assignOnuId | rangingTime | deactivate | disable | enable | requestRegistration | capabilityRequest
  | keyControl | strokeKeyRequest | announceNotice | cancelNotice | assignAllocId | other
  deriving DecidableEq, Repr

/-- A PLOAM message queued for a terminal (spec/02 R62): urgent ones are those of muffling (spec/04 R153). -/
structure Ploam where
  tree : Nat
  lane : Nat
  onu : Nat
  kind : PloamKind
  args : List Nat
  urgent : Bool
  deriving DecidableEq, Repr

/-- A key write that waits for a write port's claim (spec/07 R230). -/
structure KeyWait where
  port : Nat
  slot : Nat
  len : Nat
  key : Reg
  /-- The terminal whose exchange it completes, none for a host write. -/
  terminal : Option Nat
  deriving DecidableEq, Repr

/-- A bulk job descriptor as fetched from the host's memory (spec/07 R253). -/
structure JobDesc where
  op : Nat
  flags : Nat
  slot : Nat
  length : Nat
  source : Nat
  dest : Nat
  aadAddress : Nat
  aadLength : Nat
  iv : Nat
  tag : Nat
  deriving DecidableEq, Repr

/-- A bulk job in flight (spec/07 R252, R255), with what it latched (R233). -/
structure Job where
  ring : Nat
  position : Nat
  desc : JobDesc
  gen : Nat
  /-- Key bytes, and the key: the first bytes of 32. -/
  len : Nat
  key : Nat
  deriving DecidableEq, Repr

/-- A Vioth frame that waits at a port (spec/10 R353, R354, R367): its place in the port's strict order (0 multiframe
and signal, 1 primer fill, 2 transit, 3 mirror and management, 4 local data), its header fields, and its payload. -/
structure VFrame where
  port : Nat
  order : Nat
  kind : Nat
  cls : Nat
  source : Nat
  dest : Nat
  hops : Nat
  len : Nat
  context : Nat
  colour : Nat
  payload : List Nat
  deriving DecidableEq, Repr

/-- An entry of an edge-capture queue (capture, an input) or of a transmit time-stamp queue (an uplink port), in the
layout of R441. -/
structure Stamp where
  capture : Bool
  inst : Nat
  entry : Reg
  deriving DecidableEq, Repr


/-- A packet in a forwarding pipe (spec/08 R261): upstream with its tree and XGEM port, downstream with its uplink port;
its bytes; the logical pipe, the pipe that carries it (spec/11 R389) and its hash; the coat that it entered with; and the
domains that were draining when it entered (R272). -/
structure InPkt where
  up : Bool
  port : Nat
  xgem : Nat
  bytes : List Nat
  pipe : Nat
  carrier : Nat
  hash : Nat
  coat : Nat
  shut : List Nat
  deriving DecidableEq, Repr

/-- The key of a datagram's fragments (spec/08 R283). -/
structure FragKey where
  up : Bool
  domain : Nat
  v6 : Bool
  source : Nat
  dest : Nat
  proto : Nat
  ident : Nat
  deriving DecidableEq, Repr

/-- A forwarding decision (spec/08 R270, R276, R277): the flows a downstream packet goes to, or the ingress flow of an
upstream one; the uplink word; the destination MAC of a routed packet; and class, colour and queue. -/
structure Fate where
  flows : List Nat
  flooded : Bool
  uplink : Nat
  mac : Option Nat
  cls : Nat
  colour : Nat
  /-- The queue index that a rule put in the place of the one forwarding chose. -/
  queue : Option Nat
  /-- The flows and the queues that their replicas join: downstream queues, or the upstream queue within its uplink port. -/
  queues : List (Nat × Nat)
  /-- 0 a queue, 1 the cooperative scheduling queue, 2 the discard queue. -/
  special : Nat
  deriving DecidableEq, Repr

/-- An entry of the fragment table (spec/08 R283). -/
structure Frag where
  key : FragKey
  fate : Fate
  since : Ns
  deriving DecidableEq, Repr

/-- A later fragment that is held (spec/08 R285). -/
structure HeldFrag where
  key : FragKey
  pkt : InPkt
  since : Ns
  deriving DecidableEq, Repr

/-- A route (spec/08 R287). -/
structure Route where
  v6 : Bool
  table : Nat
  len : Nat
  pfx : Nat
  hop : Nat
  deriving DecidableEq, Repr

/-- A learn request (spec/08 R293), to engine 192 + engine. -/
structure LearnReq where
  engine : Nat
  domain : Nat
  mac : Nat
  dest : Nat
  deriving DecidableEq, Repr

/-- An open-slot template and the first map that it holds for (spec/05 R178, R183), in units of 32 bits. -/
structure Template where
  tree : Nat
  frame : Nat
  offset : Nat
  length : Nat
  deriving DecidableEq, Repr

/-- Bytes that the grant-assignment pass gives an allocation in a map (spec/06 R209). -/
structure Share where
  tree : Nat
  lane : Nat
  frame : Nat
  alloc : Nat
  bytes : Nat
  deriving DecidableEq, Repr

/-- What the grant engine has to place in a map beside the shares (spec/05 R168, R170): kind is the step of R168, with 6 for a
DBRu-only grant; alloc is the allocation of kinds 2 and 6, and the default Alloc-ID of kinds 3 and 4. -/
structure Due where
  tree : Nat
  lane : Nat
  frame : Nat
  kind : Nat
  terminal : Nat
  alloc : Nat
  bytes : Nat
  dbru : Bool
  ploamu : Bool
  deriving DecidableEq, Repr

/-- A record or patch marker of a commit FIFO (spec/03 R109, R112), or a frame that waits in the coexistence staging buffer:
its bank, first word and words, the words read of it, its descriptor or marker word, and its SDU. -/
structure Record where
  tree : Nat
  bank : Nat
  first : Nat
  words : Nat
  read : Nat
  marker : Bool
  head : Reg
  bytes : List Nat
  flow : Nat
  onu : Nat
  deriving DecidableEq, Repr

/-- An open SDU of a tree's reassembly store (spec/03 R102): its allocation and XGEM port, its bytes so far, and the instant
of its last fragment. A dropped one keeps no bytes: its later fragments are discarded. -/
structure OpenSdu where
  tree : Nat
  alloc : Nat
  xgem : Nat
  flow : Nat
  onu : Nat
  bytes : List Nat
  since : Ns
  dropped : Bool
  deriving DecidableEq, Repr

/-- A rest beat that is due (spec/04 R137): its lane, kind (as Quiet) and terminal, whether it is wide, when it fell due,
whether it has been deferred, and the target frame + 1 of the map that it is staged for (0 none). -/
structure Beat where
  tree : Nat
  lane : Nat
  kind : Nat
  terminal : Nat
  wide : Bool
  due : Ns
  deferred : Bool
  placed : Nat
  deriving DecidableEq, Repr

/-- The energy detector's report of one upstream frame (spec/03 R104), as the adaptation engine keeps it for the last 16
frames: the out-of-grant blocks, all blocks outside granted windows, and the out-of-grant spans in bits. -/
structure Energy where
  tree : Nat
  frame : Nat
  blocks : Nat
  outside : Nat
  spans : List LitSpan
  deriving DecidableEq, Repr

/-- A granted window that held light without a delimiter (spec/03 R104). -/
structure DarkWindow where
  tree : Nat
  frame : Nat
  onu : Nat
  deriving DecidableEq, Repr

/-- A running muffling sequence (spec/04 R152, R153): the probe order and the withholding candidates that are left. -/
structure Probe where
  tree : Nat
  order : List Nat
  withhold : List Nat
  deriving DecidableEq, Repr

/-- One burst that a standby port has measured (spec/02 R83): when, and its arrival less the working port's, in bits. -/
structure Skew where
  tree : Nat
  since : Ns
  diff : Int
  deriving DecidableEq, Repr

/-- A mode or cancel notice of a terminal (spec/02 R73, R75): the frame + 1 that it was last sent in (0 none), whether it is
to be sent, and whether it has been acknowledged. -/
structure Notice where
  tree : Nat
  onu : Nat
  sent : Nat
  due : Bool
  acked : Bool
  /-- Its PLOAM sequence number, 0 before it is first sent (R77). -/
  seq : Nat
  deriving DecidableEq, Repr

/-- A block transfer that is open (spec/14 R461): the master that sends it, its number, the object, the total length, and the
blocks that have arrived: offset and bytes; and the instant of the last one. -/
structure Transfer where
  master : Nat
  num : Nat
  index : Nat
  inst : Nat
  sub : Nat
  total : Nat
  blocks : List (Nat × List Nat)
  last : Ns
  deriving DecidableEq, Repr

/-- The messages sent in answer to a client's number (spec/14 R459): the session slot, the number, the messages. -/
structure Reply where
  slot : Nat
  seq : Nat
  msgs : List (List Nat)
  deriving DecidableEq, Repr

/-- Occurrences of an event that is summarised once per second: the number, the key it is limited by, which of its two counts they
belong to, how many, and when (spec/14 R477). -/
structure Hit where
  num : Nat
  key : Nat
  arg : Nat
  n : Nat
  at' : Ns
  deriving DecidableEq, Repr

/-- A subscription of a session (spec/14 R462). -/
structure Sub where
  slot : Nat
  num : Nat
  low : Nat
  clears : Bool
  first : Nat
  last : Nat
  deriving DecidableEq, Repr

/-- A NOTIFY that is not acknowledged (spec/14 R462): its session slot, its number, its bytes, how often it was
sent, and when last. -/
structure Notify where
  slot : Nat
  seq : Nat
  bytes : List Nat
  tries : Nat
  sent : Ns
  deriving DecidableEq, Repr

/-- A relay entry (spec/14 R469, 0x1130.03): the client, its management port, the target member, when it was last used, and
the requests without an answer, by session value and sequence number, with the instant of each. -/
structure RelayEntry where
  peer : Nat
  port : Nat
  target : Nat
  used : Ns
  waits : List (Nat × Nat × Ns)
  deriving DecidableEq, Repr

/-- A DMA command descriptor as fetched from the host's memory (spec/14 R465). -/
structure DmaDesc where
  op : Nat
  flags : Nat
  ident : Nat
  index : Nat
  sub : Nat
  target : Nat
  inst : Nat
  length : Nat
  host : Nat
  offset : Nat
  kind : Nat
  port : Nat
  deriving DecidableEq, Repr

/-- A host request that waits for another member's answer (spec/14 R470): the member, the number, the mailbox or DMA channel
that issued it, its descriptor, and when it was sent. -/
structure HostWait where
  member : Nat
  seq : Nat
  mailbox : Bool
  unit : Nat
  desc : DmaDesc
  sent : Ns
  deriving DecidableEq, Repr

/-- What the framer makes of a Vioth header at the place it looks (spec/10 R355): it fits, at once or after one bit was
corrected, or its HEC is uncorrectable, with a length check that is consistent or not. -/
inductive HeaderFit where
  | fits
  | corrected
  | bad (lengthOk : Bool)
  deriving DecidableEq, Repr

/-- A Vioth frame as it arrives (spec/10 R353, R356): its header's fields, its payload, and whether the payload CRC is right. -/
structure ViothIn where
  kind : Nat
  cls : Nat
  source : Nat
  dest : Nat
  hops : Nat
  context : Nat
  colour : Nat
  rdi : Bool
  payload : List Nat
  crcOk : Bool
  deriving DecidableEq, Repr
/-- The block never stops: no command ends in a fault. -/
inductive Fault where
  deriving DecidableEq, Repr

/-- Why a command has no next state. -/
inductive Refusal where
  /-- The command has no meaning in this model. Raised by exec's own arms only; safe. -/
  | notModelled (mnemonic : String)
  deriving DecidableEq, Repr

/-- The state of the block. -/
structure State where
  /-- What holds the device, or that it runs. -/
  phase : Phase
  /-- The time base in nanoseconds (spec/13 R428). -/
  now : Ns
  /-- The object dictionary (default: Objects.dflt). -/
  objs : Store
  /-- The registers without an object (default: Aux.dflt). -/
  regs : Store
  /-- The protected memories: codeword of word w of memory m under key (m, w, 0), zeroed words unlisted (spec/12 R409, R411). -/
  mem : Store
  /-- The hardware event queue, oldest first (spec/14 R477). -/
  evQueue : List Rec
  /-- The last raised record of every pending instance (spec/14 R472, R473). -/
  evPending : List Rec
  /-- The packets waiting in the queues, each queue's in arrival order (spec/09 R306). -/
  pkts : List Pkt
  /-- The DRR rounds of the scheduler's parents (spec/09 R318). -/
  rounds : List Round
  /-- PLOAM messages queued, in the order queued (spec/02 R62). -/
  ploams : List Ploam
  /-- Key writes waiting for a write port's claim (spec/07 R230). -/
  keyWaits : List KeyWait
  /-- The bulk jobs in flight (spec/07 R252). -/
  jobs : List Job
  /-- What is staged in the map emitters' channels and not sealed (spec/05 R171). -/
  staged : List GrantMap
  /-- The maps sealed for the next frame (spec/05 R172). -/
  sealedMaps : List GrantMap
  /-- The maps sent, newest first, as far back as the receivers need them (spec/05 R176). -/
  sentMaps : List GrantMap
  /-- The quiet windows of the beats sent (spec/05 R167, R179). -/
  quiets : List Quiet
  /-- The sealed bulletins, under 4 t + p for flam point p of tree t (spec/05 R181). -/
  bulletins : List (Nat × List FlamGrant)
  /-- The mute sets: tree and ONU-ID (spec/05 R173). -/
  muted : List (Nat × Nat)
  /-- The last 16 readings of the phase source, ns, oldest first (spec/13 R431). -/
  offsets : List Int
  /-- The frequency words set and when, oldest first (spec/13 R432). -/
  words : List (Nat × Int)
  /-- The entries of the edge-capture and transmit time-stamp queues, oldest first (spec/13 R441, R443). -/
  stamps : List Stamp
  /-- The Vioth frames waiting at the ports, oldest first (spec/10 R367, R368). -/
  vframes : List VFrame
  /-- The words that have arrived at the Vioth ports and that their framers have not taken: port and word, oldest first (spec/10 R349, R355). -/
  viothIn : List (Nat × Nat)
  /-- The packets in the pipes' input queues, oldest first (spec/08 R264). -/
  pipeIn : List InPkt
  /-- The packets that wait for a second pass, oldest first (spec/08 R267). -/
  recirc : List InPkt
  /-- The fragment table, oldest first (spec/08 R283). -/
  frags : List Frag
  /-- The later fragments held, in arrival order (spec/08 R285). -/
  held : List HeldFrag
  /-- The routes of the 32 tables, in the order added (spec/08 R286, R287). -/
  routes : List Route
  /-- The learn requests that wait for the engines, oldest first (spec/08 R293). -/
  learns : List LearnReq
  /-- The open-slot templates of the trees, oldest first (spec/05 R183). -/
  templates : List Template
  /-- What the last passes give the allocations, for the maps being built (spec/05 R168, spec/06 R209). -/
  plan : List Share
  /-- The fixed, keep-alive, PLOAMu and DBRu-only grants that the maps being built have to hold (spec/05 R168, R170; spec/04 R147). -/
  dues : List Due
  /-- The bursts of the sliding second from which the standby ports find their feeder skew (spec/02 R83). -/
  skews : List Skew
  /-- The rest beats due and not yet sent, oldest first (spec/04 R137). -/
  beats : List Beat
  /-- The energy reports kept, oldest first (spec/03 R104, spec/04 R151). -/
  energy : List Energy
  /-- The windows with light and no delimiter in the frames kept (spec/03 R104). -/
  noDelims : List DarkWindow
  /-- The muffling sequences that run (spec/04 R153). -/
  probes : List Probe
  /-- The committed records not yet read whole, in each tree's commit order (spec/03 R109 to R112). -/
  fifo : List Record
  /-- The reassembly stores (spec/03 R102). -/
  sdus : List OpenSdu
  /-- The coexistence staging buffers, oldest first (spec/03 R108). -/
  coexStage : List Record
  /-- The notices of the mode changes announced, and of those cancelled, in the order queued (spec/02 R73, R75). -/
  notices : List Notice
  /-- The block transfers that are open (spec/14 R461). -/
  transfers : List Transfer
  /-- The replies kept for the client numbers in the sessions' windows (spec/14 R459). -/
  replies : List Reply
  /-- The subscriptions (spec/14 R462). -/
  subs : List Sub
  /-- The NOTIFY messages without an acknowledgement, oldest first (spec/14 R462). -/
  notifies : List Notify
  /-- The records that wait for a session's next NOTIFY, by slot, oldest first (spec/14 R462). -/
  backlog : List (Nat × Rec)
  /-- The relay entries, oldest first (spec/14 R469). -/
  relays : List RelayEntry
  /-- The host requests sent to other members and not answered (spec/14 R470). -/
  hostWaits : List HostWait
  /-- What the block has sent, newest last (log entry 9). -/
  out : List Out
  /-- How the last access ended (spec/14 R452; log entry 10). -/
  answer : Answer
  /-- How many free values have been taken (log entry 7). -/
  freeCtr : Nat
  /-- The commands that wait, first in first out. -/
  pending : List Instr
  /-- The FS frames that the lanes are sending (spec/02 R61, R62). -/
  fsFrames : List FsFrame
  /-- The SDUs, or what remains of them, that wait in the framers for the next frame, oldest first (spec/02 R64). -/
  downWait : List DownSdu
  /-- What the events summarised once per second have counted in the last second, oldest first (spec/14 R477; log entry 132). -/
  recent : List Hit
  /-- The causes that have arisen before READY and wait for it, oldest first (spec/15 R505). -/
  early : List Rec
  deriving DecidableEq, Repr

/-- The machine right after reset: PORST_N is low (R49), every object at its table's default, every register at its
reset value, every memory word zeroed, nothing queued. -/
def State.reset : State :=
  {
    phase := .heldPorst,
    now := 0,
    objs := [],
    regs := [],
    mem := [],
    evQueue := [],
    evPending := [],
    pkts := [],
    rounds := [],
    ploams := [],
    keyWaits := [],
    jobs := [],
    staged := [],
    sealedMaps := [],
    sentMaps := [],
    quiets := [],
    bulletins := [],
    muted := [],
    offsets := [],
    words := [],
    stamps := [],
    vframes := [],
    viothIn := [],
    pipeIn := [],
    recirc := [],
    frags := [],
    held := [],
    routes := [],
    learns := [],
    templates := [],
    plan := [],
    dues := [],
    skews := [],
    beats := [],
    energy := [],
    noDelims := [],
    probes := [],
    fifo := [],
    sdus := [],
    coexStage := [],
    notices := [],
    transfers := [],
    replies := [],
    subs := [],
    notifies := [],
    backlog := [],
    relays := [],
    hostWaits := [],
    out := [],
    answer := ⟨0, 0⟩,
    freeCtr := 0,
    pending := [],
    fsFrames := [],
    downWait := [],
    recent := [],
    early := []
  }

end Sys2Proof.Machine
end

