-- ==== Sys2Proof/Machine/Code.lean ====
section
/-!
DEFINITION. Machine/Code.lean: the code of the protected memories' words, and the stored words (spec/12 R409, R410).
A code word holds its 64 data bits below its 8 check bits.
-/
namespace Sys2Proof.Machine

/-! ## The code (R409, R410) -/

/-- Code position of each data bit: the positions 3 to 71 that are no power of two, in rising order. -/
def dataPositions : List Nat := (List.range 72).filter fun p => 3 ≤ p && !isPow2 p

/-- XOR of the code positions of the data bits that are 1. -/
def positionSum (data : Nat) : Nat :=
  (dataPositions.zipIdx).foldl (fun x p => if bit p.2 data then Nat.xor x p.1 else x) 0

/-- Check bits 0 to 6, and check bit 7 as the even parity over all 72 bits. -/
def checkBits (data : Nat) : Nat :=
  let p := positionSum data
  p + 128 * ((popCount 64 data + popCount 7 p) % 2)

/-- The code word of data, with its check bits XORed with a mask: 0 for a good word, 0x60 for poison (R410). -/
def codeWord (data mask : Nat) : Reg := data % 2 ^ 64 + 2 ^ 64 * Nat.xor (checkBits (data % 2 ^ 64)) mask

/-- The read syndrome: parity mismatch in bit 7, position below it. -/
def syndrome (cw : Reg) : Nat :=
  let d := cw % 2 ^ 64
  Nat.xor (positionSum d) (cw / 2 ^ 64 % 128) + 128 * (popCount 72 cw % 2)

/-- The class of a syndrome. -/
inductive Class where
  | clean | correctable | uncorrectable | poisoned
  deriving DecidableEq, Repr

/-- Syndrome decoding. -/
def classOf (syn : Nat) : Class :=
  if syn = 0 then .clean
  else if 128 ≤ syn then (if syn - 128 < 72 then .correctable else .uncorrectable)
  else if syn = 0x60 then .poisoned
  else .uncorrectable

/-- A class whose data no consumer uses. -/
def Class.bad (c : Class) : Bool := c == .uncorrectable || c == .poisoned

/-- The data a read delivers: the bit at the position of a correctable syndrome is inverted; a check bit's
correction leaves the data as stored. -/
def deliver (cw : Reg) : Nat :=
  let d := cw % 2 ^ 64
  let syn := syndrome cw
  match classOf syn with
  | .correctable => match dataPositions.findIdx? fun p => p == syn - 128 with
    | some i => Nat.xor d (2 ^ i)
    | none => d
  | _ => d

/-- The stored code word at a place. -/
def State.word (s : State) (m w : Nat) : Reg := s.mem.read (fun _ => 0) ⟨m, w, 0⟩

/-- A code word stored at a place. -/
def State.setWord (s : State) (m w : Nat) (v : Reg) : State := { s with mem := s.mem.write (fun _ => 0) ⟨m, w, 0⟩ v }

end Sys2Proof.Machine
end

