-- ==== Sys2Proof/Config.lean ====
section
/-!
DEFINITION. Config.lean: what the spec leaves to the implementation, as constants without a body: no proof and no
evaluation can see them, so a statement holds whatever they are.
-/
namespace Sys2Proof.Config

/-- The free values: every value the spec leaves open is freeValue applied to the next number of State.freeCtr
(log entry 7). -/
opaque freeValue : Nat → Reg

/-- The PSync pattern of the standard (spec/02 R60, R68), 64 bits. -/
opaque psync : Nat

/-- The 8-byte SFC structure of the standard for a counter value (spec/02 R60, R67). -/
opaque sfcStructure : Nat → Nat

/-- The 8-byte OC structure of the standard for a PON-ID (spec/02 R60, R67). -/
opaque ocStructure : Nat → Nat

/-! The downstream formats and codes that the spec names and does not give (log entry 107). -/

/-- The bytes that stand before the codewords of a coexistence frame of G.9807.1: counter, PON-ID (spec/02 R79). -/
opaque xgsPsbd : Nat → Nat → List Nat

/-- The FS header of a lane for a number of map entries and of PLOAM messages (spec/02 R62). -/
opaque fsHeader : Nat → Nat → Nat → List Nat

/-- The allocation structure of a map entry on a lane: ONU-ID, Alloc-ID, grant start in bits, bytes, profile, DBRu, PLOAMu,
joined (spec/05 R165). -/
opaque mapStructure : Nat → List Nat → List Nat

/-- The FS trailer of an FS frame's bytes (spec/02 R62). -/
opaque fsTrailer : List Nat → List Nat

/-- The bytes that an FS frame of a lane has for XGEM frames: lane, double-stroke, map entries, PLOAM messages (spec/02 R61,
R62, R71, R79). -/
opaque fsPayload : Nat → Bool → Nat → Nat → Nat

/-- The idle XGEM frames that fill a number of bytes (spec/02 R65). -/
opaque idleFrames : Nat → List (List Nat)

/-- The byte that pads a payload to whole words (spec/02 R63). -/
opaque padByte : Nat

/-- The 13-bit HEC over the 51 bits of an XGEM header (spec/02 R63). -/
opaque xgemHec : Nat → Nat

/-- The codewords of the downstream LDPC code, of an NRZ or a double-stroke FS frame (spec/02 R60, R61, R71). -/
opaque ldpcDown : Bool → List Nat → List Nat

/-- The RS(248,216) codewords of a coexistence FS frame (spec/02 R79). -/
opaque rsDown : List Nat → List Nat

/-- The scrambler of a lane: lane, double-stroke, the frame that presets it, the bytes (spec/02 R60, R71, R79). -/
opaque scramble : Nat → Bool → Nat → List Nat → List Nat

/-- The 36 content bytes of a standard PLOAM message, and its type: kind, ONU-ID, arguments (spec/02 R62). -/
opaque ploamContent : Nat → Nat → List Nat → List Nat
opaque ploamType : Nat → Nat

/-- The 64-bit PLOAM message integrity check under a master session key, 0 for the default keys (spec/02 R77, spec/07 R246). -/
opaque ploamMic : Nat → List Nat → Nat

/-- AES-128 counter mode of G.9804.2: key, frame counter, offset in the frame, payload (spec/02 R60, spec/07 R241). -/
opaque ctrCipher : Nat → Nat → Nat → List Nat → List Nat

/-- AES-128 counter mode of an upstream frame: key, frame, the burst's grant start, offset in the burst, payload (spec/07 R240). -/
opaque ctrUp : Nat → Nat → Nat → Nat → List Nat → List Nat

/-- AES-GCM of a key length in bits: key, IV, authenticated bytes, plaintext: the ciphertext, and the 128-bit tag; and the
plaintext of a ciphertext (spec/05 R185, spec/07 R242, R253). -/
opaque gcmCipher : Nat → Nat → Nat → List Nat → List Nat → List Nat
opaque gcmTag : Nat → Nat → Nat → List Nat → List Nat → Nat

/-- AES in counter mode for a bulk job: key length in bits, key, initial counter block, data (spec/07 R253). -/
opaque ctrBulk : Nat → Nat → Nat → List Nat → List Nat

/-- SM4-GCM: key, IV, authenticated bytes, plaintext: the ciphertext, and the 128-bit tag; and the plaintext of a ciphertext
(spec/07 R253). -/
opaque sm4Gcm : Nat → Nat → List Nat → List Nat → List Nat
opaque sm4Tag : Nat → Nat → List Nat → List Nat → Nat

/-- The key encryption key that G.9804.2 derives from a master session key, and AES-128 in ECB mode backwards over a 16-byte
block: key, block (spec/07 R246, R249). -/
opaque kek : Nat → Nat
opaque ecbOpen : Nat → Nat → Nat

/-- The AES key wrap of RFC 3394: wrapping key, key bytes; and the key of wrapped bytes (spec/07 R245, spec/11 R402). -/
opaque keyWrap : Nat → List Nat → List Nat
opaque keyUnwrap : Nat → List Nat → List Nat

/-- The Alternate BMCA of G.8275.1 (spec/13 R437): from the ports that take part, each with the data of its last Announce + 1 (0
none), its localPriority and its notSlave, and the device's own clock class, identity and Priority2: the IEEE 1588 state of each
port. -/
opaque bestMaster : List (Nat × Nat × Nat × Nat) → Nat → Nat → Nat → List (Nat × Nat)

/-- The IEEE 1588 clock identity that comes from a device identity (spec/13 R447). -/
opaque clockIdentity : Nat → Nat

/-- SM3 of bytes (spec/15 R486 to R488, R498, R503). -/
opaque sm3 : List Nat → Nat

/-- HMAC-SM3: key, bytes (spec/14 R455, R470). -/
opaque hmacSm3 : Nat → List Nat → Nat

/-- The key exchange of GB/T 32918.3 (spec/14 R456): the public key of an ephemeral secret; and, from the responder's public key
(its pair), its ephemeral secret, and the initiator's identifier, public key and ephemeral public key: the 96 bytes of key
material, and the confirmation value of the responder (true) or of the initiator. -/
opaque sm2Public : Nat → Nat
opaque sm2Material : Nat → Nat → Nat → Nat → Nat → Nat
opaque sm2Confirm : Bool → Nat → Nat → Nat → Nat → Nat → Nat

/-- The SM4 block cipher of the standard (spec/14 R458): key and 128-bit block. -/
opaque sm4 : Nat → Nat → Nat

end Sys2Proof.Config
end

