-- ==== Sys2Proof/Machine/Objects.lean ====
section
/-!
DEFINITION. Machine/Objects.lean: the object dictionary as the spec's object tables give it: every index and
subindex with its type, access code, stated range and default, the instances that exist, the ownership kind of an
instance, what is reserved to the owner, and which event numbers last. A tree object at B + off of tree t is held
under index 0x2000 + off with instance t, or 1024 t + p for the tables among them (spec/00 R18).
-/
namespace Sys2Proof.Machine

/-- The object types of spec/00 R19. -/
inductive Ty where
  | bool | u8 | u16 | u32 | u64 | i16 | i32 | i64 | time80
  | octets (n : Nat)
  | text (n : Nat)
  deriving DecidableEq, Repr

/-- The access codes of spec/00 R20. -/
inductive Code where
  | ro | rw | wo | rwd | cmd
  deriving DecidableEq, Repr

/-- A range that an object's row states for its values. -/
inductive Rng where
  | any
  | between (lo hi : Int)
  /-- lo to hi, or one further value. -/
  | orElse (lo hi other : Int)
  | oneOf (l : List Int)
  /-- A power of two from lo to hi. -/
  | pow2 (lo hi : Int)
  /-- 0, or a power of two from lo to hi. -/
  | pow2or0 (lo hi : Int)
  /-- A multiple of n. -/
  | aligned (n : Int)
  /-- A role code of 0x1110[p].03 (spec/14 R480). -/
  | role
  deriving DecidableEq, Repr

/-- One row of an object table. -/
structure Row where
  index : Nat
  sub : Nat
  ty : Ty
  acc : Code
  rng : Rng
  dflt : Reg
  deriving DecidableEq, Repr

/-- Width of a type in bytes (spec/14 R449). -/
def Ty.bytes : Ty → Nat
  | .bool | .u8 => 1
  | .u16 | .i16 => 2
  | .u32 | .i32 => 4
  | .u64 | .i64 => 8
  | .time80 => 10
  | .octets n | .text n => n

/-- Signed types. -/
def Ty.signed : Ty → Bool
  | .i16 | .i32 | .i64 => true
  | _ => false

/-- The integer that a value of a type stands for. -/
def Ty.int (t : Ty) (v : Reg) : Int := if t.signed then toInt (8 * t.bytes) v else v

/-- The write lengths a type allows (R450). -/
def Ty.lengthOk : Ty → Nat → Bool
  | .octets n, l => 1 ≤ l && l ≤ n
  | .text n, l => 1 ≤ l && l ≤ n
  | t, l => l == t.bytes

/-- A value of length l as the object holds it: a shorter octet string or text is filled with zero bytes
behind it (R449). -/
def Ty.fill (t : Ty) (l : Nat) (v : Reg) : Reg :=
  match t with
  | .octets n => v * 2 ^ (8 * (n - l))
  | .text n => v * 2 ^ (8 * (n - l))
  | _ => v

/-- A value lies in a stated range. -/
def Rng.ok : Rng → Int → Bool
  | .any, _ => true
  | .between lo hi, x => lo ≤ x && x ≤ hi
  | .orElse lo hi o, x => (lo ≤ x && x ≤ hi) || x == o
  | .oneOf l, x => l.contains x
  | .pow2 lo hi, x => lo ≤ x && x ≤ hi && isPow2 x.toNat
  | .pow2or0 lo hi, x => x == 0 || (lo ≤ x && x ≤ hi && isPow2 x.toNat)
  | .aligned n, x => x % n == 0
  | .role, x => (0 ≤ x && x ≤ 3) || (0x10 ≤ x && x ≤ 0x1F)

/-- A write's value passes its row: a BOOL is 0 or 1 (R449), and the stated range holds. -/
def Row.valueOk (r : Row) (v : Reg) : Bool := (r.ty != .bool || v ≤ 1) && r.rng.ok (r.ty.int v)

namespace Objects

/-- Rows of the object tables of chapter 01 of spec/. -/
def rows01a : List Row := [
  ⟨0x1040, 0x01, .u16, .ro, .any, 800⟩,  -- Core set point
  ⟨0x1040, 0x02, .u16, .ro, .any, 0⟩,  -- Core measured
  ⟨0x1040, 0x03, .u16, .rw, .between 720 800, 720⟩,  -- Core floor
  ⟨0x1040, 0x04, .u16, .rw, .between 720 800, 800⟩,  -- Core ceiling
  ⟨0x1040, 0x05, .i32, .ro, .any, 0⟩,  -- Hottest junction
  ⟨0x1040, 0x06, .i32, .rw, .between 9000 12000, 11500⟩,  -- Warning threshold
  ⟨0x1040, 0x07, .i32, .rw, .between 10000 12500, 12500⟩,  -- Critical threshold
  ⟨0x1040, 0x08, .i32, .ro, .any, 13500⟩,  -- Shutdown threshold
  ⟨0x1040, 0x09, .u8, .ro, .any, 1⟩,  -- Refresh multiplier, MS0
  ⟨0x1040, 0x0A, .u8, .ro, .any, 1⟩,  -- Refresh multiplier, MS1
  ⟨0x1040, 0x0B, .u8, .ro, .any, 0⟩,  -- Last reset cause
  ⟨0x1041, 0x01, .u16, .ro, .any, 0⟩,  -- Rail reading
  ⟨0x1041, 0x02, .u16, .ro, .any, 0⟩,  -- Rail minimum seen
  ⟨0x1041, 0x03, .u16, .ro, .any, 0⟩,  -- Rail maximum seen
  ⟨0x1041, 0x04, .u32, .ro, .any, 0⟩,  -- Excursion count
  ⟨0x1041, 0x05, .bool, .cmd, .any, 0⟩,  -- Clear
  ⟨0x1042, 0x01, .i32, .ro, .any, 0⟩,  -- Temperature
  ⟨0x1050, 0x01, .u8, .ro, .any, 0⟩,  -- Reference state
  ⟨0x1050, 0x02, .i32, .ro, .any, 0⟩,  -- Reference offset
  ⟨0x1050, 0x03, .u32, .ro, .any, 0⟩,  -- Loss count
  ⟨0x1051, 0x01, .u32, .ro, .any, 0⟩,  -- Island clock
  ⟨0x1051, 0x02, .u8, .ro, .any, 0⟩,  -- Island state
  ⟨0x5E80, 0x01, .u16, .rwd, .any, 30⟩,  -- Burst reset lead
  ⟨0x5E80, 0x02, .u16, .rwd, .between 1 255, 10⟩,  -- Burst reset width
  ⟨0x5E80, 0x03, .u16, .rwd, .any, 10⟩,  -- Burst-enable lead
  ⟨0x5E80, 0x04, .u16, .rwd, .any, 5⟩,  -- Burst-enable lag
  ⟨0x5E80, 0x05, .u16, .rwd, .any, 50⟩,  -- Trigger delay
  ⟨0x5E80, 0x06, .u16, .rwd, .any, 100⟩,  -- Trigger width
  ⟨0x5E80, 0x07, .u16, .rwd, .any, 30⟩,  -- Coexistence reset lead
  ⟨0x5E80, 0x08, .u16, .rwd, .between 1 255, 10⟩]  -- Coexistence reset width

/-- The object tables of chapter 01. -/
def rows01 : List Row := rows01a

/-- Rows of the object tables of chapter 02 of spec/. -/
def rows02a : List Row := [
  ⟨0x2000, 0x01, .u8, .ro, .any, 0⟩,  -- Main-lane state
  ⟨0x2000, 0x02, .bool, .cmd, .any, 0⟩,  -- Main-lane enable
  ⟨0x2000, 0x03, .u32, .rwd, .any, 0⟩,  -- PON-ID
  ⟨0x2000, 0x04, .u32, .rwd, .between 0 124999, 0⟩,  -- Frame phase offset
  ⟨0x2000, 0x05, .u64, .ro, .any, 0⟩,  -- Superframe counter
  ⟨0x2000, 0x06, .u32, .rw, .between 10 100000, 1000⟩,  -- Drain limit
  ⟨0x2000, 0x07, .u8, .rw, .between 1 32, 16⟩,  -- PLOAM per frame
  ⟨0x2001, 0x01, .u8, .ro, .any, 0⟩,  -- Current mode
  ⟨0x2001, 0x02, .bool, .ro, .any, 0⟩,  -- Current precoding
  ⟨0x2001, 0x03, .u8, .rw, .between 0 1, 0⟩,  -- Target mode
  ⟨0x2001, 0x04, .bool, .rw, .any, 0⟩,  -- Target precoding
  ⟨0x2001, 0x05, .u16, .rw, .between 16 8000, 80⟩,  -- Announce lead
  ⟨0x2001, 0x06, .u8, .rw, .between 1 16, 2⟩,  -- Dark frames
  ⟨0x2001, 0x07, .bool, .cmd, .any, 0⟩,  -- Switch
  ⟨0x2001, 0x08, .u64, .ro, .any, 0⟩,  -- Switch frame
  ⟨0x2001, 0x09, .u16, .ro, .any, 0⟩,  -- Notices acknowledged
  ⟨0x2001, 0x0A, .u16, .ro, .any, 0⟩,  -- Incapable terminals
  ⟨0x2001, 0x0B, .u16, .ro, .any, 0⟩,  -- Mode generation
  ⟨0x2002, 0x01, .u8, .ro, .any, 0⟩,  -- Coexistence state
  ⟨0x2002, 0x02, .bool, .cmd, .any, 0⟩,  -- Coexistence enable
  ⟨0x2002, 0x03, .u32, .rwd, .any, 0⟩,  -- Coexistence PON-ID
  ⟨0x2003, 0x01, .u8, .ro, .any, 0⟩,  -- Protection role
  ⟨0x2003, 0x02, .u16, .rwd, .any, 65535⟩,  -- Partner
  ⟨0x2003, 0x03, .bool, .cmd, .any, 0⟩,  -- Protection enable
  ⟨0x2003, 0x04, .i32, .ro, .any, 0⟩,  -- Feeder skew
  ⟨0x2003, 0x05, .bool, .ro, .any, 0⟩,  -- Standby ready
  ⟨0x2003, 0x06, .u16, .rw, .between 16 1024, 256⟩,  -- Post-switch guard
  ⟨0x2003, 0x07, .bool, .cmd, .any, 0⟩,  -- Manual switch
  ⟨0x2003, 0x08, .bool, .rw, .any, 0⟩,  -- Lockout
  ⟨0x2003, 0x09, .u8, .rw, .between 1 8, 2⟩,  -- Loss-detect frames
  ⟨0x2003, 0x0A, .u16, .rw, .between 10 1000, 100⟩,  -- Resume wait
  ⟨0x2003, 0x0B, .u32, .ro, .any, 0⟩,  -- Switch count
  ⟨0x2003, 0x0C, .u32, .ro, .any, 0⟩,  -- Last switch time
  ⟨0x2004, 0x01, .u64, .ro, .any, 0⟩,  -- Frames sent
  ⟨0x2004, 0x02, .u64, .ro, .any, 0⟩,  -- XGEM frames sent
  ⟨0x2004, 0x03, .u64, .ro, .any, 0⟩,  -- Idle XGEM frames
  ⟨0x2004, 0x04, .u64, .ro, .any, 0⟩,  -- Bytes sent
  ⟨0x2004, 0x05, .u64, .ro, .any, 0⟩,  -- Drain discards
  ⟨0x2004, 0x06, .u64, .ro, .any, 0⟩]  -- PLOAM sent

/-- The object tables of chapter 02. -/
def rows02 : List Row := rows02a

/-- Rows of the object tables of chapter 03 of spec/. -/
def rows03a : List Row := [
  ⟨0x2005, 0x01, .u8, .rw, .between 0 2, 2⟩,  -- Rate
  ⟨0x2005, 0x02, .u16, .rw, .between 64 16384, 1024⟩,  -- Preamble length
  ⟨0x2005, 0x03, .octets 8, .rw, .any, 0xaaaaaaaaaaaaaaaa⟩,  -- Preamble pattern
  ⟨0x2005, 0x04, .u8, .rw, .oneOf [32, 64], 64⟩,  -- Delimiter length
  ⟨0x2005, 0x05, .octets 8, .rw, .any, 0xb5983e4dc2710f6a⟩,  -- Delimiter pattern
  ⟨0x2005, 0x06, .u8, .rw, .between 0 8, 3⟩,  -- Delimiter tolerance
  ⟨0x2005, 0x07, .bool, .rw, .any, 1⟩,  -- FEC
  ⟨0x2005, 0x08, .u16, .ro, .any, 0⟩,  -- Terminals assigned
  ⟨0x2006, 0x01, .u8, .ro, .between 0 2, 3⟩,  -- Rate
  ⟨0x2006, 0x02, .u16, .rw, .between 64 16384, 1024⟩,  -- Preamble length
  ⟨0x2006, 0x03, .octets 8, .rw, .any, 0xaaaaaaaaaaaaaaaa⟩,  -- Preamble pattern
  ⟨0x2006, 0x04, .u8, .rw, .oneOf [32, 64], 64⟩,  -- Delimiter length
  ⟨0x2006, 0x05, .octets 8, .rw, .any, 0xb5983e4dc2710f6a⟩,  -- Delimiter pattern
  ⟨0x2006, 0x06, .u8, .rw, .between 0 8, 3⟩,  -- Delimiter tolerance
  ⟨0x2006, 0x07, .bool, .rw, .any, 1⟩,  -- FEC
  ⟨0x2006, 0x08, .u16, .ro, .any, 0⟩,  -- Terminals assigned
  ⟨0x2007, 0x01, .u64, .ro, .any, 0⟩,  -- Bursts granted
  ⟨0x2007, 0x02, .u64, .ro, .any, 0⟩,  -- Bursts found
  ⟨0x2007, 0x03, .u64, .ro, .any, 0⟩,  -- Bursts missing
  ⟨0x2007, 0x04, .u64, .ro, .any, 0⟩,  -- Header errors
  ⟨0x2007, 0x05, .u64, .ro, .any, 0⟩,  -- Records committed
  ⟨0x2007, 0x06, .u64, .ro, .any, 0⟩,  -- Frames rewound
  ⟨0x2007, 0x07, .u64, .ro, .any, 0⟩,  -- Unknown-flow frames
  ⟨0x2007, 0x08, .u64, .ro, .any, 0⟩,  -- Hunts
  ⟨0x2007, 0x09, .u64, .ro, .any, 0⟩,  -- Hunt bytes lost
  ⟨0x2007, 0x0A, .u64, .ro, .any, 0⟩,  -- Reassembly timeouts
  ⟨0x2007, 0x0B, .u64, .ro, .any, 0⟩,  -- Reassembly overflow discards
  ⟨0x2007, 0x0C, .u64, .ro, .any, 0⟩,  -- Corrected headers
  ⟨0x2007, 0x0D, .u64, .ro, .any, 0⟩,  -- Upstream drain discards
  ⟨0x2007, 0x0E, .u8, .ro, .any, 0⟩,  -- Upstream state
  ⟨0x2008, 0x01, .u8, .ro, .any, 0⟩,  -- Filling bank
  ⟨0x2008, 0x02, .u32, .ro, .any, 0⟩,  -- Unread words
  ⟨0x2008, 0x03, .u64, .ro, .any, 0⟩,  -- Frames dropped full
  ⟨0x2008, 0x04, .u64, .ro, .any, 0⟩,  -- Bytes dropped full
  ⟨0x2008, 0x05, .u64, .ro, .any, 0⟩,  -- Patch markers
  ⟨0x2008, 0x06, .u64, .ro, .any, 0⟩,  -- Empty reads
  ⟨0x2008, 0x07, .u16, .rw, .between 100 10000, 2000⟩,  -- Reassembly timeout
  ⟨0x2008, 0x08, .u16, .rw, .between 64 10240, 10240⟩,  -- Maximum SDU
  ⟨0x2008, 0x09, .u64, .ro, .any, 0⟩,  -- Poisoned records
  ⟨0x2009, 0x01, .u16, .rw, .between 10 400, 60⟩,  -- Energy threshold
  ⟨0x2009, 0x02, .u64, .ro, .any, 0⟩,  -- Out-of-grant blocks
  ⟨0x2009, 0x03, .u64, .ro, .any, 0⟩,  -- Frames with out-of-grant light
  ⟨0x2009, 0x04, .u64, .ro, .any, 0⟩,  -- Light without delimiter
  ⟨0x2009, 0x05, .u8, .rw, .between 1 8, 8⟩,  -- Spans per report
  ⟨0x200A, 0x01, .u16, .cmd, .any, 0⟩]  -- Signal-strength request

/-- Rows of the object tables of chapter 03 of spec/. -/
def rows03b : List Row := [
  ⟨0x200A, 0x02, .u16, .ro, .any, 0⟩,  -- Receive power
  ⟨0x200A, 0x03, .time80, .ro, .any, 0⟩,  -- Measured burst
  ⟨0x200A, 0x04, .u8, .ro, .any, 0⟩,  -- Measurement state
  ⟨0x2010, 0x01, .u64, .ro, .any, 0⟩,  -- Bursts
  ⟨0x2010, 0x02, .u64, .ro, .any, 0⟩,  -- Missing bursts
  ⟨0x2010, 0x03, .i32, .ro, .any, 0⟩,  -- Last arrival phase
  ⟨0x2010, 0x04, .u64, .ro, .any, 0⟩,  -- Delimiter bit errors
  ⟨0x2010, 0x05, .u64, .ro, .any, 0⟩,  -- Corrected bits
  ⟨0x2010, 0x06, .u64, .ro, .any, 0⟩,  -- Uncorrectable codewords
  ⟨0x2010, 0x07, .u64, .ro, .any, 0⟩,  -- Header errors
  ⟨0x2010, 0x08, .bool, .cmd, .any, 0⟩]  -- Clear

/-- The object tables of chapter 03. -/
def rows03 : List Row := rows03a ++ rows03b

/-- Rows of the object tables of chapter 04 of spec/. -/
def rows04a : List Row := [
  ⟨0x3000, 0x01, .bool, .rw, .any, 0⟩,  -- Provisioned
  ⟨0x3000, 0x02, .octets 8, .rwd, .any, 0⟩,  -- Serial number
  ⟨0x3000, 0x03, .octets 36, .rwd, .any, 0⟩,  -- Registration ID
  ⟨0x3000, 0x04, .u8, .ro, .any, 0⟩,  -- State
  ⟨0x3000, 0x05, .u16, .ro, .any, 65535⟩,  -- ONU-ID
  ⟨0x3000, 0x06, .u32, .ro, .any, 0⟩,  -- Equalisation delay
  ⟨0x3000, 0x07, .u32, .ro, .any, 0⟩,  -- Distance
  ⟨0x3000, 0x08, .u32, .ro, .any, 0⟩,  -- Response delay
  ⟨0x3000, 0x09, .u8, .ro, .any, 0⟩,  -- Capabilities
  ⟨0x3000, 0x0A, .u8, .ro, .any, 0⟩,  -- Muffling state
  ⟨0x3000, 0x0B, .bool, .cmd, .any, 0⟩,  -- Deactivate
  ⟨0x3000, 0x0C, .bool, .cmd, .any, 0⟩,  -- Release muffle
  ⟨0x3000, 0x0D, .i32, .ro, .any, 0⟩,  -- Cumulative drift
  ⟨0x3000, 0x0E, .time80, .ro, .any, 0⟩,  -- Last state change
  ⟨0x3000, 0x0F, .u8, .ro, .any, 0⟩,  -- Lane
  ⟨0x3000, 0x10, .u8, .ro, .any, 0⟩,  -- Last deactivation cause
  ⟨0x3000, 0x11, .u64, .ro, .any, 0⟩,  -- Drain discards
  ⟨0x3100, 0x01, .u8, .rw, .between 0 1, 0⟩,  -- Admission mode
  ⟨0x3100, 0x02, .u32, .rwd, .any, 0⟩,  -- Minimum distance
  ⟨0x3100, 0x03, .u32, .rwd, .between 0 60000, 20000⟩,  -- Maximum distance
  ⟨0x3100, 0x04, .u16, .rwd, .between 4800 5000, 4896⟩,  -- Propagation
  ⟨0x3100, 0x05, .u32, .rwd, .any, 34000⟩,  -- Response time minimum
  ⟨0x3100, 0x06, .u32, .rwd, .any, 36000⟩,  -- Response time maximum
  ⟨0x3100, 0x07, .u32, .rwd, .between 0 100000, 48000⟩,  -- Random delay span
  ⟨0x3100, 0x08, .u16, .rwd, .between 200 10000, 1000⟩,  -- Response allowance
  ⟨0x3100, 0x09, .u8, .rwd, .between 0 3, 0⟩,  -- Discovery profile
  ⟨0x3100, 0x0A, .u32, .rw, .between 200 20000, 2000⟩,  -- Rest-beat budget
  ⟨0x3100, 0x0B, .u32, .rw, .between 100 10000, 100⟩,  -- Discovery interval minimum
  ⟨0x3100, 0x0C, .u32, .rw, .between 100 10000, 10000⟩,  -- Discovery interval maximum
  ⟨0x3100, 0x0D, .u32, .ro, .any, 100⟩,  -- Discovery interval
  ⟨0x3100, 0x0E, .bool, .cmd, .any, 0⟩,  -- Discover now
  ⟨0x3100, 0x0F, .u16, .rwd, .between 100 2000, 500⟩,  -- Rejoin margin
  ⟨0x3100, 0x10, .u16, .rw, .between 10 1000, 100⟩,  -- Keep-alive period
  ⟨0x3100, 0x11, .u16, .rw, .between 10 10000, 100⟩,  -- Rejoin interval
  ⟨0x3100, 0x12, .u32, .rw, .between 1 86400, 600⟩,  -- Rejoin hold
  ⟨0x3100, 0x13, .u8, .rw, .between 2 32, 4⟩,  -- Loss frames
  ⟨0x3100, 0x14, .u8, .rw, .between 1 8, 3⟩,  -- Ranging attempts
  ⟨0x3100, 0x15, .u32, .ro, .any, 0⟩,  -- Equalisation target
  ⟨0x3100, 0x16, .u16, .ro, .any, 0⟩,  -- Terminals in operation
  ⟨0x3100, 0x17, .u32, .ro, .any, 0⟩,  -- Rest-beat time
  ⟨0x3100, 0x18, .u8, .rw, .between 2 15, 4⟩,  -- Drift threshold
  ⟨0x3100, 0x19, .u8, .rw, .between 4 64, 16⟩,  -- Drift run
  ⟨0x3100, 0x1A, .u8, .rw, .between 1 8, 3⟩,  -- Capability requests
  ⟨0x3101, 0x01, .u64, .ro, .any, 0⟩,  -- Discovery beats
  ⟨0x3101, 0x02, .u64, .ro, .any, 0⟩]  -- Serial numbers received

/-- Rows of the object tables of chapter 04 of spec/. -/
def rows04b : List Row := [
  ⟨0x3101, 0x03, .u64, .ro, .any, 0⟩,  -- Unknown serial numbers
  ⟨0x3101, 0x04, .u64, .ro, .any, 0⟩,  -- Duplicate serial numbers
  ⟨0x3101, 0x05, .u64, .ro, .any, 0⟩,  -- Ranging failures
  ⟨0x3101, 0x06, .u64, .ro, .any, 0⟩,  -- Rest beats deferred
  ⟨0x3101, 0x07, .u64, .ro, .any, 0⟩,  -- Drift corrections
  ⟨0x3101, 0x08, .u64, .ro, .any, 0⟩,  -- Tree-full refusals
  ⟨0x3101, 0x09, .u64, .ro, .any, 0⟩,  -- Ignored events
  ⟨0x3101, 0x0A, .u64, .ro, .any, 0⟩,  -- Device-full refusals
  ⟨0x3102, 0x01, .u16, .ro, .any, 0⟩,  -- Terminals held
  ⟨0x3200, 0x01, .bool, .rw, .any, 1⟩,  -- Muffling enable
  ⟨0x3200, 0x02, .u8, .rw, .between 4 16, 8⟩,  -- Detection window
  ⟨0x3200, 0x03, .u8, .rw, .between 1 16, 3⟩,  -- Detection count
  ⟨0x3200, 0x04, .u8, .rw, .between 4 24, 8⟩,  -- Observe frames
  ⟨0x3200, 0x05, .u8, .rw, .between 0 16, 8⟩,  -- Withholding candidates
  ⟨0x3200, 0x06, .u8, .rw, .between 50 100, 90⟩,  -- Continuous ratio
  ⟨0x3200, 0x07, .u8, .ro, .any, 0⟩,  -- Sequence state
  ⟨0x3200, 0x08, .u16, .ro, .any, 65535⟩,  -- Current candidate
  ⟨0x3200, 0x09, .bool, .cmd, .any, 0⟩,  -- Start
  ⟨0x3200, 0x0A, .bool, .cmd, .any, 0⟩,  -- Abort
  ⟨0x3200, 0x0B, .u32, .ro, .any, 0⟩,  -- Rogues muffled
  ⟨0x3200, 0x0C, .u32, .ro, .any, 0⟩,  -- Last isolation time
  ⟨0x3200, 0x0D, .u16, .rw, .between 1 65535, 16⟩]  -- Lit threshold

/-- The object tables of chapter 04. -/
def rows04 : List Row := rows04a ++ rows04b

/-- Rows of the object tables of chapter 05 of spec/. -/
def rows05a : List Row := [
  ⟨0x3400, 0x01, .bool, .rw, .any, 0⟩,  -- Provisioned
  ⟨0x3400, 0x02, .u16, .rwd, .any, 65535⟩,  -- Terminal
  ⟨0x3400, 0x03, .u16, .rwd, .between 1024 16383, 0⟩,  -- Alloc-ID
  ⟨0x3400, 0x04, .u8, .rwd, .between 0 3, 3⟩,  -- Kind
  ⟨0x3400, 0x05, .u8, .rw, .between 0 1, 0⟩,  -- Reporting
  ⟨0x3400, 0x06, .u8, .rw, .between 1 16, 1⟩,  -- Poll interval
  ⟨0x3400, 0x07, .bool, .rw, .any, 0⟩,  -- Flam enable
  ⟨0x3400, 0x08, .u16, .rw, .between 64 8192, 256⟩,  -- Flam burst bytes
  ⟨0x3400, 0x09, .bool, .rw, .any, 1⟩,  -- Flam poll
  ⟨0x3400, 0x0A, .u32, .ro, .any, 0⟩,  -- Demand estimate
  ⟨0x3400, 0x0B, .u32, .ro, .any, 0⟩,  -- Last report
  ⟨0x3400, 0x0C, .u64, .ro, .any, 0⟩,  -- Bytes granted
  ⟨0x3400, 0x0D, .u64, .ro, .any, 0⟩,  -- Grants
  ⟨0x3400, 0x0E, .u64, .ro, .any, 0⟩,  -- Flam grants
  ⟨0x3400, 0x0F, .u64, .ro, .any, 0⟩,  -- No reports
  ⟨0x3400, 0x10, .bool, .ro, .any, 0⟩,  -- Assigned
  ⟨0x3500, 0x01, .u32, .ro, .any, 0⟩,  -- Allocations provisioned
  ⟨0x3500, 0x02, .u64, .ro, .any, 0⟩,  -- Limit refusals
  ⟨0x3600, 0x01, .u16, .rwd, .between 256 16384, 2048⟩,  -- Guard time
  ⟨0x3600, 0x02, .u16, .rwd, .between 64 4096, 256⟩,  -- Coexistence guard time
  ⟨0x3600, 0x03, .u16, .rwd, .between 1024 16383, 16383⟩,  -- Open-slot Alloc-ID
  ⟨0x3600, 0x04, .u16, .rwd, .any, 65527⟩,  -- Flam flow
  ⟨0x3600, 0x05, .u16, .rw, .between 0 48599, 0⟩,  -- Open-slot offset
  ⟨0x3600, 0x06, .u16, .rw, .between 0 48600, 0⟩,  -- Open-slot length
  ⟨0x3600, 0x07, .u8, .rw, .between 1 64, 8⟩,  -- PLOAMu interval
  ⟨0x3600, 0x08, .u64, .ro, .any, 0⟩,  -- Fresh maps
  ⟨0x3600, 0x09, .u64, .ro, .any, 0⟩,  -- Held maps
  ⟨0x3600, 0x0A, .u64, .ro, .any, 0⟩,  -- Empty maps
  ⟨0x3600, 0x0B, .u64, .ro, .any, 0⟩,  -- Entries refused
  ⟨0x3600, 0x0C, .u64, .ro, .any, 0⟩,  -- Late seals
  ⟨0x3600, 0x0D, .u64, .ro, .any, 0⟩,  -- Lower claims refused
  ⟨0x3600, 0x0E, .u64, .ro, .any, 0⟩,  -- Bulletins sent
  ⟨0x3600, 0x0F, .u64, .ro, .any, 0⟩,  -- Bulletins refused
  ⟨0x3600, 0x10, .u64, .ro, .any, 0⟩,  -- Bulletins skipped
  ⟨0x3600, 0x11, .u32, .ro, .any, 0⟩,  -- Flam time committed
  ⟨0x3600, 0x12, .u8, .ro, .any, 0⟩,  -- Last refusal cause
  ⟨0x3600, 0x13, .u16, .ro, .any, 0⟩,  -- Accepted claim
  ⟨0x3600, 0x14, .u8, .ro, .any, 0⟩,  -- Hold frame
  ⟨0x3600, 0x15, .u16, .ro, .any, 0⟩,  -- Muted terminals
  ⟨0x3700, 0x01, .bool, .rw, .any, 0⟩,  -- Enable
  ⟨0x3700, 0x02, .u32, .rwd, .any, 0⟩,  -- CTI identifier
  ⟨0x3700, 0x03, .u32, .rwd, .any, 0xffffffff⟩,  -- Allocation
  ⟨0x3700, 0x04, .i32, .rw, .between (-100000) 100000, 0⟩,  -- Offset
  ⟨0x3700, 0x05, .u8, .rw, .between 0 100, 10⟩,  -- Margin
  ⟨0x3700, 0x06, .u32, .rw, .any, 0⟩]  -- Ceiling

/-- Rows of the object tables of chapter 05 of spec/. -/
def rows05b : List Row := [
  ⟨0x3700, 0x07, .u64, .ro, .any, 0⟩,  -- Reports accepted
  ⟨0x3700, 0x08, .u64, .ro, .any, 0⟩,  -- Late bytes
  ⟨0x3700, 0x09, .u64, .ro, .any, 0⟩,  -- Bytes pre-placed
  ⟨0x3700, 0x0A, .u64, .ro, .any, 0⟩,  -- Bytes unused
  ⟨0x3700, 0x0B, .u64, .ro, .any, 0⟩,  -- Bytes added on report
  ⟨0x3701, 0x01, .u64, .ro, .any, 0⟩]  -- Unmatched reports

/-- The object tables of chapter 05. -/
def rows05 : List Row := rows05a ++ rows05b

/-- Rows of the object tables of chapter 06 of spec/. -/
def rows06a : List Row := [
  ⟨0x3800, 0x01, .u8, .rw, .orElse 0 15 255, 255⟩,  -- Tenant
  ⟨0x3800, 0x02, .u8, .rwd, .between 0 8, 0⟩,  -- Kind
  ⟨0x3800, 0x03, .u32, .rwd, .any, 0⟩,  -- First instance
  ⟨0x3800, 0x04, .u32, .rwd, .any, 0⟩,  -- Last instance
  ⟨0x3800, 0x05, .u32, .ro, .any, 0⟩,  -- Instances in use
  ⟨0x3810, 0x01, .text 32, .rw, .any, 0⟩,  -- Name
  ⟨0x3810, 0x02, .u16, .rw, .between 1 1000, 1⟩,  -- Upstream weight
  ⟨0x3810, 0x03, .u16, .rw, .between 1 1000, 1⟩,  -- Downstream weight
  ⟨0x3810, 0x04, .u64, .ro, .any, 0⟩,  -- Reaches refused
  ⟨0x3810, 0x05, .u32, .ro, .any, 0⟩,  -- Last reach
  ⟨0x3820, 0x01, .u32, .rw, .any, 0⟩,  -- Upstream guarantee
  ⟨0x3820, 0x02, .u32, .rw, .any, 0xffffffff⟩,  -- Upstream ceiling
  ⟨0x3820, 0x03, .u32, .rw, .any, 0⟩,  -- Downstream guarantee
  ⟨0x3820, 0x04, .u32, .rw, .any, 0xffffffff⟩,  -- Downstream ceiling
  ⟨0x3820, 0x05, .u64, .ro, .any, 0⟩,  -- Upstream bytes charged
  ⟨0x3820, 0x06, .u64, .ro, .any, 0⟩,  -- Upstream bytes lent
  ⟨0x3820, 0x07, .u64, .ro, .any, 0⟩,  -- Upstream bytes borrowed
  ⟨0x3820, 0x08, .u64, .ro, .any, 0⟩,  -- Shortfall frames
  ⟨0x3820, 0x09, .u64, .ro, .any, 0⟩,  -- Shortfall bytes
  ⟨0x3820, 0x0A, .u64, .ro, .any, 0⟩,  -- Downstream bytes sent
  ⟨0x3880, 0x01, .u32, .rw, .between 1000 700000, 0⟩,  -- Upstream committed capacity
  ⟨0x3880, 0x02, .u32, .rw, .between 1000 760000, 0⟩,  -- Downstream committed capacity
  ⟨0x3880, 0x03, .u16, .rw, .between 1 1000, 1⟩,  -- Pool upstream weight
  ⟨0x3880, 0x04, .u16, .rw, .between 1 1000, 1⟩,  -- Pool downstream weight
  ⟨0x3880, 0x05, .u16, .rw, .between 16 1024, 64⟩,  -- Minimum grant
  ⟨0x3880, 0x06, .bool, .rw, .any, 1⟩,  -- Weight adaptation
  ⟨0x3880, 0x07, .bool, .rw, .any, 0⟩,  -- Profile adaptation
  ⟨0x3880, 0x08, .u16, .rw, .between 100 10000, 1000⟩,  -- Adaptation period
  ⟨0x3880, 0x09, .u8, .rw, .between 1 255, 64⟩,  -- Changes per period
  ⟨0x3880, 0x0A, .u64, .ro, .any, 0⟩,  -- Changes dropped
  ⟨0x3880, 0x0B, .u8, .ro, .any, 0⟩,  -- First tenant
  ⟨0x3900, 0x01, .u8, .rw, .between 0 3, 0⟩,  -- Current profile
  ⟨0x3900, 0x02, .u8, .rw, .between 1 15, 15⟩,  -- Allowed profiles
  ⟨0x3900, 0x03, .bool, .rw, .any, 1⟩,  -- Profile adaptation
  ⟨0x3900, 0x04, .u32, .ro, .any, 0⟩,  -- Error rate
  ⟨0x3900, 0x05, .u8, .ro, .any, 0⟩,  -- Up-hold count
  ⟨0x3900, 0x06, .u32, .ro, .any, 0⟩,  -- Profile changes
  ⟨0x3900, 0x07, .time80, .ro, .any, 0⟩,  -- Last profile change
  ⟨0x3900, 0x08, .u32, .ro, .any, 0⟩,  -- Floor periods
  ⟨0x3A00, 0x01, .u32, .rw, .any, 0⟩,  -- Fixed bytes
  ⟨0x3A00, 0x02, .u32, .rw, .any, 0⟩,  -- Assured bytes
  ⟨0x3A00, 0x03, .u32, .rw, .any, 0⟩,  -- Maximum bytes
  ⟨0x3A00, 0x04, .u16, .rw, .any, 8⟩,  -- Nominal weight
  ⟨0x3A00, 0x05, .u16, .rw, .any, 1⟩,  -- Weight minimum
  ⟨0x3A00, 0x06, .u16, .rw, .any, 64⟩]  -- Weight maximum

/-- Rows of the object tables of chapter 06 of spec/. -/
def rows06b : List Row := [
  ⟨0x3A00, 0x07, .u16, .ro, .any, 8⟩,  -- Current weight
  ⟨0x3A00, 0x08, .bool, .rw, .any, 1⟩,  -- Weight adaptation
  ⟨0x3A00, 0x09, .u16, .rw, .between 1 1000, 1⟩,  -- Best-effort weight
  ⟨0x3A00, 0x0A, .u8, .ro, .any, 0⟩,  -- Utilisation
  ⟨0x3A00, 0x0B, .u8, .ro, .any, 0⟩,  -- Unserved frames
  ⟨0x3A00, 0x0C, .u32, .ro, .any, 0⟩,  -- Weight changes
  ⟨0x3B00, 0x01, .u32, .rw, .any, 0x30d40⟩,  -- Enter threshold
  ⟨0x3B00, 0x02, .u32, .rw, .any, 0x1e8480⟩,  -- Leave threshold
  ⟨0x3B00, 0x03, .u8, .rw, .between 1 100, 10⟩,  -- Up-hold
  ⟨0x3B00, 0x04, .u8, .ro, .any, 0⟩]  -- Capacity rank

/-- The object tables of chapter 06. -/
def rows06 : List Row := rows06a ++ rows06b

/-- Rows of the object tables of chapter 07 of spec/. -/
def rows07a : List Row := [
  ⟨0x4000, 0x01, .u8, .rwd, .between 0 7, 0⟩,  -- Kind
  ⟨0x4000, 0x02, .octets 32, .wo, .any, 0⟩,  -- Key
  ⟨0x4000, 0x03, .u8, .rwd, .oneOf [16, 32], 16⟩,  -- Key length
  ⟨0x4000, 0x04, .u8, .ro, .any, 0⟩,  -- State
  ⟨0x4000, 0x05, .u8, .ro, .any, 0⟩,  -- Current key index
  ⟨0x4000, 0x06, .u16, .ro, .any, 0⟩,  -- Generation
  ⟨0x4000, 0x07, .u64, .ro, .any, 0⟩,  -- Usage
  ⟨0x4000, 0x08, .u64, .rw, .any, 0x10000000000⟩,  -- Soft limit
  ⟨0x4000, 0x09, .u64, .rw, .any, 0x20000000000⟩,  -- Hard limit
  ⟨0x4000, 0x0A, .bool, .ro, .any, 0⟩,  -- Exhausted
  ⟨0x4000, 0x0B, .bool, .cmd, .any, 0⟩,  -- Erase
  ⟨0x4000, 0x0C, .u64, .ro, .any, 0⟩,  -- Refused operations
  ⟨0x4000, 0x0D, .u64, .ro, .any, 0⟩,  -- Tag failures
  ⟨0x4000, 0x0E, .u32, .ro, .any, 0⟩,  -- Binding
  ⟨0x4000, 0x0F, .time80, .ro, .any, 0⟩,  -- Last change
  ⟨0x4100, 0x01, .u16, .rwd, .any, 65535⟩,  -- NRZ broadcast slot
  ⟨0x4100, 0x02, .u16, .rwd, .any, 65535⟩,  -- Double-stroke broadcast slot
  ⟨0x4100, 0x03, .u16, .rw, .between 100 10000, 1000⟩,  -- Retire hold
  ⟨0x4100, 0x04, .u64, .ro, .any, 0⟩,  -- SDUs dropped, key unusable
  ⟨0x4100, 0x05, .u64, .ro, .any, 0⟩,  -- Upstream tag failures
  ⟨0x4100, 0x06, .u64, .ro, .any, 0⟩,  -- Unknown key index
  ⟨0x4100, 0x07, .u64, .ro, .any, 0⟩,  -- Clear frames refused
  ⟨0x4200, 0x01, .u16, .rwd, .any, 65535⟩,  -- Standard slot
  ⟨0x4200, 0x02, .u16, .rwd, .any, 65535⟩,  -- Stroke slot
  ⟨0x4200, 0x03, .u16, .rwd, .any, 65535⟩,  -- Session slot
  ⟨0x4200, 0x04, .u8, .ro, .any, 0⟩,  -- Exchange state
  ⟨0x4200, 0x05, .u32, .ro, .any, 0⟩,  -- Exchanges completed
  ⟨0x4200, 0x06, .u32, .ro, .any, 0⟩,  -- Exchange failures
  ⟨0x4200, 0x07, .bool, .cmd, .any, 0⟩,  -- Rekey now
  ⟨0x4300, 0x01, .bool, .rw, .any, 0⟩,  -- Downstream encryption
  ⟨0x4300, 0x02, .u8, .rw, .between 0 1, 0⟩,  -- Key source
  ⟨0x4300, 0x03, .bool, .rw, .any, 0⟩,  -- Upstream encryption required
  ⟨0x4300, 0x04, .u64, .ro, .any, 0⟩,  -- Clear frames refused
  ⟨0x4380, 0x01, .bool, .cmd, .any, 0⟩,  -- Enable
  ⟨0x4380, 0x02, .u8, .ro, .any, 0⟩,  -- State
  ⟨0x4380, 0x03, .u8, .rwd, .orElse 0 15 255, 255⟩,  -- Owner
  ⟨0x4380, 0x04, .u64, .rwd, .aligned 64, 0⟩,  -- Descriptor ring base
  ⟨0x4380, 0x05, .u16, .rwd, .pow2 64 4096, 256⟩,  -- Ring size
  ⟨0x4380, 0x06, .u64, .rwd, .aligned 32, 0⟩,  -- Completion ring base
  ⟨0x4380, 0x07, .u16, .rw, .any, 0⟩,  -- Producer index
  ⟨0x4380, 0x08, .u16, .ro, .any, 0⟩,  -- Consumer index
  ⟨0x4380, 0x09, .u32, .rw, .between 10 100000, 1000⟩,  -- Drain limit
  ⟨0x4380, 0x0A, .u64, .ro, .any, 0⟩,  -- Jobs completed
  ⟨0x4380, 0x0B, .u64, .ro, .any, 0⟩,  -- Jobs failed
  ⟨0x4380, 0x0C, .u64, .ro, .any, 0⟩]  -- Bytes processed

/-- Rows of the object tables of chapter 07 of spec/. -/
def rows07b : List Row := [
  ⟨0x4380, 0x0D, .u64, .ro, .any, 0⟩]  -- Tag failures

/-- The object tables of chapter 07. -/
def rows07 : List Row := rows07a ++ rows07b

/-- Rows of the object tables of chapter 08 of spec/. -/
def rows08a : List Row := [
  ⟨0x4400, 0x01, .octets 72, .rw, .any, 0⟩,  -- Value
  ⟨0x4400, 0x02, .octets 72, .rw, .any, 0⟩,  -- Mask
  ⟨0x4400, 0x03, .u32, .rw, .any, 0⟩,  -- Action
  ⟨0x4400, 0x04, .bool, .rw, .any, 0⟩,  -- Valid
  ⟨0x4400, 0x05, .u64, .ro, .any, 0⟩,  -- Hits
  ⟨0x4400, 0x06, .u64, .ro, .any, 0⟩,  -- Queue actions ignored
  ⟨0x4480, 0x01, .u16, .ro, .any, 0⟩,  -- Current coat number
  ⟨0x4480, 0x02, .u8, .ro, .any, 0⟩,  -- Slot 0 state
  ⟨0x4480, 0x03, .u8, .ro, .any, 2⟩,  -- Slot 1 state
  ⟨0x4480, 0x04, .bool, .cmd, .any, 0⟩,  -- Swap
  ⟨0x4480, 0x05, .bool, .cmd, .any, 0⟩,  -- Copy
  ⟨0x4480, 0x06, .u32, .ro, .any, 0⟩,  -- Packets on old coat
  ⟨0x4480, 0x07, .u64, .ro, .any, 0⟩,  -- Swaps
  ⟨0x4480, 0x08, .time80, .ro, .any, 0⟩,  -- Last swap
  ⟨0x4480, 0x09, .u32, .ro, .any, 0⟩,  -- Last release delay
  ⟨0x4480, 0x0A, .u64, .ro, .any, 0⟩,  -- Writes refused
  ⟨0x4490, 0x01, .u32, .rwd, .any, 0⟩,  -- Hash seed
  ⟨0x4490, 0x02, .u16, .rwd, .any, 37120⟩,  -- Tag TPID
  ⟨0x4491, 0x01, .u64, .ro, .any, 0⟩,  -- Packets
  ⟨0x4491, 0x02, .u64, .ro, .any, 0⟩,  -- Input drops
  ⟨0x4491, 0x03, .u64, .ro, .any, 0⟩,  -- Recirculations
  ⟨0x4491, 0x04, .u64, .ro, .any, 0⟩,  -- Parse incomplete
  ⟨0x4491, 0x05, .u64, .ro, .any, 0⟩,  -- Malformed drops
  ⟨0x4491, 0x06, .u64, .ro, .any, 0⟩,  -- No-domain drops
  ⟨0x4491, 0x07, .u64, .ro, .any, 0⟩,  -- Routing drops
  ⟨0x4491, 0x08, .u64, .ro, .any, 0⟩,  -- Hairpin drops
  ⟨0x44A0, 0x01, .u32, .rw, .any, 0⟩,  -- LAG members
  ⟨0x44A0, 0x02, .octets 256, .ro, .any, 0⟩,  -- Live map
  ⟨0x44A0, 0x03, .u32, .ro, .any, 0⟩,  -- Members in service
  ⟨0x44A0, 0x04, .u64, .ro, .any, 0⟩,  -- Recomputations
  ⟨0x44A0, 0x05, .u64, .ro, .any, 0⟩,  -- No-member drops
  ⟨0x4500, 0x01, .u32, .ro, .any, 0⟩,  -- Entries in use
  ⟨0x4500, 0x02, .u16, .rw, .between 100 10000, 2000⟩,  -- Fragment lifetime
  ⟨0x4500, 0x03, .u16, .rw, .between 100 20000, 5000⟩,  -- Hold time
  ⟨0x4500, 0x04, .u8, .rw, .between 1 8, 8⟩,  -- Hold per key
  ⟨0x4500, 0x05, .u16, .ro, .any, 0⟩,  -- Held now
  ⟨0x4500, 0x06, .u64, .ro, .any, 0⟩,  -- First fragments stored
  ⟨0x4500, 0x07, .u64, .ro, .any, 0⟩,  -- Held fragments matched
  ⟨0x4500, 0x08, .u64, .ro, .any, 0⟩,  -- Table-full refusals
  ⟨0x4500, 0x09, .u64, .ro, .any, 0⟩,  -- Later fragments matched
  ⟨0x4500, 0x0A, .u64, .ro, .any, 0⟩,  -- Timed out
  ⟨0x4500, 0x0B, .u64, .ro, .any, 0⟩,  -- Not held
  ⟨0x4600, 0x01, .octets 24, .wo, .any, 0⟩,  -- Route command
  ⟨0x4600, 0x02, .u8, .ro, .any, 0⟩,  -- Last result
  ⟨0x4600, 0x03, .u32, .ro, .any, 0⟩]  -- IPv4 prefixes

/-- Rows of the object tables of chapter 08 of spec/. -/
def rows08b : List Row := [
  ⟨0x4600, 0x04, .u32, .ro, .any, 0⟩,  -- IPv6 prefixes
  ⟨0x4600, 0x05, .u64, .ro, .any, 0⟩,  -- Inserts refused
  ⟨0x4601, 0x01, .u32, .ro, .any, 0⟩,  -- Table IPv4 prefixes
  ⟨0x4601, 0x02, .u32, .ro, .any, 0⟩,  -- Table IPv6 prefixes
  ⟨0x4700, 0x01, .u32, .rw, .any, 0⟩,  -- Next-hop destination
  ⟨0x4700, 0x02, .octets 6, .rw, .any, 0⟩,  -- Next-hop MAC
  ⟨0x4700, 0x03, .u32, .ro, .any, 0⟩,  -- Routes using
  ⟨0x4800, 0x01, .u8, .rwd, .orElse 0 47 255, 255⟩,  -- Tree
  ⟨0x4800, 0x02, .u16, .rwd, .any, 65535⟩,  -- XGEM port ID
  ⟨0x4800, 0x03, .u32, .rwd, .any, 0xffffffff⟩,  -- Allocation
  ⟨0x4800, 0x04, .u16, .rwd, .any, 65535⟩,  -- Domain
  ⟨0x4800, 0x05, .u8, .rw, .between 0 7, 0⟩,  -- Default class
  ⟨0x4800, 0x06, .bool, .rw, .any, 0⟩,  -- Anti-spoofing
  ⟨0x4800, 0x07, .u32, .rw, .between 0 1048576, 256⟩,  -- MAC limit
  ⟨0x4800, 0x08, .u8, .rw, .between 0 1, 0⟩,  -- Limit action
  ⟨0x4800, 0x09, .u32, .ro, .any, 0⟩,  -- Learned entries
  ⟨0x4800, 0x0A, .u64, .ro, .any, 0⟩,  -- Spoof drops
  ⟨0x4800, 0x0B, .u64, .ro, .any, 0⟩,  -- Limit hits
  ⟨0x4800, 0x0C, .bool, .rw, .any, 0⟩,  -- Flood member
  ⟨0x4880, 0x01, .u32, .rw, .any, 1024⟩,  -- Terminal MAC limit
  ⟨0x4880, 0x02, .u8, .rw, .between 0 1, 0⟩,  -- Limit action
  ⟨0x4880, 0x03, .u32, .ro, .any, 0⟩,  -- Learned entries
  ⟨0x4880, 0x04, .u64, .ro, .any, 0⟩,  -- Limit hits
  ⟨0x4890, 0x01, .u32, .rw, .any, 16384⟩,  -- Tree MAC limit
  ⟨0x4890, 0x02, .u8, .rw, .between 0 1, 0⟩,  -- Limit action
  ⟨0x4890, 0x03, .u32, .ro, .any, 0⟩,  -- Learned entries
  ⟨0x4890, 0x04, .u64, .ro, .any, 0⟩,  -- Limit hits
  ⟨0x4900, 0x01, .bool, .cmd, .any, 0⟩,  -- Enable
  ⟨0x4900, 0x02, .u8, .ro, .any, 0⟩,  -- State
  ⟨0x4900, 0x03, .u8, .rwd, .between 1 2, 1⟩,  -- Mode
  ⟨0x4900, 0x04, .u16, .rwd, .orElse 0 63 65535, 65535⟩,  -- Uplink
  ⟨0x4900, 0x05, .u16, .rwd, .orElse 0 4095 65535, 65535⟩,  -- Outer VID
  ⟨0x4900, 0x06, .u16, .rwd, .orElse 0 4095 65535, 65535⟩,  -- Inner VID
  ⟨0x4900, 0x07, .u8, .rwd, .between 0 31, 0⟩,  -- Routing table
  ⟨0x4900, 0x08, .u16, .rwd, .any, 0⟩,  -- Default next hop
  ⟨0x4900, 0x09, .u16, .rw, .between 100 10000, 1000⟩,  -- Move hold
  ⟨0x4900, 0x0A, .u16, .rw, .between 10 1000, 300⟩,  -- Age time
  ⟨0x4900, 0x0B, .bool, .cmd, .any, 0⟩,  -- Flush
  ⟨0x4900, 0x0C, .u32, .ro, .any, 0⟩,  -- Learned entries
  ⟨0x4900, 0x0D, .u64, .ro, .any, 0⟩,  -- Learn failures
  ⟨0x4900, 0x0E, .u64, .ro, .any, 0⟩,  -- Conflicts
  ⟨0x4900, 0x0F, .u64, .ro, .any, 0⟩,  -- Station moves
  ⟨0x4900, 0x10, .u32, .rw, .between 10 100000, 1000⟩,  -- Drain limit
  ⟨0x4900, 0x11, .u64, .ro, .any, 0⟩,  -- Drain discards
  ⟨0x4A00, 0x01, .u8, .rw, .between 0 7, 0⟩]  -- Owner default class

/-- Rows of the object tables of chapter 08 of spec/. -/
def rows08c : List Row := [
  ⟨0x4B00, 0x01, .octets 16, .wo, .any, 0⟩,  -- Entry command
  ⟨0x4B00, 0x02, .u8, .ro, .any, 0⟩,  -- Last result
  ⟨0x4B00, 0x03, .u32, .ro, .any, 0⟩,  -- Bank-0 bucket
  ⟨0x4B00, 0x04, .u32, .ro, .any, 0⟩,  -- Bank-1 bucket
  ⟨0x4B10, 0x01, .u32, .ro, .any, 0⟩,  -- Entries
  ⟨0x4B10, 0x02, .u32, .ro, .any, 0⟩,  -- Learned
  ⟨0x4B10, 0x03, .u32, .ro, .any, 0⟩,  -- User
  ⟨0x4B10, 0x04, .u32, .ro, .any, 0⟩,  -- Static
  ⟨0x4B10, 0x05, .u64, .ro, .any, 0⟩,  -- Relocations
  ⟨0x4B10, 0x06, .u64, .ro, .any, 0⟩,  -- Learn failures
  ⟨0x4B10, 0x07, .u64, .ro, .any, 0⟩,  -- User refusals
  ⟨0x4B10, 0x08, .u64, .ro, .any, 0⟩,  -- Evictions
  ⟨0x4B10, 0x09, .u64, .ro, .any, 0⟩,  -- Learn queue drops
  ⟨0x4B10, 0x0A, .u32, .rwd, .any, 0⟩]  -- Salt

/-- The object tables of chapter 08. -/
def rows08 : List Row := rows08a ++ rows08b ++ rows08c

/-- Rows of the object tables of chapter 09 of spec/. -/
def rows09a : List Row := [
  ⟨0x4C00, 0x01, .u32, .ro, .any, 0⟩,  -- Buffers
  ⟨0x4C00, 0x02, .u32, .ro, .any, 0⟩,  -- Free
  ⟨0x4C00, 0x03, .u32, .rw, .any, 0⟩,  -- Low mark
  ⟨0x4C00, 0x04, .u64, .ro, .any, 0⟩,  -- Allocations refused
  ⟨0x4C00, 0x05, .u32, .ro, .any, 0⟩,  -- Lowest free
  ⟨0x4C10, 0x01, .u32, .rw, .any, 0⟩,  -- Quota, pools 0–3
  ⟨0x4C10, 0x02, .u32, .rw, .any, 0⟩,  -- Quota, pools 0–3
  ⟨0x4C10, 0x03, .u32, .rw, .any, 0⟩,  -- Quota, pools 0–3
  ⟨0x4C10, 0x04, .u32, .rw, .any, 0⟩,  -- Quota, pools 0–3
  ⟨0x4C10, 0x05, .u32, .ro, .any, 0⟩,  -- Use, pools 0–3
  ⟨0x4C10, 0x06, .u32, .ro, .any, 0⟩,  -- Use, pools 0–3
  ⟨0x4C10, 0x07, .u32, .ro, .any, 0⟩,  -- Use, pools 0–3
  ⟨0x4C10, 0x08, .u32, .ro, .any, 0⟩,  -- Use, pools 0–3
  ⟨0x4C10, 0x09, .u8, .ro, .any, 0⟩,  -- State
  ⟨0x4C10, 0x0A, .bool, .cmd, .any, 0⟩,  -- Release
  ⟨0x4C10, 0x0B, .u64, .ro, .any, 0⟩,  -- Violations
  ⟨0x4C10, 0x0C, .u8, .ro, .any, 0⟩,  -- Last violation cause
  ⟨0x4C10, 0x0D, .u64, .ro, .any, 0⟩,  -- Last violation pointer
  ⟨0x4C10, 0x0E, .u64, .ro, .any, 0⟩,  -- Refused allocations
  ⟨0x4C10, 0x0F, .u64, .ro, .any, 0⟩,  -- Reclaimed buffers
  ⟨0x4E00, 0x01, .u8, .rw, .orElse 0 3 255, 255⟩,  -- Attachment
  ⟨0x4E20, 0x01, .u8, .rw, .orElse 0 3 255, 255⟩,  -- Attachment
  ⟨0x4E40, 0x01, .u8, .rw, .orElse 0 3 255, 255⟩,  -- Attachment
  ⟨0x4E60, 0x01, .u8, .rw, .orElse 0 3 255, 255⟩,  -- Attachment
  ⟨0x4C40, 0x01, .u8, .rw, .orElse 0 3 255, 255⟩,  -- Attachment
  ⟨0x4C80, 0x01, .u8, .rw, .orElse 0 3 255, 255⟩,  -- Attachment
  ⟨0x4E00, 0x02, .u32, .rw, .between 64 1048576, 1024⟩,  -- Quantum
  ⟨0x4E20, 0x02, .u32, .rw, .between 64 1048576, 1024⟩,  -- Quantum
  ⟨0x4E40, 0x02, .u32, .rw, .between 64 1048576, 1024⟩,  -- Quantum
  ⟨0x4E60, 0x02, .u32, .rw, .between 64 1048576, 1024⟩,  -- Quantum
  ⟨0x4C40, 0x02, .u32, .rw, .between 64 1048576, 1024⟩,  -- Quantum
  ⟨0x4C80, 0x02, .u32, .rw, .between 64 1048576, 1024⟩,  -- Quantum
  ⟨0x4E00, 0x03, .u8, .ro, .any, 0⟩,  -- Shaper mode
  ⟨0x4E20, 0x03, .u8, .ro, .any, 0⟩,  -- Shaper mode
  ⟨0x4E40, 0x03, .u8, .ro, .any, 0⟩,  -- Shaper mode
  ⟨0x4E60, 0x03, .u8, .ro, .any, 0⟩,  -- Shaper mode
  ⟨0x4C40, 0x03, .u8, .ro, .any, 0⟩,  -- Shaper mode
  ⟨0x4C80, 0x03, .u8, .ro, .any, 0⟩,  -- Shaper mode
  ⟨0x4E00, 0x04, .u32, .rw, .any, 0⟩,  -- Committed rate
  ⟨0x4E20, 0x04, .u32, .rw, .any, 0⟩,  -- Committed rate
  ⟨0x4E40, 0x04, .u32, .rw, .any, 0⟩,  -- Committed rate
  ⟨0x4E60, 0x04, .u32, .rw, .any, 0⟩,  -- Committed rate
  ⟨0x4C40, 0x04, .u32, .rw, .any, 0⟩,  -- Committed rate
  ⟨0x4C80, 0x04, .u32, .rw, .any, 0⟩,  -- Committed rate
  ⟨0x4E00, 0x05, .u32, .rw, .between 0 16777215, 0⟩]  -- Committed burst

/-- Rows of the object tables of chapter 09 of spec/. -/
def rows09b : List Row := [
  ⟨0x4E20, 0x05, .u32, .rw, .between 0 16777215, 0⟩,  -- Committed burst
  ⟨0x4E40, 0x05, .u32, .rw, .between 0 16777215, 0⟩,  -- Committed burst
  ⟨0x4E60, 0x05, .u32, .rw, .between 0 16777215, 0⟩,  -- Committed burst
  ⟨0x4C40, 0x05, .u32, .rw, .between 0 16777215, 0⟩,  -- Committed burst
  ⟨0x4C80, 0x05, .u32, .rw, .between 0 16777215, 0⟩,  -- Committed burst
  ⟨0x4E00, 0x06, .u32, .rw, .any, 0xffffffff⟩,  -- Peak rate
  ⟨0x4E20, 0x06, .u32, .rw, .any, 0xffffffff⟩,  -- Peak rate
  ⟨0x4E40, 0x06, .u32, .rw, .any, 0xffffffff⟩,  -- Peak rate
  ⟨0x4E60, 0x06, .u32, .rw, .any, 0xffffffff⟩,  -- Peak rate
  ⟨0x4C40, 0x06, .u32, .rw, .any, 0xffffffff⟩,  -- Peak rate
  ⟨0x4C80, 0x06, .u32, .rw, .any, 0xffffffff⟩,  -- Peak rate
  ⟨0x4E00, 0x07, .u32, .rw, .between 0 16777215, 65536⟩,  -- Peak burst
  ⟨0x4E20, 0x07, .u32, .rw, .between 0 16777215, 65536⟩,  -- Peak burst
  ⟨0x4E40, 0x07, .u32, .rw, .between 0 16777215, 65536⟩,  -- Peak burst
  ⟨0x4E60, 0x07, .u32, .rw, .between 0 16777215, 65536⟩,  -- Peak burst
  ⟨0x4C40, 0x07, .u32, .rw, .between 0 16777215, 65536⟩,  -- Peak burst
  ⟨0x4C80, 0x07, .u32, .rw, .between 0 16777215, 65536⟩,  -- Peak burst
  ⟨0x4E00, 0x08, .i32, .ro, .any, 0⟩,  -- Committed tokens
  ⟨0x4E20, 0x08, .i32, .ro, .any, 0⟩,  -- Committed tokens
  ⟨0x4E40, 0x08, .i32, .ro, .any, 0⟩,  -- Committed tokens
  ⟨0x4E60, 0x08, .i32, .ro, .any, 0⟩,  -- Committed tokens
  ⟨0x4C40, 0x08, .i32, .ro, .any, 0⟩,  -- Committed tokens
  ⟨0x4C80, 0x08, .i32, .ro, .any, 0⟩,  -- Committed tokens
  ⟨0x4E00, 0x09, .i32, .ro, .any, 0⟩,  -- Peak tokens
  ⟨0x4E20, 0x09, .i32, .ro, .any, 0⟩,  -- Peak tokens
  ⟨0x4E40, 0x09, .i32, .ro, .any, 0⟩,  -- Peak tokens
  ⟨0x4E60, 0x09, .i32, .ro, .any, 0⟩,  -- Peak tokens
  ⟨0x4C40, 0x09, .i32, .ro, .any, 0⟩,  -- Peak tokens
  ⟨0x4C80, 0x09, .i32, .ro, .any, 0⟩,  -- Peak tokens
  ⟨0x4E00, 0x0A, .u64, .ro, .any, 0⟩,  -- Bytes sent
  ⟨0x4E20, 0x0A, .u64, .ro, .any, 0⟩,  -- Bytes sent
  ⟨0x4E40, 0x0A, .u64, .ro, .any, 0⟩,  -- Bytes sent
  ⟨0x4E60, 0x0A, .u64, .ro, .any, 0⟩,  -- Bytes sent
  ⟨0x4C40, 0x0A, .u64, .ro, .any, 0⟩,  -- Bytes sent
  ⟨0x4C80, 0x0A, .u64, .ro, .any, 0⟩,  -- Bytes sent
  ⟨0x4E00, 0x0B, .u64, .ro, .any, 0⟩,  -- Packets sent
  ⟨0x4E20, 0x0B, .u64, .ro, .any, 0⟩,  -- Packets sent
  ⟨0x4E40, 0x0B, .u64, .ro, .any, 0⟩,  -- Packets sent
  ⟨0x4E60, 0x0B, .u64, .ro, .any, 0⟩,  -- Packets sent
  ⟨0x4C40, 0x0B, .u64, .ro, .any, 0⟩,  -- Packets sent
  ⟨0x4C80, 0x0B, .u64, .ro, .any, 0⟩,  -- Packets sent
  ⟨0x4E00, 0x0C, .u8, .rw, .between 0 64, 20⟩,  -- Overhead
  ⟨0x4E00, 0x0D, .u16, .rw, .between 1 1000, 1⟩,  -- Pool weight
  ⟨0x4C40, 0x10, .bool, .cmd, .any, 0⟩,  -- Enable
  ⟨0x4C80, 0x10, .bool, .cmd, .any, 0⟩]  -- Enable

/-- Rows of the object tables of chapter 09 of spec/. -/
def rows09c : List Row := [
  ⟨0x4C40, 0x11, .u8, .ro, .any, 0⟩,  -- State
  ⟨0x4C80, 0x11, .u8, .ro, .any, 0⟩,  -- State
  ⟨0x4C40, 0x12, .u32, .rwd, .any, 0xffffffff⟩,  -- Parent
  ⟨0x4C80, 0x12, .u32, .rwd, .any, 0xffffffff⟩,  -- Parent
  ⟨0x4C40, 0x13, .u32, .rw, .between 2048 67108864, 0x40000⟩,  -- Limit
  ⟨0x4C80, 0x13, .u32, .rw, .between 2048 67108864, 0x40000⟩,  -- Limit
  ⟨0x4C40, 0x14, .u8, .rw, .between 0 100, 75⟩,  -- Yellow threshold
  ⟨0x4C80, 0x14, .u8, .rw, .between 0 100, 75⟩,  -- Yellow threshold
  ⟨0x4C40, 0x15, .u8, .rw, .between 0 100, 50⟩,  -- Red threshold
  ⟨0x4C80, 0x15, .u8, .rw, .between 0 100, 50⟩,  -- Red threshold
  ⟨0x4C40, 0x16, .u32, .rw, .any, 65536⟩,  -- SRAM limit
  ⟨0x4C80, 0x16, .u32, .rw, .any, 65536⟩,  -- SRAM limit
  ⟨0x4C40, 0x17, .u32, .ro, .any, 0⟩,  -- Depth
  ⟨0x4C80, 0x17, .u32, .ro, .any, 0⟩,  -- Depth
  ⟨0x4C40, 0x18, .u32, .ro, .any, 0⟩,  -- Stack bytes
  ⟨0x4C80, 0x18, .u32, .ro, .any, 0⟩,  -- Stack bytes
  ⟨0x4C40, 0x19, .u64, .ro, .any, 0⟩,  -- Tail drops
  ⟨0x4C80, 0x19, .u64, .ro, .any, 0⟩,  -- Tail drops
  ⟨0x4C40, 0x1A, .u64, .ro, .any, 0⟩,  -- Colour drops
  ⟨0x4C80, 0x1A, .u64, .ro, .any, 0⟩,  -- Colour drops
  ⟨0x4C40, 0x1B, .u64, .ro, .any, 0⟩,  -- No-buffer drops
  ⟨0x4C80, 0x1B, .u64, .ro, .any, 0⟩,  -- No-buffer drops
  ⟨0x4C40, 0x1C, .u64, .ro, .any, 0⟩,  -- Not-running drops
  ⟨0x4C80, 0x1C, .u64, .ro, .any, 0⟩,  -- Not-running drops
  ⟨0x4C40, 0x1D, .u32, .rw, .between 10 100000, 1000⟩,  -- Drain limit
  ⟨0x4C80, 0x1D, .u32, .rw, .between 10 100000, 1000⟩,  -- Drain limit
  ⟨0x4C40, 0x1E, .u64, .ro, .any, 0⟩,  -- Drain discards
  ⟨0x4C80, 0x1E, .u64, .ro, .any, 0⟩,  -- Drain discards
  ⟨0x4C40, 0x1F, .u64, .ro, .any, 0⟩,  -- Poisoned packets
  ⟨0x4C80, 0x1F, .u64, .ro, .any, 0⟩,  -- Poisoned packets
  ⟨0x4D00, 0x01, .u32, .rw, .any, 0xffffffff⟩,  -- Downstream queue base
  ⟨0x4D00, 0x02, .u32, .rw, .between 0 16777215, 0⟩,  -- Downstream class map
  ⟨0x4D00, 0x03, .u16, .rw, .orElse 0 255 65535, 65535⟩,  -- Upstream local base
  ⟨0x4D00, 0x04, .u32, .rw, .between 0 16777215, 0⟩,  -- Upstream class map
  ⟨0x4D00, 0x05, .u32, .rw, .any, 0xffffffff⟩,  -- Downstream meter
  ⟨0x4D00, 0x06, .u32, .rw, .any, 0xffffffff⟩,  -- Upstream meter
  ⟨0x4D80, 0x01, .u32, .rw, .any, 0xffffffff⟩,  -- Flood meter
  ⟨0x4F00, 0x01, .u8, .rw, .between 0 2, 0⟩,  -- Mode
  ⟨0x4F00, 0x02, .u32, .rw, .any, 0⟩,  -- CIR
  ⟨0x4F00, 0x03, .u32, .rw, .any, 0⟩,  -- CBS
  ⟨0x4F00, 0x04, .u32, .rw, .any, 0⟩,  -- PIR
  ⟨0x4F00, 0x05, .u32, .rw, .any, 0⟩,  -- PBS
  ⟨0x4F00, 0x06, .u8, .rw, .between 0 1, 0⟩,  -- Yellow action
  ⟨0x4F00, 0x07, .u8, .rw, .between 0 1, 0⟩,  -- Red action
  ⟨0x4F00, 0x08, .i32, .rw, .between (-64) 64, 0⟩]  -- Length adjustment

/-- Rows of the object tables of chapter 09 of spec/. -/
def rows09d : List Row := [
  ⟨0x4F00, 0x09, .bool, .rw, .any, 0⟩,  -- Mark DEI
  ⟨0x4F00, 0x0A, .u64, .ro, .any, 0⟩,  -- Green bytes
  ⟨0x4F00, 0x0B, .u64, .ro, .any, 0⟩,  -- Yellow bytes
  ⟨0x4F00, 0x0C, .u64, .ro, .any, 0⟩,  -- Red bytes
  ⟨0x4F00, 0x0D, .u64, .ro, .any, 0⟩,  -- Red drops
  ⟨0x4F00, 0x0E, .bool, .cmd, .any, 0⟩]  -- Clear

/-- The object tables of chapter 09. -/
def rows09 : List Row := rows09a ++ rows09b ++ rows09c ++ rows09d

/-- Rows of the object tables of chapter 10 of spec/. -/
def rows10a : List Row := [
  ⟨0x5000, 0x01, .u8, .ro, .any, 0⟩,  -- State
  ⟨0x5000, 0x02, .u8, .rw, .any, 0⟩,  -- Flags
  ⟨0x5000, 0x03, .octets 5, .rw, .any, 0xf87000⟩,  -- Transmit taps
  ⟨0x5000, 0x04, .u8, .rw, .between 0 80, 60⟩,  -- Swing
  ⟨0x5000, 0x05, .u8, .rw, .between 0 31, 12⟩,  -- CTLE
  ⟨0x5000, 0x06, .u8, .rw, .between 0 31, 16⟩,  -- VGA
  ⟨0x5000, 0x07, .octets 3, .rw, .any, 0⟩,  -- DFE
  ⟨0x5000, 0x08, .u8, .rw, .between 0 31, 0⟩,  -- Peaking frequency
  ⟨0x5000, 0x09, .u8, .rw, .between 0 31, 0⟩,  -- Peaking gain
  ⟨0x5000, 0x0A, .u8, .ro, .any, 0⟩,  -- Entry source
  ⟨0x5000, 0x0B, .u64, .ro, .any, 0⟩,  -- BIP-8 errors
  ⟨0x5000, 0x0C, .u64, .ro, .any, 0⟩,  -- FEC corrected symbols
  ⟨0x5000, 0x0D, .u32, .ro, .any, 0⟩,  -- Last bring-up time
  ⟨0x5000, 0x0E, .u32, .ro, .any, 0⟩,  -- Lock losses
  ⟨0x5000, 0x0F, .bool, .cmd, .any, 0⟩,  -- Restart
  ⟨0x5010, 0x01, .u8, .ro, .any, 0⟩,  -- Table result
  ⟨0x5010, 0x02, .u8, .ro, .any, 0⟩,  -- Entries read
  ⟨0x5010, 0x03, .u8, .ro, .any, 0⟩,  -- Entries refused
  ⟨0x5080, 0x01, .u8, .rw, .between 0 4, 0⟩,  -- Quad mode
  ⟨0x5090, 0x01, .bool, .cmd, .any, 0⟩,  -- Enable
  ⟨0x5090, 0x02, .u8, .ro, .any, 0⟩,  -- State
  ⟨0x5090, 0x03, .u16, .rw, .between 1518 10244, 10244⟩,  -- Maximum frame
  ⟨0x5090, 0x04, .u16, .rw, .between 0 10000, 100⟩,  -- Service hold
  ⟨0x5090, 0x05, .u32, .rw, .any, 0⟩,  -- Degrade threshold
  ⟨0x5090, 0x06, .u32, .rw, .between 10 100000, 1000⟩,  -- Drain limit
  ⟨0x5090, 0x07, .u64, .ro, .any, 0⟩,  -- Frames received
  ⟨0x5090, 0x08, .u64, .ro, .any, 0⟩,  -- Frames sent
  ⟨0x5090, 0x09, .u64, .ro, .any, 0⟩,  -- FCS errors
  ⟨0x5090, 0x0A, .u64, .ro, .any, 0⟩,  -- Length drops
  ⟨0x5090, 0x0B, .u64, .ro, .any, 0⟩,  -- Uncorrectable codewords
  ⟨0x5090, 0x0C, .u64, .ro, .any, 0⟩,  -- MAC control discarded
  ⟨0x5090, 0x0D, .u32, .ro, .any, 0⟩,  -- Remote faults
  ⟨0x5090, 0x10, .u64, .ro, .any, 0⟩,  -- Drops while draining
  ⟨0x5090, 0x11, .u64, .ro, .any, 0⟩,  -- Drain discards
  ⟨0x50C0, 0x01, .bool, .cmd, .any, 0⟩,  -- Enable
  ⟨0x50C0, 0x02, .u8, .rwd, .between 0 1, 0⟩,  -- Rate
  ⟨0x50C0, 0x03, .u8, .ro, .any, 0⟩,  -- State
  ⟨0x5100, 0x01, .bool, .cmd, .any, 0⟩,  -- Enable
  ⟨0x5100, 0x02, .u8, .ro, .any, 0⟩,  -- State
  ⟨0x5100, 0x03, .u8, .rwd, .between 0 1, 0⟩,  -- Mode
  ⟨0x5100, 0x04, .octets 16, .rw, .any, 0⟩,  -- Trace sent
  ⟨0x5100, 0x05, .octets 16, .rw, .any, 0⟩,  -- Trace expected
  ⟨0x5100, 0x06, .octets 16, .ro, .any, 0⟩,  -- Trace received
  ⟨0x5100, 0x07, .u8, .ro, .any, 0⟩,  -- Defects
  ⟨0x5100, 0x08, .u16, .rw, .between 1 10000, 10⟩]  -- Clear hold

/-- Rows of the object tables of chapter 10 of spec/. -/
def rows10b : List Row := [
  ⟨0x5100, 0x09, .u32, .rw, .between 1 1000000, 85⟩,  -- Degrade threshold
  ⟨0x5100, 0x0A, .u8, .rw, .between 0 1, 0⟩,  -- Degrade action
  ⟨0x5100, 0x0B, .u8, .ro, .any, 255⟩,  -- Far member
  ⟨0x5100, 0x0C, .u8, .ro, .any, 255⟩,  -- Far port
  ⟨0x5100, 0x0D, .u32, .ro, .any, 0⟩,  -- Link delay
  ⟨0x5100, 0x0E, .u8, .cmd, .any, 0⟩,  -- Spare command
  ⟨0x5100, 0x0F, .u8, .ro, .any, 0⟩,  -- Spare state
  ⟨0x5100, 0x10, .u8, .ro, .any, 15⟩,  -- Spare lane
  ⟨0x5100, 0x11, .u64, .ro, .any, 0⟩,  -- Frames received
  ⟨0x5100, 0x12, .u64, .ro, .any, 0⟩,  -- Frames sent
  ⟨0x5100, 0x13, .u64, .ro, .any, 0⟩,  -- Header errors
  ⟨0x5100, 0x14, .u64, .ro, .any, 0⟩,  -- Payload CRC errors
  ⟨0x5100, 0x15, .u64, .ro, .any, 0⟩,  -- Hunts
  ⟨0x5100, 0x16, .u64, .ro, .any, 0⟩,  -- Primer fill sent
  ⟨0x5100, 0x17, .u64, .ro, .any, 0⟩,  -- Primer fill received
  ⟨0x5100, 0x18, .u64, .ro, .any, 0⟩,  -- Hop-limit discards
  ⟨0x5100, 0x19, .u64, .ro, .any, 0⟩,  -- Unknown-kind discards
  ⟨0x5100, 0x1A, .u32, .rw, .between 250 100000, 1000⟩,  -- Drain limit
  ⟨0x5100, 0x1B, .u64, .ro, .any, 0⟩,  -- Drain discards
  ⟨0x5100, 0x1C, .u32, .rw, .between 65536 16777216, 0x100000⟩,  -- Local queue limit
  ⟨0x5100, 0x1D, .u64, .ro, .any, 0⟩,  -- Local queue drops
  ⟨0x5140, 0x01, .u8, .rw, .orElse 0 3 255, 255⟩,  -- Working port
  ⟨0x5140, 0x02, .u8, .rw, .orElse 0 3 255, 255⟩,  -- Protection port
  ⟨0x5140, 0x03, .u8, .ro, .any, 255⟩,  -- Active port
  ⟨0x5140, 0x04, .u32, .ro, .any, 0⟩,  -- Path delay
  ⟨0x5140, 0x05, .u32, .ro, .any, 0⟩,  -- Switches
  ⟨0x5140, 0x06, .u64, .ro, .any, 0⟩,  -- No-path drops
  ⟨0x5180, 0x01, .u8, .rw, .orElse 0 63 255, 255⟩,  -- Home member
  ⟨0x51C0, 0x01, .u8, .rwd, .between 0 63, 0⟩,  -- Member ID
  ⟨0x51C0, 0x02, .u32, .rw, .between 50 100000, 1000⟩,  -- Primer time
  ⟨0x51C0, 0x03, .u8, .rw, .between 1 63, 63⟩,  -- Hop limit
  ⟨0x51C0, 0x04, .u64, .ro, .any, 0⟩]  -- Reach

/-- The object tables of chapter 10. -/
def rows10 : List Row := rows10a ++ rows10b

/-- Rows of the object tables of chapter 11 of spec/. -/
def rows11a : List Row := [
  ⟨0x5400, 0x01, .u8, .ro, .any, 0⟩,  -- Role carried
  ⟨0x5400, 0x02, .u8, .ro, .any, 0⟩,  -- State
  ⟨0x5400, 0x03, .u32, .ro, .any, 0⟩,  -- Knells
  ⟨0x5400, 0x04, .u8, .ro, .any, 0⟩,  -- Last knell cause
  ⟨0x5400, 0x05, .u8, .cmd, .any, 0⟩,  -- Command
  ⟨0x5400, 0x06, .u16, .rw, .between 5 100, 10⟩,  -- Watchdog time
  ⟨0x5400, 0x07, .u16, .ro, .any, 0⟩,  -- Level
  ⟨0x5400, 0x08, .u32, .ro, .any, 0⟩,  -- Last gap
  ⟨0x5460, 0x01, .u8, .ro, .any, 0⟩,  -- State
  ⟨0x5460, 0x02, .u32, .ro, .any, 0⟩,  -- Switch-overs
  ⟨0x5460, 0x03, .u32, .ro, .any, 0⟩,  -- Last gap
  ⟨0x5460, 0x04, .u64, .ro, .any, 0⟩,  -- Lower claims refused
  ⟨0x5480, 0x01, .u8, .ro, .any, 0⟩,  -- State
  ⟨0x5480, 0x02, .u8, .ro, .any, 0⟩,  -- Cause
  ⟨0x5480, 0x03, .u32, .ro, .any, 0⟩,  -- Access
  ⟨0x5480, 0x04, .time80, .ro, .any, 0⟩,  -- Time
  ⟨0x5480, 0x05, .bool, .cmd, .any, 0⟩,  -- Release
  ⟨0x5480, 0x06, .u32, .ro, .any, 0⟩,  -- Freezes
  ⟨0x5500, 0x01, .u8, .rw, .between 0 1, 0⟩,  -- Image slot
  ⟨0x5500, 0x02, .u8, .cmd, .any, 0⟩,  -- Upgrade cluster
  ⟨0x5500, 0x03, .bool, .cmd, .any, 0⟩,  -- Roll back
  ⟨0x5500, 0x04, .u8, .ro, .any, 0⟩,  -- Step
  ⟨0x5510, 0x01, .u16, .ro, .any, 0⟩,  -- Cluster level
  ⟨0x5510, 0x02, .u8, .ro, .any, 0⟩,  -- Cluster image
  ⟨0x5580, 0x01, .u16, .ro, .any, 0⟩,  -- Member level
  ⟨0x5580, 0x02, .u16, .rw, .any, 32768⟩,  -- Domain claim
  ⟨0x5580, 0x03, .u16, .ro, .any, 0⟩,  -- Lowest level
  ⟨0x5580, 0x04, .u16, .ro, .any, 0⟩,  -- Committed level
  ⟨0x5580, 0x05, .u16, .rw, .any, 65535⟩,  -- Level ceiling
  ⟨0x5580, 0x06, .u64, .ro, .any, 0⟩,  -- Messages refused
  ⟨0x5580, 0x07, .u8, .ro, .any, 0⟩,  -- Leader
  ⟨0x5590, 0x01, .u16, .ro, .any, 0⟩,  -- Reported level
  ⟨0x5590, 0x02, .u16, .ro, .any, 0⟩,  -- Reported domain claim
  ⟨0x5590, 0x03, .u16, .rwd, .any, 65535⟩,  -- Mirror key slot
  ⟨0x55C0, 0x01, .text 32, .ro, .any, 0⟩,  -- Feature
  ⟨0x55C0, 0x02, .u16, .ro, .any, 0⟩,  -- Level needed
  ⟨0x55C0, 0x03, .u8, .ro, .any, 0⟩,  -- Scope
  ⟨0x55C0, 0x04, .u8, .ro, .any, 0⟩]  -- State

/-- The object tables of chapter 11. -/
def rows11 : List Row := rows11a

/-- Rows of the object tables of chapter 12 of spec/. -/
def rows12a : List Row := [
  ⟨0x5800, 0x01, .u64, .ro, .any, 0⟩,  -- Words
  ⟨0x5800, 0x02, .u64, .ro, .any, 0⟩,  -- Corrected reads
  ⟨0x5800, 0x03, .u64, .ro, .any, 0⟩,  -- Uncorrectable reads
  ⟨0x5800, 0x04, .u64, .ro, .any, 0⟩,  -- Poisoned reads
  ⟨0x5800, 0x05, .u64, .ro, .any, 0⟩,  -- Corrected on partial write
  ⟨0x5800, 0x06, .u64, .ro, .any, 0⟩,  -- Poison written
  ⟨0x5800, 0x07, .u64, .ro, .any, 0⟩,  -- Last error address
  ⟨0x5800, 0x08, .u8, .ro, .any, 0⟩,  -- Last syndrome
  ⟨0x5800, 0x09, .time80, .ro, .any, 0⟩,  -- Last error time
  ⟨0x5800, 0x0A, .bool, .cmd, .any, 0⟩,  -- Clear
  ⟨0x5820, 0x01, .bool, .rw, .any, 1⟩,  -- Scrub enable
  ⟨0x5820, 0x02, .u32, .rw, .between 1 86400, 0⟩,  -- Pass period
  ⟨0x5820, 0x03, .u8, .ro, .any, 0⟩,  -- Pass progress
  ⟨0x5820, 0x04, .u64, .ro, .any, 0⟩,  -- Passes completed
  ⟨0x5820, 0x05, .u64, .ro, .any, 0⟩,  -- Corrections written
  ⟨0x5820, 0x06, .u64, .ro, .any, 0⟩,  -- Poisoned in place
  ⟨0x5820, 0x07, .u64, .ro, .any, 0⟩,  -- Repeats
  ⟨0x5820, 0x08, .u32, .ro, .any, 0⟩,  -- Last pass time
  ⟨0x5840, 0x01, .u64, .rw, .any, 0⟩,  -- Data flip
  ⟨0x5840, 0x02, .u8, .rw, .any, 0⟩,  -- Check flip
  ⟨0x5840, 0x03, .u64, .rw, .any, 0xffffffffffffffff⟩,  -- Flip address
  ⟨0x5840, 0x04, .u8, .cmd, .any, 0⟩,  -- Arm
  ⟨0x5840, 0x05, .u64, .ro, .any, 0⟩,  -- Applied address
  ⟨0x5900, 0x01, .u8, .cmd, .any, 0⟩,  -- Request
  ⟨0x5900, 0x02, .u8, .ro, .any, 0⟩,  -- State
  ⟨0x5900, 0x03, .u8, .ro, .any, 255⟩,  -- Bank
  ⟨0x5900, 0x04, .u16, .rw, .any, 8⟩,  -- Auto-test threshold
  ⟨0x5900, 0x05, .u8, .ro, .any, 0⟩,  -- Last result
  ⟨0x5900, 0x06, .u8, .ro, .any, 0⟩,  -- Last refusal cause
  ⟨0x5900, 0x07, .u32, .ro, .any, 0⟩,  -- Tests run
  ⟨0x5900, 0x08, .u32, .ro, .any, 0⟩,  -- Last duration
  ⟨0x5900, 0x09, .u8, .ro, .any, 0⟩,  -- Spare bank state
  ⟨0x5940, 0x01, .u8, .ro, .any, 0⟩,  -- Spare rows used
  ⟨0x5940, 0x02, .u32, .ro, .any, 0⟩,  -- Failing bits
  ⟨0x5940, 0x03, .octets 128, .ro, .any, 0⟩,  -- Failure log
  ⟨0x5940, 0x04, .octets 8, .ro, .any, 0⟩,  -- Repaired rows
  ⟨0x5940, 0x05, .bool, .ro, .any, 0⟩]  -- Retired

/-- The object tables of chapter 12. -/
def rows12 : List Row := rows12a

/-- Rows of the object tables of chapter 13 of spec/. -/
def rows13a : List Row := [
  ⟨0x5C00, 0x01, .u8, .ro, .any, 0⟩,  -- State
  ⟨0x5C00, 0x02, .time80, .ro, .any, 0⟩,  -- Time
  ⟨0x5C00, 0x03, .i32, .ro, .any, 0⟩,  -- Frequency word
  ⟨0x5C00, 0x04, .u8, .ro, .any, 255⟩,  -- Phase source
  ⟨0x5C00, 0x05, .u8, .ro, .any, 255⟩,  -- Frequency source
  ⟨0x5C00, 0x06, .u32, .rw, .between 100 1000000, 1000⟩,  -- Jump threshold
  ⟨0x5C00, 0x07, .i64, .ro, .any, 0⟩,  -- Pending correction
  ⟨0x5C00, 0x08, .u8, .cmd, .any, 0⟩,  -- Accept
  ⟨0x5C00, 0x09, .u16, .rw, .between 10 1000, 200⟩,  -- Slew limit
  ⟨0x5C00, 0x0A, .bool, .rw, .any, 1⟩,  -- Auto-accept
  ⟨0x5C00, 0x0B, .i16, .rw, .any, 37⟩,  -- UTC offset
  ⟨0x5C00, 0x0C, .u16, .rw, .between 10 3600, 300⟩,  -- Holdover window
  ⟨0x5C00, 0x0D, .u32, .rw, .between 1 86400, 1000⟩,  -- In-spec time
  ⟨0x5C00, 0x0E, .time80, .cmd, .any, 0⟩,  -- Time set
  ⟨0x5C00, 0x0F, .u8, .ro, .any, 248⟩,  -- Clock class
  ⟨0x5C00, 0x10, .i64, .wo, .any, 0⟩,  -- Host offset
  ⟨0x5C00, 0x11, .u32, .ro, .any, 0⟩,  -- Refusals
  ⟨0x5C00, 0x12, .u8, .ro, .any, 0⟩,  -- FREF frequency
  ⟨0x5C10, 0x01, .u8, .rw, .between 0 5, 0⟩,  -- Kind
  ⟨0x5C10, 0x02, .u8, .rw, .any, 0⟩,  -- Port or input
  ⟨0x5C10, 0x03, .u8, .rw, .between 1 255, 128⟩,  -- Priority
  ⟨0x5C10, 0x04, .u8, .ro, .any, 0⟩,  -- Status
  ⟨0x5C10, 0x05, .i64, .ro, .any, 0⟩,  -- Offset
  ⟨0x5C40, 0x01, .u8, .rwd, .between 0 2, 0⟩,  -- PTP mode
  ⟨0x5C40, 0x02, .u8, .ro, .any, 3⟩,  -- Port state
  ⟨0x5C40, 0x03, .u8, .rw, .between 0 1, 0⟩,  -- Destination
  ⟨0x5C40, 0x04, .u8, .rw, .between 1 2, 2⟩,  -- Transmit steps
  ⟨0x5C40, 0x05, .i32, .rw, .any, 0⟩,  -- Ingress latency
  ⟨0x5C40, 0x06, .i32, .rw, .any, 0⟩,  -- Egress latency
  ⟨0x5C40, 0x07, .u8, .rw, .between 1 255, 128⟩,  -- Local priority
  ⟨0x5C40, 0x08, .bool, .rw, .any, 0⟩,  -- Not slave
  ⟨0x5C40, 0x09, .i64, .ro, .any, 0⟩,  -- Mean path delay
  ⟨0x5C80, 0x01, .u8, .rw, .between 24 43, 24⟩,  -- Domain number
  ⟨0x5C80, 0x02, .octets 8, .ro, .any, 0⟩,  -- Clock identity
  ⟨0x5C80, 0x03, .u8, .rw, .any, 128⟩,  -- Priority2
  ⟨0x5C80, 0x04, .u8, .rw, .between 3 10, 3⟩,  -- Announce receipt timeout
  ⟨0x5C80, 0x05, .octets 10, .ro, .any, 0⟩,  -- Parent port identity
  ⟨0x5C80, 0x06, .u16, .ro, .any, 0⟩,  -- Steps removed
  ⟨0x5CC0, 0x01, .bool, .rw, .any, 0⟩,  -- SyncE output
  ⟨0x5CC0, 0x02, .u8, .rw, .between 1 2, 1⟩,  -- EEC option
  ⟨0x5CC0, 0x03, .u8, .ro, .any, 0⟩,  -- Quality level sent
  ⟨0x5D00, 0x01, .bool, .rw, .any, 0⟩,  -- Capture enable
  ⟨0x5D00, 0x02, .u8, .rw, .between 0 2, 0⟩,  -- Edge
  ⟨0x5D00, 0x03, .octets 16, .ro, .any, 0⟩,  -- Head entry
  ⟨0x5D00, 0x04, .u8, .ro, .any, 0⟩]  -- Entries

/-- Rows of the object tables of chapter 13 of spec/. -/
def rows13b : List Row := [
  ⟨0x5D00, 0x05, .u64, .ro, .any, 0⟩,  -- Dropped
  ⟨0x5D00, 0x06, .i32, .rw, .any, 0⟩,  -- Input delay
  ⟨0x5D20, 0x01, .bool, .rw, .any, 0⟩,  -- Output enable
  ⟨0x5D20, 0x02, .u32, .rw, .between 1 500000, 0x186a0⟩,  -- Width
  ⟨0x5D20, 0x03, .i32, .rw, .between (-500000000) 500000000, 0⟩,  -- Offset
  ⟨0x5D20, 0x04, .bool, .rw, .any, 1⟩,  -- Suppress
  ⟨0x5D40, 0x01, .octets 16, .ro, .any, 0⟩,  -- Head entry
  ⟨0x5D40, 0x02, .u8, .ro, .any, 0⟩,  -- Entries
  ⟨0x5D40, 0x03, .u64, .ro, .any, 0⟩,  -- Dropped
  ⟨0x5D40, 0x04, .u64, .ro, .any, 0⟩,  -- Written
  ⟨0x5D80, 0x01, .u64, .ro, .any, 0⟩,  -- Reference counter
  ⟨0x5D80, 0x02, .time80, .ro, .any, 0⟩,  -- Reference time
  ⟨0x5D80, 0x03, .i32, .rw, .any, 0⟩,  -- Transmit delay
  ⟨0x5D80, 0x04, .i32, .rw, .any, 0⟩,  -- ToD correction
  ⟨0x5D80, 0x05, .u8, .ro, .any, 0⟩,  -- Quality
  ⟨0x5D80, 0x06, .i32, .rw, .any, 0⟩,  -- Coexistence transmit delay
  ⟨0x5D80, 0x07, .u64, .ro, .any, 0⟩,  -- Coexistence counter
  ⟨0x5D80, 0x08, .time80, .ro, .any, 0⟩]  -- Coexistence time

/-- The object tables of chapter 13. -/
def rows13 : List Row := rows13a ++ rows13b

/-- Rows of the object tables of chapter 14 of spec/. -/
def rows14a : List Row := [
  ⟨0x1100, 0x01, .u16, .rwd, .any, 4850⟩,  -- UDP port
  ⟨0x1100, 0x05, .u16, .rw, .between 5 3600, 30⟩,  -- Idle time
  ⟨0x1100, 0x06, .octets 64, .ro, .any, 0⟩,  -- ROL public key
  ⟨0x1100, 0x07, .u64, .ro, .any, 0⟩,  -- Messages dropped
  ⟨0x1100, 0x08, .u8, .ro, .any, 0⟩,  -- Sessions open
  ⟨0x1101, 0x01, .octets 16, .rwd, .any, 0⟩,  -- IPv6 address
  ⟨0x1101, 0x02, .u8, .rwd, .between 1 128, 64⟩,  -- IPv6 prefix length
  ⟨0x1101, 0x03, .octets 4, .rwd, .any, 0⟩,  -- IPv4 address
  ⟨0x1101, 0x04, .u8, .rwd, .between 1 32, 24⟩,  -- IPv4 prefix length
  ⟨0x1101, 0x05, .octets 16, .rwd, .any, 0⟩,  -- IPv6 gateway
  ⟨0x1101, 0x06, .octets 4, .rwd, .any, 0⟩,  -- IPv4 gateway
  ⟨0x1110, 0x01, .octets 64, .rwd, .any, 0⟩,  -- Public key
  ⟨0x1110, 0x02, .octets 16, .rwd, .any, 0⟩,  -- Identifier
  ⟨0x1110, 0x03, .u8, .rw, .role, 0⟩,  -- Role
  ⟨0x1110, 0x04, .bool, .rw, .any, 0⟩,  -- Enable
  ⟨0x1112, 0x01, .bool, .cmd, .any, 0⟩,  -- Vendor enable
  ⟨0x1120, 0x01, .u8, .ro, .any, 0⟩,  -- State
  ⟨0x1120, 0x02, .u16, .ro, .any, 65535⟩,  -- Principal
  ⟨0x1120, 0x03, .u8, .ro, .any, 0⟩,  -- Role
  ⟨0x1120, 0x04, .octets 18, .ro, .any, 0⟩,  -- Peer
  ⟨0x1120, 0x05, .u64, .ro, .any, 0⟩,  -- Requests
  ⟨0x1120, 0x06, .time80, .ro, .any, 0⟩,  -- Last request
  ⟨0x1120, 0x07, .bool, .cmd, .any, 0⟩,  -- Close
  ⟨0x1120, 0x08, .u64, .ro, .any, 0⟩,  -- Tag failures
  ⟨0x1120, 0x09, .u64, .ro, .any, 0⟩,  -- Stale sequences
  ⟨0x1120, 0x0A, .u64, .ro, .any, 0⟩,  -- Records dropped
  ⟨0x1130, 0x01, .u16, .rwd, .any, 65535⟩,  -- Domain management slot
  ⟨0x1130, 0x02, .u8, .rw, .between 0 3, 0⟩,  -- Remote role ceiling
  ⟨0x1130, 0x03, .u16, .ro, .any, 0⟩,  -- Relay entries
  ⟨0x1140, 0x01, .u8, .rw, .role, 2⟩,  -- Mailbox role
  ⟨0x1140, 0x02, .u8, .ro, .any, 0⟩,  -- Link state
  ⟨0x1140, 0x03, .u8, .ro, .any, 0⟩,  -- Link
  ⟨0x1140, 0x04, .u8, .rw, .orElse 0 15 255, 255⟩,  -- Management receive channel
  ⟨0x1140, 0x05, .u64, .ro, .any, 0⟩,  -- Management frames dropped
  ⟨0x1150, 0x01, .bool, .cmd, .any, 0⟩,  -- Enable
  ⟨0x1150, 0x02, .u8, .ro, .any, 0⟩,  -- State
  ⟨0x1150, 0x03, .u8, .rwd, .role, 2⟩,  -- Role
  ⟨0x1150, 0x04, .u64, .rwd, .aligned 64, 0⟩,  -- Command ring base
  ⟨0x1150, 0x05, .u16, .rwd, .pow2 64 4096, 256⟩,  -- Command ring size
  ⟨0x1150, 0x06, .u64, .rwd, .aligned 32, 0⟩,  -- Completion ring base
  ⟨0x1150, 0x07, .u64, .rwd, .aligned 32, 0⟩,  -- Receive ring base
  ⟨0x1150, 0x08, .u16, .rwd, .pow2or0 1 4096, 0⟩,  -- Receive ring size
  ⟨0x1150, 0x09, .u16, .ro, .any, 0⟩,  -- Consumer index
  ⟨0x1150, 0x0A, .u32, .rw, .between 10 100000, 1000⟩,  -- Drain limit
  ⟨0x1150, 0x0B, .u64, .ro, .any, 0⟩]  -- Commands completed

/-- Rows of the object tables of chapter 14 of spec/. -/
def rows14b : List Row := [
  ⟨0x1150, 0x0C, .u64, .ro, .any, 0⟩,  -- Receive drops
  ⟨0x1200, 0x01, .bool, .rw, .any, 0⟩,  -- Mask
  ⟨0x1200, 0x02, .u8, .rw, .between 1 3, 0⟩,  -- Severity
  ⟨0x1200, 0x03, .u64, .ro, .any, 0⟩,  -- Raised
  ⟨0x1200, 0x04, .u32, .ro, .any, 0⟩,  -- Pending instances
  ⟨0x1200, 0x05, .octets 24, .ro, .any, 0⟩,  -- Last entry
  ⟨0x1210, 0x01, .bool, .rw, .any, 0⟩,  -- Forerunner alias
  ⟨0x1210, 0x02, .u16, .ro, .any, 0⟩,  -- Queue depth
  ⟨0x1210, 0x03, .u64, .ro, .any, 0⟩,  -- Records lost
  ⟨0x1210, 0x04, .u64, .rwd, .aligned 32, 0⟩,  -- Event ring base
  ⟨0x1210, 0x05, .u32, .rwd, .pow2 64 65536, 1024⟩,  -- Event ring size
  ⟨0x1210, 0x08, .bool, .rw, .any, 0⟩,  -- Event ring enable
  ⟨0x1210, 0x09, .u64, .ro, .any, 0⟩,  -- Root
  ⟨0x1211, 0x01, .u64, .ro, .any, 0⟩,  -- Group word
  ⟨0x1220, 0x01, .octets 24, .ro, .any, 0⟩]  -- Log entry

/-- The object tables of chapter 14. -/
def rows14 : List Row := rows14a ++ rows14b

/-- Rows of the object tables of chapter 15 of spec/. -/
def rows15a : List Row := [
  ⟨0x1000, 0x01, .text 16, .ro, .any, 0⟩,  -- Device serial
  ⟨0x1000, 0x02, .u8, .ro, .any, 0⟩,  -- Stepping
  ⟨0x1000, 0x03, .u8, .ro, .any, 0⟩,  -- Variant
  ⟨0x1000, 0x04, .octets 64, .ro, .any, 0⟩,  -- Identity public key
  ⟨0x1000, 0x05, .octets 1024, .ro, .any, 0⟩,  -- Identity certificate
  ⟨0x1010, 0x01, .octets 32, .wo, .any, 0⟩,  -- Nonce
  ⟨0x1010, 0x02, .bool, .cmd, .any, 0⟩,  -- Generate
  ⟨0x1010, 0x03, .octets 296, .ro, .any, 0⟩,  -- Report
  ⟨0x1300, 0x01, .octets 3146240, .wo, .any, 0⟩,  -- Image
  ⟨0x1300, 0x02, .u8, .ro, .any, 0⟩,  -- Slot state
  ⟨0x1300, 0x03, .u16, .ro, .any, 0⟩,  -- Level
  ⟨0x1300, 0x04, .u8, .ro, .any, 0⟩,  -- Rollback version
  ⟨0x1300, 0x05, .octets 32, .ro, .any, 0⟩,  -- Body digest
  ⟨0x1300, 0x06, .u8, .ro, .any, 0⟩,  -- Last cause
  ⟨0x1301, 0x01, .u8, .ro, .any, 0⟩,  -- Boot image
  ⟨0x1301, 0x02, .bool, .ro, .any, 0⟩,  -- Fallback
  ⟨0x1301, 0x03, .u16, .rw, .between 2 60, 10⟩,  -- Start timeout
  ⟨0x1320, 0x01, .octets 32, .ro, .any, 0⟩,  -- Owner key hash
  ⟨0x1320, 0x02, .octets 32, .cmd, .any, 0⟩,  -- Program owner key hash
  ⟨0x1320, 0x03, .u8, .ro, .any, 0⟩,  -- Anti-rollback counter
  ⟨0x1320, 0x04, .bool, .cmd, .any, 0⟩,  -- Commit rollback
  ⟨0x1400, 0x01, .octets 65536, .wo, .any, 0⟩,  -- Staged set
  ⟨0x1400, 0x02, .bool, .cmd, .any, 0⟩,  -- Commit
  ⟨0x1400, 0x03, .octets 65536, .ro, .any, 0⟩,  -- Set in force
  ⟨0x1400, 0x04, .u32, .ro, .any, 0⟩,  -- Commits
  ⟨0x1400, 0x05, .u8, .ro, .any, 0⟩,  -- Last result
  ⟨0x1400, 0x06, .octets 32, .ro, .any, 0⟩,  -- Set digest
  ⟨0x1400, 0x07, .u8, .ro, .any, 0⟩,  -- Origin
  ⟨0x5E00, 0x01, .u8, .ro, .any, 0⟩,  -- Result
  ⟨0x5E00, 0x02, .text 16, .ro, .any, 0⟩,  -- Board type
  ⟨0x5E00, 0x03, .u16, .ro, .any, 0⟩,  -- Board revision
  ⟨0x5E00, 0x04, .text 16, .ro, .any, 0⟩,  -- Board serial
  ⟨0x5E00, 0x05, .octets 32, .ro, .any, 0⟩,  -- Digest
  ⟨0x5E01, 0x01, .u8, .ro, .any, 192⟩,  -- Cage flags
  ⟨0x5E01, 0x02, .u16, .ro, .any, 0⟩,  -- Cage label
  ⟨0x5E10, 0x01, .bool, .ro, .any, 0⟩,  -- Present
  ⟨0x5E10, 0x02, .u8, .ro, .any, 0⟩,  -- Standard
  ⟨0x5E10, 0x03, .text 16, .ro, .any, 0⟩,  -- Vendor name
  ⟨0x5E10, 0x04, .text 16, .ro, .any, 0⟩,  -- Part number
  ⟨0x5E10, 0x05, .text 16, .ro, .any, 0⟩,  -- Module serial
  ⟨0x5E10, 0x06, .u8, .ro, .any, 0⟩,  -- Capabilities
  ⟨0x5E10, 0x07, .bool, .rw, .any, 0⟩,  -- PAM4 override
  ⟨0x5E10, 0x08, .bool, .ro, .any, 0⟩]  -- Transmitter fault

/-- The object tables of chapter 15. -/
def rows15 : List Row := rows15a

/-- The table that holds an index. -/
def chapter (index : Nat) : List Row :=
  if index < 0x1040 then rows15
  else if index < 0x1100 then rows01
  else if index < 0x1300 then rows14
  else if index < 0x2000 then rows15
  else if index < 0x2005 then rows02
  else if index < 0x3000 then rows03
  else if index < 0x3400 then rows04
  else if index < 0x3800 then rows05
  else if index < 0x4000 then rows06
  else if index < 0x4400 then rows07
  else if index < 0x4C00 then rows08
  else if index < 0x5000 then rows09
  else if index < 0x5400 then rows10
  else if index < 0x5800 then rows11
  else if index < 0x5C00 then rows12
  else if index < 0x5E00 then rows13
  else if index < 0x5E80 then rows15
  else rows01

/-- The row of a subindex. -/
def row (index sub : Nat) : Option Row := (chapter index).find? fun r => r.sub == sub && r.index == index

/-- The highest subindex an index defines (R450). -/
def highest (index : Nat) : Nat :=
  (chapter index).foldl (fun m r => if r.index = index then max m r.sub else m) 0

/-- Instances of an index on a device with that many trees; 0 for an index without instances. An index whose
instance numbers have gaps is settled in has. -/
def count (trees index : Nat) : Nat :=
  match index with
  | 0x1041 | 0x1042 => 10
  | 0x1050 => 4
  | 0x1051 => 142
  | 0x1101 | 0x1300 | 0x50C0 | 0x5D20 => 2
  | 0x1110 => 256
  | 0x1120 | 0x1211 | 0x5140 | 0x5590 => 64
  | 0x1150 => 16
  | 0x1200 => 4096
  | 0x1220 | 0x3700 | 0x3800 => 1024
  | 0x3000 | 0x3900 | 0x4200 | 0x4880 | 0x4E40 => 512 * trees
  | 0x3100 | 0x3101 | 0x3200 | 0x3600 | 0x4100 | 0x4890 | 0x5D80 | 0x5E01 | 0x5E10 | 0x5E80 => trees
  | 0x3400 | 0x3A00 => 1024 * trees
  | 0x3810 => 16
  | 0x3820 => 1536
  | 0x3880 => 2 * trees
  | 0x3B00 => 4 * trees
  | 0x4000 | 0x4700 => 65536
  | 0x4300 | 0x4800 | 0x4C40 | 0x4D00 | 0x4400 => 131072
  | 0x4380 | 0x5080 | 0x5D00 | 0x5C10 => 8
  | 0x4491 => 6
  | 0x44A0 | 0x4601 | 0x5090 | 0x5C40 | 0x5D40 => 32
  | 0x4900 | 0x4D80 | 0x5180 => 4096
  | 0x4A00 => 17
  | 0x4C00 | 0x5100 => 4
  | 0x4C10 => 528
  | 0x4C80 => 8192
  | 0x4E00 => 128
  | 0x4E20 => 2176
  | 0x4E60 => 200960
  | 0x4F00 => 262144
  | 0x5000 => 70
  | 0x5400 => 216
  | 0x5460 => 12
  | 0x5480 => 344
  | 0x5510 | 0x5900 => 14
  | 0x55C0 => 64
  | 0x5800 | 0x5820 | 0x5840 => 472
  | 0x5940 => 224
  | _ => 0

/-- A memory number of spec/12 R408. -/
def memoryOk (trees m : Nat) : Bool :=
  (m < 14 && (m < trees / 4 || 12 ≤ m)) || (16 ≤ m && m < 16 + trees) || (64 ≤ m && m ≤ 67) || m == 70 || m == 71
    || (256 ≤ m && (m - 256) / 16 < 14 && ((m - 256) / 16 < trees / 4 && (m - 256) % 16 < 12
      || 12 ≤ (m - 256) / 16 && (m - 256) % 16 < 8))

/-- An engine ID of spec/00 R4. -/
def engine (trees e : Nat) : Bool :=
  (e / 16 < trees / 4 && e % 16 < 12) || ((e / 16 == 12 || e / 16 == 13) && e % 16 < 8)

/-- A buffer requester of spec/09 R304. -/
def requesterOk (trees r : Nat) : Bool :=
  r < trees || (64 ≤ r && r < 100) || (256 ≤ r && engine trees (r - 256)) || (512 ≤ r && r < 528)

/-- An instance of an index exists (spec/00 R2, R4 and the instance range of each table). Trees and clusters
that are fused off have none. -/
def hasInst (trees index inst : Nat) : Bool :=
  if 0x2000 ≤ index ∧ index < 0x3000 then
    (if index = 0x2005 ∨ index = 0x2006 then inst / 1024 < trees && inst % 1024 < 4
     else if index = 0x2010 then inst / 1024 < trees && inst % 1024 < 512
     else inst < trees)
  else if index = 0x5400 then engine trees inst
  else if index = 0x5480 then engine trees inst || (256 ≤ inst && inst < 344)
  else if index = 0x4C10 then requesterOk trees inst
  else if index = 0x5800 ∨ index = 0x5820 ∨ index = 0x5840 then memoryOk trees inst
  else if index = 0x5900 ∨ index = 0x5510 then (inst < trees / 4 || 12 ≤ inst) && inst < 14
  else if index = 0x5940 then (inst / 16 < trees / 4 || 12 ≤ inst / 16) && inst < 224
  else if index = 0x1051 then inst < 142 && (inst < trees / 4 || (12 ≤ inst && inst < 16 + trees) || 64 ≤ inst)
  else if index = 0x3820 then inst < 1536 && inst % 96 / 2 < trees
  else if index = 0x4E00 then inst < 128 && (inst < 2 * trees || 96 ≤ inst)
  else if index = 0x4E20 then inst < 2176 && (inst / 17 < 2 * trees || 96 ≤ inst / 17)
  else if index = 0x4E60 then inst < 200960 && (inst / 8 < 512 * trees || 196608 ≤ inst)
  else match count trees index with
    | 0 => inst == 0
    | n => inst < n

/-- The object exists (spec/00 R19, R2, R4). -/
def has (trees index inst sub : Nat) : Bool :=
  match row index sub with
  | some _ => hasInst trees index inst
  | none => false

/-- Index and instance as this model holds them, from an access that names a tree object by its own index and a
single object by instance 0xFFFFFFFF (spec/00 R18, spec/14 R460). -/
def locate (index inst : Nat) : Option (Nat × Nat) :=
  if 0x2000 ≤ index ∧ index < 0x3000 then
    let off := (index - 0x2000) % 0x40
    let t := (index - 0x2000) / 0x40
    if off = 5 ∨ off = 6 ∨ off = 0x10 then (if inst < 1024 then some (0x2000 + off, 1024 * t + inst) else none)
    else if inst = 0xFFFFFFFF then some (0x2000 + off, t) else none
  else if count 48 index = 0 then (if inst = 0xFFFFFFFF then some (index, 0) else none)
  else some (index, inst)

/-- Default quotas of a requester in pools 0 to 3 (spec/09 R304). -/
def quota (r p : Nat) : Reg :=
  let l := if r < 64 then [4096, 1024, 64, 16384]
    else if r < 100 then [8192, 1024, 64, 32768]
    else if r < 512 then [64, 16, 4, 16]
    else [256, 64, 8, 64]
  l.getD p 0

/-- Buffers of a pool (spec/09 R301). -/
def poolSize (p : Nat) : Reg := [151552, 36864, 1024, 1572864].getD p 0

/-- Default low mark of a pool: a sixteenth of its buffers (spec/09 R328). -/
def poolMark (p : Nat) : Reg := [9472, 2304, 64, 98304].getD p 0

/-- Event numbers that last until their cause clears: every other number is self-clearing (R472 and the event
tables). Alias numbers follow their native numbers (R479). -/
def lastingList : List Nat :=
  [6, 16, 17, 1030, 1040, 1041, 1042, 1536, 1537, 1552, 1558, 1560, 2048, 2049, 2050, 2055, 2057, 2058, 2308,
   2560, 2562, 2816, 2817, 2832, 2838, 3074, 3076, 3079, 3083, 3088, 3588, 3590, 3595, 3841, 3846, 3847, 3848,
   3852, 3968, 3969, 3971, 3972, 3973, 3974, 3979, 3983, 4033, 4034, 4037, 4039, 4040, 4042, 4046, 4047]

/-- Whether an event number lasts. -/
def lasting (num : Nat) : Bool := lastingList.contains num

/-- The native numbers that have a forerunner alias, in alias order (R479). -/
def natives : List Nat :=
  [0, 16, 17, 5, 1024, 1030, 1033, 1041, 2049, 2818, 2832, 3072, 3585, 3840, 3968, 3969]

/-- The alias number of a native number (R479). -/
def aliasOf (num : Nat) : Option Nat := (natives.findIdx? fun n => n == num).map fun i => 4032 + i

/-- The native number whose default severity a number has (R479). -/
def nativeOf (num : Nat) : Nat := if 4032 ≤ num ∧ num < 4048 then natives.getD (num - 4032) num else num

/-- Default severity (R471). -/
def dfltSeverity (num : Nat) : Reg :=
  let n := nativeOf num
  if n = 1537 ∨ n = 2832 ∨ n = 3074 ∨ n = 3595 ∨ n = 3848 ∨ n = 3969 then 3 else if lasting n then 2 else 1

/-- Default scrub pass in seconds (spec/12 R408). -/
def dfltPass (m : Nat) : Reg := if m = 70 ∨ m = 71 then 600 else if 64 ≤ m ∧ m ≤ 67 then 10 else 1

/-- Words of 64 data bits of a memory (spec/12 R408). -/
def memWords (m : Nat) : Nat :=
  if m < 14 then 557056
  else if m < 64 then 89600
  else if m = 64 then 16777216
  else if m = 65 then 9437184
  else if m = 66 then 786432
  else if m = 67 then 6291456
  else if m < 72 then 1610612736
  else 8192

/-- Spare engine slots (spec/00 R5, R6): slots 4, 5, 7 and 9 of a tree cluster, 6 and 7 of a hub cluster. -/
def spareSlot (e : Nat) : Bool :=
  if e / 16 < 12 then [4, 5, 7, 9].contains (e % 16) else [6, 7].contains (e % 16)

/-- The content an object holds when nothing has written it since reset: the table's default, worked out from
the instance where the table says so. Where the table gives a dash, 0 (log entry 2). -/
def dflt (k : Key) : Reg :=
  let base := match row k.index k.sub with
    | some r => r.dflt
    | none => 0
  match k.index with
  | 0x1200 => if k.sub = 2 then dfltSeverity k.inst else base
  | 0x3880 =>
    if k.inst % 2 = 0 then (if k.sub = 1 then 560000 else if k.sub = 2 then 640000 else if k.sub = 7 then 1 else base)
    else (if k.sub = 1 then 112000 else if k.sub = 2 then 140000 else if k.sub = 7 then 0 else base)
  | 0x4C00 => if k.sub = 1 ∨ k.sub = 2 ∨ k.sub = 5 then poolSize k.inst else if k.sub = 3 then poolMark k.inst else base
  | 0x4C10 => if 1 ≤ k.sub ∧ k.sub ≤ 4 then quota k.inst (k.sub - 1) else base
  | 0x4E00 => if k.sub = 3 then (if k.inst < 96 then 0 else 1) else base
  | 0x4E20 => if k.sub = 3 then (if k.inst < 1632 then 2 else 1) else base
  | 0x4E40 | 0x4E60 | 0x4C40 | 0x4C80 => if k.sub = 3 then 1 else base
  | 0x5400 =>
    if k.sub = 1 then (if spareSlot k.inst then 0xFF else k.inst)
    else if k.sub = 2 then (if spareSlot k.inst then 1 else 0)
    else base
  | 0x5800 => if k.sub = 1 then memWords k.inst else base
  | 0x5820 => if k.sub = 2 then dfltPass k.inst else base
  | 0x5940 => if k.sub = 4 then 0xFFFFFFFFFFFFFFFF else base
  | _ => base

/-- The ownership kind and instance behind an object's instance (spec/06 R200, spec/09 R328). -/
def ownKind (index inst : Nat) : Option (Nat × Nat) :=
  match index with
  | 0x3000 | 0x3900 | 0x4200 | 0x4880 | 0x4E40 => some (0, inst)
  | 0x4E60 => if inst < 196608 then some (0, inst / 8) else none
  | 0x3400 | 0x3A00 => some (1, inst)
  | 0x4300 | 0x4800 | 0x4D00 => some (2, inst)
  | 0x4C40 => some (3, inst)
  | 0x4C80 => some (4, inst)
  | 0x4F00 => some (5, inst)
  | 0x4000 => some (6, inst)
  | 0x3700 => some (7, inst)
  | 0x4400 => some (8, inst % 65536)
  | _ => none

/-- Objects whose writes are reserved to the owner (spec/00 R21; spec/14 R480; spec/15 R504; the objects marked
owner only in spec/01, 09, 11, 12, 15). -/
def ownerOnly (index sub : Nat) : Bool :=
  match index with
  | 0x1040 => sub == 3 || sub == 4
  | 0x1110 | 0x1112 | 0x1130 | 0x1140 | 0x1300 | 0x1320 | 0x1400 => true
  | 0x4C10 => sub == 0x0A
  | 0x5480 => sub == 5
  | 0x5840 => true
  | 0x5E10 => sub == 7
  | _ => false

/-- Objects marked owner, which a role with the observer's rights of reading does not read either (R21). -/
def ownerMarked (index sub : Nat) : Bool :=
  match index with
  | 0x1040 => sub == 3 || sub == 4
  | 0x1112 => sub == 1
  | 0x4C10 => sub == 0x0A
  | 0x5480 => sub == 5
  | 0x5840 => true
  | 0x5E10 => sub == 7
  | _ => false

/-- Objects that only the operator and the owner may read (spec/15 R504: the calibration set in force). -/
def operatorRead (index sub : Nat) : Bool := index == 0x1400 && sub == 3

end Objects

end Sys2Proof.Machine
end

