-- ==== Sys2Proof/Machine/Ops.lean ====
section
/-!
DEFINITION. Machine/Ops.lean: the named operations every meaning uses: reading and writing objects and hidden
registers, counters, what the block sends, free values, the status of an access, events, and the checks and the
freeze that every access of the dictionary goes through.
-/
namespace Sys2Proof.Machine

/-- The content of object index[inst].sub. -/
def State.get (s : State) (index inst sub : Nat) : Reg := s.objs.read Objects.dflt ⟨index, inst, sub⟩

/-- Object index[inst].sub written. -/
def State.put (s : State) (index inst sub : Nat) (v : Reg) : State :=
  { s with objs := s.objs.write Objects.dflt ⟨index, inst, sub⟩ v }

/-- The content of a hidden register. -/
def State.aux (s : State) (a : Aux) (i : Nat := 0) (j : Nat := 0) : Reg :=
  s.regs.read Aux.dflt ⟨a.ctorIdx, i, j⟩

/-- A hidden register written. -/
def State.setAux (s : State) (a : Aux) (i : Nat) (j : Nat) (v : Reg) : State :=
  { s with regs := s.regs.write Aux.dflt ⟨a.ctorIdx, i, j⟩ v }

/-- A U64 counter object advanced by n. -/
def State.bump (s : State) (index inst sub : Nat) (n : Nat := 1) : State :=
  s.put index inst sub (wrapAdd 64 (s.get index inst sub) n)

/-- A U32 counter object advanced by n. -/
def State.bump32 (s : State) (index inst sub : Nat) (n : Nat := 1) : State :=
  s.put index inst sub (wrapAdd 32 (s.get index inst sub) n)

/-- A hidden counter advanced by n. -/
def State.incAux (s : State) (a : Aux) (i : Nat := 0) (j : Nat := 0) (n : Nat := 1) : State :=
  s.setAux a i j (s.aux a i j + n)

/-- The block sends something: it is appended to what it has sent. -/
def State.send (s : State) (k : OutKind) (args : List Reg) : State := { s with out := s.out ++ [⟨k, args⟩] }

/-- A value the spec leaves open: the next free value, unconstrained (log entry 7). -/
def State.fresh (s : State) : Reg × State := (Config.freeValue s.freeCtr, { s with freeCtr := s.freeCtr + 1 })

/-- The access ends with a status and no value (R452). -/
def refuse (status : Nat) (s : State) : State := { s with answer := ⟨status, 0⟩ }

/-- The access is made (R452 status 0). -/
def done (s : State) (v : Reg := 0) : State := { s with answer := ⟨0, v⟩ }

/-- A command of the running device. While the device is held in reset, starts or waits in recovery, no unit
runs and no access is answered (spec/15 R483, spec/01 R36 to R43). -/
def whenUp (s : State) (f : State → State) : Host.Outcome State Fault Refusal :=
  .next (if s.phase = .running then f s else s)

/-- A command of the monitors that watch rails, sensors and reference clocks, which work from the release of PORST_N
on: in a running device, during a start, and while the boot ROM waits for an image (spec/01 R39, R42, R46). -/
def whenPowered (s : State) (f : State → State) : Host.Outcome State Fault Refusal :=
  .next (if s.phase = .running ∨ s.phase = .starting ∨ s.phase = .recovery then f s else s)

/-- Folds an operation over a list. -/
def overAll {α : Type} (l : List α) (f : α → State → State) (s : State) : State := l.foldl (fun s a => f a s) s

/-- A condition on an operation. -/
def onlyIf (c : Bool) (f : State → State) (s : State) : State := if c then f s else s

/-! ## Variant, engines, islands -/

/-- Trees of the variant (spec/00 R1, R2): 0x1000.03 is 1 on the AK4832-FA. -/
def State.trees (s : State) : Nat := if s.get 0x1000 0 0x03 = 1 then 32 else 48

/-- An engine ID that names an engine (spec/00 R4). -/
def engineOk (trees e : Nat) : Bool :=
  let c := e / 16
  let n := e % 16
  (c < trees / 4 && n < 12) || ((c == 12 || c == 13) && n < 8)

/-- The clock island is running (0x1051[island].02, spec/01 R54). -/
def State.islandUp (s : State) (i : Nat) : Bool := s.get 0x1051 i 0x02 == 0

/-- The tree exists and its tree port island runs. -/
def State.treeUp (s : State) (t : Nat) : Bool := t < s.trees && s.islandUp (16 + t)

/-! ## Events (spec/14 R471 to R479) -/

/-- The severity in force for an event number. -/
def severity (s : State) (num : Nat) : Nat := s.get 0x1200 num 0x02

/-- The 24-byte entry of a record as a number (R475, R476), the record first. -/
def Rec.entry (r : Rec) : Reg :=
  let rec16 := ((r.num % 2 ^ 12) * 2 ^ 116 + (r.sev % 4) * 2 ^ 114 + (r.inst % 2 ^ 18) * 2 ^ 96
    + stamp64 r.stamp * 2 ^ 32 + (r.a1 % 2 ^ 16) * 2 ^ 16 + r.a2 % 2 ^ 16)
  let ext := (r.a1 / 2 ^ 16 % 2 ^ 16) * 2 ^ 48 + (r.a2 / 2 ^ 16 % 2 ^ 16) * 2 ^ 32 + r.seq % 2 ^ 32
  rec16 * 2 ^ 64 + ext

/-- A record enters the hardware queue, or is dropped and counted when 8,192 wait (R477). It takes the next
sequence number of its event number (R476). A masked number's records do not reach the queue (R473). -/
def enqueueRec (num sev inst : Nat) (stamp : Ns) (a1 a2 : Reg) (s : State) : State :=
  if s.get 0x1200 num 0x01 = 1 then s
  else
    let seq := wrapAdd 32 (s.aux .evSeq num) 1
    let r : Rec := ⟨num, sev, inst, stamp, a1 % 2 ^ 32, a2 % 2 ^ 32, seq⟩
    let s := (s.setAux .evSeq num 0 seq).put 0x1200 num 0x05 r.entry
    if s.evQueue.length < 8192 then { s with evQueue := s.evQueue ++ [r] }
    else (s.bump 0x1210 0 0x03).incAux .evLostRep

/-- Whether an event number is pending for an instance (R472). -/
def isPending (s : State) (num inst : Nat) : Bool := s.evPending.any fun r => r.num == num && r.inst == inst

/-- The pending instances with one record added or brought up to date, in the order in which they became
pending (R473). -/
def addPending (r : Rec) : List Rec → List Rec
  | [] => [r]
  | x :: l => if x.num = r.num ∧ x.inst = r.inst then r :: l else x :: addPending r l

/-- One number's raised record (R471 to R473, R476, R477). -/
def raiseOne (num inst : Nat) (a1 a2 : Reg) (s : State) : State :=
  let s := s.bump 0x1200 num 0x03
  let s := if Objects.lasting num then
      let s' := { s with evPending := addPending ⟨num, severity s num, inst, s.now, a1 % 2 ^ 32, a2 % 2 ^ 32, 0⟩ s.evPending }
      s'.put 0x1200 num 0x04 (s'.evPending.countP fun r => r.num == num)
    else s
  enqueueRec num (severity s num) inst s.now a1 a2 s

/-- One number's clearing record: severity 0 and zero arguments (R471). -/
def clearOne (num inst : Nat) (s : State) : State :=
  if isPending s num inst then
    let s := { s with evPending := s.evPending.filter fun r => !(r.num == num && r.inst == inst) }
    let s := s.put 0x1200 num 0x04 (s.evPending.countP fun r => r.num == num)
    enqueueRec num 0 inst s.now 0 0 s
  else s

/-- The instance an alias record carries, none where the native instance is not aliased (R479). -/
def aliasInst (num inst : Nat) : Option Nat :=
  if num = 0 ∨ num = 16 ∨ num = 17 ∨ num = 5 then (if inst < 16 then some inst else none)
  else if num = 1024 ∨ num = 1030 ∨ num = 1033 ∨ num = 1041 then
    (if inst / 512 < 16 ∧ inst % 512 < 256 then some (256 * (inst / 512) + inst % 512) else none)
  else some inst

/-- An event is raised, and its forerunner alias with it when the alias is set (R479). -/
def raise (num inst : Nat) (a1 a2 : Reg) (s : State) : State :=
  let s := raiseOne num inst a1 a2 s
  match Objects.aliasOf num, aliasInst num inst with
  | some a, some i => if s.get 0x1210 0 0x01 = 1 then raiseOne a i a1 a2 s else s
  | _, _ => s

/-- An event's clearing, and its alias's. -/
def clear (num inst : Nat) (s : State) : State :=
  let s := clearOne num inst s
  match Objects.aliasOf num, aliasInst num inst with
  | some a, some i => clearOne a i s
  | _, _ => s

/-- A cause that can arise before READY: the event is raised, or it waits for READY to rise (spec/15 R505). -/
def reportCause (num inst : Nat) (a1 a2 : Reg) (s : State) : State :=
  if s.phase = .running then raise num inst a1 a2 s
  else if Objects.lasting num then { s with early := addPending ⟨num, 0, inst, s.now, a1, a2, 0⟩ s.early }
  else { s with early := s.early ++ [⟨num, 0, inst, s.now, a1, a2, 0⟩] }

/-- The condition of a lasting event ends: its clearing, or the cause that waited for READY is gone (log entry 101). -/
def withdraw (num inst : Nat) (s : State) : State :=
  if s.phase = .running then clear num inst s
  else { s with early := s.early.filter fun r => !(r.num == num && r.inst == inst) }

/-- READY rises: the causes that waited are raised, stamped with this instant (spec/15 R505). -/
def reportEarly (s : State) : State :=
  overAll s.early (fun r s => raise r.num r.inst r.a1 r.a2 s) { s with early := [] }

/-- An occurrence counted for the last second: those that have left it are forgotten. -/
def noteHit (num key arg n : Nat) (s : State) : State :=
  { s with recent := s.recent.filter (fun h => s.now < h.at' + 1000000000) ++ [⟨num, key, arg, n, s.now⟩] }

/-- The occurrences of an event in the last second, of one kind. -/
def lastSecond (s : State) (num key arg : Nat) : Nat :=
  (s.recent.filter fun h => h.num == num && h.key == key && h.arg == arg && s.now < h.at' + 1000000000).foldl (fun n h => n + h.n) 0

/-- An event raised at most once per second for each key, with what has been counted for it in the last second: f gives the arguments
from the counts of kinds 0 and 1 (log entry 132). -/
def summarise (num key inst : Nat) (f : Nat → Nat → Reg × Reg) (s : State) : State :=
  let last := s.aux .evLast num key
  if last = 0 ∨ last - 1 + 1000000000 ≤ s.now then
    let a := f (lastSecond s num key 0) (lastSecond s num key 1)
    raise num inst a.1 a.2 (s.setAux .evLast num key (s.now + 1))
  else s

/-- An event raised at most once per second for each key: f gives the arguments from the occurrences of the last second. -/
def raiseSecAt (num key inst : Nat) (f : Nat → Reg × Reg) (s : State) (n : Nat := 1) : State :=
  summarise num key inst (fun a _ => f a) (noteHit num key 0 n s)

/-- An event raised at most once per second and instance. -/
def raiseSec (num inst : Nat) (f : Nat → Reg × Reg) (s : State) (n : Nat := 1) : State :=
  raiseSecAt num inst inst f s n

/-- An event of two counts raised at most once per second and instance: the occurrences of kind arg are n more. -/
def raisePair (num inst arg n : Nat) (s : State) : State := summarise num inst inst (fun a b => (a, b)) (noteHit num inst arg n s)

/-- The event numbers that are unmasked and pending, as the group word g of R474. -/
def groupWord (s : State) (g : Nat) : Reg :=
  (List.range 64).foldl (fun w n =>
    if s.get 0x1200 (64 * g + n) 0x01 = 0 ∧ (s.evPending.any fun r => r.num == 64 * g + n) = true
    then w + 2 ^ n else w) 0

/-- The root of the event tree (R474). -/
def rootWord (s : State) : Reg :=
  (List.range 64).foldl (fun w g => if groupWord s g = 0 then w else w + 2 ^ g) 0

/-- ALARM_N is asserted (R472). -/
def alarm (s : State) : Bool :=
  s.evPending.any fun r => s.get 0x1200 r.num 0x01 == 0 && 2 ≤ severity s r.num

/-! ## Ownership and masters (spec/06 R199 to R201, spec/11 R391 to R393) -/

/-- The owner of an instance of an ownership kind: a tenant, or 16 for the operator pool (spec/06 R199, R200). A
record in force is always listed, because an unlisted 0x3800[r].01 holds 0xFF. -/
def ownerOf (s : State) (kind inst : Nat) : Nat :=
  match s.objs.find? (fun e =>
      e.1.index == 0x3800 && e.1.sub == 1 && e.2 != 0xFF && s.get 0x3800 e.1.inst 2 == kind
        && s.get 0x3800 e.1.inst 3 ≤ inst && inst ≤ s.get 0x3800 e.1.inst 4) with
  | some e => e.2
  | none => 16

/-- The buffer requester that is the same unit as a master: an engine or a DMA channel (R392, spec/09 R304). -/
def requesterOf (master : Nat) : Option Nat :=
  if master < 216 then some (256 + master)
  else if 256 ≤ master ∧ master < 272 then some (512 + (master - 256))
  else none

/-- The master of a buffer requester, and the reverse of requesterOf. -/
def masterOf (requester : Nat) : Option Nat :=
  if 256 ≤ requester ∧ requester < 472 then some (requester - 256)
  else if 512 ≤ requester ∧ requester < 528 then some (requester - 512 + 256)
  else none

/-- The master is frozen (0x5480[k].01). -/
def frozen (s : State) (master : Nat) : Bool := s.get 0x5480 master 0x01 == 1

end Sys2Proof.Machine
end

