-- ==== Sys2Proof/Machine/Engines.lean ====
section
/-!
DEFINITION. Machine/Engines.lean: claims and privileged stages, the engines' knells, spares and reloads, and the freeze
of a master (spec/11 R378 to R393; spec/12 R424 for the self-tests that a diagnostic engine supervises).
-/
namespace Sys2Proof.Machine

/-! ## The end and the abandonment of a self-test (spec/12 R423, R424) -/

/-- The bank of a cluster under test, or retired: the bank whose addresses the spare bank serves or shares. -/
def lentBank (s : State) (c : Nat) : Nat := s.get 0x5900 c 0x03

/-- The supervising diagnostic engine of a cluster (R420 cause 4). -/
def diagnostic (c : Nat) : Nat := if c < 12 then 16 * c + 11 else 11

/-- A cluster's self-test runs. -/
def testRunning (s : State) (c : Nat) : Bool := s.get 0x5900 c 2 != 0

/-- The end of a test with a result (R423, R424). -/
def endTest (c result : Nat) (s : State) : State :=
  let bank := lentBank s c
  let s := ((s.put 0x5900 c 2 0).put 0x5900 c 5 result).put 0x5900 c 8 ((s.now - s.aux .stStart c) / 1000 % 2 ^ 32)
  let s := s.put 0x5900 c 9 (if result = 2 then 2 else 0)
  let s := if result = 1 ∨ result = 2 then raise 3593 c (256 * bank + result) (s.aux .stFail c) s else s
  if result = 2 then raise 3595 c bank 0 (s.put 0x5940 (16 * c + bank) 5 1) else s

/-- A running test is abandoned (R424): COPYING OUT ends at once, TESTING and REPAIRING go on to COPYING BACK, and
COPYING BACK completes. -/
def abandonTest (c cause : Nat) (s : State) : State :=
  if testRunning s c ∧ s.aux .stAban c = 0 then
    let st := s.get 0x5900 c 2
    let s := raise 3594 c (lentBank s c) cause ((s.setAux .stAban c 0 cause).put 0x5900 c 6 cause)
    if st = 1 then endTest c 4 s
    else s.put 0x5900 c 2 4
  else s

/-- The supervising engine stops: the tests it supervises are abandoned with cause 3 (R424). -/
def diagnosticDown (e : Nat) (s : State) : State :=
  overAll (List.range 14) (fun c s => if diagnostic c = e then abandonTest c 3 s else s) s

/-! ## Whole-word writes (spec/12 R412, R418) -/

/-- An armed flip mask acts on a functional write of this word and clears itself (R418). -/
def applyFlip (m w : Nat) (cw : Reg) (s : State) : Reg × State :=
  let at' := s.get 0x5840 m 3
  if s.get 0x5840 m 4 = 1 ∧ (at' = 0xFFFFFFFFFFFFFFFF ∨ at' / 8 = w) then
    (Nat.xor cw (s.get 0x5840 m 1 % 2 ^ 64 + 2 ^ 64 * (s.get 0x5840 m 2 % 256)),
      raise 3589 m (8 * w) 0 ((s.put 0x5840 m 4 2).put 0x5840 m 5 (8 * w)))
  else (cw, s)

/-- The word that a place of a cluster memory stands for: in the spare bank that of the bank that it stands in for. -/
def logicalWord (s : State) (m p : Nat) : Nat := if m < 14 ∧ 524288 ≤ p then 32768 * lentBank s m + p % 32768 else p

/-- A whole word written at a place with fresh check bits. -/
def rewriteWord (m p data : Nat) (s : State) : State :=
  let (cw, s) := applyFlip m (logicalWord s m p) (codeWord data 0) s
  s.setWord m p cw

/-! ## Privileged stages (R378, R379) -/

/-- The accepted claim of a stage. -/
def stageClaim (s : State) (stage inst : Nat) : Nat :=
  if stage = 0 then s.get 0x3600 inst 0x13 else s.aux .engClaim stage inst

/-- The allocation of a tree with an Alloc-ID. -/
def allocOf (s : State) (t id : Nat) : Option Nat :=
  (s.objs.find? fun e => e.1.index == 0x3400 && e.1.sub == 3 && e.1.inst / 1024 == t && e.2 == id
    && s.get 0x3400 e.1.inst 1 == 1).map fun e => e.1.inst

/-- The cooperative binding of an allocation. -/
def coopBinding (s : State) (a : Nat) : Option Nat :=
  (s.objs.find? fun e => e.1.index == 0x3700 && e.1.sub == 3 && e.2 == a && s.get 0x3700 e.1.inst 1 == 1).map fun e => e.1.inst

/-- Cooperative grants among entries that will not be sent are no longer pending (spec/05 R190). -/
def coopDropped (t : Nat) (es : List Grant) (s : State) : State :=
  overAll (es.filter fun e => e.kind == 5) (fun e s => match (allocOf s t e.alloc).bind (coopBinding s) with
    | some c => s.setAux .coopPend c 0 (s.aux .coopPend c - e.bytes)
    | none => s) s

/-- A claim accepted by a stage from a unit: what a lower claim had staged at an emitter is discarded (spec/05 R171), and with it
the refusal of that map's later entries. -/
def acceptClaim (stage inst claim unit : Nat) (s : State) : State :=
  let s := (s.setAux .engVac stage inst 1).setAux .engHolds stage inst (unit + 1)
  if stage = 0 then
    let s := overAll (s.staged.filter fun g => g.tree == inst) (fun g s => coopDropped inst g.entries s) s
    { ((s.put 0x3600 inst 0x13 claim).setAux .mapStop inst 0 0).setAux .mapStop inst 1 0 with
      staged := s.staged.filter (fun g => g.tree != inst) }
  else s.setAux .engClaim stage inst claim

/-- Claim c is higher than claim a (R378). -/
def claimHigher (c a : Nat) : Bool :=
  let d := (c + 65536 - a % 65536) % 65536
  1 ≤ d && d ≤ 32767

/-- A refused claim is counted and reported as its stage says (R379). -/
def claimRefused (stage inst claim : Nat) (s : State) : State :=
  let a := stageClaim s stage inst
  match stage with
  | 0 => raise 1540 inst claim a (s.bump 0x3600 inst 0x0D)
  | 1 => raise 3089 9 claim a (s.bump 0x5460 9 4)
  | 3 => raise 3089 10 claim a (s.bump 0x5460 10 4)
  | 4 => raise 3089 11 claim a (s.bump 0x5460 11 4)
  | _ => s

/-- A write offered to a stage with a claim by a unit (R378): whether the stage takes it. -/
def offer (stage inst claim unit : Nat) (s : State) : Bool × State :=
  let a := stageClaim s stage inst
  if claim = a ∧ s.aux .engVac stage inst = 1 then (true, s)
  else if claimHigher claim a then (true, acceptClaim stage inst claim unit s)
  else (false, claimRefused stage inst claim s)

/-- A unit that takes over writes with one claim more than the last accepted (R380). -/
def raiseClaim (stage inst unit : Nat) (s : State) : State :=
  acceptClaim stage inst ((stageClaim s stage inst + 1) % 65536) unit s

/-! ## Engines, roles and spares (spec/00 R4 to R6, R380 to R387) -/

/-- The privileged stages of an engine role, named by the engine of its slot (R379). -/
def roleStages (s : State) (role : Nat) : List (Nat × Nat) :=
  let c := role / 16
  let n := role % 16
  if c < 12 then
    (if n < 4 then (if 4 * c + n < s.trees then [(0, 4 * c + n)] else []) else if n = 6 then [(1, c)] else [])
  else if role = 212 then [(1, 12)]
  else []

/-- The spares of a role (R387's table). -/
def roleSpares (role : Nat) : List Nat :=
  let b := role / 16 * 16
  let n := role % 16
  if role / 16 < 12 then
    (if n < 4 then [b + 4, b + 5] else if n = 6 then [b + 7] else if n = 8 then [b + 9] else [])
  else if n < 6 then [b + 6, b + 7] else []

/-- The role of an engine's own slot, none for a spare. -/
def homeRole (e : Nat) : Option Nat := if Objects.spareSlot e then none else some e

/-- The engine that carries a role now. -/
def carrierOf (s : State) (role : Nat) : Option Nat :=
  (role :: roleSpares role).find? fun e => s.get 0x5400 e 1 == role && s.get 0x5400 e 2 == 0

/-- The poisoned words of a role's area are written whole, with good check bits, by the engine that takes the role,
before it reads them (R414). What it writes is its own mirror, which the spec does not give: a free value. -/
def rewriteRole (role : Nat) (s : State) : State :=
  let words := s.regs.filter fun e => e.1.index == Aux.badWord.ctorIdx && e.2 == role + 1
  overAll words (fun e s =>
    let (v, s) := s.fresh
    rewriteWord e.1.inst e.1.sub v (s.setAux .badWord e.1.inst e.1.sub 0)) s

/-- An engine takes a role (R380, R384, R386): it raises the claim at every privileged stage of the role; when the
role was lost at another engine's knell, that engine's gap is recorded and event 3073 is raised. -/
def takeRole (role e : Nat) (s : State) : State :=
  let s := overAll (roleStages s role) (fun st s => raiseClaim st.1 st.2 e s) (rewriteRole role s)
  let s := (s.put 0x5400 e 1 role).put 0x5400 e 2 0
  let by' := s.aux .knellBy role
  let s := if by' ≠ 0 ∧ by' ≠ e + 1 then
      let gap := (s.now - (s.aux .knellAt (by' - 1) - 1)) % 2 ^ 32
      raise 3073 e role gap (s.put 0x5400 (by' - 1) 8 gap)
    else s
  let s := (s.setAux .knellBy role 0 0).setAux .unserved role 0 0
  if (List.range 16).any fun n => s.aux .unserved (role / 16 * 16 + n) != 0 then s else clear 3074 (role / 16) s

/-- The spare arbiter (R380): the lowest-numbered healthy spare that carries no role is assigned; with none the role
stays unserved and event 3074 is raised (R386). The assigned spare raises its claim in SPARE_CLAIM_RAISE. -/
def assignSpare (role : Nat) (s : State) : State :=
  match (roleSpares role).find? fun x => s.get 0x5400 x 2 == 1 && s.get 0x5400 x 1 == 0xFF with
  | some x => s.put 0x5400 x 1 role
  | none =>
    let k := s.aux .unservedN + 1
    raise 3074 (role / 16) role 0 ((s.setAux .unservedN 0 0 k).setAux .unserved role 0 k)

/-- A spare has become free: it is assigned to the role of its own that has waited longest (R380). -/
def spareFree (x : Nat) (s : State) : State :=
  let waiting := (List.range 16).filterMap fun n =>
    let r := x / 16 * 16 + n
    if (roleSpares r).contains x && s.aux .unserved r != 0 then some r else none
  match waiting with
  | [] => s
  | r :: l =>
    let first := l.foldl (fun b r => if s.aux .unserved r < s.aux .unserved b then r else b) r
    (s.setAux .unserved first 0 0).put 0x5400 x 1 first

/-- A knell (R382 to R386): the engine's outputs are cut, the stages whose claim it holds become vacant, the cause is
recorded, event 3072 is raised, and a spare is assigned. The engine reloads; frozen (cause 5) it does not, and the
third knell of causes 1 to 4 within 1 h retires it. A reloading, retired or frozen engine tolls none, but for the
freeze of one that is not frozen. -/
def knell (e cause : Nat) (s : State) : State :=
  let st := s.get 0x5400 e 2
  if !Objects.engine s.trees e || st = 5 || ((st = 2 || st = 4) && cause != 5) then s
  else
    let role := s.get 0x5400 e 1
    let third := cause ≤ 4 && s.aux .knellAt e 2 != 0 && s.now < s.aux .knellAt e 2 - 1 + 3600000000000
    let s := if cause ≤ 4 then (s.setAux .knellAt e 2 (s.aux .knellAt e 1)).setAux .knellAt e 1 (s.now + 1) else s
    let s := ((((s.bump32 0x5400 e 3).put 0x5400 e 4 cause).put 0x5400 e 1 0xFF).setAux .knellAt e 0 (s.now + 1)).setAux .safePoint e 0 0
    let s := if role = 0xFF then s else overAll (roleStages s role) (fun x s =>
      if s.aux .engHolds x.1 x.2 = e + 1 then s.setAux .engVac x.1 x.2 0 else s) s
    let s := raise 3072 e cause role s
    let s := s.put 0x5400 e 2 (if cause = 5 then 5 else if third then 4 else 2)
    let s := if role = 0xFF then s
      else if (roleSpares role).isEmpty then
        (if role % 16 = 10 ∧ role < 192 then raise 1560 (role / 16) 0 0 s else diagnosticDown role s)
      else assignSpare role (s.setAux .knellBy role 0 (e + 1))
    if third then raise 3076 e (s.get 0x5400 e 3) 0 s else s

/-- An engine reverts to its own role at the role's safe point (R384): the claim is raised once more, event 3075 is
raised, and a spare that carried the role is free. -/
def revert (e : Nat) (s : State) : State :=
  match homeRole e with
  | none => s
  | some role =>
    let freed := (roleSpares role).filter fun x => s.get 0x5400 x 1 == role
    let s := overAll freed (fun x s => (s.put 0x5400 x 1 0xFF).put 0x5400 x 2 1) s
    let s := raise 3075 e 0 0 (takeRole role e s)
    overAll freed spareFree s

/-! ## The freeze of a master (R391, R392) -/

/-- The freeze of a master (R392): the record, event 3079, and the buffer requester of the same unit. An engine is
knelled with cause 5; a ROL session shows FROZEN (spec/14 R457), a DMA channel and a bulk ring show frozen. -/
def freeze (master cause access : Nat) (s : State) : State :=
  if frozen s master then s
  else
    let s := ((((s.put 0x5480 master 0x01 1).put 0x5480 master 0x02 cause).put 0x5480 master 0x03 (access % 2 ^ 32)).put
      0x5480 master 0x04 (time80 s.now)).bump32 0x5480 master 0x06
    let s := match requesterOf master with
      | some r => s.put 0x4C10 r 0x09 1
      | none => s
    let s := raise 3079 master cause (access % 2 ^ 32) s
    if master < 216 then knell master 5 s
    else if 256 ≤ master ∧ master < 272 then
      (if s.get 0x1150 (master - 256) 0x02 = 2 then raise 3991 (master - 256) 2 3 (s.put 0x1150 (master - 256) 0x02 3) else s)
    else if 272 ≤ master ∧ master < 280 then
      (if s.get 0x4380 (master - 272) 0x02 = 2 then s.put 0x4380 (master - 272) 0x02 3 else s)
    else if 280 ≤ master ∧ master < 344 ∧ s.get 0x1120 (master - 280) 0x01 = 2 then s.put 0x1120 (master - 280) 0x01 3
    else s

end Sys2Proof.Machine
end

