-- ==== Sys2Proof/Machine/Access.lean ====
section
/-!
DEFINITION. Machine/Access.lean: the rights of the roles and the checks that every access of the dictionary passes
(spec/00 R21, spec/06 R203, spec/11 R391, R392).
-/
namespace Sys2Proof.Machine

/-- Rights of a role on an access (spec/00 R21, spec/06 R203): 0 inside, 1 outside the role, 2 a tenant's reach
beyond its own. -/
def rights (s : State) (role : Role) (write : Bool) (index inst sub : Nat) : Nat :=
  let pool := match Objects.ownKind index inst with
    | some (k, i) => ownerOf s k i
    | none => 16
  let ownerOnly := Objects.ownerOnly index sub
  let hidden := Objects.ownerMarked index sub
  let isCmd := match Objects.row index sub with
    | some r => r.acc == .cmd
    | none => false
  match role with
  | .owner => 0
  | .observer => if write ∨ hidden ∨ Objects.operatorRead index sub then 1 else 0
  | .vendor => if write ∨ hidden ∨ Objects.operatorRead index sub then 1 else 0
  | .operator =>
    if !write then (if hidden then 1 else 0)
    else if ownerOnly then 1
    else if !isCmd && pool < 16 then 1
    else 0
  | .tenant n =>
    let own := pool == n || (index == 0x3820 && !write && inst / 96 == n) || (index == 0x3810 && inst == n && sub == 1)
      || (index == 0x4B00 && write && sub == 1)
      || (index == 0x4380 && s.get 0x4380 inst 3 == n && (!write || sub == 1 || sub == 7))
    if !own then 2 else if hidden || write && ownerOnly then 1 else if Objects.operatorRead index sub then 1 else 0

/-- The access word of a freeze record (0x5480[k].03). -/
def accessWord (index sub : Nat) : Reg := index % 2 ^ 16 * 2 ^ 8 + sub % 2 ^ 8

/-- An access refused under R21 or R203: refused, counted for a tenant, and its master frozen (R392). -/
def refuseRole (acc : Acc) (code index inst sub : Nat) (s : State) : State :=
  let s := match acc.role with
    | .tenant n => if code = 2 then
        raise 1553 n (accessWord index sub) inst
          ((s.bump 0x3810 n 0x04).put 0x3810 n 0x05 (accessWord index sub)) else s
    | _ => s
  refuse 2 (freeze acc.master code (accessWord index sub) s)

/-- The checks every access passes before its object's own rule, in this order: the master is not frozen
(status 9, R392), the vendor role is enabled (2 without a freeze, R506), the object and the instance exist
(1, R2, R4, R19), the role may make it (2 and a freeze, R21, R203). -/
def access (acc : Acc) (write : Bool) (index inst sub : Nat) (s : State) (body : State → State) : State :=
  if frozen s acc.master then refuse 9 s
  else if acc.role = .vendor ∧ s.aux .vendorOn = 0 then refuse 2 s
  else if !Objects.has s.trees index inst sub || !(present s index inst) then refuse 1 s
  else match rights s acc.role write index inst sub with
    | 0 => body s
    | c => refuseRole acc c index inst sub s
where
  /-- Ports that no quad mode creates have no objects (spec/10 R342). -/
  present (s : State) (index inst : Nat) : Bool :=
    (index != 0x5090 && index != 0x5D40 && index != 0x5C40) || s.aux .upQuad inst != 0

/-- A write of a command object. -/
def command (acc : Acc) (index inst sub : Nat) (s : State) (body : State → State) : State :=
  access acc true index inst sub s body

/-- A binding refused under R202: "out of range", and a tenant-n master is frozen with cause 3 (R392). -/
def refuseBinding (acc : Acc) (index sub : Nat) (s : State) : State :=
  match acc.role with
  | .tenant _ => refuse 4 (freeze acc.master 3 (accessWord index sub) s)
  | _ => refuse 4 s

end Sys2Proof.Machine
end

