-- ==== Sys2Proof/Machine/Rules.lean ====
section
/-!
DEFINITION. Machine/Rules.lean: what a write must meet beyond its role: the owning function of an RWD object is
disabled, and the value keeps the ranges and orderings the object tables state.
-/
namespace Sys2Proof.Machine

/-- Both lanes of a tree are disabled and none is about to start. -/
def treeOff (s : State) (t : Nat) : Bool :=
  s.get 0x2000 t 1 == 0 && s.get 0x2002 t 1 == 0 && s.aux .mainPend t == 0 && s.aux .coexPend t == 0

/-- The lane of a tree (0 main, 1 coexistence) is disabled and not about to start. -/
def laneOff (s : State) (t l : Nat) : Bool :=
  if l = 0 then s.get 0x2000 t 1 == 0 && s.aux .mainPend t == 0
  else s.get 0x2002 t 1 == 0 && s.aux .coexPend t == 0

/-- Some listed object index[i].sub holds a value that p takes. -/
def anyObj (s : State) (index sub : Nat) (p : Nat → Reg → Bool) : Bool :=
  s.objs.any fun e => e.1.index == index && e.1.sub == sub && p e.1.inst e.2

/-- Every forwarding domain is disabled. -/
def domainsOff (s : State) : Bool := !anyObj s 0x4900 2 fun _ v => v != 0

/-- Every Vioth port is disabled (0x5100[v].02 [7:4]). -/
def viothOff (s : State) : Bool := !anyObj s 0x5100 2 fun _ v => 16 ≤ v

/-- The allocation of a flow, its terminal, or none. -/
def flowTerminal (s : State) (f : Nat) : Option Nat :=
  let a := s.get 0x4800 f 3
  if a = 0xFFFFFFFF then none
  else let n := s.get 0x3400 a 2
    if n = 0xFFFF then none else some n

/-- A terminal is VACANT or WAITING (spec/04 R123). -/
def terminalIdle (s : State) (n : Nat) : Bool := s.get 0x3000 n 4 ≤ 1

/-- The owning function of an RWD object is not disabled: the write is refused with "busy" (spec/00 R20, spec/11
R395, and the conditions in the object tables). -/
def rwdBusy (s : State) (index inst sub : Nat) : Bool :=
  match index with
  | 0x5E80 | 0x3100 | 0x3600 => !treeOff s inst
  | 0x2000 => if sub = 4 then !treeOff s inst else !laneOff s inst 0
  | 0x2002 => !laneOff s inst 1
  | 0x2003 => s.get 0x2003 inst 1 != 0 || s.aux .sick inst != 0
  | 0x3000 => s.get 0x3000 inst 1 != 0 || s.get 0x3000 inst 4 == 7
  | 0x3400 => s.get 0x3400 inst 1 != 0 || s.aux .allocDrain inst != 0
  | 0x3700 => s.get 0x3700 inst 1 != 0
  | 0x3800 => s.get 0x3800 inst 1 != 0xFF
  | 0x4000 => s.get 0x4000 inst 4 != 0 || s.get 0x4000 inst 0x0E != 0
  | 0x4100 => !laneOff s inst 0
  | 0x4200 => !terminalIdle s inst
  | 0x4380 => s.get 0x4380 inst 2 != 0
  | 0x4490 => !domainsOff s
  | 0x4B10 => !domainsOff s
  | 0x4800 => match flowTerminal s inst with
    | some n => !terminalIdle s n
    | none => false
  | 0x4900 => s.get 0x4900 inst 2 != 0
  | 0x4C40 => s.get 0x4C40 inst 0x11 != 0
  | 0x4C80 => s.get 0x4C80 inst 0x11 != 0
  | 0x50C0 => s.get 0x50C0 inst 3 != 0
  | 0x5100 => 16 ≤ s.get 0x5100 inst 2
  | 0x51C0 | 0x5590 | 0x1130 => !viothOff s
  | 0x5C40 => s.get 0x5090 inst 2 != 0
  | 0x1100 => s.get 0x50C0 0 3 != 0 || s.get 0x50C0 1 3 != 0
  | 0x1101 => s.get 0x50C0 inst 3 != 0
  | 0x1110 => s.get 0x1110 inst 4 != 0
  | 0x1150 => s.get 0x1150 inst 2 != 0
  | 0x1210 => s.get 0x1210 0 8 != 0
  | _ => false

/-- The kind rules of an allocation contract (spec/06 R208), required while the allocation is provisioned: a
field that the kind does not use is 0, a field it uses meets its minimum. -/
def contractOk (kind rf ra rm : Nat) : Bool :=
  match kind with
  | 0 => 1 ≤ rf && ra == 0 && rm == 0
  | 1 => rf == 0 && 1 ≤ ra && rm == 0
  | 2 => rf == 0 && ra ≤ rm && 1 ≤ rm
  | _ => rf == 0 && ra == 0 && 1 ≤ rm

/-- The fields that a kind does not use hold 0 (spec/06 R208). -/
def contractUnused (kind sub : Nat) (v : Reg) : Bool :=
  match kind, sub with
  | 0, 2 | 0, 3 | 1, 1 | 1, 3 | 2, 1 | 3, 1 | 3, 2 => v == 0
  | _, _ => true

/-- Some other listed object of the same index and subindex on the same tree (instances t·n to t·n + n − 1)
already holds the value. -/
def sameOnTree (s : State) (index sub n inst : Nat) (v : Reg) : Bool :=
  anyObj s index sub fun i w => i != inst && i / n == inst / n && w == v

/-- The orderings and set-wide rules the tables state for a plain object's value (spec/01 R55; spec/04 R140, R158;
spec/05 R196; spec/06 R226; spec/07 R259; spec/08 R269; spec/09 R316; spec/10 R376; spec/14 R480). -/
def orderOk (s : State) (index inst sub : Nat) (v : Reg) : Bool :=
  let g := fun k => s.get index inst k
  match index, sub with
  | 0x1040, 3 => v ≤ g 4
  | 0x1040, 4 => g 3 ≤ v
  | 0x5E80, 1 => g 2 < v
  | 0x5E80, 2 => v < g 1
  | 0x5E80, 7 => g 8 < v
  | 0x5E80, 8 => v < g 7
  | 0x3100, 2 => v ≤ g 3
  | 0x3100, 3 => g 2 ≤ v
  | 0x3100, 5 => v ≤ g 6
  | 0x3100, 6 => g 5 ≤ v
  | 0x3100, 0x0B => v ≤ g 0x0C
  | 0x3100, 0x0C => g 0x0B ≤ v
  | 0x3200, 2 => g 3 ≤ v
  | 0x3200, 3 => v ≤ g 2
  | 0x3400, 2 => v == 0xFFFF || v / 512 == inst / 1024
  | 0x3400, 3 => !sameOnTree s 0x3400 3 1024 inst v && v != s.get 0x3600 (inst / 1024) 3
  | 0x3600, 3 => !(anyObj s 0x3400 3 fun a w => a / 1024 == inst && w == v)
  | 0x3600, 4 => v != 0xFFFF && !(anyObj s 0x4800 2 fun f w => s.get 0x4800 f 1 == inst && w == v)
  | 0x3700, 3 => v == 0xFFFFFFFF || (Objects.has s.trees 0x3400 v 1 &&
      (s.get 0x3400 v 2 == 0xFFFF || s.get 0x3000 (s.get 0x3400 v 2) 0x0F == 0))
  | 0x3800, 3 => v ≤ g 4
  | 0x3800, 4 => g 3 ≤ v
  | 0x3B00, 1 => v < g 2
  | 0x3B00, 2 => g 1 < v
  | 0x4000, 3 => match g 1 with
    | 1 | 4 | 6 => v == 16
    | 2 | 7 => v == 32
    | _ => true
  | 0x4000, 8 => v < g 9
  | 0x4000, 9 => g 8 < v
  | 0x4800, 1 => v == 0xFF || (v < s.trees && (g 2 == 0xFFFF || !(anyObj s 0x4800 2 fun f w =>
      f != inst && s.get 0x4800 f 1 == v && w == g 2)) &&
      (s.objs.countP fun e => e.1.index == 0x4800 && e.1.sub == 1 && e.1.inst != inst && e.2 == v) < 8192)
  | 0x4800, 2 => v == 0xFFFF || g 1 == 0xFF || !(anyObj s 0x4800 2 fun f w =>
      f != inst && s.get 0x4800 f 1 == g 1 && w == v)
  | 0x4800, 3 => v == 0xFFFFFFFF || Objects.has s.trees 0x3400 v 1
  | 0x4800, 4 => v == 0xFFFF || v < 4096
  | 0x4900, 4 => v == 0xFFFF || !(domainClash v (g 5) (g 6))
  | 0x4900, 5 => g 4 == 0xFFFF || !(domainClash (g 4) v (g 6))
  | 0x4900, 6 => g 4 == 0xFFFF || !(domainClash (g 4) (g 5) v)
  | 0x4C00, 3 => v < g 1
  | 0x4C40, 0x12 => v == 0xFFFFFFFF || (v < 196608 && strictFree v fun _ => true)
  | 0x4C80, 0x12 => v == 0xFFFFFFFF || (v < 8 && strictFree v fun q =>
      q / 256 == inst / 256 && ownerOf s 4 q == ownerOf s 4 inst)
  | 0x4C40, 0x15 | 0x4C80, 0x15 => v ≤ g 0x14
  | 0x4C40, 0x14 | 0x4C80, 0x14 => g 0x15 ≤ v
  | 0x4C40, 0x16 | 0x4C80, 0x16 => v ≤ g 0x13
  | 0x4C40, 0x13 | 0x4C80, 0x13 => g 0x16 ≤ v
  | 0x3A00, 5 => v ≤ g 6
  | 0x3A00, 6 => g 5 ≤ v
  | 0x5140, 1 => v == 0xFF || (inst != s.get 0x51C0 0 1 && v != g 2)
  | 0x5140, 2 => v == 0xFF || v != g 1
  | _, _ => true
where
  /-- No other queue of the parent that a queue is bound to has its strict input (spec/09 R316). -/
  strictFree (parent : Reg) (same : Nat → Bool) : Bool :=
    s.get index inst 1 == 0xFF || !(anyObj s index 1 fun q w =>
      q != inst && w == s.get index inst 1 && s.get index q 0x12 == parent && same q)
  /-- Two domains would have the same match (R269). -/
  domainClash (up o i : Reg) : Bool :=
    anyObj s 0x4900 4 fun d w => d != inst && w == up && s.get 0x4900 d 5 == o && s.get 0x4900 d 6 == i

/-- Objects that are read-only at some instances (spec/06 R226: profile adaptation on a coexistence lane; spec/09
R316, R328: attachments and quanta of port and tenant nodes, the rates of frame-mode nodes and of tree-lane port
nodes, their pool weight). -/
def roAt (index inst sub : Nat) : Bool :=
  match index with
  | 0x3880 => sub == 7 && inst % 2 == 1
  | 0x4E00 => sub == 1 || (sub == 4 && inst < 96) || (sub == 0x0D && inst < 96)
  | 0x4E20 => sub == 1 || sub == 2 || (sub == 4 && inst < 1632)
  | _ => false

/-- A write of one value: the access, then the access code (2), the RWD condition (3), the stated range and the
orderings (4), then the object's own rule. A command object then shows the status its action was answered with
(spec/00 R20); 0x5840.04 has a reading of its own. -/
def writeValue (acc : Acc) (index inst sub : Nat) (v : Reg) (s : State) (body : State → State) : State :=
  access acc true index inst sub s fun s =>
    match Objects.row index sub with
    | none => refuse 1 s
    | some r =>
      if r.acc = .ro ∨ roAt index inst sub = true then refuse 2 s
      else if r.acc = .rwd ∧ rwdBusy s index inst sub = true then refuse 3 s
      else if !r.valueOk v || !orderOk s index inst sub v then refuse 4 s
      else
        let s' := body s
        if r.acc = .cmd ∧ index ≠ 0x5840 then s'.put index inst sub s'.answer.status else s'

/-- A write that only stores its value. -/
def store (index inst sub : Nat) (v : Reg) (s : State) : State := done (s.put index inst sub v)

end Sys2Proof.Machine
end

