-- ==== Sys2Proof/Machine/Links.lean ====
section
/-!
DEFINITION. Machine/Links.lean: the frame grid of a tree, the PLOAM queue, and what is sent to other members: Vioth
frames and mirror records (spec/02 R57, R58, R62; spec/10 R353, R364, R367; spec/11 R402).
-/
namespace Sys2Proof.Machine

/-! ## The frame grid (spec/02 R57, R58) -/

/-- The superframe counter of an instant on a tree's grid: floor((T - φ) / 125 µs) mod 2^51. -/
def frameAt (s : State) (t : Nat) (at' : Ns) : Nat :=
  ((((at' : Int) - (s.get 0x2000 t 4 : Int)) / 125000) % ((2 ^ 51 : Nat) : Int)).toNat

/-- The tree's current frame by the time base. -/
def frameNow (s : State) (t : Nat) : Nat := frameAt s t s.now

/-- Frames from a to b on the 51-bit circle, negative when b lies behind a. -/
def framesTo (a b : Nat) : Int := toInt 51 (b + 2 ^ 51 - a % 2 ^ 51)

/-- A frame number plus an offset. -/
def frameAdd (a : Nat) (n : Int) : Nat := (((a : Int) + n) % ((2 ^ 51 : Nat) : Int)).toNat

/-- The state object of a lane: 0 disabled, 1 draining, 2 running, 3 announcing, 4 dark, 5 standby. -/
def laneState (s : State) (t l : Nat) : Nat := if l = 0 then s.get 0x2000 t 1 else s.get 0x2002 t 1

/-- The lane of a terminal (0 main, 1 coexistence). -/
def laneOf (s : State) (n : Nat) : Nat := s.get 0x3000 n 0x0F

/-- Double-stroke is the mode in force on a lane. -/
def doubleStroke (s : State) (t l : Nat) : Bool := l == 0 && s.get 0x2001 t 1 == 1

/-- A terminal's state (R123). -/
def termState (s : State) (n : Nat) : Nat := s.get 0x3000 n 4

/-- The terminals of a tree that hold a state. -/
def termsIn (s : State) (t state : Nat) : List Nat :=
  s.objs.filterMap fun e =>
    if e.1.index == 0x3000 && e.1.sub == 4 && e.1.inst / 512 == t && e.2 == state then some e.1.inst else none

/-- A PLOAM message is queued for a terminal, by its slot number as ONU-ID (spec/02 R62, spec/04 R120). -/
def queuePloam (t l onu : Nat) (k : PloamKind) (args : List Nat) (s : State) (urgent : Bool := false) : State :=
  { s with ploams := s.ploams ++ [⟨t, l, onu, k, args, urgent⟩] }

/-- The master session key that a terminal's PLOAM integrity key comes from, 0 for the default keys (spec/07 R246). -/
def integrityKey (s : State) (t onu : Nat) : Nat :=
  let n := 512 * t + onu
  if onu < 512 ∧ s.aux .sesDerived n = 1 then s.aux .keyMat (s.get 0x4200 n 3) else 0

/-- The 48 bytes of an upstream PLOAM message are a terminal's: its ONU-ID, and its integrity check under the terminal's key
(spec/04 R131; log entry 109). -/
def micRight (s : State) (n : Nat) (b : List Nat) : Bool :=
  b.length == 48 && ofBytes (b.take 2) % 1024 == n % 512
    && ofBytes (b.drop 40) == Config.ploamMic (integrityKey s (n / 512) (n % 512)) (b.take 40) % 2 ^ 64

/-- The same, under a message type. -/
def ploamFrom (s : State) (n type : Nat) (b : List Nat) : Bool := b.getD 2 0 == type && micRight s n b

/-! ## Other members (spec/10 R364, R367; spec/11 R402) -/

/-- The device's member ID. -/
def member (s : State) : Nat := s.get 0x51C0 0 1

/-- The active port of the path to a member, none without a path (R364). -/
def activePort (s : State) (m : Nat) : Option Nat :=
  let v := s.get 0x5140 m 3
  if v = 0xFF then none else some v

/-- A frame of this member for another is queued at the active port, or dropped and counted when no path exists
(R364). -/
def sendFrame (m order kind cls context colour : Nat) (payload : List Nat) (len : Nat) (s : State) : State :=
  match activePort s m with
  | none => s.bump 0x5140 m 6
  | some v => { s with vframes := s.vframes ++
      [⟨v, order, kind, cls, member s, m, s.get 0x51C0 0 3, len, context, colour, payload⟩] }

/-- A mirror record for a member, with its header (R402): the sender's level and the next sequence of this member and
record type, the first being 1. -/
def sendMirror (m type flags : Nat) (body : List Nat) (s : State) : State :=
  let seq := wrapAdd 32 (s.aux .mirSeq m type) 1
  let level := s.get 0x5580 0 1
  let head := [type, level / 256, level % 256, flags] ++ bytesOf 4 seq ++ bytesOf 2 body.length ++ [0, 0]
  sendFrame m 3 7 0 0 0 (head ++ body) (12 + body.length) (s.setAux .mirSeq m type seq)

/-- A port belongs to a pair: it has a role, or it is the old working port and waits to be healthy (spec/02 R86; log entry 112). -/
def inPair (s : State) (t : Nat) : Bool := s.get 0x2003 t 1 != 0 || s.aux .sick t == 1

/-- The Type-B partner of a tree on another member, as member and tree (spec/02 R81): none when the tree is not
paired, or its partner is on this device. -/
def remotePartner (s : State) (t : Nat) : Option (Nat × Nat) :=
  let p := s.get 0x2003 t 2
  if inPair s t = false ∨ p = 0xFFFF ∨ p / 256 = member s then none else some (p / 256, p % 256)

/-- The Type-B partner of a tree on this device. -/
def localPartner (s : State) (t : Nat) : Option Nat :=
  let p := s.get 0x2003 t 2
  if inPair s t = false ∨ p = 0xFFFF ∨ p / 256 ≠ member s then none else some (p % 256)

/-! ## The allocation mirror (spec/04 R121) -/

/-- An allocation's mirror taken by the standby tree, and whether it is provisioned. -/
def takeAllocMirror (a id kind reporting n prov : Nat) (s : State) : State :=
  let had := s.get 0x3400 a 1
  let s := s.put 0x3500 0 1 (s.get 0x3500 0 1 + prov - had)
  overAll [(1, prov), (2, n), (3, id), (4, kind), (5, reporting)] (fun p s => s.put 0x3400 a p.1 p.2) s

/-- An allocation's change goes to the standby port's mirror (spec/04 R121). A record for another member names slot 0xFFFF for an
allocation that is not provisioned (log entry 127). -/
def mirrorAlloc (a : Nat) (s : State) : State :=
  let t := a / 1024
  let n := s.get 0x3400 a 2
  let g := fun sub => s.get 0x3400 a sub
  if s.get 0x2003 t 1 ≠ 1 then s
  else match localPartner s t, remotePartner s t with
    | some p, _ => takeAllocMirror (1024 * p + a % 1024) (g 3) (g 4) (g 5) (if n = 0xFFFF then n else 512 * p + n % 512) (g 1) s
    | _, some (m, _) => sendMirror m 4 0 ([t, 0] ++ bytesOf 2 (a % 1024) ++ bytesOf 2 (g 3) ++ [g 4, g 5]
        ++ bytesOf 2 (if n = 0xFFFF ∨ g 1 = 0 then 0xFFFF else n % 512)) s
    | _, _ => s

end Sys2Proof.Machine
end

