-- ==== Sys2Proof/Machine/Memory.lean ====
section
/-!
DEFINITION. Machine/Memory.lean: functional reads and writes, poison, the flip mask, the
scrubbers and the self-test of cluster banks (spec/12).
-/
namespace Sys2Proof.Machine

/-! ## Places of words -/

/-- The island a memory belongs to (R408), as an instance of 0x1051. -/
def memIsland (m : Nat) : Nat :=
  if m < 14 then m else if m < 64 then m else if m < 256 then 14 else (m - 256) / 16

/-- The spare bank serves reads of the bank's addresses: TESTING, REPAIRING, COPYING BACK, or a retired bank
(R422, R423). -/
def spareReads (s : State) (c : Nat) : Bool :=
  s.get 0x5900 c 0x09 == 2 || (s.get 0x5900 c 0x09 == 1 && 2 ≤ s.get 0x5900 c 0x02)

/-- A word of a cluster memory lies in the bank that is lent. -/
def inLentBank (s : State) (m w : Nat) : Bool := m < 14 && s.get 0x5900 m 0x09 != 0 && w / 32768 == lentBank s m

/-- Where a word is read. -/
def readPlace (s : State) (m w : Nat) : Nat :=
  if inLentBank s m w && spareReads s m then 524288 + w % 32768 else w

/-- Where a functional write of a word goes: both banks while a copy runs, else the bank that serves it. -/
def writePlaces (s : State) (m w : Nat) : List Nat :=
  if inLentBank s m w then
    (if s.get 0x5900 m 0x09 = 1 ∧ (s.get 0x5900 m 0x02 = 1 ∨ s.get 0x5900 m 0x02 = 4)
     then [w, 524288 + w % 32768] else [readPlace s m w])
  else [w]

/-! ## Counting, reads and writes -/

/-- What a read that is not clean counts and reports (R409, R425, R426). -/
def countRead (m w syn : Nat) (s : State) : State :=
  let note := fun (s : State) => ((s.put 0x5800 m 7 (8 * w)).put 0x5800 m 8 syn).put 0x5800 m 9 (time80 s.now)
  match classOf syn with
  | .clean => s
  | .correctable => raiseSec 3584 m (fun n => (n, 8 * w)) (note (s.bump 0x5800 m 2))
  | .uncorrectable => raise 3585 m (8 * w) syn (note (s.bump 0x5800 m 3))
  | .poisoned => note (s.bump 0x5800 m 4)

/-- A functional or scrub read of a word: its class, its data, and the counts. flips are the bits that have turned
over in the cells since the word was written. -/
def readWord (m w flips : Nat) (s : State) : Class × Nat × State :=
  let cw := Nat.xor (s.word m (readPlace s m w)) (flips % 2 ^ 72)
  (classOf (syndrome cw), deliver cw, countRead m w (syndrome cw) s)

/-- The bits that a byte mask covers. -/
def byteBits (bytes : Nat) : Nat := (List.range 8).foldl (fun x o => if bit o bytes then x + 255 * 2 ^ (8 * o) else x) 0

/-- A functional write (R412): a whole word is stored with fresh check bits; a partial write reads, merges by the
class read, and writes a bad word's merge with poison. -/
def writeWord (x : MemWrite) (s : State) : State :=
  if !Objects.memoryOk s.trees x.mem || Objects.memWords x.mem ≤ x.word || !s.islandUp (memIsland x.mem) then s
  else
    let mask := byteBits x.bytes
    let old := s.word x.mem (readPlace s x.mem x.word)
    let merge := Nat.xor (deliver old) (Nat.land mask (Nat.xor (deliver old) x.data))
    let (cw, s) :=
      if x.bytes % 256 = 255 then (codeWord x.data 0, s)
      else match classOf (syndrome old) with
        | .clean => (codeWord merge 0, s)
        | .correctable => (codeWord merge 0, s.bump 0x5800 x.mem 5)
        | _ => (codeWord merge 0x60, raise 3586 x.mem (8 * x.word) 0 (s.bump 0x5800 x.mem 6))
    let (cw, s) := applyFlip x.mem x.word cw s
    overAll (writePlaces s x.mem x.word) (fun p s => s.setWord x.mem p cw) s

/-- The writes a command makes, in order. -/
def writeWords (l : List MemWrite) (s : State) : State := overAll l writeWord s

/-- Every word of a memory zeroed with valid check bits (R411). -/
def zeroMemory (m : Nat) (s : State) : State := { s with mem := s.mem.forget fun k => k.index == m }

/-! ## The self-test (R419 to R424) -/

/-- Condition 1 or 2 of R420 holds for a cluster: 1 supply, 2 clock, 0 neither. -/
def testEnvironment (s : State) (c : Nat) : Nat :=
  let bad := s.aux .vddBadAt
  let chg := s.aux .avsChangedAt
  if (bad ≠ 0 ∧ s.now < bad - 1 + 1000000) ∨ (chg ≠ 0 ∧ s.now < chg - 1 + 100000) then 1
  else if 3000000 < s.get 0x1051 c 1 ∨ s.get 0x1050 0 1 ≠ 2 then 2
  else 0

/-- The refusal cause of a request, 0 when it is accepted (R420). -/
def testCause (s : State) (c bank : Nat) : Nat :=
  if 16 ≤ bank then 5
  else match testEnvironment s c with
    | 0 =>
      if testRunning s c ∨ s.get 0x5900 c 9 = 2 then 3
      else if s.get 0x5400 (diagnostic c) 2 ≠ 0 then 4
      else 0
    | k => k

/-- A self-test request: the cause it is refused with, or 0 when it starts (R420, R422). -/
def requestTest (c bank : Nat) (s : State) : Nat × State :=
  match testCause s c bank with
  | 0 =>
    let s := (((s.put 0x5900 c 2 1).put 0x5900 c 3 bank).bump32 0x5900 c 7).put 0x5900 c 9 1
    let s := (((s.setAux .stFail c 0 0).setAux .stRows c 0 0).setAux .stAban c 0 0).setAux .stStart c 0 s.now
    (0, s)
  | k => (k, raise 3592 c bank k ((s.put 0x5900 c 5 3).put 0x5900 c 6 k))

/-- Conditions 1 and 2 of R420 are checked during every test; a breach abandons it (R421). -/
def checkBreach (s : State) : State :=
  overAll (List.range 14) (fun c s => match testEnvironment s c with
    | 0 => s
    | k => abandonTest c k s) s

/-- The code word a copy stores for a word it read: corrected, or poisoned (R413, R422). -/
def copied (cw : Reg) : Reg :=
  match classOf (syndrome cw) with
  | .clean => cw
  | .correctable => codeWord (deliver cw) 0
  | _ => codeWord (deliver cw) 0x60

/-- One copy of a whole bank, from one bank's words to another's (R422); what is not clean is counted. -/
def copyBank (m src dst : Nat) (s : State) : State :=
  let words := s.mem.filter fun e => e.1.index == m && e.1.inst / 32768 == src
  let s := { s with mem := s.mem.forget fun k => k.index == m && k.inst / 32768 == dst }
  overAll words (fun e s =>
    let syn := syndrome e.2
    let s := countRead m (32768 * lentBank s m + e.1.inst % 32768) syn s
    let s := if (classOf syn).bad then s.bump 0x5800 m 6 else s
    s.setWord m (32768 * dst + e.1.inst % 32768) (copied e.2)) s

/-- The failure log of the first 16 failing bits, 8 bytes each (R423). -/
def failureLog (l : List FailBit) : Reg :=
  ofBytes ((List.range 16).flatMap fun i => match l[i]? with
    | some f => bytesOf 4 f.word ++ [f.bitPos, f.background, f.element, f.value]
    | none => bytesOf 8 0)

/-- The bits found, each bit of a word under one background once (R423), those out of the ranges of R422 left out. -/
def distinctFails (l : List FailBit) : List FailBit :=
  (l.filter fun f => f.word < 32768 && f.bitPos < 72 && f.background < 4 && f.element < 6 && f.value < 2).foldl
    (fun acc f => if acc.any fun g => g.word == f.word && g.bitPos == f.bitPos && g.background == f.background
      then acc else acc ++ [f]) []

/-- Rows remapped to the next free spare rows (R422): each spare row's byte of 0x5940.04. -/
def remap (i : Nat) (rows : List Nat) (s : State) : State :=
  overAll rows (fun r s =>
    let used := s.get 0x5940 i 1
    let v := s.get 0x5940 i 4
    let sh := 2 ^ (8 * (7 - used))
    (s.put 0x5940 i 4 (v - v / sh % 256 * sh + r * sh)).put 0x5940 i 1 (used + 1)) s

/-- The end of the running step (R422, R423). fails are the failing bits found by the pattern run, or by the retest
of the repaired rows. -/
def stepEnd (c : Nat) (fails : List FailBit) (s : State) : State :=
  let bank := lentBank s c
  let i := 16 * c + bank
  match s.get 0x5900 c 2 with
  | 1 => (copyBank c bank 16 s).put 0x5900 c 2 2
  | 2 =>
    let l := distinctFails fails
    let rows := (l.map fun f => f.word / 128).eraseDups
    let s := ((s.put 0x5940 i 2 l.length).put 0x5940 i 3 (failureLog l)).setAux .stFail c 0 l.length
    if rows.isEmpty then s.put 0x5900 c 2 4
    else if 8 < s.get 0x5940 i 1 + rows.length then endTest c 2 s
    else (remap i rows (s.setAux .stRows c 0 rows.length)).put 0x5900 c 2 3
  | 3 => if (distinctFails fails).isEmpty then s.put 0x5900 c 2 4 else endTest c 2 s
  | 4 =>
    let s := copyBank c 16 bank s
    endTest c (if s.aux .stAban c ≠ 0 then 4 else if s.aux .stRows c ≠ 0 then 1 else 0) s
  | _ => s

/-- A write of 0x5900[c].01 (R420, R424, R425). -/
def selfTestWrite (acc : Acc) (c v : Nat) (s : State) : State :=
  writeValue acc 0x5900 c 1 v s fun s =>
    if v = 0xFF then done (abandonTest c 4 s)
    else match requestTest c v s with
      | (0, s) => done s
      | (5, s) => refuse 4 s
      | (_, s) => refuse 3 s

/-! ## The scrubber (R415 to R417) -/

/-- A correction the scrubber makes (R415, R417): the repeat of two consecutive passes, and the bank's count. -/
def scrubCorrect (m w syn : Nat) (s : State) : State :=
  let pass := s.get 0x5820 m 4
  let last := s.aux .lastCorr m w
  let s := (s.bump 0x5820 m 5).setAux .lastCorr m w (pass + 1)
  let s := if last ≠ 0 ∧ last = pass then raise 3587 m (8 * w) syn (s.bump 0x5820 m 7) else s
  if m < 14 ∧ w < 524288 then s.setAux .bankCorr (16 * m + w / 32768) 0 (s.aux .bankCorr (16 * m + w / 32768) + 1) else s

/-- One word of a scrub pass (R415): a correctable word is written back corrected, an uncorrectable one with
poison. A write-back never triggers the flip mask. -/
def scrubWord (m w flips : Nat) (s : State) : State :=
  let p := readPlace s m w
  let cw := Nat.xor (s.word m p) (flips % 2 ^ 72)
  let syn := syndrome cw
  let s := countRead m w syn (s.setWord m p cw)
  match classOf syn with
  | .correctable => scrubCorrect m w syn (s.setWord m p (codeWord (deliver cw) 0))
  | .uncorrectable => ((s.setWord m p (codeWord (deliver cw) 0x60)).bump 0x5800 m 6).bump 0x5820 m 6
  | _ => s

/-- The scrubber of a memory may read: it is enabled and its island runs (R416, R425). -/
def scrubbing (s : State) (m : Nat) : Bool :=
  Objects.memoryOk s.trees m && s.get 0x5820 m 1 == 1 && s.islandUp (memIsland m)

/-- Time the running pass may take (R415, R416), ns. -/
def passAllowed (s : State) (m : Nat) : Nat :=
  match s.aux .scrubAllow m with
  | 0 => s.get 0x5820 m 2 * 1000000000
  | n => n

/-- The bank self-tests that the diagnostic engine asks for at the end of a pass (R417): banks whose corrections
reached the threshold, and those refused before. -/
def autoTests (c : Nat) (s : State) : State :=
  overAll (List.range 16) (fun b s =>
    let i := 16 * c + b
    let thr := s.get 0x5900 c 4
    let want := s.aux .bankReq i = 1 ∨ (thr ≠ 0 ∧ thr ≤ s.aux .bankCorr i)
    let s := s.setAux .bankCorr i 0 0
    if want then
      let (k, s) := requestTest c b s
      s.setAux .bankReq i 0 (if k = 0 then 0 else 1)
    else s) s

/-- The end of a scrub pass (R416, R417): the next pass starts at address 0. -/
def passEnd (m : Nat) (s : State) : State :=
  let took := s.now - s.aux .scrubT0 m
  let allowed := passAllowed s m
  let ms := took / 1000000 % 2 ^ 32
  let s := ((s.bump 0x5820 m 4).put 0x5820 m 8 ms).put 0x5820 m 3 0
  let s := ((s.setAux .scrubAt m 0 0).setAux .scrubT0 m 0 s.now).setAux .scrubAllow m 0 0
  let s := if allowed * 11 < took * 10 then raise 3588 m ms 0 s else if took ≤ allowed then clear 3588 m s else s
  if m < 14 then autoTests m s else s

/-- A write of the pass period (R415): the pass is judged by the time spent and the new period's share for the words
left. -/
def passPeriodWrite (acc : Acc) (m v : Nat) (s : State) : State :=
  writeValue acc 0x5820 m 2 v s fun s =>
    let words := Objects.memWords m
    let left := words - s.aux .scrubAt m
    done ((s.put 0x5820 m 2 v).setAux .scrubAllow m 0 (s.now - s.aux .scrubT0 m + v * 1000000000 * left / words))

/-- A write of the arm command (R418). -/
def flipArmWrite (acc : Acc) (m v : Nat) (s : State) : State :=
  writeValue acc 0x5840 m 4 v s fun s =>
    if v = 1 then (if s.get 0x5840 m 4 = 1 then refuse 3 s else done (s.put 0x5840 m 4 1))
    else if v = 0 then done (s.put 0x5840 m 4 0)
    else refuse 4 s

/-- A write of the statistics' clear (R425). -/
def memoryClear (acc : Acc) (m v : Nat) (s : State) : State :=
  writeValue acc 0x5800 m 0x0A v s fun s =>
    done (overAll [2, 3, 4, 5, 6, 7, 8, 9] (fun k s => s.put 0x5800 m k 0) s)

/-! ## The commands -/

/-- SCRUB_STEP (R415): the scrubber of a memory visits its next word. -/
def execScrubStep (memory flips : Nat) (s : State) : Host.Outcome State Fault Refusal :=
  whenUp s fun s =>
    let w := s.aux .scrubAt memory
    if scrubbing s memory && w < Objects.memWords memory then
      let s := scrubWord memory w flips (s.setAux .scrubAt memory 0 (w + 1))
      s.put 0x5820 memory 3 ((w + 1) * 100 / Objects.memWords memory)
    else s

/-- SCRUB_PASS_END (R416): every word of the pass has been visited. -/
def execScrubPassEnd (memory : Nat) (s : State) : Host.Outcome State Fault Refusal :=
  whenUp s fun s =>
    if scrubbing s memory && s.aux .scrubAt memory == Objects.memWords memory then passEnd memory s else s

/-- PASS_PERIOD_WRITE (R415). -/
def execPassPeriodWrite (acc : Acc) (memory value : Nat) (s : State) : Host.Outcome State Fault Refusal :=
  whenUp s fun s => passPeriodWrite acc memory value s

/-- FLIP_MASK_ARM (R418). -/
def execFlipMaskArm (acc : Acc) (memory : Nat) (s : State) : Host.Outcome State Fault Refusal :=
  whenUp s fun s => flipArmWrite acc memory 1 s

/-- FLIP_MASK_DISARM (R418). -/
def execFlipMaskDisarm (acc : Acc) (memory : Nat) (s : State) : Host.Outcome State Fault Refusal :=
  whenUp s fun s => flipArmWrite acc memory 0 s

/-- MEMORY_STATS_CLEAR (R425). -/
def execMemoryStatsClear (acc : Acc) (memory value : Nat) (s : State) : Host.Outcome State Fault Refusal :=
  whenUp s fun s => memoryClear acc memory value s

/-- SELF_TEST_REQUEST (R420): a bank's number written to 0x5900[c].01. -/
def execSelfTestRequest (acc : Acc) (cluster bank : Nat) (s : State) : Host.Outcome State Fault Refusal :=
  whenUp s fun s => selfTestWrite acc cluster bank s

/-- SELF_TEST_STEP_END (R422): the running step of a cluster whose island runs ends. -/
def execSelfTestStepEnd (cluster : Nat) (fails : List FailBit) (s : State) : Host.Outcome State Fault Refusal :=
  whenUp s fun s => if cluster < 14 && s.islandUp cluster then stepEnd cluster fails s else s

/-- SELF_TEST_ABANDON (R424): 0xFF written to 0x5900[c].01. -/
def execSelfTestAbandon (acc : Acc) (cluster : Nat) (s : State) : Host.Outcome State Fault Refusal :=
  whenUp s fun s => selfTestWrite acc cluster 0xFF s

end Sys2Proof.Machine
end

