-- ==== Sys2Proof/Machine/Buffers.lean ====
section
/-!
DEFINITION. Machine/Buffers.lean: the buffer pools, requesters and ownership words (spec/09 R301 to R311, R327).
Which free buffer the manager hands out is not stated: the command names it, and where the one named is not free
the next free one in cyclic order is taken (log entry 13).
-/
namespace Sys2Proof.Machine

/-- Bytes of one buffer of a pool (R301). -/
def bufSize (p : Nat) : Nat := [256, 2304, 10240, 16384].getD p 0

/-- The pointer to a buffer (R302). -/
def pointerOf (pool buf : Nat) : Reg := pool * 2 ^ 38 + buf * bufSize pool

/-- Owner tag, state and replica count of an ownership word (R308). -/
def ownTag (w : Reg) : Nat := field 31 22 w
def ownState (w : Reg) : Nat := field 21 20 w
def ownCount (w : Reg) : Nat := field 19 6 w

/-- An ownership word. -/
def mkOwn (tag st count : Nat) : Reg := tag % 1024 * 2 ^ 22 + st * 2 ^ 20 + count % 2 ^ 14 * 2 ^ 6

/-- A buffer can be handed out: it is FREE, its owner tag has not been read with poison (spec/12 R413), and a stack
page is not held out of use (R484). -/
def bufFree (s : State) (p b : Nat) : Bool :=
  ownState (s.aux .bufWord p b) == 0 && s.aux .bufOut p b == 0 && (p != 3 || s.aux .pageHeld b == 0)

/-- The first free buffer at or after b, cyclically. -/
def pickFree (s : State) (p : Nat) : Nat → Nat → Nat
  | 0, b => b
  | n + 1, b => if bufFree s p b then b else pickFree s p n ((b + 1) % Objects.poolSize p)

/-- The pool alarm (R327): event 2562 is raised when the free count falls to the low mark. -/
def poolAlarm (p : Nat) (s : State) : State :=
  let free := s.get 0x4C00 p 2
  if free ≤ s.get 0x4C00 p 3 ∧ s.aux .poolLow p = 0 then raise 2562 p free 0 (s.setAux .poolLow p 0 1) else s

/-- Allocation of one buffer to a requester (R308: FREE to HELD). -/
def takeBuffer (r p pick : Nat) (s : State) : Nat × State :=
  let b := pickFree s p (s.regs.length + 1) (pick % Objects.poolSize p)
  let free := s.get 0x4C00 p 2 - 1
  let s := s.setAux .bufWord p b (mkOwn r 1 0)
  let s := (s.put 0x4C10 r (5 + p) (s.get 0x4C10 r (5 + p) + 1)).put 0x4C00 p 2 free
  let s := if free < s.get 0x4C00 p 5 then s.put 0x4C00 p 5 free else s
  (b, poolAlarm p s)

/-- A buffer returns to FREE (R308): its owner's use falls by one. -/
def freeBuffer (p b : Nat) (s : State) : State :=
  let r := ownTag (s.aux .bufWord p b)
  let s := (s.setAux .bufWord p b 0).put 0x4C10 r (5 + p) (s.get 0x4C10 r (5 + p) - 1)
  if s.aux .bufOut p b = 1 then s else s.put 0x4C00 p 2 (s.get 0x4C00 p 2 + 1)

/-- An owner tag read with poison takes its buffer out of use until the next island reset (spec/12 R413). -/
def tagPoison (p b : Nat) (s : State) : State :=
  if s.aux .bufOut p b = 1 then s
  else
    let s := (s.setAux .bufOut p b 1).bump 0x5800 67 4
    if ownState (s.aux .bufWord p b) = 0 then s.put 0x4C00 p 2 (s.get 0x4C00 p 2 - 1) else s

/-- The owner enqueues a buffer with k more replicas (R308: HELD to QUEUED, or a page that takes more). -/
def enqueueBuffer (p b k : Nat) (s : State) : State :=
  let w := s.aux .bufWord p b
  s.setAux .bufWord p b (mkOwn (ownTag w) 2 (ownCount w + k))

/-- The open stack page of a queue: pointer + 1 under the queue's direction and number. -/
def openPage (s : State) (up : Bool) (q : Nat) : Option Nat :=
  match s.aux .queueOpen (if up then 1 else 0) q with
  | 0 => none
  | n + 1 => some n

/-- A page is some queue's open page. -/
def pageOpen (s : State) (b : Nat) : Bool :=
  s.regs.any fun e => e.1.index == Aux.queueOpen.ctorIdx && e.2 == b + 1

/-- One replica has been sent or dropped (R308): the count falls, and the last one frees the buffer, unless it is
a queue's open page (R306). -/
def dropReplica (x : Pkt) (s : State) : State :=
  let w := s.aux .bufWord x.pool x.buf
  if ownState w = 2 then
    if ownCount w ≤ 1 then
      if x.pool = 3 ∧ pageOpen s x.buf = true then s.setAux .bufWord x.pool x.buf (mkOwn (ownTag w) 2 0)
      else freeBuffer x.pool x.buf s
    else s.setAux .bufWord x.pool x.buf (mkOwn (ownTag w) 2 (ownCount w - 1))
  else s

/-- A requester's allocation is refused and counted (R304, R307, R311), with event 2563 at most once per second. -/
def refuseBuffer (r p : Nat) (s : State) : State :=
  raiseSec 2563 r (fun n => (n, 0)) ((s.bump 0x4C10 r 0x0E).bump 0x4C00 p 4)

/-- A buffer may be allocated to a requester that no queue rule binds: it is not frozen, its use is below its
quota, a buffer is free (R304, R307, R311). -/
def mayTake (s : State) (r p : Nat) : Bool :=
  s.get 0x4C10 r 9 == 0 && s.get 0x4C10 r (5 + p) < s.get 0x4C10 r (1 + p) && 0 < s.get 0x4C00 p 2

/-- The smallest SRAM pool whose buffers hold L bytes (R303). -/
def poolFor (len : Nat) : Nat := if len ≤ 256 then 0 else if len ≤ 2304 then 1 else 2

/-- The object index of a queue's direction. -/
def qIndex (up : Bool) : Nat := if up then 0x4C80 else 0x4C40

/-- The open page of a queue is closed: it returns when no unsent packet lies in it (R306). -/
def closePage (up : Bool) (q : Nat) (s : State) : State :=
  match openPage s up q with
  | none => s
  | some b =>
    let s := (s.setAux .queueOpen (if up then 1 else 0) q 0).setAux .queueOff (if up then 1 else 0) q 0
    if ownCount (s.aux .bufWord 3 b) = 0 then freeBuffer 3 b s else s

/-- Stores a packet of L bytes for a queue (R305): SRAM when all four conditions hold, else the queue's open page
at the next 64-byte boundary, else a new page. Answers pool, buffer and offset, or none when it finds no buffer. -/
def placePacket (r : Nat) (up : Bool) (q len pick : Nat) (s : State) : Option (Nat × Nat × Nat) × State :=
  let p := poolFor len
  let ix := qIndex up
  let dir := if up then 1 else 0
  let sram := (s.pkts.filter fun x => x.up == up && x.queue == q && x.pool != 3).foldl (fun n x => n + bufSize x.pool) 0
  if s.get 0x4C10 r 9 = 1 then (none, refuseBuffer r p s)
  else if !(s.pkts.any fun x => x.up == up && x.queue == q && x.pool == 3) ∧ sram + bufSize p ≤ s.get ix q 0x16
      ∧ s.get 0x4C10 r (5 + p) < s.get 0x4C10 r (1 + p) ∧ s.get 0x4C00 p 3 < s.get 0x4C00 p 2 then
    let (b, s) := takeBuffer r p pick s
    (some (p, b, 0), s)
  else
    let off := (s.aux .queueOff dir q + 63) / 64 * 64
    match openPage s up q with
    | some b =>
      if off + len ≤ 16384 then (some (3, b, off), s.setAux .queueOff dir q (off + len))
      else newPage r up q len pick (closePage up q s)
    | none => newPage r up q len pick s
where
  /-- A new page charged to the requester (R305). -/
  newPage (r : Nat) (up : Bool) (q len pick : Nat) (s : State) : Option (Nat × Nat × Nat) × State :=
    if mayTake s r 3 then
      let (b, s) := takeBuffer r 3 pick s
      let dir := if up then 1 else 0
      (some (3, b, 0), (s.setAux .queueOpen dir q (b + 1)).setAux .queueOff dir q len)
    else (none, refuseBuffer r 3 s)

/-- The cause a returned pointer fails R310 with, 0 when it passes. -/
def returnCause (s : State) (r ptr : Nat) : Nat :=
  let p := field 39 38 ptr
  let off := field 34 0 ptr
  if 2 ^ 40 ≤ ptr ∨ field 37 35 ptr ≠ 0 ∨ Objects.poolSize p * bufSize p ≤ off then 1
  else if off % bufSize p ≠ 0 then 2
  else
    let w := s.aux .bufWord p (off / bufSize p)
    if ownState w = 0 then 3
    else if ownState w = 1 ∧ ownTag w ≠ r then 4
    else if ownState w = 2 then 5
    else 0

/-- Every buffer and page still HELD by a requester returns to FREE (R311); answers how many. -/
def reclaim (r : Nat) (s : State) : Nat × State :=
  let held := s.regs.filter fun e => e.1.index == Aux.bufWord.ctorIdx && ownState e.2 == 1 && ownTag e.2 == r
  (held.length, overAll held (fun e => freeBuffer e.1.inst e.1.sub) s)

/-- The release of a frozen requester (R311): HELD buffers are reclaimed and counted, event 2561 is raised and
event 2560 clears. -/
def releaseRequester (r : Nat) (s : State) : State :=
  let (n, s) := reclaim r s
  let s := (s.put 0x4C10 r 9 0).bump 0x4C10 r 0x0F n
  raise 2561 r n 0 (clear 2560 r s)

/-- BUFFER_REQUEST (R307): an engine or a host DMA channel asks for one buffer of an SRAM pool or one page. It
takes no account of the low mark and nothing spills; a refusal is "no buffer" (12) and is counted. -/
def execBufferRequest (requester pool pick : Nat) (s : State) : Host.Outcome State Fault Refusal :=
  whenUp s fun s =>
    if !(Objects.requesterOk s.trees requester) || requester < 256 || 4 ≤ pool then refuse 1 s
    else if mayTake s requester pool then
      let (b, s) := takeBuffer requester pool pick s
      done s (pointerOf pool b)
    else refuse 12 (refuseBuffer requester pool s)

/-- POOL_LOW_CLEAR (R327): the pool's free buffers have stayed above the low mark for 1 s, and event 2562
clears. -/
def execPoolLowClear (pool : Nat) (s : State) : Host.Outcome State Fault Refusal :=
  whenUp s fun s =>
    if s.aux .poolLow pool = 1 ∧ s.get 0x4C00 pool 3 < s.get 0x4C00 pool 2 then
      clear 2562 pool (s.setAux .poolLow pool 0 0)
    else s

end Sys2Proof.Machine
end

