-- ==== Sys2Proof/Machine/Scheduler.lean ====
section
/-!
DEFINITION. Machine/Scheduler.lean: the five-level scheduler (spec/09 R315 to R320): the tree of nodes, token
buckets, strict inputs and deficit round robin, and the choice of the next packet of a port.
-/
namespace Sys2Proof.Machine

/-- The object index of a scheduler level: 0 port, 1 tenant, 2 terminal, 3 class, 4 queue (R315). -/
def levelIndex (level : Nat) (up : Bool) : Nat :=
  [0x4E00, 0x4E20, 0x4E40, 0x4E60, qIndex up].getD level 0

/-- The port node of a terminal's lane (R315): 2t + l. -/
def terminalPort (s : State) (n : Nat) : Nat := 2 * (n / 512) + s.get 0x3000 n 0x0F

/-- The tenant node a terminal node hangs from (R315): the lane's, of the terminal's owner. -/
def terminalTenant (s : State) (n : Nat) : Nat := 17 * terminalPort s n + ownerOf s 0 n

/-- The nodes above a queue, port first: port, tenant, terminal (downstream only, 0 upstream), class (R315). -/
def queuePath (s : State) (up : Bool) (q : Nat) : Option (List Nat) :=
  let c := s.get (qIndex up) q 0x12
  if c = 0xFFFFFFFF then none
  else if up then
    let u := 17 * (96 + q / 256) + ownerOf s 4 q
    some [96 + q / 256, u, 0, 196608 + 8 * (u - 1632) + c]
  else some [terminalPort s (c / 8), terminalTenant s (c / 8), c / 8, c]

/-- The share instance behind a downstream tenant node, none for the operator pool's node (R319). -/
def nodeShare (u : Nat) : Option Nat := if u % 17 = 16 then none else some (96 * (u % 17) + u / 17)

/-- One of a node's buckets is never charged and always counts as positive: a rate (or a frame-mode ceiling) of
0xFFFFFFFF, or a node without a shaper (R319). peak false names the committed bucket. -/
def unlimited (s : State) (index inst : Nat) (peak : Bool) : Bool :=
  match s.get index inst 3 with
  | 0 => true
  | 2 => match nodeShare inst with
    | none => peak
    | some h => s.get 0x3820 h (if peak then 4 else 3) == 0xFFFFFFFF
  | _ => s.get index inst (if peak then 6 else 4) == 0xFFFFFFFF

/-- A bucket holds at least one byte (R317). -/
def bucketOk (s : State) (index inst : Nat) (peak : Bool) : Bool :=
  unlimited s index inst peak || 1 ≤ toInt 32 (s.get index inst (if peak then 9 else 8))

/-- A child with backlog is eligible, or committed-eligible (R317). -/
def nodeOk (s : State) (index inst : Nat) (committed : Bool) : Bool :=
  bucketOk s index inst true && (!committed || bucketOk s index inst false)

/-- A child's attachment: a strict input 0 to 3, or 0xFF for a DRR member; tenant nodes are DRR members (R316). -/
def attachment (s : State) (level : Nat) (up : Bool) (inst : Nat) : Nat :=
  if level = 1 then 0xFF else s.get (levelIndex level up) inst 1

/-- The quantum of a child (R316): a tenant node's is its weight times 1,024 bytes. -/
def quantum (s : State) (level : Nat) (up : Bool) (inst : Nat) : Nat :=
  if level = 1 then
    let p := inst / 17
    let g := inst % 17
    1024 * (if p < 96 then (if g = 16 then s.get 0x3880 p 4 else s.get 0x3810 g 3)
            else (if g = 16 then s.get 0x4E00 p 0x0D else s.get 0x3810 g 2))
  else s.get (levelIndex level up) inst 2

/-- The turn order of a parent's DRR members. -/
def roundOf (s : State) (level inst : Nat) : List Nat :=
  match s.rounds.find? fun r => r.level == level && r.inst == inst with
  | some r => r.members
  | none => []

/-- The turn order written. -/
def setRound (level inst : Nat) (l : List Nat) (s : State) : State :=
  { s with rounds := s.rounds.filter (fun r => !(r.level == level && r.inst == inst))
      ++ (if l.isEmpty then [] else [⟨level, inst, l⟩]) }

/-- The children of a node at the level below that lie above some of the queues, each once. -/
def childrenOf (s : State) (up : Bool) (childLevel : Nat) (qs : List Nat) : List Nat :=
  (qs.map fun q => if childLevel = 4 then q else ((queuePath s up q).getD []).getD childLevel 0).eraseDups

/-- The queues below one child. -/
def queuesBelow (s : State) (up : Bool) (childLevel child : Nat) (qs : List Nat) : List Nat :=
  qs.filter fun q => (if childLevel = 4 then q else ((queuePath s up q).getD []).getD childLevel 0) == child

/-- The first answer of a function over a list. -/
def firstOf {α β : Type} (f : α → Option β) : List α → Option β
  | [] => none
  | a :: l => match f a with
    | some b => some b
    | none => firstOf f l

/-- One DRR selection (R318): the head of the round has its quantum once per turn, sends while its head packet fits
its deficit, and goes to the tail when it does not. peek answers a child's next packet. -/
def drr (level parent childLevel : Nat) (up : Bool) (ok : Nat → Bool)
    (peek : Nat → State → Option (Pkt × State)) : Nat → List Nat → State → Option (Pkt × State)
  | 0, _, _ => none
  | _ + 1, [], _ => none
  | n + 1, c :: rest, s =>
    if !ok c then drr level parent childLevel up ok peek n rest s
    else match peek c s with
    | none => drr level parent childLevel up ok peek n rest s
    | some (x, s') =>
      let fresh := !(s.aux .turn level parent == c + 1)
      let d := s.aux .deficit childLevel c + (if fresh then quantum s childLevel up c else 0)
      if x.len ≤ d then
        some (x, ((s'.setAux .deficit childLevel c (d - x.len)).setAux .turn level parent (c + 1)))
      else
        let ring := (roundOf s level parent).filter (fun i => i != c) ++ [c]
        drr level parent childLevel up ok peek n (rest ++ [c])
          (setRound level parent ring ((s.setAux .deficit childLevel c d).setAux .turn level parent 0))

/-- The packet that the subtree of a node sends next, among the queues with backlog below it (R317): committed
strict inputs, committed DRR members, strict inputs, DRR members. The first argument counts the levels below. -/
def choose (up : Bool) : Nat → Nat → Nat → List Nat → State → Option (Pkt × State)
  | 0, _, q, _, s => (s.pkts.find? fun x => x.up == up && x.queue == q).map fun x => (x, s)
  | k + 1, level, inst, qs, s =>
    let childLevel := if up ∧ level = 1 then 3 else level + 1
    let ix := levelIndex childLevel up
    let kids := childrenOf s up childLevel qs
    let peek := fun c s => choose up k childLevel c (queuesBelow s up childLevel c qs) s
    let strict := fun committed => firstOf (fun i =>
      firstOf (fun c => if attachment s childLevel up c = i ∧ nodeOk s ix c committed = true then peek c s else none) kids)
      [0, 1, 2, 3]
    let members := kids.filter fun c => attachment s childLevel up c == 0xFF
    let live := members.filter fun c => nodeOk s ix c false
    let stored := (roundOf s level inst).filter fun c => live.contains c
    let ring := stored ++ live.filter fun c => !stored.contains c
    let s1 := setRound level inst ring s
    let turn := fun committed =>
      drr level inst childLevel up (fun c => nodeOk s ix c committed) peek (170 * (ring.length + 1)) ring s1
    firstOf (fun f => f ()) [fun () => strict true, fun () => turn true, fun () => strict false, fun () => turn false]

/-- The queues that may send on a port: they have packets and are running or draining. -/
def portQueues (s : State) (port : Nat) : List Nat :=
  let up := 96 ≤ port
  ((s.pkts.filter fun x => x.up == decide up && s.get (qIndex (decide up)) x.queue 0x11 != 0
      && ((queuePath s (decide up) x.queue).getD []).head? == some port).map Pkt.queue).eraseDups

/-- Takes bytes from one bucket of a node; a bucket may go negative (R317), but a rate of 0 keeps it at 0 (R319). -/
def chargeBucket (index inst : Nat) (bytes : Nat) (peak : Bool) (s : State) : State :=
  if unlimited s index inst peak ∨ (s.get index inst 3 = 1 ∧ s.get index inst (if peak then 6 else 4) = 0) then s
  else
    let sub := if peak then 9 else 8
    s.put index inst sub (ofInt 32 (toInt 32 (s.get index inst sub) - bytes))

/-- A sent packet charges both buckets of a node and counts there (R317, R328). -/
def chargeNode (index inst bytes len : Nat) (s : State) : State :=
  let s := chargeBucket index inst bytes true (chargeBucket index inst bytes false s)
  (s.bump index inst 0x0A len).bump index inst 0x0B

/-- A node with nothing left below it leaves its parent's round with a deficit of 0 (R318). -/
def leaveRound (s0 : State) (up : Bool) (level parentLevel parent inst : Nat) (s : State) : State :=
  let qs := ((s.pkts.filter fun x => x.up == up).map Pkt.queue).eraseDups
  if (childrenOf s0 up level qs).contains inst then s
  else
    let s := setRound parentLevel parent ((roundOf s parentLevel parent).filter fun c => c != inst) s
    let s := s.setAux .deficit level inst 0
    if s.aux .turn parentLevel parent = inst + 1 then s.setAux .turn parentLevel parent 0 else s

/-- Takes the first packet equal to x off its queue: the queue's depth and stack bytes fall by its length. -/
def takeOff (x : Pkt) (s : State) : State :=
  let ix := qIndex x.up
  let s := { s with pkts := s.pkts.erase x }
  let s := s.put ix x.queue 0x17 (s.get ix x.queue 0x17 - x.len)
  if x.pool = 3 then s.put ix x.queue 0x18 (s.get ix x.queue 0x18 - x.len) else s

/-- A selected packet leaves its queue whole and charges every shaper on its path (R317): downstream SDU bytes,
upstream frame bytes with FCS plus the port's overhead (R319). -/
def sendSelected (x : Pkt) (s : State) : State :=
  match queuePath s x.up x.queue with
  | none => s
  | some path =>
    let port := path.getD 0 0
    let bytes := if x.up then x.bytes.length + 4 + s.get 0x4E00 port 0x0C else x.len
    let s1 := chargeNode 0x4E00 port bytes x.len s
    let s1 := chargeNode 0x4E20 (path.getD 1 0) bytes x.len s1
    let s1 := if x.up then s1 else chargeNode 0x4E40 (path.getD 2 0) bytes x.len s1
    let s1 := chargeNode 0x4E60 (path.getD 3 0) bytes x.len s1
    let s1 := chargeNode (qIndex x.up) x.queue bytes x.len s1
    let s2 := takeOff x s1
    let s2 := leaveRound s x.up 4 3 (path.getD 3 0) x.queue s2
    let s2 := leaveRound s x.up 3 (if x.up then 1 else 2) (if x.up then path.getD 1 0 else path.getD 2 0) (path.getD 3 0) s2
    let s2 := if x.up then s2 else leaveRound s x.up 2 1 (path.getD 1 0) (path.getD 2 0) s2
    leaveRound s x.up 1 0 port (path.getD 1 0) s2

/-- The packet that a port sends next: the port node is on every path, so it must have peak tokens too (R317). -/
def nextPacket (port : Nat) (s : State) : Option (Pkt × State) :=
  let up := decide (96 ≤ port)
  if bucketOk s 0x4E00 port true = false then none
  else choose up (if up then 3 else 4) 0 port (portQueues s port) s

/-- The most bytes that a bucket's word holds: it is signed (R317, R328; log entry 129). -/
def bucketTop : Nat := 2 ^ 31 - 1

/-- Both buckets of a node or queue reset to zero (R320). -/
def resetBuckets (index inst : Nat) (s : State) : State :=
  ((s.put index inst 8 0).put index inst 9 0).setAux .tokFrac (index * 2 ^ 20 + inst) 8 0 |>.setAux .tokFrac (index * 2 ^ 20 + inst) 9 0

/-- A rate-mode bucket gains the bytes of its rate in 32 pipe cycles of 1.8 GHz, up to its burst: rate (kb/s) / 450,000
bytes, the fraction kept (R319). A rate of 0 keeps the bucket at 0. -/
def refillBucket (index inst : Nat) (peak : Bool) (s : State) : State :=
  let rate := s.get index inst (if peak then 6 else 4)
  let burst := min bucketTop (s.get index inst (if peak then 7 else 5))
  let sub := if peak then 9 else 8
  if rate = 0 ∨ rate = 0xFFFFFFFF then s
  else
    let f := s.aux .tokFrac (index * 2 ^ 20 + inst) sub + rate
    let v := toInt 32 (s.get index inst sub) + (f / 450000 : Nat)
    (s.put index inst sub (ofInt 32 (if (burst : Int) < v then burst else v))).setAux .tokFrac (index * 2 ^ 20 + inst) sub (f % 450000)

/-- SHAPER_REFILL (R319): every 32 pipe cycles each rate-mode bucket gains its rate up to its burst. Only nodes with
a written rate can gain anything. -/
def execShaperRefill (s : State) : Host.Outcome State Fault Refusal :=
  whenUp s fun s =>
    let nodes := s.objs.filter fun e =>
      [0x4E00, 0x4E20, 0x4E40, 0x4E60, 0x4C40, 0x4C80].contains e.1.index && (e.1.sub == 4 || e.1.sub == 6)
        && s.get e.1.index e.1.inst 3 == 1
    overAll nodes (fun e => refillBucket e.1.index e.1.inst (e.1.sub == 6)) s

/-- The frame-mode refill at a lane's frame boundary (R207, R319): every downstream tenant node of the lane has its
committed tokens set to the guarantee and its peak tokens to the ceiling, as written in either mode (R204). The operator pool has a
guarantee of 0 and no ceiling (spec/06 R199). -/
def frameRefill (port : Nat) (s : State) : State :=
  overAll (List.range 16) (fun g s =>
    let h := 96 * g + port
    let u := 17 * port + g
    (s.put 0x4E20 u 8 (min bucketTop (s.get 0x3820 h 3))).put 0x4E20 u 9 (min bucketTop (s.get 0x3820 h 4))) (s.put 0x4E20 (17 * port + 16) 8 0)

/-- A write of a node's or queue's shaper fields (R319, R320). -/
def shaperWrite (acc : Acc) (index inst sub : Nat) (v : Reg) (s : State) : State :=
  writeValue acc index inst sub v s fun s =>
    let s' := s.put index inst sub v
    let cr := s'.get index inst 4
    let pr := s'.get index inst 6
    if pr < cr ∨ (cr ≠ 0 ∧ s'.get index inst 5 = 0) ∨ (pr ≠ 0 ∧ s'.get index inst 7 = 0) then refuse 4 s
    else done (resetBuckets index inst s')

/-- The parent of a terminal, class or queue node as (level, instance), none when it hangs from nothing. -/
def parentOf (s : State) (index inst : Nat) : Option (Nat × Nat) :=
  match index with
  | 0x4E40 => some (1, terminalTenant s inst)
  | 0x4E60 => if inst < 196608 then some (2, inst / 8) else some (1, 1632 + (inst - 196608) / 8)
  | 0x4C40 => (queuePath s false inst).map fun p => (3, p.getD 3 0)
  | 0x4C80 => (queuePath s true inst).map fun p => (3, p.getD 3 0)
  | _ => none

/-- The level of a node's index. -/
def levelOf (index : Nat) : Nat := match index with
  | 0x4E00 => 0
  | 0x4E20 => 1
  | 0x4E40 => 2
  | 0x4E60 => 3
  | _ => 4

/-- A write of an attachment or a quantum (R316): two children of one parent on one strict input are refused, and
the child's deficit becomes 0. -/
def attachmentWrite (acc : Acc) (index inst sub : Nat) (v : Reg) (s : State) : State :=
  writeValue acc index inst sub v s fun s =>
    if sub = 1 ∧ v ≠ 0xFF ∧ (anyObj s index 1 fun i w => i != inst && w == v
        && (parentOf s index i).isSome && parentOf s index i == parentOf s index inst) = true then refuse 4 s
    else done ((s.put index inst sub v).setAux .deficit (levelOf index) inst 0)

/-- The tenant nodes whose quantum a weight gives (R316). -/
def weighted (index inst sub : Nat) : List Nat :=
  match index, sub with
  | 0x3810, 3 => (List.range 96).map fun p => 17 * p + inst
  | 0x3810, 2 => (List.range 32).map fun e => 17 * (96 + e) + inst
  | 0x3880, 4 | 0x4E00, 0x0D => [17 * inst + 16]
  | _, _ => []

/-- A write of a weight, which counts as a quantum write of the tenant nodes concerned (R316). -/
def tenantWeightWrite (acc : Acc) (index inst sub : Nat) (v : Reg) (s : State) : State :=
  writeValue acc index inst sub v s fun s =>
    overAll (weighted index inst sub) (fun u s => s.setAux .deficit 1 u 0) (store index inst sub v s)

/-- SHAPER_WRITE (R320): a write of .04 to .07 of a scheduler node or queue. -/
def execShaperWrite (acc : Acc) (index inst sub value : Nat) (s : State) : Host.Outcome State Fault Refusal :=
  whenUp s fun s =>
    if [0x4E00, 0x4E20, 0x4E40, 0x4E60, 0x4C40, 0x4C80].contains index && 4 ≤ sub && sub ≤ 7 then
      shaperWrite acc index inst sub value s
    else refuse 1 s

/-- ATTACHMENT_WRITE (R316): a write of .01 or .02 of a scheduler node or queue. -/
def execAttachmentWrite (acc : Acc) (index inst sub value : Nat) (s : State) : Host.Outcome State Fault Refusal :=
  whenUp s fun s =>
    if [0x4E00, 0x4E20, 0x4E40, 0x4E60, 0x4C40, 0x4C80].contains index && 1 ≤ sub && sub ≤ 2 then
      attachmentWrite acc index inst sub value s
    else refuse 1 s

end Sys2Proof.Machine
end

