-- ==== Sys2Proof/Machine/Policy.lean ====
section
/-!
DEFINITION. Machine/Policy.lean: ownership records, bindings, shares and contracts, and the adaptation of weights and
profiles (spec/06 R199 to R208, R215 to R228).
-/
namespace Sys2Proof.Machine

/-! ## Shares and contracts (R204, R205, R208) -/

/-- The lane index i = 2t + l of an allocation, none without a terminal. -/
def allocLane (s : State) (a : Nat) : Option Nat :=
  let n := s.get 0x3400 a 2
  if n = 0xFFFF then none else some (2 * (a / 1024) + s.get 0x3000 n 0x0F)

/-- The allocations of a tree that hold a contract. -/
def contracted (s : State) (t : Nat) : List Nat :=
  (s.objs.filterMap fun e =>
    if e.1.index == 0x3A00 && (e.1.sub == 1 || e.1.sub == 2) && e.1.inst / 1024 == t then some e.1.inst else none).eraseDups

/-- Σ Rf + Ra over an owner's allocations on a lane. -/
def contractSum (s : State) (i owner : Nat) : Nat :=
  (contracted s (i / 2)).foldl (fun n a =>
    if allocLane s a = some i ∧ ownerOf s 1 a = owner then n + s.get 0x3A00 a 1 + s.get 0x3A00 a 2 else n) 0

/-- The sum of all tenants' values of a share object on a lane. -/
def shareSum (s : State) (i sub : Nat) : Nat :=
  (List.range 16).foldl (fun n g => n + s.get 0x3820 (96 * g + i) sub) 0

/-- The downstream committed capacity in force: twice its value in double-stroke mode (R204). -/
def downCommitted (s : State) (i : Nat) : Nat :=
  s.get 0x3880 i 2 * (if i % 2 = 0 ∧ s.get 0x2001 (i / 2) 1 = 1 then 2 else 1)

/-- The admission rules of R205 hold on a lane. -/
def admissible (s : State) (i : Nat) : Bool :=
  shareSum s i 1 ≤ s.get 0x3880 i 1 && shareSum s i 3 ≤ downCommitted s i
    && (List.range 16).all (fun g =>
      let h := 96 * g + i
      s.get 0x3820 h 1 ≤ s.get 0x3820 h 2 && s.get 0x3820 h 3 ≤ s.get 0x3820 h 4 && contractSum s i g ≤ s.get 0x3820 h 1)
    && contractSum s i 16 + shareSum s i 1 ≤ s.get 0x3880 i 1

/-! ## Ownership (R200, R201) -/

/-- Instances of each ownership kind (R200). -/
def kindCount (kind : Nat) : Nat :=
  [24576, 49152, 131072, 131072, 8192, 262144, 65536, 1024, 65536].getD kind 0

/-- Instances of a kind that are in use among the listed objects (R201): terminals not VACANT, allocations and
bindings enabled, flows with an allocation or a domain, queues not disabled, meters that are on or that a flow map
names, slots that hold a key, valid rules of either coat. -/
def usedInstances (s : State) (kind : Nat) : List Nat :=
  let of := fun (index sub : Nat) (p : Reg → Bool) (f : Nat → Nat) => s.objs.filterMap fun e =>
    if e.1.index == index && e.1.sub == sub && p e.2 then some (f e.1.inst) else none
  let on := fun v : Reg => v != 0
  match kind with
  | 0 => of 0x3000 4 on id
  | 1 => of 0x3400 1 on id
  | 2 => of 0x4800 3 (fun v => v != 0xFFFFFFFF) id ++ of 0x4800 4 (fun v => v != 0xFFFF) id
  | 3 => of 0x4C40 0x11 on id
  | 4 => of 0x4C80 0x11 on id
  | 5 => of 0x4F00 1 on id ++ (s.objs.filterMap fun e =>
      if e.1.index == 0x4D00 && (e.1.sub == 5 || e.1.sub == 6) && e.2 != 0xFFFFFFFF then some e.2 else none)
  | 6 => of 0x4000 4 on id
  | 7 => of 0x3700 1 on id
  | _ => of 0x4400 4 on fun i => i % 65536

/-- Instances of a record's range that are in use, each once (0x3800[r].05). -/
def recordInUse (s : State) (r : Nat) : Nat :=
  ((usedInstances s (s.get 0x3800 r 2)).filter fun i => s.get 0x3800 r 3 ≤ i && i ≤ s.get 0x3800 r 4).eraseDups.length

/-- Another record in force of the same kind overlaps record r. -/
def recordOverlaps (s : State) (r : Nat) : Bool :=
  anyObj s 0x3800 1 fun q v => q != r && v != 0xFF && s.get 0x3800 q 2 == s.get 0x3800 r 2
    && s.get 0x3800 q 3 ≤ s.get 0x3800 r 4 && s.get 0x3800 r 3 ≤ s.get 0x3800 q 4

/-- The admission rules hold on every lane on which an allocation of record r holds a contract (R205). -/
def movesAdmissible (r : Nat) (s : State) : Bool :=
  s.get 0x3800 r 2 != 1 || ((List.range s.trees).flatMap fun t =>
    (((contracted s t).filter fun a => s.get 0x3800 r 3 ≤ a && a ≤ s.get 0x3800 r 4).filterMap fun a => allocLane s a).eraseDups).all
      fun i => admissible s i

/-- A write of 0x3800[r].01 (R201). A direct change of tenant is a taking out followed by a putting in (log entry 16). -/
def ownershipWrite (acc : Acc) (r v : Nat) (s : State) : State :=
  writeValue acc 0x3800 r 1 v s fun s =>
    let old := s.get 0x3800 r 1
    if old = v then done s
    else if old ≠ 0xFF ∧ recordInUse s r ≠ 0 then refuse 3 s
    else if v ≠ 0xFF ∧ (kindCount (s.get 0x3800 r 2) ≤ s.get 0x3800 r 4 ∨ recordOverlaps s r = true) then refuse 4 s
    else if movesAdmissible r (s.put 0x3800 r 1 v) = false then refuse 4 s
    else done (raise 1554 r old v (s.put 0x3800 r 1 v))

/-- OWNERSHIP_IN_FORCE (R201): a tenant number written to 0x3800[r].01. -/
def execOwnershipInForce (acc : Acc) (record tenant : Nat) (s : State) : Host.Outcome State Fault Refusal :=
  whenUp s fun s => ownershipWrite acc record tenant s

/-- OWNERSHIP_OUT_OF_FORCE (R201): 0xFF written to 0x3800[r].01. -/
def execOwnershipOutOfForce (acc : Acc) (record : Nat) (s : State) : Host.Outcome State Fault Refusal :=
  whenUp s fun s => ownershipWrite acc record 0xFF s

/-! ## Contracts and writes (R205, R208) -/

/-- The contract of an allocation meets its kind (R208): unused fields are 0, and a provisioned one meets its
minimums. -/
def contractFits (s : State) (a : Nat) : Bool :=
  let k := s.get 0x3400 a 4
  let g := fun sub => s.get 0x3A00 a sub
  if s.get 0x3400 a 1 = 1 then contractOk k (g 1) (g 2) (g 3)
  else contractUnused k 1 (g 1) && contractUnused k 2 (g 2) && contractUnused k 3 (g 3)

/-- A write of a guarantee, a ceiling, a committed capacity or a contract (R205, R208, R227). A downstream share's
write is a reconfiguration of its tenant node's shaper (R207). -/
def shareWrite (acc : Acc) (index inst sub v : Nat) (s : State) : State :=
  writeValue acc index inst sub v s fun s =>
    let s' := s.put index inst sub v
    match index with
    | 0x3820 =>
      if !admissible s' (inst % 96) then refuse 4 s
      else if 3 ≤ sub then done (resetBuckets 0x4E20 (17 * (inst % 96) + inst / 96) s')
      else done s'
    | 0x3880 => if sub ≤ 2 && !admissible s' inst then refuse 4 s else done s'
    | _ =>
      let laneOk := match allocLane s inst with
        | some i => admissible s' i
        | none => true
      if sub ≤ 3 && !(contractFits s' inst && laneOk) then refuse 4 s else done s'

/-- SHARE_WRITE (R205). -/
def execShareWrite (acc : Acc) (index inst sub value : Nat) (s : State) : Host.Outcome State Fault Refusal :=
  whenUp s fun s =>
    if (index = 0x3820 ∧ 1 ≤ sub ∧ sub ≤ 4) ∨ (index = 0x3880 ∧ 1 ≤ sub ∧ sub ≤ 2) ∨ (index = 0x3A00 ∧ 1 ≤ sub ∧ sub ≤ 3) then
      shareWrite acc index inst sub value s
    else refuse 1 s

/-! ## Bindings (R202) -/

/-- The ownership kind and instance that a binding object's value names, and the kind of its own instance: none for
an unbound value or an object that binds nothing (R202). -/
def bindingOf (s : State) (index sub v : Nat) : Option (List (Nat × Nat) × Nat) :=
  match index, sub with
  | 0x3400, 2 => if v = 0xFFFF then none else some ([(0, v)], 1)
  | 0x3700, 3 => if v = 0xFFFFFFFF then none else some ([(1, v)], 7)
  | 0x4800, 3 => if v = 0xFFFFFFFF then none else
      some ((1, v) :: (if s.get 0x3400 v 2 = 0xFFFF then [] else [(0, s.get 0x3400 v 2)]), 2)
  | 0x4200, 1 | 0x4200, 2 | 0x4200, 3 => if v = 0xFFFF then none else some ([(6, v)], 0)
  | _, _ => none

/-- The binding stays within one owner. -/
def bindingFits (s : State) (index inst sub v : Nat) : Bool :=
  match bindingOf s index sub v with
  | none => true
  | some (l, own) => l.all fun p => ownerOf s p.1 p.2 == ownerOf s own inst

/-- A write of a binding (R202): refused with "out of range" across owners; binding an allocation to a terminal must
also keep the admission rules of the lane it joins (R205). -/
def bindingWrite (acc : Acc) (index inst sub v : Nat) (s : State) : State :=
  writeValue acc index inst sub v s fun s =>
    let s' := s.put index inst sub v
    if !bindingFits s index inst sub v then refuseBinding acc index sub s
    else if index = 0x3400 then
      (match allocLane s' inst with
       | some i => if admissible s' i then done (mirrorAlloc inst s') else refuse 4 s
       | none => done (mirrorAlloc inst s'))
    else done s'

/-- BINDING_WRITE (R202): the terminal of an allocation, the allocation of a cooperative binding or of a flow. The
bindings of key slots are KEY_SLOT_CONFIG_WRITE's, those of queues and meters FLOW_MAP_WRITE's. -/
def execBindingWrite (acc : Acc) (index inst sub value : Nat) (s : State) : Host.Outcome State Fault Refusal :=
  whenUp s fun s =>
    if (index = 0x3400 ∧ sub = 2) ∨ (index = 0x3700 ∧ sub = 3) ∨ (index = 0x4800 ∧ sub = 3) then
      bindingWrite acc index inst sub value s
    else refuse 1 s

/-! ## Weights (R217, R218) -/

/-- A current weight takes a value; a change raises event 1556. -/
def setWeight (a w : Nat) (s : State) : State :=
  let old := s.get 0x3A00 a 7
  if w = old then s else raise 1556 a old w ((s.put 0x3A00 a 7 w).bump32 0x3A00 a 0x0C)

/-- A weight clamped to an allocation's bounds. -/
def clampWeight (s : State) (a w : Nat) : Nat := min (s.get 0x3A00 a 6) (max (s.get 0x3A00 a 5) w)

/-- A write of the nominal weight or of a bound (R218). -/
def weightWrite (acc : Acc) (a sub v : Nat) (s : State) : State :=
  writeValue acc 0x3A00 a sub v s fun s =>
    let s' := s.put 0x3A00 a sub v
    let g := fun k => s'.get 0x3A00 a k
    if !(1 ≤ g 5 && g 5 ≤ g 4 && g 4 ≤ g 6 && g 6 ≤ 1000) then refuse 4 s
    else done (setWeight a (clampWeight s' a (if sub = 4 then v else s'.get 0x3A00 a 7)) s')

/-- NOMINAL_WEIGHT_WRITE (R218): a write of 0x3A00[a].04, .05 or .06. -/
def execNominalWeightWrite (acc : Acc) (allocation sub value : Nat) (s : State) : Host.Outcome State Fault Refusal :=
  whenUp s fun s => if 4 ≤ sub ∧ sub ≤ 6 then weightWrite acc allocation sub value s else refuse 1 s

/-- The step of R217 for a non-assured allocation: its new weight, and the period's results held in .0A and .0B. -/
def weightStep (s : State) (a : Nat) : Nat × Nat × Nat :=
  let lo := s.get 0x3A00 a 5
  let hi := s.get 0x3A00 a 6
  let w := s.get 0x3A00 a 7
  let granted := s.aux .adGranted a
  let u := if granted = 0 then 100 else min 100 (s.aux .adUsed a * 100 / granted)
  let sv := if s.aux .adFrames a = 0 then 0 else min 100 (s.aux .adWant a * 100 / s.aux .adFrames a)
  let step := max 1 ((hi - lo) / 8)
  ((if 25 ≤ sv ∧ 90 ≤ u then min hi (w + step) else if u < 50 then max lo (w - step) else w), u, sv)

/-! ## Profiles (R220 to R225) -/

/-- Capacity of a main-lane profile in common units (R220): its rate times 14,592 with FEC on, 17,280 with FEC off. -/
def profileCapacity (s : State) (t p : Nat) : Nat :=
  2 ^ s.get 0x2005 (1024 * t + p) 1 * (if s.get 0x2005 (1024 * t + p) 7 = 1 then 14592 else 17280)

/-- The capacity rank of a profile (R220): FEC on ranks lower among equals, then the lower index. -/
def profileRank (s : State) (t p : Nat) : Nat :=
  let fec := fun q => s.get 0x2005 (1024 * t + q) 7
  (List.range 4).countP fun q =>
    let a := profileCapacity s t q
    let b := profileCapacity s t p
    a < b || (a == b && (fec p < fec q || (fec p == fec q && q < p)))

/-- The allowed profile of a terminal that stands nearest below (up false) or above its current one in rank. -/
def nextProfile (s : State) (n : Nat) (up : Bool) : Option Nat :=
  let t := n / 512
  let cur := profileRank s t (s.get 0x3900 n 1)
  let ok := (List.range 4).filter fun q => bit q (s.get 0x3900 n 2)
    && (if up then cur < profileRank s t q else profileRank s t q < cur)
  ok.foldl (fun b q => match b with
    | none => some q
    | some r => if (profileRank s t q < profileRank s t r) == up then some q else some r) none

/-- A terminal's current profile changes (R224). -/
def setProfile (n p : Nat) (s : State) : State :=
  let old := s.get 0x3900 n 1
  if p = old then s
  else raise 1557 n old p (((s.put 0x3900 n 1 p).bump32 0x3900 n 6).put 0x3900 n 7 (time80 s.now))

/-- Profile adaptation applies to a terminal (R222, R225). -/
def adapts (s : State) (n : Nat) : Bool :=
  s.get 0x3000 n 0x0F == 0 && s.get 0x3900 n 3 == 1 && s.get 0x3880 (2 * (n / 512)) 7 == 1

/-- A write of a terminal's current profile (R225). -/
def currentProfileWrite (acc : Acc) (n v : Nat) (s : State) : State :=
  writeValue acc 0x3900 n 1 v s fun s =>
    if adapts s n then refuse 3 s
    else if !bit v (s.get 0x3900 n 2) then refuse 4 s
    else done (setProfile n v s)

/-- CURRENT_PROFILE_WRITE (R225). -/
def execCurrentProfileWrite (acc : Acc) (terminal value : Nat) (s : State) : Host.Outcome State Fault Refusal :=
  whenUp s fun s => currentProfileWrite acc terminal value s

/-- A write of a terminal's allowed mask (R225, R226). On the main lane, a mask that excludes the current profile moves
the terminal to the nearest allowed profile of lower rank, or to the lowest allowed one. -/
def allowedWrite (acc : Acc) (n v : Nat) (s : State) : State :=
  writeValue acc 0x3900 n 2 v s fun s =>
    if v = 0 ∨ 16 ≤ v then refuse 4 s
    else
      let s := s.put 0x3900 n 2 v
      if bit (s.get 0x3900 n 1) v = true ∨ s.get 0x3000 n 0x0F ≠ 0 then done s
      else match nextProfile s n false with
        | some p => done (setProfile n p s)
        | none => match nextProfile s n true with
          | some p => done (setProfile n p s)
          | none => done s

/-- ALLOWED_PROFILES_WRITE (R225). -/
def execAllowedProfilesWrite (acc : Acc) (terminal value : Nat) (s : State) : Host.Outcome State Fault Refusal :=
  whenUp s fun s => allowedWrite acc terminal value s

/-- A terminal enters OPERATION (R225): it takes the discovery profile when profile adaptation applies to it. -/
def profileAtOperation (n : Nat) (s : State) : State :=
  if adapts s n then setProfile n (s.get 0x3100 (n / 512) 9) s else s

/-- UP_HOLD_RESTORE (R223): an hour without a step down from a profile: its up-hold is the configured one again. -/
def execUpHoldRestore (terminal profile : Nat) (s : State) : Host.Outcome State Fault Refusal :=
  whenUp s fun s => s.setAux .upHoldX terminal profile 0

/-! ## The end of an adaptation period (R216 to R224) -/

/-- What a period asks of a terminal or an allocation. -/
inductive Change where
  | down (n p : Nat)
  | up (n p : Nat)
  | weight (a w : Nat)
  deriving DecidableEq, Repr

/-- The up-hold count of a terminal written: its object shows at most 255 (R222, R223). -/
def setUpHold (n k : Nat) (s : State) : State := (s.setAux .upRun n 0 k).put 0x3900 n 5 (min 255 k)

/-- The evaluation of a terminal (R221, R222): the change asked for, and the counters, the error rate and event 1558
brought up to date. -/
def evaluate (n : Nat) (s : State) : List Change × State :=
  let t := n / 512
  let p := s.get 0x3900 n 1
  let bits := s.aux .adBits n
  let hasRate := 1000000 ≤ bits
  let rate := s.aux .adErr n * 1000000000 / max 1 bits
  let unc := s.aux .adUnc n
  let hdr := s.aux .adHdr n
  let s := if hasRate then s.put 0x3900 n 4 (min rate (2 ^ 32 - 1)) else s
  if 0 < unc ∨ 2 ≤ hdr ∨ (hasRate ∧ s.get 0x3B00 (4 * t + p) 2 < rate) then
    (match nextProfile s n false with
     | some q => ([.down n q], setUpHold n 0 s)
     | none =>
       let s := s.bump32 0x3900 n 8
       ([], if isPending s 1558 n then s else raise 1558 n p rate s))
  else
    let s := clear 1558 n s
    if !hasRate then ([], s)
    else match nextProfile s n true with
      | some q =>
        if rate ≤ s.get 0x3B00 (4 * t + q) 1 ∧ hdr = 0 then
          let k := s.aux .upRun n + 1
          let hold := s.get 0x3B00 (4 * t + q) 3 * 2 ^ s.aux .upHoldX n q
          ((if hold ≤ k then [.up n q] else []), setUpHold n (min k 65535) s)
        else ([], setUpHold n 0 s)
      | none => ([], setUpHold n 0 s)

/-- The local instance by which the remaining changes are taken in order (R219; log entry 17). -/
def Change.local : Change → Nat
  | .down n _ => n % 512
  | .up n _ => n % 512
  | .weight a _ => a % 1024

/-- A change carried out. A step down doubles the left profile's up-hold for the terminal, up to 8 times (R223). -/
def carryOut (c : Change) (s : State) : State :=
  match c with
  | .down n p => setProfile n p (s.setAux .upHoldX n (s.get 0x3900 n 1) (min 3 (s.aux .upHoldX n (s.get 0x3900 n 1) + 1)))
  | .up n p => setProfile n p (setUpHold n 0 s)
  | .weight a w => setWeight a w s

/-- The terminals of a lane with a measurement in the period. -/
def measured (s : State) (i : Nat) : List Nat :=
  ((s.regs.filter fun e => [Aux.adBits.ctorIdx, Aux.adUnc.ctorIdx, Aux.adHdr.ctorIdx].contains e.1.index
    && e.1.inst / 512 == i / 2).map fun e => e.1.inst).eraseDups.filter fun n => 2 * (n / 512) + s.get 0x3000 n 0x0F == i

/-- Insertion by local instance. -/
def insertChange (c : Change) : List Change → List Change
  | [] => [c]
  | d :: l => if c.local ≤ d.local then c :: d :: l else d :: insertChange c l

/-- The measurements of a lane's period are dropped. -/
def clearMeasures (i : Nat) (s : State) : State :=
  let alloc := [Aux.adUsed.ctorIdx, Aux.adGranted.ctorIdx, Aux.adWant.ctorIdx, Aux.adFrames.ctorIdx]
  let term := [Aux.adBits.ctorIdx, Aux.adErr.ctorIdx, Aux.adUnc.ctorIdx, Aux.adHdr.ctorIdx]
  { s with regs := s.regs.forget fun k =>
      (alloc.contains k.index && allocLane s k.inst == some i)
        || (term.contains k.index && 2 * (k.inst / 512) + s.get 0x3000 k.inst 0x0F == i) }

/-- The terminals of a lane whose profile stands at its floor. -/
def floored (s : State) (i : Nat) : List Nat :=
  ((s.evPending.filter fun r => r.num == 1558).map fun r => r.inst).filter fun n => 2 * (n / 512) + s.get 0x3000 n 0x0F == i

/-- The end of a lane's adaptation period, lane index i = 2t + l. Row 1 of R222 does not apply to a terminal without a measurement:
its event 1558 clears (R228). -/
def periodEnd (i : Nat) (s : State) : State :=
  let ns := (measured s i).filter fun n => adapts s n && s.get 0x3000 n 4 == 3
  let s := overAll ((floored s i).filter fun n => !ns.contains n) (clear 1558) s
  let (asked, s) := ns.foldl (fun (p : List Change × State) n =>
    let (c, s) := evaluate n p.2
    (p.1 ++ c, s)) ([], s)
  let as' := (s.objs.filterMap fun e => if e.1.index == 0x3400 && e.1.sub == 1 && e.2 == 1 then some e.1.inst else none).filter
    fun a => allocLane s a == some i && s.get 0x3400 a 4 == 2 && s.get 0x3A00 a 8 == 1 && s.get 0x3880 i 6 == 1
  let (weights, s) := as'.foldl (fun (p : List Change × State) a =>
    let (w, u, v) := weightStep p.2 a
    let s := (p.2.put 0x3A00 a 0x0A u).put 0x3A00 a 0x0B v
    (if w = s.get 0x3A00 a 7 then p.1 else p.1 ++ [.weight a w], s)) ([], s)
  let downs := asked.filter fun c => match c with
    | .down _ _ => true
    | _ => false
  let rest := (asked.filter fun c => !downs.contains c) ++ weights
  let sorted := rest.foldl (fun l c => insertChange c l) []
  let last := s.aux .adaptLast i
  let order := sorted.filter (fun c => last ≤ c.local) ++ sorted.filter fun c => c.local < last
  let left := s.get 0x3880 i 9 - downs.length
  let taken := order.take left
  let dropped := order.length - taken.length
  let s := overAll taken carryOut (overAll downs carryOut s)
  let s := match taken.getLast? with
    | some c => s.setAux .adaptLast i 0 (c.local + 1)
    | none => s
  let s := if dropped = 0 then s else raise 1559 i dropped 0 (s.bump 0x3880 i 0x0A dropped)
  clearMeasures i s

/-- ADAPTATION_PERIOD_END (R216): while the cluster's adaptation engine runs. -/
def execAdaptationPeriodEnd (lane : Nat) (s : State) : Host.Outcome State Fault Refusal :=
  whenUp s fun s =>
    if lane < 2 * s.trees && s.get 0x5400 (16 * (lane / 8) + 10) 2 == 0 then periodEnd lane s else s

end Sys2Proof.Machine
end

