-- ==== Sys2Proof/Machine/Keys.lean ====
section
/-!
DEFINITION. Machine/Keys.lean: the key store, the tree-side ciphers' use of it, and the key exchanges with terminals
(spec/07 R229 to R251). Ciphers, tags and wraps are the standards': they
are functions of Config over what the spec says enters them (log entry 107).
-/
namespace Sys2Proof.Machine

/-! ## Slots (R229 to R232, R239) -/

def slotKind (s : State) (k : Nat) : Nat := s.get 0x4000 k 1
def slotState (s : State) (k : Nat) : Nat := s.get 0x4000 k 4
def slotGen (s : State) (k : Nat) : Nat := s.get 0x4000 k 6

/-- Purpose code and instance a slot is bound to (0x4000[k].0E). -/
def bindCode (s : State) (k : Nat) : Nat := s.get 0x4000 k 0x0E / 2 ^ 24
def bindInst (s : State) (k : Nat) : Nat := s.get 0x4000 k 0x0E % 2 ^ 24

/-- The tree a slot is bound to: its terminal's, or its own. -/
def slotTree (s : State) (k : Nat) : Option Nat :=
  match bindCode s k with
  | 1 | 2 | 3 => some (bindInst s k / 512)
  | 4 | 5 => some (bindInst s k)
  | _ => none

/-- The 96 bytes of a slot in memory 66 (R239). Fields of several bytes lie most significant first (log entry 21). -/
def slotBytes (s : State) (k : Nat) : List Nat :=
  bytesOf 32 (s.aux .keyMat k 0) ++ bytesOf 32 (s.aux .keyMat k 1) ++ bytesOf 8 (s.get 0x4000 k 7)
    ++ bytesOf 8 (s.get 0x4000 k 8) ++ bytesOf 8 (s.get 0x4000 k 9)
    ++ [slotKind s k, s.get 0x4000 k 3, slotState s k, 16 * s.get 0x4000 k 5 + s.aux .keyNextIdx k]
    ++ bytesOf 2 (slotGen s k) ++ [s.get 0x4000 k 0x0A, 0]

/-- Words of a slot written whole from its fields. -/
def syncWords (k : Nat) (words : List Nat) (s : State) : State :=
  let b := slotBytes s k
  overAll words (fun j s => writeWord ⟨66, 12 * k + j, 255, ofBytes ((b.drop (8 * j)).take 8).reverse⟩ s) s

/-- A slot written whole: the poison of its words and of the tree ports' copies goes (R239). -/
def syncSlot (k : Nat) (s : State) : State := syncWords k (List.range 12) (s.setAux .keyPoison k 0 0)

/-- A word of the slot is stored uncorrectable or poisoned, or a copy is known to be. -/
def slotPoisoned (s : State) (k : Nat) : Bool :=
  s.aux .keyPoison k == 1
    || (List.range 12).any fun j => (classOf (syndrome (s.word 66 (readPlace s 66 (12 * k + j))))).bad

/-- Operations may start under the slot's current half (R237 to R239). -/
def slotLive (s : State) (k : Nat) : Bool := slotState s k != 0 && s.get 0x4000 k 0x0A == 0 && !slotPoisoned s k

/-- The broadcast slot of a mode on a tree, none when unbound (R240); both ports of a pair use the same slots (R245). -/
def broadcastSlot (s : State) (t : Nat) (stroke : Bool) : Option Nat :=
  let own := fun t =>
    let k := s.get 0x4100 t (if stroke then 2 else 1)
    if k = 0xFFFF then none else some k
  (own t).or ((localPartner s t).bind own)

/-- The modes whose broadcast slot a lane of the tree needs and cannot use (R244). -/
def missingKeys (s : State) (t : Nat) : List Nat :=
  ([0, 1].filter fun l => laneState s t l != 0 && (match broadcastSlot s t (doubleStroke s t l) with
    | some k => !slotLive s k
    | none => true)).map fun l => if doubleStroke s t l then 1 else 0

/-- Event 2055 follows the broadcast slots of a tree's lanes (R244): one record for each mode whose slot becomes unusable. -/
def watchBroadcast (t : Nat) (s : State) : State :=
  let missing := missingKeys s t
  let old := s.aux .missMask t
  let mask := [0, 1].foldl (fun x m => if missing.contains m then x + 2 ^ m else x) 0
  let s := s.setAux .missMask t 0 mask
  if mask = 0 then clear 2055 t s
  else overAll ([0, 1].filter fun m => bit m mask && !bit m old) (fun m s => raise 2055 t m 0 s) s

/-- The broadcast watch of the trees that use this broadcast slot: the one that it is bound to, and a partner on this device, which
uses the same slots (R244, R245). -/
def watchSlot (k : Nat) (s : State) : State :=
  if bindCode s k = 4 ∨ bindCode s k = 5 then
    let t := bindInst s k
    let s := watchBroadcast t s
    match localPartner s t with
    | some p => watchBroadcast p s
    | none => s
  else s

/-- A slot is read at the start of an operation (R233, R239): poison raises event 2058 and empties it. -/
def readSlot (k : Nat) (s : State) : State :=
  let (bad, s) := (List.range 12).foldl (fun (p : Bool × State) j =>
    let (c, _, s) := readWord 66 (12 * k + j) 0 p.2
    (p.1 || c.bad, s)) (s.aux .keyPoison k == 1, s)
  if bad ∧ isPending s 2058 k = false then watchSlot k (raise 2058 k 0 0 s) else s

/-- An operation refused because its slot is unusable (R237, R238): counted and summarised in event 2054, dir 0
downstream, 1 upstream, 2 neither. -/
def refuseKey (k dir : Nat) (s : State) : State :=
  let s := s.bump 0x4000 k 0x0C
  raisePair 2054 k dir 1 s

/-- A key has become current (R232, R234, R237). -/
def newCurrent (k : Nat) (s : State) : State :=
  let old := slotGen s k
  let s := (((s.put 0x4000 k 6 ((old + 1) % 65536)).put 0x4000 k 7 0).put 0x4000 k 0x0A 0).setAux .keySoft k 0 0
  raise 2051 k old ((old + 1) % 65536) (clear 2049 k (clear 2048 k s))

/-! ## Key exchanges (R246 to R250) -/

/-- The slot that an exchange of a kind (1 standard, 2 stroke) renews, none when unbound. -/
def exchangeSlot (s : State) (n kind : Nat) : Option Nat :=
  let k := s.get 0x4200 n kind
  if k = 0xFFFF then none else some k

/-- The request of the running exchange is sent: Key_Control, or the Stroke Key Request with its key index and
generation (R248). -/
def sendRequest (n : Nat) (s : State) : State :=
  queuePloam (n / 512) (laneOf s n) (n % 512)
    (if s.aux .kxKind n = 2 then .strokeKeyRequest else .keyControl) [s.aux .kxIndex n, s.aux .kxGen n] s

/-- No exchange runs for the terminal. -/
def endExchange (n : Nat) (s : State) : State :=
  (overAll [Aux.kxKind, .kxTries, .kxFrag, .kxKey, .kxSeq] (fun a s => s.setAux a n 0 0) s).put 0x4200 n 4 0

/-- An exchange starts (R247): none runs, the session keys are derived (R246), the slot is bound, and the terminal is
in OPERATION. With one running it waits for that one's end. -/
def startExchange (n kind : Nat) (s : State) : State :=
  if s.aux .kxKind n ≠ 0 then s.setAux .kxNext n 0 (if bit kind (s.aux .kxNext n) then s.aux .kxNext n else s.aux .kxNext n + 2 ^ kind)
  else match exchangeSlot s n kind with
    | none => s
    | some k =>
      if s.aux .sesDerived n = 0 ∨ termState s n ≠ 3 then s
      else
        let idx := if slotState s k = 0 then 1 else 3 - s.get 0x4000 k 5
        let s := (((s.setAux .kxKind n 0 kind).setAux .kxTries n 0 1).setAux .kxIndex n 0 idx).setAux .kxGen n 0
          ((slotGen s k + 1) % 65536)
        sendRequest n ((overAll [Aux.kxFrag, .kxKey, .kxSeq] (fun a s => s.setAux a n 0 0) s).put 0x4200 n 4 1)

/-- The exchange that waits for the end of another starts. -/
def nextExchange (n : Nat) (s : State) : State :=
  match [1, 2].find? fun kind => bit kind (s.aux .kxNext n) with
  | some kind => startExchange n kind (s.setAux .kxNext n 0 (s.aux .kxNext n - 2 ^ kind))
  | none => s

/-- The terminal leaves OPERATION: its exchange and a held key are discarded (R250). -/
def dropExchange (n : Nat) (s : State) : State :=
  let s := (endExchange n s).setAux .kxNext n 0 0
  { s with keyWaits := s.keyWaits.filter fun w => w.terminal != some n }

/-- The kind of slot that the mode in force on a terminal's lane uses (R240). -/
def modeKind (s : State) (n : Nat) : Nat := if doubleStroke s (n / 512) (laneOf s n) then 2 else 1

/-- A bound slot of the kind asks for an exchange when its terminal enters OPERATION: it is EMPTY (a stroke slot only
with capability bit 0), or its soft limit was reached (R236, R247). -/
def exchangeDue (s : State) (n kind : Nat) : Bool :=
  match exchangeSlot s n kind with
  | none => false
  | some k => (slotState s k == 0 && (kind == 1 || bit 0 (s.get 0x3000 n 9)))
      || (slotState s k != 0 && s.aux .keySoft k == 1)

/-- The exchanges due at the entry to OPERATION (R247), the current mode's slot first. -/
def exchangesAtEntry (n : Nat) (s : State) : State :=
  let m := modeKind s n
  overAll ([m, 3 - m].filter fun kind => exchangeDue s n kind) (fun kind s => startExchange n kind s) s

/-- A Capability Report of a terminal in OPERATION (R247): its EMPTY stroke slot is renewed. -/
def exchangeAtReport (n : Nat) (s : State) : State :=
  if termState s n = 3 ∧ bit 0 (s.get 0x3000 n 9) = true then
    (match exchangeSlot s n 2 with
     | some k => if slotState s k = 0 ∧ s.aux .kxKind n ≠ 2 then startExchange n 2 s else s
     | none => s)
  else s

/-! ## Usage and limits (R232, R233, R236, R237) -/

/-- Blocks charged to the generation an operation latched: the soft limit raises event 2048 once per generation and
starts an exchange for kinds 1 and 2; the hard limit exhausts the slot. -/
def chargeKey (k gen blocks : Nat) (s : State) : State :=
  if slotState s k = 0 ∨ slotGen s k ≠ gen then s
  else
    let usage := min (2 ^ 64 - 1) (s.get 0x4000 k 7 + blocks)
    let s := s.put 0x4000 k 7 usage
    let s := if s.get 0x4000 k 8 ≤ usage ∧ s.aux .keySoft k = 0 then
        let s := raise 2048 k gen (slotKind s k) (s.setAux .keySoft k 0 1)
        if (bindCode s k = 1 ∨ bindCode s k = 2) ∧ s.aux .kxKind (bindInst s k) = 0 then
          startExchange (bindInst s k) (bindCode s k) s else s
      else s
    let s := if s.get 0x4000 k 9 ≤ usage ∧ s.get 0x4000 k 0x0A = 0 then
        watchSlot k (raise 2049 k gen (slotKind s k) (s.put 0x4000 k 0x0A 1)) else s
    syncWords k [8, 11] s

/-! ## Key writes (R230, R231, R234, R245) -/

/-- A write port takes writes: the claim's holder serves it (R230, R379). -/
def portServed (s : State) (port : Nat) : Bool := s.aux .engVac 1 port == 1

/-- The session keys of a terminal follow its session slot (R246). -/
def deriveSession (n : Nat) (s : State) : State :=
  let k := s.get 0x4200 n 3
  s.setAux .sesDerived n 0 (if k ≠ 0xFFFF ∧ slotState s k ≠ 0 then 1 else 0)

/-- The working member mirrors a key write of a protected tree to its partner on another member (R245): wrapped under
the pair's mirror key, acknowledgement requested. A mirror key that cannot be used sends nothing (R237). -/
def mirrorKey (k idx gen : Nat) (s : State) : State :=
  match slotTree s k with
  | none => s
  | some t =>
    match remotePartner s t with
    | none => s
    | some (m, _) =>
      if s.get 0x2003 t 1 ≠ 1 then s
      else
        let s := s.setAux .keyUnacked k 0 1
        let mk := s.get 0x5590 m 3
        if mk = 0xFFFF then s
        else
          let s := readSlot mk s
          if !slotLive s mk then refuseKey mk 2 s
          else
            let len := s.get 0x4000 k 3
            let half := s.aux .keyMat k (if slotState s k = 2 then 1 else 0)
            let wrapped := Config.keyWrap (s.aux .keyMat mk 0) ((bytesOf 32 half).take len)
            let body := bytesOf 2 k ++ [idx, len] ++ bytesOf 2 gen ++ [0, 0] ++ wrapped
            let s := sendMirror m 5 0x80 body (chargeKey mk (slotGen s mk) (6 * (len / 8)) s)
            s.setAux .keyUnacked k 0 (s.aux .mirSeq m 5 + 1)

/-- Key material of `len` bytes as a half's 32 bytes, the key first. -/
def keyHalf (len key : Nat) : Reg := key % 2 ^ (8 * len) * 2 ^ (8 * (32 - len))

/-- An accepted key write in a slot that is not RETIRING (R234). -/
def slotWrite (k key : Nat) (s : State) : State :=
  let kind := slotKind s k
  let mat := keyHalf (s.get 0x4000 k 3) key
  let cur := s.get 0x4000 k 5
  let s := match slotState s k with
    | 0 => newCurrent k ((((s.setAux .keyMat k 0 mat).put 0x4000 k 5 1).put 0x4000 k 4 1))
    | 1 =>
      if kind ≤ 3 ∧ bindCode s k ≠ 0 then
        (((s.setAux .keyMat k 1 mat).setAux .keyNextIdx k 0 (3 - cur)).put 0x4000 k 4 2).setAux .keyAt k 0 (s.now + 1)
      else newCurrent k ((s.setAux .keyMat k 0 mat).put 0x4000 k 5 (if kind ≤ 3 then 3 - cur else cur))
    | _ => (s.setAux .keyMat k 1 mat).setAux .keyAt k 0 (s.now + 1)
  let s := if kind = 5 ∨ kind = 6 then s.put 0x4000 k 0x0E (6 * 2 ^ 24) else s
  let s := clear 2058 k (syncSlot k (s.put 0x4000 k 0x0F (time80 s.now)))
  let s := if bindCode s k = 3 then deriveSession (bindInst s k) s else s
  let s := watchSlot k s
  if slotState s k = 2 then mirrorKey k (s.aux .keyNextIdx k) ((slotGen s k + 1) % 65536) s
  else mirrorKey k (s.get 0x4000 k 5) (slotGen s k) s

/-- An exchange has written its key (R250). -/
def exchangeDone (n : Nat) (s : State) : State :=
  nextExchange n (clear 2050 n (endExchange n (s.bump32 0x4200 n 5)))

/-- Writes that waited for their port's claim, or for their slot to leave RETIRING, are made (R230, R250). -/
def flushKeys (s : State) : State :=
  s.keyWaits.foldl (fun s w =>
    if portServed s w.port ∧ slotState s w.slot ≠ 3 then
      let s := { s with keyWaits := s.keyWaits.erase w }
      let s := slotWrite w.slot w.key s
      (match w.terminal with
       | some n => exchangeDone n s
       | none => s)
    else s) s

/-- A key write reaches its port, or waits for the claim there (R230). -/
def portWrite (port k len key : Nat) (terminal : Option Nat) (s : State) : State :=
  flushKeys { s with keyWaits := s.keyWaits ++ [⟨port, k, len, key, terminal⟩] }

/-- The writer may write key material into a slot of its kind (R230). -/
def kindWriter (role : Role) (kind : Nat) : Bool :=
  match role with
  | .owner => [3, 4, 5, 6, 7].contains kind
  | .tenant _ => [4, 5, 6].contains kind
  | _ => false

/-- A host write of key material (R230, R231, R234): through port 12. -/
def keyWrite (acc : Acc) (k len key : Nat) (s : State) : State :=
  access acc true 0x4000 k 2 s fun s =>
    if acc.role = .operator then refuseRole acc 1 0x4000 k 2 s
    else if !kindWriter acc.role (slotKind s k) then refuse 2 s
    else if len ≠ s.get 0x4000 k 3 then refuse 4 s
    else if slotState s k = 3 then refuse 3 s
    else portWrite 12 k len key none (done s)

/-- KEY_WRITE (R234). -/
def execKeyWrite (acc : Acc) (slot len key : Nat) (s : State) : Host.Outcome State Fault Refusal :=
  whenUp s fun s => keyWrite acc slot len key s

/-! ## Erase, boundary and retirement (R234, R238) -/

/-- A slot's halves are erased (R234, R238). -/
def eraseSlot (k : Nat) (s : State) : State :=
  if slotState s k = 0 then clear 2058 k (syncSlot k s)
  else
    let s := (((s.setAux .keyMat k 0 0).setAux .keyMat k 1 0).setAux .keyNextIdx k 0 0).setAux .keySoft k 0 0
    let s := ((((s.put 0x4000 k 4 0).put 0x4000 k 5 0).put 0x4000 k 6 ((slotGen s k + 1) % 65536)).put 0x4000 k 7 0).put 0x4000 k 0x0A 0
    let s := clear 2058 k (syncSlot k (s.put 0x4000 k 0x0F (time80 s.now)))
    let s := if bindCode s k = 3 then deriveSession (bindInst s k) s else s
    let s := watchSlot k s
    let s := if bindCode s k = 1 ∨ bindCode s k = 2 then
        (if s.keyWaits.any fun w => w.slot == k then s else startExchange (bindInst s k) (bindCode s k) s) else s
    flushKeys s

/-- A write of a slot's erase (R238). -/
def keyEraseWrite (acc : Acc) (k v : Nat) (s : State) : State :=
  writeValue acc 0x4000 k 0x0B v s fun s =>
    if v = 0 then done s
    else if bindCode s k = 3 ∧ terminalIdle s (bindInst s k) = false then refuse 3 s
    else eraseSlot k (done s)

/-- KEY_ERASE (R238): 1 written to 0x4000[k].0B. -/
def execKeyErase (acc : Acc) (slot : Nat) (s : State) : Host.Outcome State Fault Refusal :=
  whenUp s fun s => keyEraseWrite acc slot 1 s

/-- The previous key of a RETIRING slot is erased (R234); a held key is then written (R250). -/
def retireKey (k : Nat) (s : State) : State :=
  if slotState s k = 3 then
    flushKeys (syncSlot k (((s.setAux .keyMat k 1 0).setAux .keyNextIdx k 0 0).put 0x4000 k 4 1))
  else s

/-- RETIRE_HOLD_EXPIRY (R234). -/
def execRetireHoldExpiry (slot : Nat) (s : State) : Host.Outcome State Fault Refusal :=
  whenUp s fun s => retireKey slot s

/-- The pending half becomes current and the old current half is kept as previous (R234). -/
def rollKey (k : Nat) (s : State) : State :=
  let cur := s.get 0x4000 k 5
  let idx := s.aux .keyNextIdx k
  let old := s.aux .keyMat k 0
  let s := (s.setAux .keyMat k 0 (s.aux .keyMat k 1)).setAux .keyMat k 1 old
  let s := ((s.put 0x4000 k 5 idx).setAux .keyNextIdx k 0 cur).put 0x4000 k 4 3
  let s := newCurrent k (s.put 0x4000 k 0x0F (time80 s.now))
  watchSlot k (syncSlot k s)

/-- A downstream frame boundary of a tree (R234, R245, R259): the PENDING slots written at least 2 µs ago and
acknowledged by the partner roll over, and flow cipher writes of 2 µs ago take effect. -/
def keyBoundary (t : Nat) (s : State) : State :=
  let due := s.objs.filterMap fun e =>
    if e.1.index == 0x4000 && e.1.sub == 4 && e.2 == 2 && slotTree s e.1.inst == some t
      && s.aux .keyAt e.1.inst - 1 + 2000 ≤ s.now && s.aux .keyUnacked e.1.inst == 0 then some e.1.inst else none
  let s := overAll due rollKey s
  let flows := s.regs.filterMap fun e =>
    if e.1.index == Aux.fcAt.ctorIdx && e.2 - 1 + 2000 ≤ s.now
      && (s.get 0x4800 e.1.inst 1 == t || s.get 0x4800 e.1.inst 1 == 0xFF) then some e.1.inst else none
  overAll flows (fun f s => overAll [1, 2, 3] (fun sub s => s.setAux .flowEff f sub (s.get 0x4300 f sub)) (s.setAux .fcAt f 0 0)) s

/-- Every frame the working member sends the usage of the slots of a tree whose partner is on another member (R245). -/
def sendUsage (t : Nat) (s : State) : State :=
  match remotePartner s t with
  | none => s
  | some (m, _) =>
    if s.get 0x2003 t 1 ≠ 1 then s
    else
      let slots := s.objs.filterMap fun e =>
        if e.1.index == 0x4000 && e.1.sub == 4 && slotTree s e.1.inst == some t then some e.1.inst else none
      overAll slots (fun k s => sendMirror m 6 0 (bytesOf 2 k ++ bytesOf 2 (slotGen s k) ++ bytesOf 8 (s.get 0x4000 k 7)) s) s

/-- A key mirror record from a member (R245): unwrapped under the pair's mirror key, written through port 12 with the
key index and generation it carries, and acknowledged by the caller. -/
def receiveKey (m k idx len gen : Nat) (wrapped : List Nat) (s : State) : State :=
  let mk := s.get 0x5590 m 3
  if mk = 0xFFFF then s
  else
    let s := readSlot mk s
    if !slotLive s mk then refuseKey mk 2 s
    else
      let key := ofBytes (Config.keyUnwrap (s.aux .keyMat mk 0) wrapped)
      let s := chargeKey mk (slotGen s mk) (6 * (len / 8)) s
      if 65536 ≤ k ∨ len ≠ s.get 0x4000 k 3 ∨ slotKind s k = 0 then s
      else
        let s := portWrite 12 k len key none s
        match slotState s k with
        | 1 => syncSlot k ((s.put 0x4000 k 5 (idx % 4)).put 0x4000 k 6 (gen % 65536))
        | 2 => syncSlot k (s.setAux .keyNextIdx k 0 (idx % 4))
        | _ => s

/-- A usage mirror record (R245): in standby, the slot of the generation named takes the working member's counter. -/
def receiveUsage (k gen usage : Nat) (s : State) : State :=
  match slotTree s k with
  | none => s
  | some t =>
    if s.get 0x2003 t 1 = 2 ∧ slotGen s k = gen then syncWords k [8] (s.put 0x4000 k 7 (usage % 2 ^ 64)) else s

/-- A partner acknowledges the key mirror of a sequence (R245): the 2 µs count from here. -/
def ackKey (m seq : Nat) (s : State) : State :=
  let waiting := s.regs.filterMap fun e =>
    if e.1.index == Aux.keyUnacked.ctorIdx && e.2 == seq + 1 && (match slotTree s e.1.inst with
      | some t => (remotePartner s t).map Prod.fst == some m
      | none => false) then some e.1.inst else none
  overAll waiting (fun k s => (s.setAux .keyUnacked k 0 0).setAux .keyAt k 0 (s.now + 1)) s

/-! ## Kinds, lengths and bindings (R231, R202) -/

/-- The purpose a binding object gives a slot: its code, the kind, and the key length (R231). -/
def purpose (index sub : Nat) : Option (Nat × Nat × Nat) :=
  match index, sub with
  | 0x4200, 1 => some (1, 1, 16)
  | 0x4200, 2 => some (2, 2, 32)
  | 0x4200, 3 => some (3, 4, 16)
  | 0x4100, 1 => some (4, 3, 16)
  | 0x4100, 2 => some (5, 3, 32)
  | 0x5590, 3 => some (7, 7, 32)
  | 0x1130, 1 => some (8, 7, 32)
  | _, _ => none

/-- A binding of a slot (R231): the slot's kind and length as they stand, one purpose per slot, and the operator pool
for kinds 3 and 7. Owners across R202 are refused before. -/
def slotBind (acc : Acc) (index inst sub v : Nat) (s : State) : State :=
  writeValue acc index inst sub v s fun s =>
    match purpose index sub with
    | none => refuse 1 s
    | some (code, kind, len) =>
      let word := code * 2 ^ 24 + inst
      if index = 0x4200 && v != 0xFFFF && !(ownerOf s 6 v == ownerOf s 0 inst) then refuseBinding acc index sub s
      else if v ≠ 0xFFFF ∧ (slotKind s v ≠ kind ∨ s.get 0x4000 v 3 ≠ len
          ∨ (bindCode s v ≠ 0 ∧ s.get 0x4000 v 0x0E ≠ word)
          ∨ ((kind = 3 ∨ kind = 7) ∧ ownerOf s 6 v ≠ 16)) then refuse 4 s
      else
        let old := s.get index inst sub
        let s := if old ≠ 0xFFFF ∧ s.get 0x4000 old 0x0E = word then s.put 0x4000 old 0x0E 0 else s
        let s := if v = 0xFFFF then s else s.put 0x4000 v 0x0E word
        let s := s.put index inst sub v
        let s := if code = 3 then deriveSession inst s else s
        done (if code = 4 ∨ code = 5 then (match localPartner s inst with
          | some p => watchBroadcast p (watchBroadcast inst s)
          | none => watchBroadcast inst s) else s)

/-- A write of a slot's kind or key length (R231): a fixed kind brings its length with it. -/
def slotConfigWrite (acc : Acc) (k sub v : Nat) (s : State) : State :=
  writeValue acc 0x4000 k sub v s fun s =>
    if sub = 1 ∧ (v = 3 ∨ v = 7) ∧ ownerOf s 6 k ≠ 16 then refuse 4 s
    else
      let s := s.put 0x4000 k sub v
      let s := if sub ≠ 1 then s
        else if v = 1 ∨ v = 4 ∨ v = 6 then s.put 0x4000 k 3 16
        else if v = 2 ∨ v = 7 then s.put 0x4000 k 3 32
        else s
      done (syncSlot k s)

/-- A write of a slot's limit (R237, R259): the range is the row's. -/
def limitWrite (acc : Acc) (k sub v : Nat) (s : State) : State :=
  writeValue acc 0x4000 k sub v s fun s =>
    done (chargeKey k (slotGen s k) 0 (syncWords k [sub + 1] (s.put 0x4000 k sub v)))

/-- KEY_SLOT_CONFIG_WRITE (R231): a slot's kind or key length, or a binding of a slot. -/
def execKeySlotConfigWrite (acc : Acc) (index inst sub value : Nat) (s : State) : Host.Outcome State Fault Refusal :=
  whenUp s fun s =>
    if index = 0x4000 ∧ (sub = 1 ∨ sub = 3) then slotConfigWrite acc inst sub value s
    else match purpose index sub with
      | some _ => slotBind acc index inst sub value s
      | none => refuse 1 s

/-- A write of a flow's cipher objects: it takes effect at the first downstream frame boundary at least 2 µs later
(R259). -/
def flowCipherWrite (acc : Acc) (f sub v : Nat) (s : State) : State :=
  writeValue acc 0x4300 f sub v s fun s => done ((s.put 0x4300 f sub v).setAux .fcAt f 0 (s.now + 1))

/-! ## The exchange's messages -/

/-- A write of "rekey now" (R247). -/
def rekeyWrite (acc : Acc) (n v : Nat) (s : State) : State :=
  writeValue acc 0x4200 n 7 v s fun s =>
    if v = 0 then done s
    else if s.aux .kxKind n ≠ 0 then refuse 3 s
    else startExchange n (modeKind s n) (done s)

/-- REKEY_NOW (R247). -/
def execRekeyNow (acc : Acc) (terminal : Nat) (s : State) : Host.Outcome State Fault Refusal :=
  whenUp s fun s => rekeyWrite acc terminal 1 s

/-- The whole key of an exchange has arrived (R247, R250): it is written through the cluster's port, or held. -/
def keyArrived (n : Nat) (s : State) : State :=
  match exchangeSlot s n (s.aux .kxKind n) with
  | none => s
  | some k =>
    let s := if slotState s k = 3 then s.put 0x4200 n 4 4 else s
    portWrite (n / 2048) k (s.get 0x4000 k 3) (s.aux .kxKey n) (some n) s

/-- The key bytes that a report's 16 wrapped bytes hold, under the key encryption key of the terminal's session (R246, R249). -/
def openKey (s : State) (n wrapped : Nat) : Nat :=
  Config.ecbOpen (Config.kek (s.aux .keyMat (s.get 0x4200 n 3) 0)) wrapped % 2 ^ 128

/-- A Stroke Key Report matches its request (R249, R250): layout version 1, sequence number, key index, fragment and generation. -/
def strokeReport (s : State) (n : Nat) (b : List Nat) : Bool :=
  s.aux .kxKind n == 2 && s.aux .kxSeq n != 0 && b.getD 3 0 == s.aux .kxSeq n && b.getD 4 0 == 1
    && b.getD 5 0 == s.aux .kxIndex n && b.getD 6 0 < 2 && ofBytes ((b.drop 7).take 2) == s.aux .kxGen n

/-- A fragment of a stroke key is kept; with the second one the key is whole. -/
def takeFragment (n fragment key : Nat) (s : State) : State :=
  let have' := s.aux .kxFrag n
  let lo := s.aux .kxKey n % 2 ^ 128
  let hi := s.aux .kxKey n / 2 ^ 128
  let s := s.setAux .kxKey n 0 (if fragment = 0 then key * 2 ^ 128 + lo else hi * 2 ^ 128 + key)
  let have' := setBit fragment true have'
  let s := s.setAux .kxFrag n 0 have'
  if have' = 3 then keyArrived n s
  else if s.get 0x4200 n 4 = 1 then s.put 0x4200 n 4 2 else s

/-- The 48 bytes of an upstream PLOAM message: ONU-ID, type, sequence number, content, integrity check. -/
def upstreamPloam (onu : List Nat) (kind seq : Nat) (content check : List Nat) : List Nat :=
  onu ++ kind :: seq :: (content ++ check)

/-- KEY_REPORT (R249, R250): the 48 bytes of an upstream message of a terminal. A Stroke Key Report is read from its bytes; of a
Key_Report, index and wrapped are the key index and the 16 wrapped bytes that the standard's layout holds (log entry 107). A report
whose integrity check, sequence number, key index or generation does not match the request is ignored. -/
def execKeyReport (terminal : Nat) (onu : List Nat) (kind seq : Nat) (content check : List Nat) (index : Option Nat)
    (wrapped : Nat) (s : State) : Host.Outcome State Fault Refusal :=
  whenUp s fun s =>
    let n := terminal
    let bytes := upstreamPloam onu kind seq content check
    if s.keyWaits.any (fun w => w.terminal == some n) then s
    else match index with
      | some index =>
        if s.aux .kxKind n = 1 ∧ s.aux .kxIndex n = index ∧ micRight s n bytes = true then
          keyArrived n (s.setAux .kxKey n 0 (openKey s n wrapped))
        else s
      | none =>
        if ploamFrom s n 0xE5 bytes && strokeReport s n bytes then
          takeFragment n (bytes.getD 6 0) (openKey s n (ofBytes ((bytes.drop 9).take 16))) s
        else s

/-- KEY_EXCHANGE_TIMEOUT (R250): 8 frames have passed since the request; it is resent up to 3 attempts in all, then
the failure is counted and event 2050 raised. -/
def execKeyExchangeTimeout (terminal : Nat) (s : State) : Host.Outcome State Fault Refusal :=
  whenUp s fun s =>
    let n := terminal
    if s.get 0x4200 n 4 ≠ 1 ∧ s.get 0x4200 n 4 ≠ 2 then s
    else if s.keyWaits.any fun w => w.terminal == some n then s
    else if s.aux .kxTries n < 3 then
      sendRequest n ((((s.setAux .kxTries n 0 (s.aux .kxTries n + 1)).setAux .kxFrag n 0 0).setAux .kxKey n 0 0).put 0x4200 n 4 1)
    else
      let s := (s.bump32 0x4200 n 6).put 0x4200 n 4 3
      if isPending s 2050 n then s else raise 2050 n (s.aux .kxKind n) 3 s

/-- KEY_EXCHANGE_RETRY (R250): the request is sent again, every 1 s while the terminal stays in OPERATION. -/
def execKeyExchangeRetry (terminal : Nat) (s : State) : Host.Outcome State Fault Refusal :=
  whenUp s fun s =>
    if s.get 0x4200 terminal 4 = 3 ∧ termState s terminal = 3 then
      sendRequest terminal ((s.setAux .kxFrag terminal 0 0).setAux .kxKey terminal 0 0)
    else s

/-! ## Ciphers of the trees (R235, R237, R240 to R243) -/

/-- The slot of a unicast or broadcast key source, for the mode given (R240). -/
def sourceSlot (s : State) (t : Nat) (terminal : Option Nat) (broadcast stroke : Bool) : Option Nat :=
  if broadcast then broadcastSlot s t stroke
  else match terminal with
    | some n => exchangeSlot s n (if stroke then 2 else 1)
    | none => none

/-- Blocks of one operation (R232): counter mode, or GCM with 8 authenticated bytes. -/
def cipherBlocks (stroke : Bool) (bytes : Nat) : Nat := ceilDiv bytes 16 + (if stroke then 2 else 0)

/-- The padded payload of an XGEM frame: whole words of 4 bytes (log entry 22). -/
def padded (bytes : Nat) : Nat := ceilDiv bytes 4 * 4

/-- A count reported at most once per second per tree with the last ONU-ID (events 2052, 2053). -/
def cipherEvent (num t onu : Nat) (s : State) : State := raiseSec num t (fun c => (c, onu)) s

/-- An upstream XGEM frame as its cipher sees it (R242): key index, header and padded payload as received, the tag behind it, and
what the IV is made of: its upstream frame, its burst's grant start, and the header's offset in the burst. -/
structure UpFrame where
  keyIndex : Nat
  header : List Nat
  data : List Nat
  tag : Nat
  frame : Nat
  start : Nat
  offset : Nat

/-- The upstream GCM IV (R242): the upstream frame, the burst's grant start, and the header's offset in the burst. -/
def ivUp (frame start offset : Nat) : Nat := 2 ^ 94 + frame % 2 ^ 51 * 2 ^ 39 + start / 32 % 2 ^ 18 * 2 ^ 21 + offset % 2 ^ 21

/-- The payload of an upstream frame deciphered under a key (R240, R242). -/
def plainUp (stroke : Bool) (key : Nat) (x : UpFrame) : List Nat :=
  if stroke then Config.gcmCipher 256 key (ivUp x.frame x.start x.offset) x.header x.data
  else Config.ctrUp key x.frame x.start x.offset x.data

/-- The tag of an upstream double-stroke frame is right (R242). -/
def tagRight (key : Nat) (x : UpFrame) : Bool :=
  x.tag == Config.gcmTag 256 key (ivUp x.frame x.start x.offset) x.header (plainUp true key x) % 2 ^ 128

/-- An upstream XGEM frame meets its cipher (R235, R237, R241, R243): its plain payload, or none when it is rewound. stroke is the
mode of the downstream frame of its frame's number (R240). A failed tag does not change what is charged (R232). -/
def cipherUp (t n f : Nat) (stroke : Bool) (x : UpFrame) (s : State) : Option (List Nat) × State :=
  let ki := x.keyIndex
  if ki = 0 then
    (if s.aux .flowEff f 3 = 1 then (none, (s.bump 0x4300 f 4).bump 0x4100 t 7) else (some x.data, s))
  else
    let unknown := fun (s : State) => (none, cipherEvent 2053 t (n % 512) (s.bump 0x4100 t 6))
    match sourceSlot s t (some n) (s.aux .flowEff f 2 == 1) stroke with
    | none => unknown s
    | some k =>
      if ki = 3 then unknown s
      else
        let s := readSlot k s
        let cur := s.get 0x4000 k 5 == ki
        if slotState s k = 0 ∨ slotPoisoned s k = true ∨ (cur = true ∧ s.get 0x4000 k 0x0A = 1) then (none, refuseKey k 1 s)
        else if !cur && s.aux .keyNextIdx k != ki then unknown s
        else
          let key := s.aux .keyMat k (if cur then 0 else 1)
          let s := if cur then chargeKey k (slotGen s k) (cipherBlocks stroke x.data.length) s else s
          if stroke && !tagRight key x then (none, cipherEvent 2052 t (n % 512) ((s.bump 0x4000 k 0x0D).bump 0x4100 t 5))
          else (some (plainUp stroke key x), if cur && (bindCode s k == 1 || bindCode s k == 2) then retireKey k s else s)

end Sys2Proof.Machine
end

