-- ==== Sys2Proof/Machine/Windows.lean ====
section
/-!
DEFINITION. Machine/Windows.lean: upstream windows: profiles, coded lengths, spacing, blank frames, quiet windows and open
slots (spec/05 R163 to R167, R177 to R180, R191; spec/02 R74, R87). Positions are bits of the lane's own grid: 49.7664 Gb/s
on the main lane, 9.95328 Gb/s on the coexistence lane.
-/
namespace Sys2Proof.Machine

/-- The bits of an upstream frame of a lane. -/
def frameBits (l : Nat) : Nat := if l = 0 then 6220800 else 1244160

/-- Bits of a lane's grid as bits at 49.7664 Gb/s. -/
def mainBits (l : Nat) (x : Int) : Int := if l = 1 then 5 * x else x

/-- The bits of a quarter of the main lane's frame (R178). -/
def quarterBits : Nat := 1555200

/-- The profile objects of a lane (spec/03 R118). -/
def profileIndex (l : Nat) : Nat := if l = 0 then 0x2005 else 0x2006

/-- f of R163: the bits of the lane's grid that one bit at the profile rate takes. -/
def rateFactor (s : State) (t l p : Nat) : Nat :=
  if l = 0 then 2 ^ (2 - s.get 0x2005 (1024 * t + p) 1) else 1

/-- Coded length C of a payload of P bytes (R163): on the coexistence lane the parity is RS(248,232)'s. -/
def codedBits (s : State) (t l p bytes : Nat) : Nat :=
  if s.get (profileIndex l) (1024 * t + p) 7 = 0 then 8 * bytes
  else if l = 0 then 8 * bytes + 2688 * ceilDiv (8 * bytes) 14592
  else 8 * bytes + 128 * ceilDiv bytes 232

/-- Preamble and delimiter in bits of the grid. -/
def leadBits (s : State) (t l p : Nat) : Nat :=
  rateFactor s t l p * (s.get (profileIndex l) (1024 * t + p) 2 + s.get (profileIndex l) (1024 * t + p) 4)

/-- A burst's bits after the delimiter. -/
def bodyBits (s : State) (t l p bytes : Nat) : Nat := rateFactor s t l p * codedBits s t l p bytes

/-- The map of frame M is one of the two post-switch maps (R87, R191 step 3). -/
def postSwitch (s : State) (t m : Nat) : Bool :=
  let a := s.aux .postAt t
  a != 0 && (framesTo (a - 1) m == 0 || framesTo (a - 1) m == 1)

/-- The hunt guard G in force for frame M: a standby port's maps are in post-switch form (R194). -/
def huntGuard (s : State) (t l m : Nat) : Nat :=
  if l = 1 then 4 else if postSwitch s t m ∨ laneState s t 0 = 5 then s.get 0x2003 t 6 else 16

/-- The spacing of R164. -/
def spacing (s : State) (t l m : Nat) : Nat :=
  2 * huntGuard s t l m + (if l = 0 then max (s.get 0x3600 t 1) (32 * s.get 0x5E80 t 1)
    else max (s.get 0x3600 t 2) (32 * s.get 0x5E80 t 7))

/-- The switch frame S of the last accepted change. -/
def switchFrame (s : State) (t : Nat) : Nat := s.get 0x2001 t 8

/-- Frame M is blank on the main lane: S - 1 to S + D - 1 of a change that is announced or dark (R180). -/
def blank (s : State) (t l m : Nat) : Bool :=
  l == 0 && s.aux .chgState t == 1 &&
    (let d := framesTo (switchFrame s t) m; -1 ≤ d && d < (s.aux .chgDark t : Int))

/-- A muffling sequence runs up to the end of its confirmation (spec/04 R154). -/
def muffling (s : State) (t : Nat) : Bool := 1 ≤ s.get 0x3200 t 7 && s.get 0x3200 t 7 ≤ 4

/-- Frame M lies from S - 1 of a mode change to the end of its hold, S + D + 8 of one carried out or S + 8 of a cancelled one: the
last change, or the one before it. -/
def changeFrames (s : State) (t m : Nat) : Bool :=
  let within := fun (sw hold : Nat) => hold != 0 && -1 ≤ framesTo sw m && 0 ≤ framesTo m (hold - 1)
  within (switchFrame s t) (s.aux .beatHold t) || within (s.aux .oldS t - 1) (s.aux .oldHold t)

/-- The adaptation engine discards what it measures of a terminal in frame M (spec/06 R216): a frame of a mode change or of a
muffling sequence on its lane, a post-switch frame, or the terminal is not in OPERATION. -/
def measureDropped (s : State) (n l m : Nat) : Bool :=
  let t := n / 512
  termState s n != 3 || postSwitch s t m || (l == 0 && (muffling s t || changeFrames s t m))

/-- A span of an upstream frame, in bits from its start; it may begin before the frame. -/
structure Span where
  opens : Int
  closes : Int
  deriving DecidableEq, Repr

/-- A span lies inside, or closer than sp to, another. -/
def Span.near (a b : Span) (sp : Nat) : Bool := a.opens < b.closes + sp && b.opens < a.closes + sp

/-- The quiet windows of beats of earlier frames that are still open in frame M (R191 step 2). -/
def openQuiets (s : State) (t l m : Nat) : List Span :=
  (s.quiets.filter fun q => q.tree == t && q.lane == l).filterMap fun q =>
    let d := framesTo m q.frame
    let x : Span := ⟨(q.opens : Int) + d * (frameBits l : Int), (q.closes : Int) + d * (frameBits l : Int)⟩
    if d < 0 ∧ 0 < x.closes then some x else none

/-- The quiet windows of a map's own beat entries. -/
def beatSpans (es : List Grant) : List Span := (es.filter fun g => g.kind == 1).map fun g => ⟨g.opens, g.closes⟩

/-- The open-slot template that holds for map M (R183): offset and length. -/
def templateFor (s : State) (t m : Nat) : Nat × Nat :=
  match (s.templates.filter fun x => x.tree == t && 0 ≤ framesTo x.frame m).getLast? with
  | some x => (x.offset, x.length)
  | none => (0, 0)

/-- The open-slot layout of frame M (R178): the template less the slots near a quiet window, none in a blank frame. -/
def openSlots (s : State) (t m : Nat) (quiet : List Span) : List Span :=
  let (off, len) := templateFor s t m
  if len = 0 ∨ blank s t 0 m = true then []
  else ((List.range 4).map fun i =>
      (⟨(quarterBits * i + 32 * off : Nat), (quarterBits * i + 32 * off + 32 * len : Nat)⟩ : Span)).filter fun x =>
    !(quiet.any fun q => x.near q (spacing s t 0 m))

/-- The open slots of a map as grants to the open-slot Alloc-ID. -/
def slotGrants (s : State) (t : Nat) (slots : List Span) : List Grant :=
  slots.map fun x => ⟨1023, s.get 0x3600 t 3, 0, 0, false, false, 0, x.opens.toNat, x.opens.toNat, x.closes.toNat, false⟩

/-- Frame start of the current frame of a tree in ns. -/
def frameStart (s : State) (t : Nat) : Int := (s.now : Int) - ((s.now : Int) - (s.get 0x2000 t 4 : Int)) % 125000

/-- A lane sends frames with maps: draining, running or announcing. -/
def mapsRun (s : State) (t l : Nat) : Bool := [1, 2, 3].contains (laneState s t l)

end Sys2Proof.Machine
end

