-- ==== Sys2Proof/Machine/Framer.lean ====
section
/-!
DEFINITION. Machine/Framer.lean: the FS frame of a downstream lane as it is filled: XGEM frames with their cipher, fragments,
idle fill, and the coding of the finished frame into bytes or levels (spec/02 R60 to R71, R79; spec/07 R232, R233, R241, R242).
The formats and codes of G.9804.2, G.9804.3 and G.9807.1 that the spec names without giving them are functions of Config
(log entry 107).
-/
namespace Sys2Proof.Machine

/-! ## Double-stroke symbols (R66 to R70) -/

/-- The dibits of bytes in wire order, most significant bit first. -/
def dibits (bytes : List Nat) : List Nat := bytes.flatMap fun b => [b / 64 % 4, b / 16 % 4, b / 4 % 4, b % 4]

/-- The levels of the synchronisation pattern: the dibit (bit, 0) of each bit, never precoded (R68). -/
def psyncLevels (pattern : Nat) : List Nat := (List.range 64).map fun i => gray (2 * (pattern / 2 ^ (63 - i) % 2))

/-- The 16 bytes of the stroke field (R70). -/
def strokeField (precoding : Bool) (gen : Nat) : List Nat :=
  let body := [0xD5, 0xB3, 0x01, if precoding then 0x80 else 0] ++ bytesOf 2 gen ++ List.replicate 8 0
  body ++ bytesOf 2 (crc16 body)

/-- The levels of a double-stroke frame from symbol 64 on, for the bytes from the SFC structure on (R67, R69). -/
def strokeLevels (precoding : Bool) (bytes : List Nat) : List Nat :=
  let g := (dibits bytes).map gray
  if precoding then precode 0 g else g

/-- The bytes of a double-stroke frame between PSync and the codewords: SFC, OC and stroke field (R67). -/
def strokeHead (sfc ponId : Nat) (precoding : Bool) (gen : Nat) : List Nat :=
  bytesOf 8 (Config.sfcStructure sfc) ++ bytesOf 8 (Config.ocStructure ponId) ++ strokeField precoding gen

/-- The levels of the symbols 0 to 191 of a double-stroke frame (R67). -/
def leadLevels (sfc ponId : Nat) (precoding : Bool) (gen : Nat) : List Nat :=
  psyncLevels Config.psync ++ strokeLevels precoding (strokeHead sfc ponId precoding gen)

/-- The 24 bytes of the PSBd of an NRZ frame (R60, R61). -/
def psbd (sfc ponId : Nat) : List Nat :=
  bytesOf 8 Config.psync ++ bytesOf 8 (Config.sfcStructure sfc) ++ bytesOf 8 (Config.ocStructure ponId)

/-- The bytes of a frame (R61, R67, R79). -/
def frameBytes (s : State) (t l : Nat) : Nat := if l = 1 then 155520 else if doubleStroke s t l then 1555200 else 777600

/-- The PON-ID of a lane. -/
def lanePonId (s : State) (t l : Nat) : Nat := s.get (if l = 0 then 0x2000 else 0x2002) t 3

/-- What stands before the codewords of a lane's frame n: levels in double-stroke, else bytes. -/
def frameLead (s : State) (t l n : Nat) : List Nat :=
  if l = 1 then Config.xgsPsbd n (lanePonId s t l)
  else if doubleStroke s t l then leadLevels n (lanePonId s t l) (s.get 0x2001 t 2 == 1) (s.get 0x2001 t 0x0B)
  else psbd n (lanePonId s t l)

/-- The codewords of an FS frame, scrambled (R60, R61, R71, R79). -/
def codeFrame (l : Nat) (stroke : Bool) (n : Nat) (fs : List Nat) : List Nat :=
  Config.scramble l stroke n (if l = 1 then Config.rsDown fs else Config.ldpcDown stroke fs)

/-- The codewords of a lane's frame as it sends them: levels from symbol 192 on in double-stroke, the precoder running on from
the symbols before (R69), else bytes. -/
def frameRest (s : State) (x : FsFrame) : List Nat :=
  let code := codeFrame x.lane x.stroke x.frame x.bytes
  if x.stroke then (strokeLevels x.precoding (strokeHead x.frame (lanePonId s x.tree 0) x.precoding x.gen ++ code)).drop 128 else code

/-! ## The frame being filled -/

/-- The frame that a lane is sending. -/
def fsFrame (s : State) (t l : Nat) : Option FsFrame := s.fsFrames.find? fun x => x.tree == t && x.lane == l

/-- The lane's frame replaced. -/
def setFs (x : FsFrame) (s : State) : State :=
  { s with fsFrames := s.fsFrames.map fun y => if y.tree = x.tree ∧ y.lane = x.lane then x else y }

/-- Bytes of XGEM frames added to the frame that a lane is sending. -/
def addFs (t l : Nat) (b : List Nat) (s : State) : State :=
  match fsFrame s t l with
  | some x => setFs { x with bytes := x.bytes ++ b, room := x.room - b.length } s
  | none => s

/-- A lane sends no frame: what its frame held is not finished. -/
def dropFs (t l : Nat) (s : State) : State := { s with fsFrames := s.fsFrames.filter fun x => !(x.tree == t && x.lane == l) }

/-- The rest of the FS payload filled with idle XGEM frames (R65). -/
def fillIdle (t l : Nat) (s : State) : State :=
  match fsFrame s t l with
  | some x =>
    let idle := Config.idleFrames x.room
    setFs { x with bytes := x.bytes ++ idle.flatMap id, room := 0 } (if x.room = 0 then s else s.bump 0x2004 t 3 idle.length)
  | none => s

/-- The frame of a lane ends (R62, R65): the idle fill, the FS trailer, the codewords. -/
def closeFs (t l : Nat) (s : State) : State :=
  let s := fillIdle t l s
  match fsFrame s t l with
  | some x =>
    let x := { x with bytes := x.bytes ++ Config.fsTrailer x.bytes }
    (dropFs t l s).send .coded ([t, l, x.frame] ++ frameRest s x)
  | none => s

/-! ## XGEM frames (R63, R242) -/

/-- The 8-byte XGEM header: the options are sent as zero (R63). -/
def xgemHeader (pli keyIndex port : Nat) (last : Bool) : List Nat :=
  let h := pli % 2 ^ 14 * 2 ^ 50 + keyIndex % 4 * 2 ^ 48 + port % 2 ^ 16 * 2 ^ 32 + (if last then 2 ^ 13 else 0)
  bytesOf 8 (h + Config.xgemHec (h / 2 ^ 13) % 2 ^ 13)

/-- A payload padded to whole words (R63). -/
def padBytes (b : List Nat) : List Nat := b ++ List.replicate (padded b.length - b.length) Config.padByte

/-- The downstream GCM IV (R242): the counter of the frame, and the offset of the header in the FS frame. -/
def ivDown (frame offset : Nat) : Nat := 2 * 2 ^ 94 + frame % 2 ^ 51 * 2 ^ 21 + offset % 2 ^ 21

/-- A payload under its SDU's latched key, in frame n at an offset: in clear, AES-128 counter mode, or AES-256-GCM with its
16-byte tag over the header (R63, R242). -/
def cipherPayload (x : DownSdu) (n offset : Nat) (header plain : List Nat) : List Nat :=
  if x.slot.isNone then plain
  else if x.stroke then
    Config.gcmCipher 256 x.key (ivDown n offset) header plain ++ bytesOf 16 (Config.gcmTag 256 x.key (ivDown n offset) header plain)
  else Config.ctrCipher x.key n offset plain

/-- The bytes beside a payload: the header, and the tag of a GCM frame. -/
def xgemExtra (x : DownSdu) : Nat := if x.slot.isSome && x.stroke then 24 else 8

/-- The first k bytes of an SDU leave as one XGEM frame in the frame that its lane is sending. -/
def sendXgem (x : DownSdu) (k : Nat) (s : State) : State :=
  match fsFrame s x.tree x.lane with
  | none => s
  | some fs =>
    let header := xgemHeader k x.keyIndex (s.get 0x4800 x.flow 2) (k == x.bytes.length)
    let b := header ++ cipherPayload x fs.frame fs.bytes.length header (padBytes (x.bytes.take k))
    let s := (s.bump 0x2004 x.tree 2).bump 0x2004 x.tree 4 k
    addFs x.tree x.lane b (s.send .xgem ([x.tree, x.lane] ++ b))

/-- The blocks of an SDU's cipher (R232): each GCM frame on its own, counter mode over the whole SDU. -/
def sduBlocks (x : DownSdu) (sent : Nat) : Nat := if x.stroke then x.blocks else ceilDiv (x.total - sent) 16

/-- The operation of an SDU ends: its blocks are charged to the generation that it latched (R233). left is what was not sent. -/
def endSdu (x : DownSdu) (left : Nat) (s : State) : State :=
  match x.slot with
  | some k => chargeKey k x.gen (sduBlocks x left) s
  | none => s

/-- What remains of an SDU waits for the lane's next frame. -/
def waitSdu (x : DownSdu) (s : State) : State := { s with downWait := s.downWait ++ [x] }

/-- The blocks of one more XGEM frame. -/
def addBlocks (x : DownSdu) (k : Nat) : DownSdu := { x with blocks := x.blocks + cipherBlocks true (padded k) }

/-- An SDU, or what remains of one, meets the frame that its lane is sending (R64): whole where it fits; else a first fragment
of at least 64 bytes, or idle to the end of the frame, and the rest in the next frame. A fragment that is not the last fills
whole words (log entry 108). -/
def sendSdu (x : DownSdu) (s : State) : State :=
  let n := x.bytes.length
  match fsFrame s x.tree x.lane with
  | none => waitSdu x s
  | some fs =>
    if xgemExtra x + padded n ≤ fs.room then endSdu (addBlocks x n) 0 (sendXgem x n s)
    else
      let k := (fs.room - xgemExtra x) / 4 * 4
      if 64 ≤ k then waitSdu { addBlocks x k with bytes := x.bytes.drop k } (fillIdle x.tree x.lane (sendXgem x k s))
      else waitSdu x (fillIdle x.tree x.lane s)

/-- The SDUs that wait for a lane's frame meet it, oldest first. -/
def resumeSdus (t l : Nat) (s : State) : State :=
  let mine := s.downWait.filter fun x => x.tree == t && x.lane == l
  overAll mine sendSdu { s with downWait := s.downWait.filter fun x => !(x.tree == t && x.lane == l) }

/-- A lane's waiting SDUs are discarded: what their operations have done is charged. -/
def dropWaiting (t l : Nat) (s : State) : State :=
  let mine := s.downWait.filter fun x => x.tree == t && x.lane == l
  overAll mine (fun x s => endSdu x x.bytes.length s) { s with downWait := s.downWait.filter fun x => !(x.tree == t && x.lane == l) }

/-- XGEM frames staged in a lane's framer, and their bytes. -/
def waitingFrames (s : State) (t l : Nat) : Nat := s.downWait.countP fun x => x.tree == t && x.lane == l
def waitingBytes (s : State) (t l : Nat) : Nat :=
  s.downWait.foldl (fun n x => if x.tree = t ∧ x.lane = l then n + x.bytes.length else n) 0

/-- A downstream SDU of a flow meets its cipher (R233, R241): it latches the current half of its key source, or is dropped and
counted. -/
def startSdu (t l w f : Nat) (terminal : Option Nat) (bytes : List Nat) (s : State) : Option DownSdu × State :=
  let stroke := doubleStroke s t l
  let x : DownSdu := ⟨w, l, f, bytes, bytes.length, 0, none, 0, 0, stroke, 0⟩
  if s.aux .flowEff f 1 = 0 then (some x, s)
  else
    let drop := fun (s : State) => (none, s.bump 0x4100 t 4)
    match sourceSlot s t terminal (s.aux .flowEff f 2 == 1) stroke with
    | none => drop s
    | some k =>
      let s := readSlot k s
      if slotLive s k then
        (some { x with keyIndex := s.get 0x4000 k 5, slot := some k, key := s.aux .keyMat k 0, gen := slotGen s k }, s)
      else drop (refuseKey k 0 s)

/-! ## What starts a frame -/

/-- The structures of the FS header, map and PLOAM partition of a frame, and the XGEM payload that they leave (R62). -/
def openFs (t l n : Nat) (entries : List Grant) (ploams : List (List Nat)) (s : State) : State :=
  let stroke := doubleStroke s t l
  let map := entries.flatMap fun e => Config.mapStructure l
    [e.onu, e.alloc, e.start, e.bytes, e.profile, if e.dbru then 1 else 0, if e.ploamu then 1 else 0, if e.joined then 1 else 0]
  let head := Config.fsHeader l entries.length ploams.length ++ map ++ ploams.flatMap id
  { s with fsFrames := (s.fsFrames.filter fun x => !(x.tree == t && x.lane == l)) ++
      [⟨t, l, n, stroke, s.get 0x2001 t 2 == 1, s.get 0x2001 t 0x0B, Config.fsPayload l stroke entries.length ploams.length, head⟩] }

end Sys2Proof.Machine
end

