-- ==== Sys2Proof/Machine/Levels.lean ====
section
/-!
DEFINITION. Machine/Levels.lean: schema levels, the domain's committed level, and the features that need a level
(spec/11 R398 to R402).
-/
namespace Sys2Proof.Machine

/-- The clusters of the variant: one per four trees, and hub clusters 12 and 13 (spec/00 R1, R4). -/
def clusters (s : State) : List Nat := List.range (s.trees / 4) ++ [12, 13]

/-- The least of a list, d when it is empty. -/
def least (d : Nat) : List Nat → Nat
  | [] => d
  | a :: l => l.foldl min a

/-- The member's level: the lowest of its clusters' (R399). -/
def memberLevel (s : State) : Nat := least 0 ((clusters s).map fun c => s.get 0x5510 c 1)

/-- The other members left in the computation. -/
def membersIn (s : State) : List Nat := (List.range 64).filter fun m => m != member s && s.aux .lvlIn m == 1

/-- The domain's lowest level (R399). -/
def lowestLevel (s : State) : Nat := least 0 (memberLevel s :: (membersIn s).map fun m => s.get 0x5590 m 1)

/-- The leader: the member with the highest domain claim, the lower ID winning a tie (R399). -/
def leader (s : State) : Nat :=
  let claim := fun m => if m = member s then s.get 0x5580 0 2 else s.get 0x5590 m 2
  (membersIn s).foldl (fun b m => if claim b < claim m ∨ (claim m = claim b ∧ m < b) then m else b) (member s)

/-- Messages of a level are accepted (R398): same major, minor at most 1 away. -/
def levelFits (own level : Nat) : Bool := own / 256 == level / 256 && absDiff (own % 256) (level % 256) ≤ 1

/-- A message refused for its level (R398): counted, and event 3084 at most once per second and source. -/
def refuseLevel (source level : Nat) (s : State) : State :=
  raiseSec 3084 source (fun c => (level, c)) (s.bump 0x5580 0 6)

/-- The other members of the Type-B pairs and of the Vioth links in service (R401). -/
def neighbours (s : State) : List Nat :=
  (((List.range s.trees).filterMap fun t => (remotePartner s t).map Prod.fst)
    ++ ((List.range 4).filter (fun v => s.get 0x5100 v 2 / 16 == 4)).map fun v => s.get 0x5100 v 0x0B).eraseDups

/-- A feature's condition (R401). A pair feature is taken to involve every pair and link that the member has (log
entry 137). -/
def featureMet (s : State) (f : Nat) : Bool :=
  let need := s.get 0x55C0 f 2
  match s.get 0x55C0 f 3 with
  | 0 => need ≤ memberLevel s
  | 1 => need ≤ memberLevel s && (neighbours s).all fun m => need ≤ s.get 0x5590 m 1
  | _ => need ≤ s.get 0x5580 0 4

/-- A feature follows its condition (R401): on or draining, and event 3088 once while it is held. A feature whose
drain has nothing left is held at the next recomputation (log entry 24). -/
def featureStep (f : Nat) (s : State) : State :=
  let held := fun (s : State) => if isPending s 3088 f then s else raise 3088 f (s.get 0x55C0 f 2) 0 s
  if featureMet s f then (if s.aux .featMet f = 0 then s.setAux .featMet f 0 (s.now + 1) else s)
  else
    let s := s.setAux .featMet f 0 0
    match s.get 0x55C0 f 4 with
    | 1 => s.put 0x55C0 f 4 2
    | 2 => held (s.put 0x55C0 f 4 0)
    | _ => held s

/-- The features that the running image lists. -/
def features (s : State) : List Nat := (List.range 64).filter fun f => s.get 0x55C0 f 2 != 0

/-- The committed level changes. -/
def commitLevel (level : Nat) (s : State) : State :=
  let old := s.get 0x5580 0 4
  if level = old then s else raise 3085 0 old level (s.put 0x5580 0 4 level)

/-- Everything computed from the levels known (R399 to R401): the committed level falls at once. -/
def recomputeLevels (s : State) : State :=
  let s := ((s.put 0x5580 0 1 (memberLevel s)).put 0x5580 0 3 (lowestLevel s)).put 0x5580 0 7 (leader s)
  let low := s.get 0x5580 0 3
  let s := if low < s.get 0x5580 0 4 then commitLevel low s else s
  let s := if s.get 0x5580 0 4 < min low (s.get 0x5580 0 5) then
      (if s.aux .lvlAbove = 0 then s.setAux .lvlAbove 0 0 (s.now + 1) else s)
    else s.setAux .lvlAbove 0 0 0
  overAll (features s) featureStep s

/-- A member is left out (R399). -/
def leaveMember (m : Nat) (s : State) : State :=
  if s.aux .lvlIn m = 0 then s
  else recomputeLevels (raise 3086 m 0 0 (((s.setAux .lvlIn m 0 0).put 0x5590 m 1 0).put 0x5590 m 2 0))

/-- A level report (R399, R402 type 1). -/
def levelReport (m level claim : Nat) (s : State) : State :=
  let joins := s.aux .lvlIn m = 0
  let s := ((s.setAux .lvlIn m 0 1).put 0x5590 m 1 level).put 0x5590 m 2 claim
  recomputeLevels (if joins then raise 3086 m 1 0 s else s)

/-- A level commit (R400, R402 type 2): the level named and the instant it takes effect. -/
def levelCommit (level at' : Nat) (s : State) : State := (s.setAux .lvlNew 0 0 (level + 1)).setAux .lvlAt 0 0 at'

/-- Records sent to every other member that is reachable (0x51C0.04). -/
def broadcastMirror (type : Nat) (body : List Nat) (s : State) : State :=
  overAll ((List.range 64).filter fun m => m != member s && bit m (s.get 0x51C0 0 4)) (fun m s => sendMirror m type 0 body s) s

/-- LEVEL_REPORT_SEND (R399). -/
def execLevelReportSend (s : State) : Host.Outcome State Fault Refusal :=
  whenUp s fun s =>
    broadcastMirror 1 ([member s] ++ bytesOf 2 (s.get 0x5580 0 1) ++ [0] ++ bytesOf 2 (s.get 0x5580 0 2) ++ [0, 0]) s

/-- LEVEL_REPORT_TIMEOUT (R399): no report of a member for 50 ms. -/
def execLevelReportTimeout (member : Nat) (s : State) : Host.Outcome State Fault Refusal :=
  whenUp s fun s => leaveMember member s

/-- LEVEL_COMMIT_SEND (R400): the leader commits the domain's lowest level, capped by the ceiling, once that has
exceeded the committed level for 1 s, for an instant at least 20 ms ahead. -/
def execLevelCommitSend (lead : Nat) (s : State) : Host.Outcome State Fault Refusal :=
  whenUp s fun s =>
    let above := s.aux .lvlAbove
    if leader s ≠ member s ∨ above = 0 ∨ s.now < above - 1 + 1000000000 ∨ lead < 20000000 then s
    else
      let level := min (lowestLevel s) (s.get 0x5580 0 5)
      let at' := s.now + lead
      levelCommit level at' (broadcastMirror 2
        (bytesOf 2 level ++ bytesOf 6 (at' / 1000000000) ++ bytesOf 4 (at' % 1000000000)) s)

/-- LEVEL_COMMIT_INSTANT (R400): the level is adopted when the member's own computed lowest level is as high. -/
def execLevelCommitInstant (s : State) : Host.Outcome State Fault Refusal :=
  whenUp s fun s =>
    let new := s.aux .lvlNew
    if new = 0 ∨ s.now < s.aux .lvlAt then s
    else
      let s := (s.setAux .lvlNew 0 0 0).setAux .lvlAt 0 0 0
      if new - 1 ≤ lowestLevel s then recomputeLevels (commitLevel (new - 1) s) else s

/-- FEATURE_SWITCH_ON (R401): the feature's condition has been met for 1 s. -/
def execFeatureSwitchOn (feature : Nat) (s : State) : Host.Outcome State Fault Refusal :=
  whenUp s fun s =>
    let met := s.aux .featMet feature
    if (features s).contains feature && met != 0 && met - 1 + 1000000000 ≤ s.now && s.get 0x55C0 feature 4 != 1 then
      clear 3088 feature (s.put 0x55C0 feature 4 1)
    else s

/-- A write of the domain claim or the level ceiling. -/
def levelWrite (acc : Acc) (sub v : Nat) (s : State) : State :=
  writeValue acc 0x5580 0 sub v s fun s => recomputeLevels (store 0x5580 0 sub v s)

end Sys2Proof.Machine
end

