-- ==== Sys2Proof/Machine/Power.lean ====
section
/-!
DEFINITION. Machine/Power.lean: the core set point, the rail monitors, the temperature sensors and the reference
clocks (spec/01 R32 to R34, R39, R42, R44, R46, R54, R56), and what the control pins show.
-/
namespace Sys2Proof.Machine

/-! ## Control pins -/

/-- READY: the object dictionary is on line. -/
def ready (s : State) : Bool := s.phase == .running

/-- FAULT_N is asserted after a brown-out and a thermal shutdown (R39, R42), and when no image starts (spec/15 R489). -/
def faultPin (s : State) : Bool := s.phase == .heldBrownOut || s.phase == .heldThermal || s.phase == .recovery

/-- The rail, temperature and reference monitors work (R39, R42). -/
def powered (s : State) : Bool := s.phase == .running || s.phase == .starting || s.phase == .recovery

/-- THERM_N is asserted at a critical condition and after a thermal shutdown (R42, R43). -/
def thermPin (s : State) : Bool :=
  s.phase == .heldThermal || (powered s && (List.range 10).any fun i => s.aux .tempCrit i == 1)

/-- ALARM_N is asserted (spec/14 R472). -/
def alarmPin (s : State) : Bool := s.phase == .running && alarm s

/-- The balls whose state R49 gives. -/
inductive Ball where
  | pcieClkreqN | faultN | alarmN | thermN
  /-- SCL and SDA of the cages and of the board identity memory. -/
  | i2c
  | ready
  | spi
  /-- BRST, CBRST, BEN and RSSIT of a tree. -/
  | cage
  /-- The transmitter of a lane. -/
  | transmitter
  deriving DecidableEq, Repr

/-- What drives a ball: an open-drain ball released or low; a driven ball high or low; high impedance; the internal
pull-down; electrical idle; or the unit that it belongs to. -/
inductive Drive where
  | released | low | high | floating | pulledLow | idle | byUnit
  deriving DecidableEq, Repr

/-- An open-drain ball: low when asserted. -/
def openDrain (asserted : Bool) : Drive := if asserted then .low else .released

/-- The state of a ball (R49; spec/01 R39, R42 after a brown-out and a thermal shutdown). A device held for test answers only
on JTAG (R37), and its balls stay as they were (log entry 102). -/
def ballState (s : State) : Ball → Drive
  | .faultN => openDrain (faultPin s)
  | .alarmN => openDrain (alarmPin s)
  | .thermN => openDrain (thermPin s)
  | .ready => if ready s then .high else .low
  | .pcieClkreqN => if powered s then .byUnit else .released
  | .i2c => if powered s then .byUnit else .released
  | .spi => if powered s then .byUnit else .floating
  | .cage =>
    if powered s then .byUnit
    else if s.phase == .heldBrownOut || s.phase == .heldThermal then .low
    else .pulledLow
  | .transmitter => if powered s then .byUnit else .idle

/-! ## The core set point (R34) -/

/-- The VDD_CORE nominal: the last acknowledged set point once 100 µs have passed since its acknowledgement. -/
def coreNominal (s : State) : Nat :=
  let c := s.aux .avsChangedAt
  if c ≠ 0 ∧ s.now < c - 1 + 100000 then s.aux .avsPrev else s.get 0x1040 0 1

/-- AVS_SET_POINT_STEP (R34, R421): the device asks for 5 mV more or less, at most once per 1 ms, inside the floor and
the ceiling, with no command outstanding and no self-test running. Which way it steps follows from its own measures
and is the command's operand. DESIGN CHOICE (log entry 103): a floor written above the set point, or a ceiling written
below it, leaves every single step outside the bounds, and each is refused; the spec gives no way back inside. -/
def execAvsSetPointStep (up : Bool) (s : State) : Host.Outcome State Fault Refusal :=
  whenUp s fun s =>
    let now := s.get 0x1040 0 1
    let want := if up then now + 5 else now - 5
    let last := s.aux .avsLastStep
    if s.aux .avsPaused = 1 ∨ s.aux .avsAsked ≠ 0 ∨ (last ≠ 0 ∧ s.now < last - 1 + 1000000)
        ∨ want < s.get 0x1040 0 3 ∨ s.get 0x1040 0 4 < want
        ∨ ((List.range 14).any fun c => testRunning s c) = true then s
    else ((s.setAux .avsAsked 0 0 want).setAux .avsLastStep 0 0 (s.now + 1)).send .avs [want]

/-- AVS_ACKNOWLEDGE (R34): the set point asked for becomes the one in force, and event 3972 clears. -/
def execAvsAcknowledge (s : State) : Host.Outcome State Fault Refusal :=
  whenUp s fun s =>
    let want := s.aux .avsAsked
    if want = 0 then s
    else
      let s := (s.setAux .avsPrev 0 0 (s.get 0x1040 0 1)).setAux .avsAsked 0 0 0
      clear 3972 0 (((s.put 0x1040 0 1 want).setAux .avsChangedAt 0 0 (s.now + 1)).setAux .avsPaused 0 0 0)

/-- AVS_NO_RESPONSE (R34): three attempts without an acknowledgement: the set point stays, commands stop for 1 s, and
event 3972 is raised. -/
def execAvsNoResponse (s : State) : Host.Outcome State Fault Refusal :=
  whenUp s fun s =>
    if s.aux .avsAsked ≠ 0 ∧ s.aux .avsPaused = 0 then raise 3972 0 0 0 (s.setAux .avsPaused 0 0 1) else s

/-- AVS_RETRY (R34): the pause ends and the device tries again, unless the floor or the ceiling has been written past the
set point that it asked for: that command is dropped. -/
def execAvsRetry (s : State) : Host.Outcome State Fault Refusal :=
  whenUp s fun s =>
    let want := s.aux .avsAsked
    if s.aux .avsPaused ≠ 1 then s
    else if want < s.get 0x1040 0 3 ∨ s.get 0x1040 0 4 < want then (s.setAux .avsPaused 0 0 0).setAux .avsAsked 0 0 0
    else ((s.setAux .avsPaused 0 0 0).setAux .avsLastStep 0 0 (s.now + 1)).send .avs [want]

/-! ## The rails (R32, R39) -/

/-- Nominal of a rail, mV. -/
def railNominal (s : State) (r : Nat) : Nat :=
  if r = 0 then coreNominal s else [0, 900, 1200, 900, 1200, 1100, 400, 1800, 1800, 900].getD r 0

/-- Tolerance of a rail, %. -/
def railTolerance (r : Nat) : Nat := if r = 7 ∨ r = 8 then 5 else 3

/-- Brown-out threshold of a rail, mV. -/
def railBrownOut (r : Nat) : Nat := [680, 820, 1100, 820, 1100, 990, 360, 1600, 1600, 820].getD r 0

/-- A reading lies outside the tolerance. -/
def outside (reading nominal tol : Nat) : Bool := tol * nominal < 100 * absDiff reading nominal

/-- One rail's reading (R39, R54). -/
def sampleRail (r v : Nat) (s : State) : State :=
  let first := s.aux .railSeen r = 0
  let s := if r = 0 then s.put 0x1040 0 2 v else s
  let s := if first ∨ v < s.get 0x1041 r 2 then s.put 0x1041 r 2 v else s
  let s := if first ∨ s.get 0x1041 r 3 < v then s.put 0x1041 r 3 v else s
  let s := (s.put 0x1041 r 1 v).setAux .railSeen r 0 1
  let s := if outside v (railNominal s r) (railTolerance r) then
      (if s.aux .railLowSince r = 0 then s.setAux .railLowSince r 0 (s.now + 1) else s)
    else (s.setAux .railLowSince r 0 0).setAux .railOut r 0 0
  if r = 0 ∧ outside v (s.get 0x1040 0 1) 3 = true then s.setAux .vddBadAt 0 0 (s.now + 1) else s

/-- RAIL_SAMPLE (R39): every rail is read, in the order of the supply rail table, in mV, and the running self-tests
are checked (R421). -/
def execRailSample (readings : List Nat) (s : State) : Host.Outcome State Fault Refusal :=
  whenPowered s fun s =>
    checkBreach (overAll (readings.take 10).zipIdx (fun p s => sampleRail p.2 (p.1 % 65536) s) s)

/-- RAIL_EXCURSION (R39): a rail has stayed outside its tolerance for 10 µs, above its brown-out threshold. Each excursion,
from leaving the tolerance to the return into it, is counted and raised once. DESIGN CHOICE (log entry 104): the spec gives
no span for the event's minimum and maximum; they are 0x1041[rail].02 and .03, the extremes since the last clear. -/
def execRailExcursion (rail : Nat) (s : State) : Host.Outcome State Fault Refusal :=
  whenPowered s fun s =>
    if rail < 10 ∧ s.aux .railLowSince rail ≠ 0 ∧ railBrownOut rail ≤ s.get 0x1041 rail 1 ∧ s.aux .railOut rail = 0 then
      reportCause 3971 rail (s.get 0x1041 rail 2) (s.get 0x1041 rail 3) ((s.bump32 0x1041 rail 4).setAux .railOut rail 0 1)
    else s

/-- RAIL_EXCURSION_CLEAR (R56): the rail has stayed within its tolerance. -/
def execRailExcursionClear (rail : Nat) (s : State) : Host.Outcome State Fault Refusal :=
  whenPowered s fun s => if rail < 10 ∧ s.aux .railLowSince rail = 0 then withdraw 3971 rail s else s

/-- Every island in reset, every lane transmitter off, every cage pin low, READY low (R39, R42): what was sent to the cage
pins and not yet driven is void. Which objects and registers survive is settled at the restart (POWER_ON_RESET). -/
def hold (p : Phase) (s : State) : State := { s with phase := p }.send .shutOff []

/-- BROWN_OUT (R39): a rail has read below its brown-out threshold for 2 µs; the device is held until PORST_N is
pulsed. -/
def execBrownOut (rail : Nat) (s : State) : Host.Outcome State Fault Refusal :=
  whenPowered s fun s =>
    if rail < 10 ∧ s.aux .railSeen rail = 1 ∧ s.get 0x1041 rail 1 < railBrownOut rail then hold .heldBrownOut s else s

/-- A write of a rail's clear (R54). -/
def railClear (acc : Acc) (rail v : Nat) (s : State) : State :=
  writeValue acc 0x1041 rail 5 v s fun s =>
    done ((((s.put 0x1041 rail 2 0).put 0x1041 rail 3 0).put 0x1041 rail 4 0).setAux .railSeen rail 0 0)

/-- RAIL_STATS_CLEAR (R54). -/
def execRailStatsClear (acc : Acc) (rail value : Nat) (s : State) : Host.Outcome State Fault Refusal :=
  whenUp s fun s => railClear acc rail value s

/-! ## Temperature (R42 to R44) -/

/-- One condition of a sensor: set at and above its threshold, cleared 3 °C below it. -/
def condition (flag : Aux) (num sensor : Nat) (t threshold : Int) (s : State) : State :=
  if threshold ≤ t then
    (if s.aux flag sensor = 1 then s else reportCause num sensor 0 0 (s.setAux flag sensor 0 1))
  else if t ≤ threshold - 300 then
    (if s.aux flag sensor = 1 then withdraw num sensor (s.setAux flag sensor 0 0) else s)
  else s

/-- The refresh multiplier of a stack after its sensor's reading (R44). -/
def refresh (old : Nat) (t : Int) : Nat :=
  let up := if 11500 ≤ t then 4 else if 9500 ≤ t then 2 else 1
  if old ≤ up then up
  else if old = 4 ∧ 11200 < t then 4
  else if 2 ≤ old ∧ 9200 < t then 2
  else up

/-- A stack's refresh rate follows its own sensor, 8 for MS0 and 9 for MS1. -/
def refreshStack (sensor : Nat) (t : Int) (s : State) : State :=
  if sensor = 8 ∨ sensor = 9 then
    let sub := if sensor = 8 then 9 else 0x0A
    let old := s.get 0x1040 0 sub
    let new := refresh old t
    if new = old then s else reportCause 3970 (sensor - 8) old new (s.put 0x1040 0 sub new)
  else s

/-- The hottest of the ten readings. -/
def hottest (s : State) : Int :=
  (List.range 9).foldl (fun m i => max m (toInt 32 (s.get 0x1042 (i + 1) 1))) (toInt 32 (s.get 0x1042 0 1))

/-- The offset that the calibration set adds to a sensor's reading (spec/15 R498). -/
def sensorTrim (s : State) (sensor : Nat) : Int := toInt 16 (s.aux .sensorTrim sensor)

/-- A sensor's reading, in units of 0.01 °C, against the warning, critical and shutdown thresholds (R42), and the refresh rate
that follows it (R44). At 135 °C the device is held until a PORST_N pulse with every sensor below 120 °C (R43). -/
def takeTemp (sensor : Nat) (raw : Int) (s : State) : State :=
  let reading := raw + sensorTrim s sensor
  let s := s.put 0x1042 sensor 1 (ofInt 32 reading)
  let s := s.put 0x1040 0 5 (ofInt 32 (hottest s))
  let s := condition .tempWarn 3968 sensor reading (toInt 32 (s.get 0x1040 0 6)) s
  let s := condition .tempCrit 3969 sensor reading (toInt 32 (s.get 0x1040 0 7)) s
  let s := refreshStack sensor reading s
  if 13500 ≤ reading then hold .heldThermal s else s

/-- TEMPERATURE_SAMPLE (R42): one reading of a sensor. -/
def execTemperatureSample (sensor : Nat) (reading : Int) (s : State) : Host.Outcome State Fault Refusal :=
  whenPowered s fun s => if 10 ≤ sensor then s else takeTemp sensor reading s

/-! ## Island clocks (spec/00 R7, R47) -/

/-- Nominal clock of an island, kHz, as 0x1051 numbers them: a lane island runs at its lane rate over the lane's width. A
fraction of a kHz is dropped (log entry 105). -/
def islandNominal (i : Nat) : Nat :=
  if i < 14 then 3000000
  else if i = 14 then 1800000
  else if i = 15 then 1000000
  else if i < 64 then 311040
  else if i < 132 then 664062
  else if i < 140 then 1000000
  else 322265

/-- 0x1051[island].01: a Vioth lane of a port in forerunner mode and a management port at 1 Gb/s run at their own clocks. -/
def islandClock (s : State) (i : Nat) : Nat :=
  if 96 ≤ i ∧ i < 132 ∧ s.get 0x5100 ((i - 96) / 9) 3 = 1 then 644531
  else if 140 ≤ i ∧ s.get 0x50C0 (i - 140) 2 = 1 then 125000
  else s.get 0x1051 i 1

/-! ## Reference clocks (R46) -/

/-- The PCIe link goes down or comes up (spec/14 R481). -/
def pcieLink (up : Nat) (s : State) : State :=
  if s.get 0x1140 0 2 = up then s
  else raise 3990 0 up 0 ((if up = 0 then s.put 0x1140 0 3 0 else s).put 0x1140 0 2 up)

/-- REFERENCE_LOST (R46): a reference clock has been absent for 2 µs. The PLLs hold; without PCIE_REFCLK the PCIe
link goes down. -/
def execReferenceLost (clock : Nat) (s : State) : Host.Outcome State Fault Refusal :=
  whenPowered s fun s =>
    if 4 ≤ clock ∨ s.aux .refLost clock = 1 then s
    else
      let s := reportCause 3973 clock 0 0 ((s.setAux .refLost clock 0 1).put 0x1050 clock 1 0 |>.bump32 0x1050 clock 3)
      checkBreach (if clock = 3 ∧ s.phase = .running then pcieLink 0 s else s)

/-- REFERENCE_OFFSET (R46): an offset beyond tolerance, in units of 0.01 ppm. -/
def execReferenceOffset (clock : Nat) (offset : Int) (s : State) : Host.Outcome State Fault Refusal :=
  whenPowered s fun s =>
    if 4 ≤ clock then s
    else
      let s := (s.put 0x1050 clock 1 1).put 0x1050 clock 2 (ofInt 32 offset)
      checkBreach (reportCause 3974 clock (ofInt 32 offset) 0 s)

end Sys2Proof.Machine
end

