-- ==== Sys2Proof/Machine/Time.lean ====
section
/-!
DEFINITION. Machine/Time.lean: the time base, its sources and states, refused and accepted corrections, PTP, ESMC, edge
captures, transmit stamps, 1PPS and time-of-day pairs (spec/13). The time base is State.now, in whole nanoseconds: a
step moves it, and the frequency word is how fast it runs against true time, which the model does not count.
-/
namespace Sys2Proof.Machine

/-- The object of the time base. -/
def tb (s : State) (sub : Nat) : Reg := s.get 0x5C00 0 sub

/-- The pending correction or any signed 64-bit object as an integer. -/
def pendingOffset (s : State) : Int := toInt 64 (tb s 7)

/-- The time engine's role is carried (R427). -/
def timeEngine (s : State) : Bool := (carrierOf s 208).isSome

/-- Downstream lanes are all disabled (R434). -/
def lanesOff (s : State) : Bool :=
  !anyObj s 0x2000 1 (fun _ v => v != 0) && !anyObj s 0x2002 1 (fun _ v => v != 0)

/-! ## The frequency word (R428, R431, R432) -/

/-- The frequency word set, clipped to ±10 ppm (R428). Words of more than the longest holdover window ago are not kept. -/
def setWord (w : Int) (s : State) : State :=
  let c := max (-1000000) (min 1000000 w)
  let s := if c ≠ w then (if isPending s 3852 0 then s else raise 3852 0 (ofInt 32 w) 0 s) else clear 3852 0 s
  if ofInt 32 c = tb s 3 then s
  else { s.put 0x5C00 0 3 (ofInt 32 c) with words := (s.words.filter fun p => s.now < p.1 + 3600000000000) ++ [(s.now, c)] }

/-- Nanoseconds of overlap of [a, b) with the last `window` ns, times the word over it, summed. -/
def wordSum (from' : Nat) (now : Nat) : List (Nat × Int) → Int
  | [] => 0
  | (t, w) :: l =>
    let stop := match l with
      | (t', _) :: _ => t'
      | [] => now
    w * ((stop - max t from' : Nat) : Int) + wordSum from' now l

/-- The mean of the frequency word over the holdover window (R432). -/
def meanWord (s : State) : Int :=
  let from' := s.now - tb s 0x0C * 1000000000
  match s.words with
  | [] => 0
  | (t, _) :: _ =>
    let start := max from' t
    if s.now ≤ start then toInt 32 (tb s 3) else wordSum start s.now s.words / ((s.now - start : Nat) : Int)

/-- Kind of a source table entry. -/
def srcKind (s : State) (e : Nat) : Nat := s.get 0x5C10 e 1

/-- The selected frequency source is a SyncE or FREF entry. -/
def hasFreq (s : State) : Bool := tb s 5 != 0xFF && (srcKind s (tb s 5) == 2 || srcKind s (tb s 5) == 3)

/-- The frequency of the selected frequency source: FREF's is nominal, because the base is synthesised from it. -/
def sourceWord (s : State) : Int :=
  let f := tb s 5
  if f = 0xFF then toInt 32 (tb s 3) else if srcKind s f = 3 then 0 else toInt 32 (s.aux .srcFreq f)

/-- The slew limit in units of 0.01 ppb. -/
def slewCap (s : State) : Int := (tb s 9 * 1000 : Nat)

/-- The servo (R431): offset / 16 s added to the source's frequency, capped at the slew limit. -/
def servo (offset : Int) (s : State) : State :=
  setWord (sourceWord s + max (-(slewCap s)) (min (slewCap s) (offset * 100 / 16))) s

/-! ## States (R432, R436) -/

/-- The clock class (R436). -/
def clockClass (s : State) : Nat :=
  match tb s 1 with
  | 0 => 248
  | 2 => if s.aux .lastLock = 1 then s.aux .gmClass else 6
  | 4 => 165
  | _ => if s.aux .lastLock = 1 then 135 else if s.aux .lastLock = 2 then 7 else 248

/-- The clock class shown. -/
def showClass (s : State) : State := s.put 0x5C00 0 0x0F (clockClass s)

/-- The time base's state changes: event 3840, and what its entry or leaving brings. -/
def setTime (new : Nat) (s : State) : State :=
  let old := tb s 1
  if new = old then s
  else
    let s := s.put 0x5C00 0 1 new
    let s := if old = 4 then clear 3847 0 s else s
    let s := if new = 3 then s.setAux .holdAt 0 0 s.now else s
    let s := if new = 2 ∧ tb s 4 ≠ 0xFF then s.setAux .lastLock 0 0 (if srcKind s (tb s 4) = 1 then 1 else 2) else s
    showClass (raise 3840 0 old new s)

/-- No correction is pending any more; the flag clears. -/
def dropPending (s : State) : State :=
  clear 3841 0 ((s.put 0x5C00 0 7 0).setAux .pend3841 0 0 0)

/-- A running slew ends where it stands: the frequency source's word again. -/
def stopSlew (s : State) : State :=
  if s.aux .slewing = 0 then s else setWord (sourceWord s) ((s.setAux .slewing 0 0 0).setAux .slewLeft 0 0 0)

/-- A pending correction from readings is discarded (R432); one from a time set is kept. -/
def dropReadings (s : State) : State := if s.aux .pend3841 = 1 ∧ s.aux .timeFrom = 0 then dropPending s else s

/-- ACQUIRING: 64 readings of the new source are to come (R432). A slew that the readings of the last source started
ends with them. -/
def acquire (s : State) : State :=
  let s := if s.aux .slewing = 1 then stopSlew s else s
  setTime 1 { (dropReadings s).setAux .readings 0 0 0 with offsets := [] }

/-- HOLDOVER (R432): the word at its mean over the holdover window, or following a usable frequency source. -/
def holdover (s : State) : State :=
  let s := dropReadings (if s.aux .slewing = 1 then stopSlew s else s)
  let s := setTime 3 s
  if s.aux .slewing ≠ 0 then s else setWord (if hasFreq s then sourceWord s else meanWord s) s

/-! ## Sources and selection (R430) -/

/-- A source table entry is usable. -/
def sourceUsable (s : State) (e : Nat) : Bool :=
  let p := s.get 0x5C10 e 2
  match srcKind s e with
  | 1 => s.aux .syncOn == 1 && anyObj s 0x5C40 2 fun _ v => v == 9
  | 2 => s.get 0x5090 p 2 == 4 && s.aux .esmcQl p != 0
  | 3 => s.aux .frefLost == 0
  | 4 => 3 ≤ s.aux .edgeRun p && s.aux .secsSet == 1
  | 5 => s.aux .hostOn == 1
  | _ => false

/-- The usable entry of highest priority among some kinds, 0xFF for none; a tie goes to the lower entry. -/
def bestSource (s : State) (kinds : List Nat) : Nat :=
  match ((List.range 8).filter fun e => kinds.contains (srcKind s e) && sourceUsable s e) with
  | [] => 0xFF
  | e :: l => l.foldl (fun b x => if s.get 0x5C10 x 3 < s.get 0x5C10 b 3 then x else b) e

/-- The sources are chosen again, and the events and the state follow (R430, R432). -/
def select (s : State) : State :=
  let s := overAll (List.range 8) (fun e s =>
    let was := s.get 0x5C10 e 4 != 0
    let is := sourceUsable s e
    if was && !is then raise 3846 e (srcKind s e) 0 s
    else if !was && is then clear 3846 e s
    else s) s
  let ph := bestSource s [1, 4, 5]
  let fr := bestSource s [2, 3]
  let fr := if fr = 0xFF then ph else fr
  let had := hasFreq s
  let s := if fr = tb s 5 then s else raise 3845 fr 1 fr (s.put 0x5C00 0 5 fr)
  let old := tb s 4
  let s := if ph = old then s else raise 3845 ph 0 ph (s.put 0x5C00 0 4 ph)
  let s := overAll (List.range 8) (fun e s =>
    s.put 0x5C10 e 4 (if e = ph ∨ e = fr then 2 else if sourceUsable s e then 1 else 0)) s
  let st := tb s 1
  if ph ≠ old then
    (if ph = 0xFF then (if st = 1 ∨ st = 2 ∨ st = 5 then holdover s else s) else acquire s)
  else if (st = 3 ∨ st = 4) ∧ s.aux .slewing = 0 ∧ (hasFreq s = true ∨ had = true) then
    setWord (if hasFreq s then sourceWord s else meanWord s) s
  else s

/-! ## Refusal and acceptance (R432 to R435, R508) -/

/-- The filtered offset (R431): the mean of the last 16 readings. -/
def filtered (s : State) : Int :=
  if s.offsets.isEmpty then 0 else s.offsets.foldl (· + ·) 0 / (s.offsets.length : Int)

/-- The magnitude lies beyond the jump threshold. -/
def jump (s : State) (x : Int) : Bool := tb s 6 < x.natAbs

/-- The time base is stepped (R435): the readings held are relative to the new time; a negative step erases every slot
of kinds 1, 2 and 3. -/
def stepTime (offset : Int) (s : State) : State :=
  let s := { s with now := ((s.now : Int) + offset).toNat, offsets := s.offsets.map fun x => x - offset }
  let s := raise 3844 0 (ofInt 32 offset) 0 s
  if offset < 0 then
    let slots := s.objs.filterMap fun e =>
      if e.1.index == 0x4000 && e.1.sub == 4 && e.2 != 0 && [1, 2, 3].contains (slotKind s e.1.inst) then some e.1.inst else none
    overAll slots eraseSlot s
  else s

/-- A pending correction is accepted, mode 1 slewed, 2 stepped (R432, R434). -/
def acceptTime (mode : Nat) (s : State) : State :=
  let off := pendingOffset s
  let fromSet := s.aux .timeFrom
  let s := raise 3842 0 mode (ofInt 32 off) (dropPending s)
  let target := if tb s 1 = 5 then (if tb s 4 ≠ 0xFF then 2 else s.aux .timeBack) else tb s 1
  if mode = 2 then setTime target (stepTime off s)
  else
    let s := (((s.setAux .slewing 0 0 (1 + fromSet)).setAux .slewLeft 0 0 (ofInt 64 off)).setAux .slewAt 0 0 s.now)
    setTime target (setWord (sourceWord s + (if off < 0 then -(slewCap s) else slewCap s)) s)

/-- Auto-accept (R434): with every downstream lane disabled a pending correction is stepped. -/
def autoAccept (s : State) : State :=
  if s.aux .pend3841 = 1 ∧ tb s 0x0A = 1 ∧ lanesOff s = true then acceptTime 2 s else s

/-- A correction is refused and flagged (R432, R433): from readings (0) or a time set (1). -/
def refuseTime (offset : Int) (fromSet : Nat) (s : State) : State :=
  let s := stopSlew s
  let s := if tb s 1 = 5 then s else s.setAux .timeBack 0 0 (tb s 1)
  let s := (((s.setAux .pend3841 0 0 1).setAux .timeFrom 0 0 fromSet).setAux .okSince 0 0 0).put 0x5C00 0 7 (ofInt 64 offset)
  let s := setTime 5 (s.bump32 0x5C00 0 0x11)
  let s := if hasFreq s then setWord (sourceWord s) s else s
  autoAccept (raise 3841 0 (ofInt 32 offset) 0 s)

/-- What a running slew has still to remove (R508): it runs at the slew limit, 10 ns per second and unit. -/
def slewRemaining (s : State) : Int :=
  let left := toInt 64 (s.aux .slewLeft)
  let gone : Nat := min left.natAbs ((s.now - s.aux .slewAt) * (tb s 9 * 10) / 1000000000)
  if left < 0 then left + gone else left - gone

/-- A reading of a source (R431 to R433, R508). -/
def takeReading (e : Nat) (offset : Int) (s : State) : State :=
  let s := s.put 0x5C10 e 5 (ofInt 64 offset)
  if e ≠ tb s 4 ∨ timeEngine s = false then s
  else
    let s := { s with offsets := (s.offsets ++ [offset]).drop (s.offsets.length + 1 - 16) }
    let s := s.setAux .readings 0 0 (min 64 (s.aux .readings + 1))
    let m := filtered s
    if s.aux .slewing = 1 then
      (if jump s (m - slewRemaining s) then refuseTime m 0 s
       else (s.setAux .slewLeft 0 0 (ofInt 64 m)).setAux .slewAt 0 0 s.now)
    else if s.aux .slewing ≠ 0 then s
    else if s.aux .pend3841 = 1 ∧ s.aux .timeFrom = 1 then autoAccept s
    else match tb s 1 with
    | 1 => if s.aux .readings < 64 then s
      else if jump s m then refuseTime m 0 s
      else servo m (setTime 2 s)
    | 2 => if jump s m then refuseTime m 0 s else servo m s
    | 5 =>
      let since := if jump s m then 0 else if s.aux .okSince = 0 then s.now + 1 else s.aux .okSince
      autoAccept ((s.put 0x5C00 0 7 (ofInt 64 m)).setAux .okSince 0 0 since)
    | _ => s

/-- TIME_SOURCE_READING (R431): a reading of a phase source, with the frequency measured. -/
def execTimeSourceReading (entry : Nat) (offset freq : Int) (s : State) : Host.Outcome State Fault Refusal :=
  whenUp s fun s =>
    if entry < 8 ∧ [1, 4, 5].contains (srcKind s entry) = true then
      takeReading entry offset (s.setAux .srcFreq entry 0 (ofInt 32 freq))
    else s

/-- A write of the accept command (R434). -/
def acceptWrite (acc : Acc) (v : Nat) (s : State) : State :=
  writeValue acc 0x5C00 0 8 v s fun s =>
    if s.aux .pend3841 = 0 then refuse 3 s
    else if v = 2 ∧ lanesOff s = false then refuse 3 s
    else if v = 1 ∨ v = 2 then acceptTime v (done s)
    else refuse 4 s

/-- ACCEPT_SLEW (R434): 1 written to 0x5C00.08. -/
def execAcceptSlew (acc : Acc) (s : State) : Host.Outcome State Fault Refusal := whenUp s fun s => acceptWrite acc 1 s

/-- ACCEPT_STEP (R434): 2 written to 0x5C00.08. -/
def execAcceptStep (acc : Acc) (s : State) : Host.Outcome State Fault Refusal := whenUp s fun s => acceptWrite acc 2 s

/-- A time-set command (R433), value a TIME80. -/
def timeSetWrite (acc : Acc) (v : Nat) (s : State) : State :=
  writeValue acc 0x5C00 0 0x0E v s fun s =>
    let diff : Int := (ofTime80 v : Int) - (s.now : Int)
    let s := done (select (s.setAux .secsSet 0 0 1))
    if jump s diff then refuseTime diff 1 s
    else
      let s := ((s.setAux .slewing 0 0 3).setAux .slewLeft 0 0 (ofInt 64 diff)).setAux .slewAt 0 0 s.now
      if diff = 0 then stopSlew s else setWord (sourceWord s + (if diff < 0 then -(slewCap s) else slewCap s)) s

/-- TIME_SET (R433). -/
def execTimeSet (acc : Acc) (value : Nat) (s : State) : Host.Outcome State Fault Refusal :=
  whenUp s fun s => timeSetWrite acc value s

/-- SLEW_COMPLETE (R508): a running slew has removed its offset; event 3843 reports one that an acceptance started. -/
def execSlewComplete (s : State) : Host.Outcome State Fault Refusal :=
  whenUp s fun s =>
    if slewRemaining s ≠ 0 then s
    else match s.aux .slewing with
    | 0 => s
    | 3 => stopSlew s
    | _ => raise 3843 0 ((s.now - s.aux .slewAt) / 1000000 % 2 ^ 32) 0 (stopSlew s)

/-- REFUSAL_CLEAR (R432): a refused offset from readings has stayed within the threshold for 10 s. -/
def execRefusalClear (s : State) : Host.Outcome State Fault Refusal :=
  whenUp s fun s =>
    let since := s.aux .okSince
    if tb s 1 = 5 ∧ s.aux .pend3841 = 1 ∧ s.aux .timeFrom = 0 ∧ since ≠ 0 ∧ since - 1 + 10000000000 ≤ s.now then
      servo (filtered s) (setTime 2 (dropPending s))
    else s

/-- HOLDOVER_IN_SPEC_EXPIRY (R432): HOLDOVER for longer than the in-spec time. -/
def execHoldoverInSpecExpiry (s : State) : Host.Outcome State Fault Refusal :=
  whenUp s fun s =>
    if tb s 1 = 3 ∧ s.aux .holdAt + tb s 0x0D * 1000000000 < s.now then raise 3847 0 ((s.now - s.aux .holdAt) / 1000000000) 0 (setTime 4 s) else s

/-- A write of the auto-accept switch (R434). -/
def autoAcceptWrite (acc : Acc) (v : Nat) (s : State) : State :=
  writeValue acc 0x5C00 0 0x0A v s fun s => autoAccept (store 0x5C00 0 0x0A v s)

/-- A write of a source table entry (R430). -/
def sourceWrite (acc : Acc) (e sub v : Nat) (s : State) : State :=
  writeValue acc 0x5C10 e sub v s fun s => select (store 0x5C10 e sub v s)

/-- A write of the host's offset (R430): a reading of every entry of kind 5. -/
def hostOffsetWrite (acc : Acc) (v : Nat) (s : State) : State :=
  writeValue acc 0x5C00 0 0x10 v s fun s =>
    let s := select ((done s).setAux .hostOn 0 0 1)
    overAll ((List.range 8).filter fun e => srcKind s e == 5) (fun e s => takeReading e (toInt 64 v) s) s

/-- HOST_OFFSET_WRITE (R430). -/
def execHostOffsetWrite (acc : Acc) (value : Nat) (s : State) : Host.Outcome State Fault Refusal :=
  whenUp s fun s => hostOffsetWrite acc value s

/-- SOURCE_UNUSABLE_TIMEOUT (R430): Sync, ESMC, edges or the host's offset of an entry have been absent too long. -/
def execSourceUnusableTimeout (entry : Nat) (s : State) : Host.Outcome State Fault Refusal :=
  whenUp s fun s =>
    let p := s.get 0x5C10 entry 2
    match srcKind s entry with
    | 1 => select (s.setAux .syncOn 0 0 0)
    | 2 => select (s.setAux .esmcQl p 0 0)
    | 4 => select (s.setAux .edgeRun p 0 0)
    | 5 => select (s.setAux .hostOn 0 0 0)
    | _ => s

/-- FREF_LOST (R429). -/
def execFrefLost (s : State) : Host.Outcome State Fault Refusal :=
  whenUp s fun s => if s.aux .frefLost = 1 then s else select (raise 3848 0 0 0 (s.setAux .frefLost 0 0 1))

/-- FREF_RETURN (R429). -/
def execFrefReturn (s : State) : Host.Outcome State Fault Refusal :=
  whenUp s fun s => if s.aux .frefLost = 0 then s else select (clear 3848 0 (s.setAux .frefLost 0 0 0))

/-! ## PTP (R437 to R439) -/

/-- A port takes part in the best-master choice (R437, R438): it is in mode 1 and in service. -/
def ptpPort (s : State) (e : Nat) : Bool := s.get 0x5C40 e 1 == 1 && s.get 0x5090 e 2 == 4

/-- The port that is in SLAVE. -/
def slavePort (s : State) : Option Nat := (List.range 32).find? fun e => s.get 0x5C40 e 2 == 9

/-- A port's IEEE 1588 state (event 3849). -/
def setPtpState (e new : Nat) (s : State) : State :=
  let old := s.get 0x5C40 e 2
  if new = old then s else raise 3849 e old new (s.put 0x5C40 e 2 new)

/-- What the parent announces (R436, R447), on the port that is in SLAVE. -/
def takeParent (s : State) : State :=
  match slavePort s with
  | some e =>
    let s := ((s.put 0x5C80 0 5 (s.aux .annParent e)).put 0x5C80 0 6 ((s.aux .annSteps e + 1) % 65536)).setAux .gmClass 0 0 (s.aux .annClass e)
    let s := if tb s 1 = 2 ∧ srcKind s (tb s 4) = 1 then s.put 0x5C00 0 0x0B (s.aux .annUtc e) else s
    showClass s
  | none => s

/-- The best-master choice (R437): the states that the Alternate BMCA gives the ports; a port with notSlave set is never SLAVE or
UNCALIBRATED. A change of the SLAVE port waits for its first Sync (R430). -/
def portStates (s : State) : State :=
  let ports := (List.range 32).filter (ptpPort s)
  let l := Config.bestMaster (ports.map fun e => (e, s.aux .announceIn e, s.get 0x5C40 e 7, s.get 0x5C40 e 8))
    (clockClass s) (s.get 0x5C80 0 2) (s.get 0x5C80 0 3)
  let before := slavePort s
  let s := overAll (l.filter fun p => ports.contains p.1 && p.2 ≤ 9 && !(s.get 0x5C40 p.1 8 == 1 && (p.2 == 8 || p.2 == 9)))
    (fun p s => setPtpState p.1 p.2 s) s
  takeParent (select (if slavePort s = before then s else s.setAux .syncOn 0 0 0))

/-- Readings of the PTP entries. -/
def ptpReading (offset freq : Int) (s : State) : State :=
  overAll ((List.range 8).filter fun e => srcKind s e == 1)
    (fun e s => takeReading e offset (s.setAux .srcFreq e 0 (ofInt 32 freq))) s

/-- A receive stamp in ps (R439): the frame's delays taken off, the port's ingress latency added. -/
def rxStampPs (s : State) (e delay : Nat) : Int := (s.now * 1000 : Nat) - (delay : Int) + toInt 32 (s.get 0x5C40 e 5)

/-- A receive stamp in ns. -/
def rxStamp (s : State) (e delay : Nat) : Int := rxStampPs s e delay / 1000

/-- A transmit stamp in ps (R439). -/
def txStampPs (s : State) (e delay : Nat) : Int :=
  (s.now * 1000 : Nat) + (delay : Int) + toInt 32 (s.get 0x5C40 e 6)

/-- A Sync and its origin time give a phase reading: master's time less the time base. -/
def syncReading (e : Nat) (origin freq : Int) (s : State) : State :=
  let off := origin + toInt 64 (s.get 0x5C40 e 9) - toInt 64 (s.aux .ptpT2 e)
  ptpReading off freq (s.setAux .ptpT1 e 0 (ofInt 64 origin))

/-- A PTP message diverted to the time engine. -/
def ptpMessage (e : Nat) (m : PtpMsg) (delay : Nat) (s : State) : State :=
  match m with
  | .announce data parent cls steps utc =>
    if ptpPort s e then
      portStates (overAll [(Aux.announceIn, data + 1), (.annParent, parent % 2 ^ 80), (.annClass, cls % 256), (.annSteps, steps % 65536),
        (.annUtc, utc % 65536)] (fun p s => s.setAux p.1 e 0 p.2) s)
    else s
  | .sync twoStep origin correction freq =>
    if s.get 0x5C40 e 2 ≠ 9 then s
    else
      let s := select ((s.setAux .ptpT2 e 0 (ofInt 64 (rxStamp s e delay - correction))).setAux .syncOn 0 0 1)
      if twoStep then s else syncReading e origin freq s
  | .followUp origin correction freq =>
    if s.get 0x5C40 e 2 ≠ 9 then s else syncReading e (origin + correction) freq s
  | .delayReq =>
    if s.get 0x5C40 e 2 = 6 then
      s.send .ptp [e, 9, s.get 0x5C40 e 3, s.get 0x5C80 0 1, tb s 0x0F, ofInt 64 (rxStamp s e delay)]
    else s
  | .delayResp receive correction =>
    if s.get 0x5C40 e 2 ≠ 9 ∧ s.get 0x5C40 e 2 ≠ 8 then s
    else
      let t := fun a => toInt 64 (s.aux a e)
      s.put 0x5C40 e 9 (ofInt 64 (((t .ptpT2 - t .ptpT1) + (receive - correction - t .ptpT3)) / 2))

/-- PTP_MESSAGE_RECEIVE (R437, R438): mode 1 diverts the messages to the port's destination and of the device's domain
to the time engine, mode 2 passes them to the host; others are forwarded as data, by a command of their own. -/
def execPtpMessageReceive (port dest domain : Nat) (msg : PtpMsg × Nat) (s : State) : Host.Outcome State Fault Refusal :=
  let (msg, delay) := msg
  whenUp s fun s =>
    if 32 ≤ port ∨ !([2, 3, 4].contains (s.get 0x5090 port 2)) then s
    else match s.get 0x5C40 port 1 with
      | 1 => if dest = s.get 0x5C40 port 3 ∧ domain = s.get 0x5C80 0 1 ∧ timeEngine s = true then ptpMessage port msg delay s else s
      | 2 => s.send .hostFrame [0, port, ofInt 64 (rxStampPs s port delay)]
      | _ => s

/-- PTP_MESSAGE_SEND (R437): Announce and Sync on MASTER ports, Delay_Req on SLAVE and UNCALIBRATED ports. -/
def execPtpMessageSend (port : Nat) (msg : PtpSend) (delay : Nat) (s : State) : Host.Outcome State Fault Refusal :=
  whenUp s fun s =>
    if 32 ≤ port ∨ s.get 0x5C40 port 1 ≠ 1 ∨ s.get 0x5090 port 2 ≠ 4 ∨ timeEngine s = false then s
    else
      let st := s.get 0x5C40 port 2
      let at' := txStampPs s port delay / 1000
      let out := fun (code : Nat) (s : State) =>
        s.send .ptp [port, code, s.get 0x5C40 port 3, s.get 0x5C80 0 1, tb s 0x0F, ofInt 64 at']
      match msg with
      | .announce => if st = 6 then out 0xB s else s
      | .sync => if st = 6 then (if s.get 0x5C40 port 4 = 1 then out 0 s else out 8 (out 0 s)) else s
      | .delayReq => if st = 8 ∨ st = 9 then out 1 (s.setAux .ptpT3 port 0 (ofInt 64 at')) else s

/-- ANNOUNCE_TIMEOUT (R437): a port's last Announce in the device's domain no longer counts, and the best-master choice is rerun. -/
def execAnnounceTimeout (port domain : Nat) (s : State) : Host.Outcome State Fault Refusal :=
  whenUp s fun s => if domain = s.get 0x5C80 0 1 ∧ port < 32 ∧ ptpPort s port = true ∧ timeEngine s = true then portStates (s.setAux .announceIn port 0 0) else s

/-! ## SyncE (R440) -/

/-- ESMC_RECEIVE (R430, R440): a quality level on a port in service, with the frequency measured there. A DNU (0xF, log
entry 23) keeps no source usable. -/
def execEsmcReceive (port ql : Nat) (freq : Int) (s : State) : Host.Outcome State Fault Refusal :=
  whenUp s fun s =>
    if 32 ≤ port ∨ s.get 0x5090 port 2 ≠ 4 ∨ timeEngine s = false then s
    else
      let s := overAll ((List.range 8).filter fun e => srcKind s e == 2 && s.get 0x5C10 e 2 == port)
        (fun e s => s.setAux .srcFreq e 0 (ofInt 32 freq)) s
      if ql % 16 = 0xF then s else select (s.setAux .esmcQl port 0 (ql % 16 + 1))

/-- ESMC_SEND (R440): the quality level of the selected frequency source; DNU on the port that carries it. The level of
a source other than SyncE is not stated (a free value). -/
def execEsmcSend (port : Nat) (s : State) : Host.Outcome State Fault Refusal :=
  whenUp s fun s =>
    if 32 ≤ port ∨ s.get 0x5090 port 2 ≠ 4 ∨ timeEngine s = false then s
    else
      let f := tb s 5
      let (ql, s) := if f ≠ 0xFF ∧ srcKind s f = 2 then
          (if s.get 0x5C10 f 2 = port then (0xF, s) else (s.aux .esmcQl (s.get 0x5C10 f 2) - 1, s))
        else let (v, s) := s.fresh; (v % 16, s)
      (s.put 0x5CC0 0 3 ql).send .esmc [port, ql]

/-! ## Stamp queues (R441 to R443) -/

/-- An entry in the layout of R441: identifier, one-step, port, time in ps, sequence. -/
def stampEntry (ident : Nat) (oneStep : Bool) (port : Nat) (ps : Int) (seq : Nat) : Reg :=
  let t := ps.toNat
  (ident % 65536) * 2 ^ 112 + 2 ^ 111 + (if oneStep then 2 ^ 110 else 0) + (port % 256) * 2 ^ 96
    + stamp64 (t / 1000) * 2 ^ 32 + (t % 1000 * 65536 / 1000) * 2 ^ 16 + seq % 65536

/-- The entries of one queue, oldest first. -/
def stampQueue (s : State) (capture : Bool) (i : Nat) : List Stamp := s.stamps.filter fun x => x.capture == capture && x.inst == i

/-- The oldest entry of a queue is read and removed; 0 when the queue is empty (R442). -/
def popStamp (capture : Bool) (i : Nat) (s : State) : State :=
  match stampQueue s capture i with
  | [] => done s 0
  | x :: l =>
    let s := { s with stamps := s.stamps.erase x }
    done (if capture then s.put 0x5D00 i 4 l.length else s.put 0x5D40 i 2 l.length) x.entry

/-- EDGE_CAPTURE (R443): an edge at an input, falling or rising. Pulses shorter than 5 ns give no edge (their command
does not come); an edge within 5 ns of the last one stamped gives none. An input of a kind 4 entry gives a reading: the
nearest whole second less the stamp. -/
def execEdgeCapture (input : Nat) (falling : Bool) (s : State) : Host.Outcome State Fault Refusal :=
  whenUp s fun s =>
    let sel := s.get 0x5D00 input 2
    let last := s.aux .edgeAt input
    if 8 ≤ input ∨ s.get 0x5D00 input 1 = 0 ∨ (sel = 0 ∧ falling = true) ∨ (sel = 1 ∧ falling = false)
        ∨ (last ≠ 0 ∧ s.now ≤ last - 1 + 5) then s
    else
      let ps : Int := (s.now * 1000 : Nat) - toInt 32 (s.get 0x5D00 input 6)
      let n := wrapAdd 16 (s.aux .edgeCnt input) 1
      let gap : Nat := s.now - (last - 1)
      let run := if last ≠ 0 ∧ absDiff gap 1000000000 ≤ 1000 then min 3 (s.aux .edgeRun input + 1) else 1
      let s := ((s.setAux .edgeAt input 0 (s.now + 1)).setAux .edgeCnt input 0 n).setAux .edgeRun input 0 run
      let q := stampQueue s true input
      let s := if q.length < 16 then
          { s.put 0x5D00 input 4 (q.length + 1) with stamps := s.stamps ++ [⟨true, input, stampEntry input false 0 ps n⟩] }
        else
          let s := s.bump 0x5D00 input 5
          raise 3851 input (s.get 0x5D00 input 5) 0 s
      let s := select s
      let ns := ps / 1000
      let off := (ns + 500000000) / 1000000000 * 1000000000 - ns
      overAll ((List.range 8).filter fun e => srcKind s e == 4 && s.get 0x5C10 e 2 == input) (fun e s => takeReading e off s) s

/-- EDGE_QUEUE_READ (R443). -/
def execEdgeQueueRead (acc : Acc) (input : Nat) (s : State) : Host.Outcome State Fault Refusal :=
  whenUp s fun s => access acc false 0x5D00 input 3 s fun s => popStamp true input s

/-- TIMESTAMP_QUEUE_READ (R442): refused with "busy" unless the port is in mode 2. -/
def execTimestampQueueRead (acc : Acc) (port : Nat) (s : State) : Host.Outcome State Fault Refusal :=
  whenUp s fun s => access acc false 0x5D40 port 1 s fun s =>
    if s.get 0x5C40 port 1 = 2 then popStamp false port s else refuse 3 s

/-- A transmit stamp's entry (R441, R442). In mode 1 the time engine takes it from the queue at once. -/
def txEntry (e ident seq : Nat) (oneStep : Bool) (delay : Nat) (s : State) : State :=
  let q := stampQueue s false e
  if 64 ≤ q.length then raiseSec 3850 e (fun c => (c, 0)) (s.bump 0x5D40 e 3)
  else
    let s := s.bump 0x5D40 e 4
    if s.get 0x5C40 e 1 = 1 ∧ timeEngine s = true then s
    else { s.put 0x5D40 e 2 (q.length + 1) with
      stamps := s.stamps ++ [⟨false, e, stampEntry ident oneStep e (txStampPs s e delay) seq⟩] }

/-- TX_TIMESTAMP_ENTRY (R441). -/
def execTxTimestampEntry (port ident seq : Nat) (oneStep : Bool) (delay : Nat) (s : State) :
    Host.Outcome State Fault Refusal :=
  whenUp s fun s => if port < 32 ∧ s.aux .upQuad port ≠ 0 then txEntry port ident seq oneStep delay s else s

/-- A disabled port's transmit queue is emptied, its entries counted (R442). -/
def emptyTxQueue (e : Nat) (s : State) : State :=
  let n := (stampQueue s false e).length
  if n = 0 then s
  else (({ s with stamps := s.stamps.filter fun x => x.capture || x.inst != e } : State).bump 0x5D40 e 3 n).put 0x5D40 e 2 0

/-! ## 1PPS and time of day (R444, R445) -/

/-- The value of a 1PPS output's object in effect: a write takes effect at the next whole second. -/
def ppsValue (s : State) (o sub : Nat) : Nat :=
  let at' := s.aux .ppsAt o sub
  if at' ≠ 0 ∧ s.now / 1000000000 = (at' - 1) / 1000000000 then s.aux .ppsOld o sub else s.get 0x5D20 o sub

/-- A write of a 1PPS output's enable, width or offset (R444). -/
def ppsWrite (acc : Acc) (o sub v : Nat) (s : State) : State :=
  writeValue acc 0x5D20 o sub v s fun s =>
    if 3 < sub then store 0x5D20 o sub v s
    else store 0x5D20 o sub v ((s.setAux .ppsOld o sub (ppsValue s o sub)).setAux .ppsAt o sub (s.now + 1))

/-- The instant of a pulse's leading edge: the last whole second of the time base plus the offset (R444). -/
def ppsEdge (s : State) (o : Nat) : Int := (s.now / 1000000000 * 1000000000 : Nat) + toInt 32 (ppsValue s o 3)

/-- PPS_PULSE (R444): an output's pulse for the whole second that has begun. -/
def execPpsPulse (output : Nat) (s : State) : Host.Outcome State Fault Refusal :=
  whenUp s fun s =>
    if output < 2 ∧ ppsValue s output 1 = 1 ∧ !(s.get 0x5D20 output 4 == 1 && (tb s 1 == 0 || tb s 1 == 4)) then
      s.send .pps [output, ofInt 64 (ppsEdge s output), ppsValue s output 2]
    else s

/-- The pair of a lane for the first frame at or after the next whole second (R445): N and TstampN, from the lane's
transmit delay in ps and the tree's correction in ns. -/
def todPair (s : State) (t : Nat) (delay : Int) : Nat × Reg :=
  let next : Int := ((s.now / 1000000000 + 1) * 1000000000 : Nat)
  let phase : Int := (s.get 0x2000 t 4 : Nat)
  let k := (next - phase + 124999) / 125000
  let start := phase + k * 125000
  let stamp := (start * 1000 + delay + toInt 32 (s.get 0x5D80 t 4) * 1000) / 1000
  ((k % ((2 ^ 51 : Nat) : Int)).toNat, time80 stamp.toNat)

/-- The quality of the pairs (R445). -/
def todQuality (s : State) : Nat := match tb s 1 with
  | 2 => 1
  | 1 | 3 => 2
  | _ => 0

/-- TOD_PAIR_COMPUTE (R445): at each whole second, for every lane that is not disabled. -/
def execTodPairCompute (s : State) : Host.Outcome State Fault Refusal :=
  whenUp s fun s =>
    overAll (List.range s.trees) (fun t s =>
      let main := laneState s t 0 != 0
      let coex := laneState s t 1 != 0
      let s := if main then
          let p := todPair s t (toInt 32 (s.get 0x5D80 t 3))
          (s.put 0x5D80 t 1 p.1).put 0x5D80 t 2 p.2
        else s
      let s := if coex then
          let p := todPair s t (toInt 32 (s.get 0x5D80 t 6))
          (s.put 0x5D80 t 7 p.1).put 0x5D80 t 8 p.2
        else s
      if main || coex then s.put 0x5D80 t 5 (todQuality s) else s) s

end Sys2Proof.Machine
end

