-- ==== Sys2Proof/Machine/Traffic.lean ====
section
/-!
DEFINITION. Machine/Traffic.lean: meters, queue admission, the flow map and the queues' enables (spec/09 R312 to
R314, R321 to R328). A meter's buckets are kept in units of 1/8,000,000 byte, the gain of 1 kb/s in one nanosecond.
-/
namespace Sys2Proof.Machine

/-- Meter buckets filled (R323): the committed to CBS and the peak to PBS. -/
def fillMeter (m : Nat) (s : State) : State :=
  ((s.setAux .mtrC m 0 (8000000 * s.get 0x4F00 m 3)).setAux .mtrP m 0 (8000000 * s.get 0x4F00 m 5)).setAux .mtrAt m 0 s.now

/-- A write to a meter's mode, rates or bursts (R323): refused when PIR is below CIR, or when CBS or PBS is 0 while
the meter is on; else both buckets are filled. Its other objects are only stored. -/
def meterWrite (acc : Acc) (m sub : Nat) (v : Reg) (s : State) : State :=
  writeValue acc 0x4F00 m sub v s fun s =>
    if 5 < sub then store 0x4F00 m sub v s
    else
      let s' := s.put 0x4F00 m sub v
      if s'.get 0x4F00 m 4 < s'.get 0x4F00 m 2
          ∨ (s'.get 0x4F00 m 1 ≠ 0 ∧ (s'.get 0x4F00 m 3 = 0 ∨ s'.get 0x4F00 m 5 = 0)) then refuse 4 s
      else done (fillMeter m s')

/-- The colour a two-rate three-colour marker of RFC 2698 gives a packet of B bytes (R322), 0 green, 1 yellow, 2
red, and the meter's buckets after it. pre is the pre-colour of a colour-aware meter. -/
def meterColour (m len pre : Nat) (s : State) : Nat × State :=
  let counted := ((len : Int) + toInt 32 (s.get 0x4F00 m 8)).toNat
  if s.get 0x4F00 m 1 = 0 then (0, s.bump 0x4F00 m 0x0A counted)
  else
    let dt := s.now - s.aux .mtrAt m
    let full := fun sub => 8000000 * s.get 0x4F00 m sub
    let tc := min (full 3) (s.aux .mtrC m + dt * s.get 0x4F00 m 2)
    let tp := min (full 5) (s.aux .mtrP m + dt * s.get 0x4F00 m 4)
    let b := 8000000 * counted
    let pre := if s.get 0x4F00 m 1 = 2 then pre else 0
    let c := if tp < b ∨ pre = 2 then 2 else if tc < b ∨ pre = 1 then 1 else 0
    let tp := if c = 2 then tp else tp - b
    let tc := if c = 0 then tc - b else tc
    let s := ((s.setAux .mtrC m 0 tc).setAux .mtrP m 0 tp).setAux .mtrAt m 0 s.now
    (c, s.bump 0x4F00 m (0x0A + c) counted)

/-- The meter step of admission (R314 step 1, R324): none when the packet is dropped, else its colour. A drop of a
red packet is counted and summarised in event 2567. -/
def policed (meter len pre : Nat) (s : State) : Option Nat × State :=
  if meter = 0xFFFFFFFF then (some 0, s)
  else
    let (c, s) := meterColour meter len pre s
    if c = 2 ∧ s.get 0x4F00 meter 7 = 0 then (none, raiseSec 2567 meter (fun n => (n, 0)) (s.bump 0x4F00 meter 0x0D))
    else if c = 1 ∧ s.get 0x4F00 meter 6 = 1 then (none, s)
    else (some c, s)

/-- A drop at steps 3 or 4, summarised in event 2564 at most once per second per queue (R314). -/
def queueDropEvent (up : Bool) (q : Nat) (tail : Bool) (s : State) : State :=
  let key := if up then 131072 + q else q
  summarise 2564 key q (fun a b => (a, b)) (noteHit 2564 key (if tail then 0 else 1) 1 s)

/-- Steps 2 to 4 of R314 for one queue: whether a packet of L bytes and a colour may join. -/
def mayJoin (up : Bool) (q len colour : Nat) (s : State) : Bool × State :=
  let ix := qIndex up
  let depth := s.get ix q 0x17 + len
  let limit := s.get ix q 0x13
  if s.get ix q 0x11 ≠ 2 then (false, s.bump ix q 0x1C)
  else if limit < depth then (false, queueDropEvent up q true (s.bump ix q 0x19))
  else if (colour = 1 ∧ limit * s.get ix q 0x14 < 100 * depth) ∨ (colour = 2 ∧ limit * s.get ix q 0x15 < 100 * depth) then
    (false, queueDropEvent up q false (s.bump ix q 0x1A))
  else (true, s)

/-- The queues of the replicas that pass steps 2 to 4. -/
def joining (up : Bool) (len colour : Nat) : List (Nat × Nat) → State → List (Nat × Nat) × State
  | [], s => ([], s)
  | (f, q) :: l, s =>
    let (ok, s) := mayJoin up q len colour s
    let (r, s) := joining up len colour l s
    (if ok then (f, q) :: r else r, s)

/-- One stored copy for up to 8,192 replicas, each a flow and its queue (R309, R314 steps 2 to 5). -/
def storeCopy (r : Nat) (up : Bool) (targets : List (Nat × Nat)) (bytes : List Nat) (len colour pick : Nat) (dei : Bool) (s : State) : State :=
  let (ts, s) := joining up len colour targets s
  match ts with
  | [] => s
  | (_, q0) :: _ =>
    match placePacket r up q0 len pick s with
    | (none, s) => overAll ts (fun t s => s.bump (qIndex up) t.2 0x1B) s
    | (some (p, b, off), s) =>
      let s := enqueueBuffer p b ts.length s
      overAll ts (fun t s =>
        let ix := qIndex up
        let s : State := { s with pkts := s.pkts ++ [(⟨up, t.2, len, t.1, p, b, off, dei, bytes⟩ : Pkt)] }
        let s := s.put ix t.2 0x17 (s.get ix t.2 0x17 + len)
        if p = 3 then s.put ix t.2 0x18 (s.get ix t.2 0x18 + len) else s) s

/-- The groups of at most n. -/
def chunks {α : Type} (n : Nat) : Nat → List α → List (List α)
  | 0, _ => []
  | _, [] => []
  | k + 1, l => l.take n :: chunks n k (l.drop n)

/-- Admission of a packet of stored length L with its replicas in ascending flow order (R303, R309, R314); bytes is the
packet as it leaves. -/
def storePacket (r : Nat) (up : Bool) (targets : List (Nat × Nat)) (bytes : List Nat) (len meter pre : Nat) (picks : List Nat) (s : State) : State :=
  let (c, s) := policed meter len pre s
  match c with
  | none => s
  | some colour =>
    if 10240 < len then s.bump 0x4C10 r 0x0E
    else
      let dei := up && 0 < colour && meter != 0xFFFFFFFF && s.get 0x4F00 meter 9 == 1
      let groups := chunks 8192 (targets.length + 1) targets
      (groups.zipIdx).foldl (fun s g => storeCopy r up g.1 bytes len colour (picks.getD g.2 0) dei s) s

/-! ## The flow map (R312, R313) -/

/-- The class map's offset of class c (R312). -/
def classOffset (map c : Nat) : Nat := field (3 * c + 2) (3 * c) map

/-- The uplink ports behind a domain's uplink word: one port, or the members of a LAG (spec/08 R265, R269). -/
def uplinkPorts (s : State) (u : Reg) : List Nat :=
  if u = 0xFFFF then []
  else if bit 5 u then (List.range 32).filter fun e => bit e (s.get 0x44A0 (u % 32) 1)
  else [u % 32]

/-- A flow's map meets R313: 0 it does, 1 a queue or an offset is out of its range, 2 a queue or meter belongs to
another owner. A flow without an allocation has no terminal to compare. -/
def flowMapFault (s : State) (f : Nat) : Nat :=
  let o := ownerOf s 2 f
  let g := fun sub => s.get 0x4D00 f sub
  let classes := List.range 8
  let down := g 1 != 0xFFFFFFFF && classes.any fun c =>
    let q := g 1 + classOffset (g 2) c
    let node := s.get 0x4C40 q 0x12
    131072 ≤ q || node == 0xFFFFFFFF || (match flowTerminal s f with
      | some n => node / 8 != n
      | none => false)
  let up := g 3 != 0xFFFF && classes.any fun c => 255 < g 3 + classOffset (g 4) c
  let badMeter := fun m => m != 0xFFFFFFFF && 262144 ≤ m
  if down || up || badMeter (g 5) || badMeter (g 6) then 1
  else
    let ports := if s.get 0x4800 f 4 = 0xFFFF then [] else uplinkPorts s (s.get 0x4900 (s.get 0x4800 f 4) 4)
    let own := (g 1 == 0xFFFFFFFF || classes.all fun c => ownerOf s 3 (g 1 + classOffset (g 2) c) == o)
      && (g 3 == 0xFFFF || ports.all fun e => classes.all fun c =>
            ownerOf s 4 (256 * e + g 3 + classOffset (g 4) c) == o)
      && (g 5 == 0xFFFFFFFF || ownerOf s 5 (g 5) == o) && (g 6 == 0xFFFFFFFF || ownerOf s 5 (g 6) == o)
    if own then 0 else 2

/-- A flow map write (R313). -/
def flowMapWrite (acc : Acc) (f sub : Nat) (v : Reg) (s : State) : State :=
  writeValue acc 0x4D00 f sub v s fun s =>
    let s' := s.put 0x4D00 f sub v
    match flowMapFault s' f with
    | 0 => done s'
    | 1 => refuse 4 s
    | _ => refuseBinding acc 0x4D00 sub s

/-! ## The queues' enables (R325) -/

/-- A queue starts: empty, zero tokens, deficit 0. -/
def startQueue (up : Bool) (q : Nat) (s : State) : State :=
  let ix := qIndex up
  (resetBuckets ix q (((s.put ix q 0x11 2).put ix q 0x17 0).put ix q 0x18 0)).setAux .deficit 4 q 0

/-- The packets waiting in a queue. -/
def queued (s : State) (up : Bool) (q : Nat) : List Pkt := s.pkts.filter fun x => x.up == up && x.queue == q

/-- The end of a queue's drain (R325 step 3): what remains is discarded and counted, its buffers return, event
2565 reports discards, and the queue reports disabled. -/
def endQueueDrain (up : Bool) (q : Nat) (s : State) : State :=
  let ix := qIndex up
  let left := queued s up q
  let s := overAll left (fun x s => dropReplica x (takeOff x s)) s
  let s := (closePage up q (s.put ix q 0x11 0)).bump ix q 0x1E left.length
  if left.isEmpty then s else raise 2565 q left.length (left.foldl (fun n x => n + x.len) 0) s

/-- A queue's drain begins: with nothing waiting it reports disabled at once (R394). -/
def drainQueue (up : Bool) (q : Nat) (s : State) : State :=
  if s.get (qIndex up) q 0x11 = 2 then
    if (queued s up q).isEmpty then endQueueDrain up q s else s.put (qIndex up) q 0x11 1
  else s

/-- A write of a queue's enable (R325, R394, R395). -/
def queueEnableWrite (acc : Acc) (up : Bool) (q : Nat) (v : Reg) (s : State) : State :=
  writeValue acc (qIndex up) q 0x10 v s fun s =>
    if v = 1 then
      (match s.get (qIndex up) q 0x11 with
       | 0 => done (startQueue up q s)
       | 1 => refuse 3 s
       | _ => done s)
    else done (drainQueue up q s)

/-- A write of 0x4F00[m].0E resets the meter's byte and drop counters (R328). -/
def meterClear (acc : Acc) (m : Nat) (v : Reg) (s : State) : State :=
  writeValue acc 0x4F00 m 0x0E v s fun s =>
    done ((((s.put 0x4F00 m 0x0A 0).put 0x4F00 m 0x0B 0).put 0x4F00 m 0x0C 0).put 0x4F00 m 0x0D 0)

/-- METER_WRITE (R323). -/
def execMeterWrite (acc : Acc) (meter sub value : Nat) (s : State) : Host.Outcome State Fault Refusal :=
  whenUp s fun s => meterWrite acc meter sub value s

/-- METER_CLEAR (R328). -/
def execMeterClear (acc : Acc) (meter value : Nat) (s : State) : Host.Outcome State Fault Refusal :=
  whenUp s fun s => meterClear acc meter value s

/-- FLOW_MAP_WRITE (R313). -/
def execFlowMapWrite (acc : Acc) (flow sub value : Nat) (s : State) : Host.Outcome State Fault Refusal :=
  whenUp s fun s => flowMapWrite acc flow sub value s

/-- QUEUE_ENABLE (R325): writing 1 to the queue's enable. -/
def execQueueEnable (acc : Acc) (up : Bool) (queue : Nat) (s : State) : Host.Outcome State Fault Refusal :=
  whenUp s fun s => queueEnableWrite acc up queue 1 s

/-- QUEUE_DRAIN (R325): writing 0 to the queue's enable. -/
def execQueueDrain (acc : Acc) (up : Bool) (queue : Nat) (s : State) : Host.Outcome State Fault Refusal :=
  whenUp s fun s => queueEnableWrite acc up queue 0 s

/-- QUEUE_DRAIN_EXPIRY (R325): the drain of a draining queue ends. -/
def execQueueDrainExpiry (up : Bool) (queue : Nat) (s : State) : Host.Outcome State Fault Refusal :=
  whenUp s fun s => if s.get (qIndex up) queue 0x11 = 1 then endQueueDrain up queue s else s

end Sys2Proof.Machine
end

