-- ==== Sys2Proof/Machine/Lanes.lean ====
section
/-!
DEFINITION. Machine/Lanes.lean: the serial lanes' bring-up and equalisation, the uplink and management ports, and the
LAG maps (spec/10 R330 to R347; spec/01 R46; spec/08 R265).
-/
namespace Sys2Proof.Machine

/-! ## Lanes and their ports (R338, R342, R376) -/

/-- Uplink port of a lane, none when no port has it. -/
def uplinkOf (s : State) (x : Nat) : Option Nat :=
  if 32 ≤ x then none
  else (List.range 32).find? fun e => e ≤ x && x < e + s.aux .upQuad e

/-- Lanes of an uplink port. -/
def uplinkLanes (s : State) (e : Nat) : List Nat := (List.range (s.aux .upQuad e)).map fun i => e + i

/-- Lane instance of a physical lane of a Vioth port. -/
def viothLane (v l : Nat) : Nat := 32 + 9 * v + l

/-- Lanes of a Vioth port: the spare is not used in forerunner mode (R375). -/
def viothLanes (s : State) (v : Nat) : List Nat :=
  (List.range (if s.get 0x5100 v 3 = 1 then 8 else 9)).map (viothLane v)

/-- The port of a lane is enabled. -/
def laneWanted (s : State) (x : Nat) : Bool :=
  if x < 32 then (match uplinkOf s x with
    | some e => s.get 0x5090 e 2 != 0
    | none => false)
  else if x < 68 then 16 ≤ s.get 0x5100 ((x - 32) / 9) 2 && (viothLanes s ((x - 32) / 9)).contains x
  else x < 70 && s.get 0x50C0 (x - 68) 3 != 0

def laneSt (s : State) (x : Nat) : Nat := s.get 0x5000 x 1

/-- The values of an equalisation entry that a lane applies (R336): a Vioth lane in forerunner mode ignores the precoding flags,
CTLE, VGA and DFE, and any other lane the peaking filter. -/
def appliedValue (s : State) (x sub : Nat) : Nat :=
  let v := s.get 0x5000 x sub
  if 32 ≤ x ∧ x < 68 ∧ s.get 0x5100 ((x - 32) / 9) 3 = 1 then
    (if sub = 2 then putField 5 4 0 v else if sub = 5 ∨ sub = 6 ∨ sub = 7 then 0 else v)
  else if sub = 8 ∨ sub = 9 then 0 else v

/-- A lane passes into STARTING: its equalisation values are applied (R337, R338), and its precoders start anew (R331). -/
def startLane (x : Nat) (s : State) : State :=
  let s := overAll [2, 3, 4, 5, 6, 7, 8, 9] (fun sub s => s.setAux .eqIn x sub (appliedValue s x sub)) s
  let s := (s.setAux .txLevel x 0 0).setAux .rxLevel x 0 0
  (((s.put 0x5000 x 1 1).setAux .laneTries x 0 0).setAux .laneSince x 0 (s.now + 1)).setAux .laneByRef x 0 0

/-- A lane goes OFF. -/
def stopLane (x : Nat) (s : State) : State :=
  clear 2816 x (clear 2817 x ((((s.put 0x5000 x 1 0).setAux .laneSpare x 0 0).setAux .blockLock x 0 0).setAux .syncRun x 0 0))

/-- LANE_START (R338): a lane that is OFF while its port is enabled starts. -/
def execLaneStart (lane : Nat) (s : State) : Host.Outcome State Fault Refusal :=
  whenUp s fun s => if laneWanted s lane && laneSt s lane == 0 && s.aux .laneByRef lane == 0 then startLane lane s else s

/-- LANE_PLL_LOCK (R338): STARTING to SEARCHING; the transmitter sends. -/
def execLanePllLock (lane : Nat) (s : State) : Host.Outcome State Fault Refusal :=
  whenUp s fun s =>
    if lane < 70 ∧ laneSt s lane = 1 then clear 2816 lane ((s.put 0x5000 lane 1 2).setAux .lane2817 lane 0 0) else s

/-- LANE_PLL_TIMEOUT (R338): another attempt; event 2816 after the third failure. -/
def execLanePllTimeout (lane : Nat) (s : State) : Host.Outcome State Fault Refusal :=
  whenUp s fun s =>
    if lane < 70 ∧ laneSt s lane = 1 then
      let n := s.aux .laneTries lane + 1
      let s := s.setAux .laneTries lane 0 n
      if n = 3 then raise 2816 lane n 0 s else s
    else s

/-- A management port's state changes: event 2825. -/
def mgmtState (m new : Nat) (s : State) : State :=
  let old := s.get 0x50C0 m 3
  if new = old then s else raise 2825 m old new (s.put 0x50C0 m 3 new)

/-- LANE_LOCK (R338, R339): SEARCHING to LOCKED, or to SPARED when the spare carries the lane's logical lane. A
management port's one lane brings it into service (log entry 25). -/
def execLaneLock (lane : Nat) (s : State) : Host.Outcome State Fault Refusal :=
  whenUp s fun s =>
    if lane < 70 ∧ laneSt s lane = 2 then
      let s := s.put 0x5000 lane 1 (if s.aux .laneSpare lane = 1 then 4 else 3)
      let from' := s.aux .laneSince lane
      let s := if from' = 0 then s
        else (s.put 0x5000 lane 0x0D ((s.now - (from' - 1)) / 1000 % 2 ^ 32)).setAux .laneSince lane 0 0
      let s := clear 2817 lane s
      if 68 ≤ lane ∧ s.get 0x50C0 (lane - 68) 3 = 2 then mgmtState (lane - 68) 4 s else s
    else s

/-- LANE_SEARCH_TIMEOUT (R338): event 2817 once per entry to SEARCHING. -/
def execLaneSearchTimeout (lane : Nat) (s : State) : Host.Outcome State Fault Refusal :=
  whenUp s fun s =>
    if lane < 70 ∧ laneSt s lane = 2 ∧ s.aux .lane2817 lane = 0 then raise 2817 lane 0 0 (s.setAux .lane2817 lane 0 1) else s

/-- A LOCKED or SPARED lane searches again (R338). -/
def loseLock (x : Nat) (s : State) : State :=
  let s := ((s.put 0x5000 x 1 2).setAux .lane2817 x 0 0).bump32 0x5000 x 0x0E
  let s := raise 2818 x (s.get 0x5000 x 0x0E) 0 s
  if 68 ≤ x ∧ s.get 0x50C0 (x - 68) 3 = 4 then mgmtState (x - 68) 2 s else s

/-- A write of a lane's restart (R339): accepted only while the lane is SPARED. -/
def laneRestartWrite (acc : Acc) (x v : Nat) (s : State) : State :=
  writeValue acc 0x5000 x 0x0F v s fun s =>
    if laneSt s x ≠ 4 then refuse 3 s else if v = 1 then done (startLane x s) else done s

/-- LANE_RESTART (R339). -/
def execLaneRestart (acc : Acc) (lane : Nat) (s : State) : Host.Outcome State Fault Refusal :=
  whenUp s fun s => laneRestartWrite acc lane 1 s

/-- A write of a lane's equalisation (R337): while OFF, or SPARED; the entry's source becomes "written". -/
def equalisationWrite (acc : Acc) (x sub v : Nat) (s : State) : State :=
  writeValue acc 0x5000 x sub v s fun s =>
    if laneSt s x = 0 ∨ (laneSt s x = 4 ∧ 32 ≤ x) then store 0x5000 x sub v (s.put 0x5000 x 0x0A 3) else refuse 3 s

/-- EQUALISATION_WRITE (R337): a write of 0x5000[x].02 to .09. -/
def execEqualisationWrite (acc : Acc) (lane sub value : Nat) (s : State) : Host.Outcome State Fault Refusal :=
  whenUp s fun s => if 2 ≤ sub ∧ sub ≤ 9 then equalisationWrite acc lane sub value s else refuse 1 s

/-! ## LAG maps (spec/08 R265) -/

/-- The members of a LAG, in ascending port order. -/
def lagMembers (s : State) (g : Nat) : List Nat := (List.range 32).filter fun e => bit e (s.get 0x44A0 g 1)

/-- The members in service. -/
def lagLive (s : State) (g : Nat) : List Nat := (lagMembers s g).filter fun e => s.get 0x5090 e 2 == 4

/-- The buckets of a live map: the base map, with the buckets of members out of service given to the members in
service in turn. The count is of the buckets given so far. -/
def liveBuckets (members live : List Nat) : List Nat :=
  ((List.range 256).foldl (fun (p : List Nat × Nat) b =>
    let m := members.getD (b % members.length) 0
    if live.contains m then (p.1 ++ [m], p.2) else (p.1 ++ [live.getD (p.2 % live.length) 0], p.2 + 1)) ([], 0)).1

/-- A LAG's live map is recomputed (R265, R379): written by the LAG master that holds the claim; event 2319. With no
member in service the map is left as it is, and packets are dropped. -/
def lagRecompute (g : Nat) (s : State) : State :=
  let members := lagMembers s g
  let live := lagLive s g
  if s.aux .engVac 3 g = 0 then s
  else
    let mask := live.foldl (fun n e => n + 2 ^ e) 0
    let s := if live.isEmpty then s else s.put 0x44A0 g 2 (ofBytes (liveBuckets members live))
    raise 2319 g live.length 0 ((s.put 0x44A0 g 3 mask).bump 0x44A0 g 4)

/-- The LAGs that a port is in. -/
def lagsOf (s : State) (e : Nat) : List Nat := (List.range 32).filter fun g => bit e (s.get 0x44A0 g 1)

/-- A write of a LAG's members (R265): a port in two LAGs is refused, and a write that would give a flow's map a queue
of another owner (spec/09 R313). -/
def lagWrite (acc : Acc) (g v : Nat) (s : State) : State :=
  writeValue acc 0x44A0 g 1 v s fun s =>
    if (List.range 32).any fun e => bit e v && (List.range 32).any fun h => h != g && bit e (s.get 0x44A0 h 1) then refuse 4 s
    else
      let s' := store 0x44A0 g 1 v s
      if s.objs.any fun e => e.1.index == 0x4D00 && flowMapFault s' e.1.inst == 2 && flowMapFault s e.1.inst != 2
      then refuseBinding acc 0x44A0 1 s
      else lagRecompute g s'

/-! ## Uplink ports (R342 to R346) -/

/-- Lanes of the ports that a quad mode gives its quad: the port's offset in the quad and its lanes. -/
def quadPorts (mode : Nat) : List (Nat × Nat) :=
  match mode with
  | 1 => [(0, 4)]
  | 2 => [(0, 2), (2, 2)]
  | 3 => [(0, 1), (1, 1), (2, 1), (3, 1)]
  | 4 => [(0, 8)]
  | _ => []

/-- Some port of a quad is not disabled. -/
def quadBusy (s : State) (j : Nat) : Bool := (List.range 4).any fun i => s.get 0x5090 (4 * j + i) 2 != 0

/-- A quad takes a mode: the ports it creates, and none of the others. -/
def setQuad (j mode : Nat) (s : State) : State :=
  let s := overAll [0, 1, 2, 3] (fun i s => s.setAux .upQuad (4 * j + i) 0 0) (s.put 0x5080 j 1 mode)
  if mode = 4 ∧ j % 2 = 1 then s
  else overAll (quadPorts mode) (fun p s => s.setAux .upQuad (4 * j + p.1) 0 p.2) s

/-- A write of a quad mode (R342). Mode 4 sets both quads of a pair; a mode written over it leaves the other quad with
none. -/
def quadWrite (acc : Acc) (j v : Nat) (s : State) : State :=
  writeValue acc 0x5080 j 1 v s fun s =>
    let pair := j / 2 * 2 + (1 - j % 2)
    if j % 2 = 1 ∧ s.get 0x5080 pair 1 = 4 then refuse 3 s
    else if 4 < v ∨ (v = 4 ∧ j % 2 = 1) then refuse 4 s
    else if quadBusy s j || quadBusy s pair then refuse 3 s
    else
      let was := s.get 0x5080 j 1
      let s := setQuad j v s
      done (if v = 4 then setQuad pair 4 s else if was = 4 then setQuad pair 0 s else s)

/-- QUAD_MODE_WRITE (R342). -/
def execQuadModeWrite (acc : Acc) (quad value : Nat) (s : State) : Host.Outcome State Fault Refusal :=
  whenUp s fun s => quadWrite acc quad value s

/-- A port's service changes (R345): event 2819, the LAG maps, and the frequency sources on the port. -/
def serviceChanged (e new cause : Nat) (s : State) : State :=
  select (overAll (lagsOf s e) lagRecompute (raise 2819 e new cause (s.put 0x5090 e 2 new)))

/-- A draining port with nothing left reports disabled (R346): its lanes go OFF, its transmit stamps are emptied, and its PTP port
state is DISABLED (log entry 140). -/
def uplinkOff (e : Nat) (s : State) : State :=
  emptyTxQueue e (setPtpState e 3 (overAll (uplinkLanes s e) stopLane (((s.put 0x5090 e 2 0).setAux .upAlign e 0 0).setAux .announceIn e 0 0)))

/-- The packets queued for an uplink port. -/
def uplinkQueued (s : State) (e : Nat) : List Pkt := s.pkts.filter fun x => x.up && x.queue / 256 == e

/-- A draining uplink port whose queues are empty ends its drain (R346, spec/11 R394). -/
def uplinkSettled (e : Nat) (s : State) : State :=
  if s.get 0x5090 e 2 = 1 ∧ (uplinkQueued s e).isEmpty = true then uplinkOff e s else s

/-- A write of an uplink port's enable (R346). -/
def uplinkEnableWrite (acc : Acc) (e v : Nat) (s : State) : State :=
  writeValue acc 0x5090 e 1 v s fun s =>
    let st := s.get 0x5090 e 2
    if v = 1 then
      (if st = 1 then refuse 3 s else if st ≠ 0 then done s
       else done (overAll (uplinkLanes s e) startLane (s.put 0x5090 e 2 2)))
    else if st ≤ 1 then done s
    else
      let s := if st = 4 then serviceChanged e 1 4 s else s.put 0x5090 e 2 1
      done (uplinkSettled e s)

/-- UPLINK_PORT_ENABLE (R346): 1 written to 0x5090[e].01. -/
def execUplinkPortEnable (acc : Acc) (port : Nat) (s : State) : Host.Outcome State Fault Refusal :=
  whenUp s fun s => uplinkEnableWrite acc port 1 s

/-- UPLINK_PORT_DRAIN (R346): 0 written to 0x5090[e].01. -/
def execUplinkPortDrain (acc : Acc) (port : Nat) (s : State) : Host.Outcome State Fault Refusal :=
  whenUp s fun s => uplinkEnableWrite acc port 0 s

/-- UPLINK_DRAIN_EXPIRY (R346): what is still queued is discarded, counted and reported in event 2822. Queue settings
are kept. -/
def execUplinkDrainExpiry (port : Nat) (s : State) : Host.Outcome State Fault Refusal :=
  whenUp s fun s =>
    if 32 ≤ port ∨ s.get 0x5090 port 2 ≠ 1 then s
    else
      let left := uplinkQueued s port
      let s := overAll left (fun x s => dropReplica x (takeOff x s)) s
      let s := if left.isEmpty then s
        else raise 2822 port left.length (left.foldl (fun n x => n + x.len) 0) (s.bump 0x5090 port 0x11 left.length)
      uplinkOff port s

/-- A port whose hold has passed enters service (R345); in PTP mode 1 it listens for a master (spec/13 R437; log entry 140). -/
def enterService (e : Nat) (s : State) : State :=
  let s := serviceChanged e 4 0 s
  if s.get 0x5C40 e 1 = 1 then setPtpState e 4 s else s

/-- The FEC corrections of a second stand above a port's degrade threshold, with one set (R345). -/
def degraded (s : State) (e corrected : Nat) : Bool := s.get 0x5090 e 5 != 0 && s.get 0x5090 e 5 < corrected

/-- UPLINK_PCS_ALIGNED (R345): a port that is down has aligned, without local or remote fault, and with the FEC corrected symbols
of the last second within its degrade threshold; its hold starts, and a hold of 0 ends at once. -/
def execUplinkPcsAligned (aligned : Nat × Nat) (s : State) : Host.Outcome State Fault Refusal :=
  let (port, corrected) := aligned
  whenUp s fun s =>
    if 32 ≤ port ∨ s.get 0x5090 port 2 ≠ 2 ∨ degraded s port corrected = true ∨ !((uplinkLanes s port).all fun x => laneSt s x == 3) then s
    else
      let s := (s.put 0x5090 port 2 3).setAux .upAlign port 0 1
      if s.get 0x5090 port 4 = 0 then enterService port s else s

/-- UPLINK_SERVICE_HOLD_END (R345). -/
def execUplinkServiceHoldEnd (port : Nat) (s : State) : Host.Outcome State Fault Refusal :=
  whenUp s fun s => if port < 32 ∧ s.get 0x5090 port 2 = 3 then enterService port s else s

/-- UPLINK_SERVICE_LOSS (R344, R345): cause 0 alignment, 1 local fault, 2 remote fault, 3 degrade, with the FEC corrected symbols of
the last second. A port detecting a local fault sends remote fault, and one receiving remote fault sends idle. -/
def execUplinkServiceLoss (port : Nat) (loss : Nat × Nat) (s : State) : Host.Outcome State Fault Refusal :=
  let (cause, corrected) := loss
  whenUp s fun s =>
    let st := s.get 0x5090 port 2
    if 32 ≤ port ∨ 3 < cause ∨ (st ≠ 3 ∧ st ≠ 4) ∨ (cause = 3 ∧ degraded s port corrected = false) then s
    else
      let s := if cause = 2 then s.bump32 0x5090 port 0x0D else s
      let s := if cause = 3 then s else s.setAux .upAlign port 0 0
      let s := if cause = 1 then s.send .faultSignal [port, 1] else if cause = 2 then s.send .faultSignal [port, 2] else s
      if st = 4 then serviceChanged port 2 cause s else s.put 0x5090 port 2 2

/-- The EtherType of a frame. -/
def etherType (b : List Nat) : Nat := numAt b 12 2

/-- The frame check sequence of a frame that ends with it is right (R344; log entry 135). -/
def fcsOk (b : List Nat) : Bool := 4 ≤ b.length && crc32 (b.take (b.length - 4)) == leAt b (b.length - 4) 4

/-- ETHERNET_FRAME_RECEIVE (R344, R346): the MAC of an enabled port takes a frame with its FCS, with the FEC's corrections per lane
and its uncorrectable codewords since the last frame. A frame that passes goes on to a pipe, without FCS, by PACKET_INGRESS. -/
def execEthernetFrameReceive (port : Nat) (addresses payload fcs corrected : List Nat) (uncorrectable : Nat) (s : State) :
    Host.Outcome State Fault Refusal :=
  let bytes := addresses ++ payload ++ fcs
  whenUp s fun s =>
    let st := s.get 0x5090 port 2
    if 32 ≤ port ∨ s.aux .upQuad port = 0 ∨ st = 0 ∨ st = 2 then s
    else
      let s := overAll ((uplinkLanes s port).zip corrected) (fun p s => s.bump 0x5000 p.1 0x0C p.2) s
      let s := if uncorrectable = 0 then s else s.bump 0x5090 port 0x0B uncorrectable
      if st = 1 then s.bump 0x5090 port 0x10
      else if !fcsOk bytes then s.bump 0x5090 port 9
      else if bytes.length < 64 ∨ s.get 0x5090 port 3 < bytes.length then s.bump 0x5090 port 0x0A
      else if etherType bytes = 0x8808 then s.bump 0x5090 port 0x0C
      else s.bump 0x5090 port 7

/-! ## Management ports (R347; spec/14 R453) -/

/-- A write of a management port's enable (R347): its drain is a fixed 1,000 µs, in which nothing else happens. -/
def mgmtEnableWrite (acc : Acc) (m v : Nat) (s : State) : State :=
  writeValue acc 0x50C0 m 1 v s fun s =>
    if v = 1 then (if s.get 0x50C0 m 3 = 0 then done (startLane (68 + m) (mgmtState m 2 s)) else done s)
    else if s.get 0x50C0 m 3 = 0 then done s
    else done (stopLane (68 + m) (mgmtState m 0 (mgmtState m 1 s)))

/-- MGMT_PORT_ENABLE (R347). -/
def execMgmtPortEnable (acc : Acc) (port : Nat) (s : State) : Host.Outcome State Fault Refusal :=
  whenUp s fun s => mgmtEnableWrite acc port 1 s

/-- MGMT_PORT_DRAIN (R347). -/
def execMgmtPortDrain (acc : Acc) (port : Nat) (s : State) : Host.Outcome State Fault Refusal :=
  whenUp s fun s => mgmtEnableWrite acc port 0 s

/-- MGMT_FRAME_RECEIVE (R453): ARP, neighbour discovery and echo for the port's own address are answered, a UDP
datagram to the device's ROL port is taken as ROL (its message is a command of its own), every other frame goes to the
host channel of 0x1140.04 or is dropped and counted. -/
def execMgmtFrameReceive (port : Nat) (frame : MgmtFrame) (s : State) : Host.Outcome State Fault Refusal :=
  whenUp s fun s =>
    if 2 ≤ port ∨ s.get 0x50C0 port 3 ≠ 4 then s
    else
      let own := fun (v6 : Bool) (a : Nat) => a != 0 && a == s.get 0x1101 port (if v6 then 1 else 3)
      let host := if s.get 0x1140 0 4 = 0xFF then s.bump 0x1140 0 5
        else s.send .hostFrame [1, port, s.now * 1000]
      match frame with
      | .resolve v6 a | .echo v6 a => if own v6 a then s.send .mgmtReply [port, a] else host
      | .udp v6 a dst => if own v6 a && dst == s.get 0x1100 0 1 then s else host
      | .other => host

/-! ## Lane references (spec/01 R46, R56) -/

/-- The lanes of a lane reference clock: 1 LNREF0 the uplink lanes, 2 LNREF1 the Vioth and management lanes. -/
def referenceLanes (clock : Nat) : List Nat :=
  if clock = 1 then List.range 32 else if clock = 2 then (List.range 38).map (32 + ·) else []

end Sys2Proof.Machine
end

