-- ==== Sys2Proof/Machine/Egress.lean ====
section
/-!
DEFINITION. Machine/Egress.lean: a port of the scheduler sends its next packet: buffer read, cipher, framing, and the
return of the buffer (spec/09 R308, R317, R325, R326; spec/02 R63, R64; spec/07 R241; spec/12 R413).
-/
namespace Sys2Proof.Machine

/-- The port that sends for a tree: on a Type-B pair of this device its working port (spec/02 R81, R86). -/
def workingPort (s : State) (t : Nat) : Nat :=
  if s.get 0x2003 t 1 = 2 ∨ s.aux .sick t = 1 then (localPartner s t).getD t else t

/-- A port takes packets from the scheduler: a tree lane while it runs or announces (spec/02 R74, R80, R82) and no SDU waits in
its framer for the next frame (spec/02 R64), an uplink
port in service or draining (spec/10 R345, R346). -/
def portOpen (s : State) (port : Nat) : Bool :=
  if port < 96 then s.treeUp (workingPort s (port / 2)) && [2, 3].contains (laneState s (workingPort s (port / 2)) (port % 2))
    && waitingFrames s (workingPort s (port / 2)) (port % 2) == 0
  else port < 128 && [1, 4].contains (s.get 0x5090 (port - 96) 2)

/-- A poisoned deficit, token or link word that the scheduler reads (spec/12 R413): 0 stands for a deficit or token,
and a link word discards what its queue holds, as drain discards; the queue goes on empty. -/
def schedulerPoison (p : Poison) (s : State) : State :=
  match p with
  | .token index inst sub => if sub = 0 then s.setAux .deficit (levelOf index) inst 0 else s.put index inst sub 0
  | .link up q =>
    let ix := qIndex up
    let st := s.get ix q 0x11
    if st = 0 then s else (endQueueDrain up q s).put ix q 0x11 st
  | .slotCopy k => s.setAux .keyPoison k 0 1
  | _ => s

/-- A packet in a tree's framer, or its drop by the cipher (R241; spec/02 R63, R64). -/
def frameDown (port : Nat) (x : Pkt) (s : State) : State :=
  let t := port / 2
  let l := port % 2
  let terminal := match queuePath s false x.queue with
    | some path => some (path.getD 2 0)
    | none => none
  match startSdu t l (workingPort s t) x.flow terminal (x.bytes.take x.len) s with
  | (none, s) => s
  | (some d, s) =>
    sendSdu d (match (queuePath s false x.queue).bind fun path => nodeShare (path.getD 1 0) with
      | some h => s.bump 0x3820 h 0x0A x.len
      | none => s)

/-- The frame with the DEI bit of its outer tag set, provided it has one (R324). -/
def withDei (tpid : Nat) (b : List Nat) : List Nat :=
  if [0x88A8, 0x8100, tpid].contains (ofBytes ((b.drop 12).take 2)) then
    b.set 14 (setBit 4 true (b.getD 14 0))
  else b

/-- A packet leaves on an uplink port. -/
def frameUp (port : Nat) (x : Pkt) (s : State) : State :=
  let b := if x.dei then withDei (s.get 0x4490 0 2) x.bytes else x.bytes
  (s.bump 0x5090 (port - 96) 8).send .uplinkFrame ([port - 96, x.flow, b.length] ++ b)

/-- A draining queue that has become empty ends its drain (R325). -/
def queueSettled (up : Bool) (q : Nat) (s : State) : State :=
  if s.get (qIndex up) q 0x11 = 1 ∧ (queued s up q).isEmpty = true then endQueueDrain up q s else s

/-- PACKET_SELECT (R317): the port sends its next packet whole. poison names the poisoned words that its scheduling reads, and
bad says that one of the packet is. -/
def execPacketSelect (port : Nat) (poison : List Poison) (bad : Bool) (s : State) : Host.Outcome State Fault Refusal :=
  whenUp s fun s =>
    if !portOpen s port then s
    else
      let s := overAll poison schedulerPoison s
      match nextPacket port s with
      | none => s
      | some (x, s) =>
        let s := sendSelected x s
        let s := if bad then raise 2566 x.queue ((pointerOf x.pool x.buf + x.off) % 2 ^ 32) 0 (s.bump (qIndex x.up) x.queue 0x1F)
          else if port < 96 then frameDown port x s
          else frameUp port x s
        let s := queueSettled x.up x.queue (dropReplica x s)
        if port < 96 then s else uplinkSettled (port - 96) s

end Sys2Proof.Machine
end

