-- ==== Sys2Proof/Machine/Emitter.lean ====
section
/-!
DEFINITION. Machine/Emitter.lean: the grant sequencer and the map emitter: entries, refusals, seals, hold, the mute set and
what each frame sends (spec/05 R161 to R180, R191, R194; spec/01 R50).
-/
namespace Sys2Proof.Machine

/-! ## The sequencer (R163 to R166) -/

/-- The map of a lane for a frame in a list. -/
def mapOf (l : List GrantMap) (t lane m : Nat) : Option GrantMap :=
  l.find? fun g => g.tree == t && g.lane == lane && g.frame == m

/-- A list with the lane's map for a frame replaced. -/
def setMap (g : GrantMap) (l : List GrantMap) : List GrantMap :=
  l.filter (fun x => !(x.tree == g.tree && x.lane == g.lane && x.frame == g.frame)) ++ [g]

/-- The windows of a map's bursts. -/
def burstSpans (es : List Grant) : List Span := (es.filter fun g => g.kind != 1).map fun g => ⟨g.opens, g.closes⟩

/-- A span of frame g as seen from frame m. -/
def shiftSpan (l m g : Nat) (x : Span) : Span :=
  let d := framesTo m g * (frameBits l : Int)
  ⟨x.opens + d, x.closes + d⟩

/-- The maps of other frames that are staged or sealed, and those that are settled: sealed, or sent for the frame before. -/
def waitingMaps (s : State) (t l m : Nat) : List GrantMap :=
  (s.staged ++ s.sealedMaps).filter fun g => g.tree == t && g.lane == l && g.frame != m
def settledMaps (s : State) (t l m : Nat) : List GrantMap :=
  (s.sealedMaps.filter fun g => g.tree == t && g.lane == l && g.frame != m)
    ++ (s.sentMaps.filter fun g => g.tree == t && g.lane == l && g.frame == frameAdd m (-1))

/-- The quiet windows that frame m meets: those of beats sent in earlier frames that are still open, and those of beats in maps
of other frames that wait to be sent (R191 step 2). -/
def quietAround (s : State) (t l m : Nat) : List Span :=
  openQuiets s t l m ++ (waitingMaps s t l m).flatMap fun g => (beatSpans g.entries).map (shiftSpan l m g.frame)

/-- The bursts of maps of other frames, as seen from frame m. -/
def burstsOf (l m : Nat) (maps : List GrantMap) : List Span :=
  maps.flatMap fun g => (burstSpans g.entries).map (shiftSpan l m g.frame)

/-- What a new window must keep clear of: the quiet windows, and the bursts with the open slots. -/
def occupied (s : State) (t l m : Nat) (es : List Grant) : List Span × List Span :=
  let quiet := quietAround s t l m ++ beatSpans es
  let slots := if l = 0 then openSlots s t m quiet else []
  let others := burstsOf l m ((s.staged.filter fun g => g.tree == t && g.lane == l && g.frame != m) ++ settledMaps s t l m)
  (quiet, others ++ slots ++ burstSpans es)

/-- The state that an entry's terminal must be in (R166 cause 5). -/
def entryState (e : MapEntry) : Nat :=
  match e.kind with
  | 1 => if e.alloc = 1 then 2 else 4
  | 3 => 4
  | _ => 3

/-- An entry's terminal is in the state it needs; a discovery beat names none. -/
def entryTerminal (s : State) (t l : Nat) (e : MapEntry) : Bool :=
  (e.kind == 1 && (e.alloc == 0 || e.alloc == 3)) ||
    (e.onu < 512 && termState s (512 * t + e.onu) == entryState e && laneOf s (512 * t + e.onu) == l)

/-- An ONU-ID is in a tree's mute set (R173). -/
def isMuted (s : State) (t onu : Nat) : Bool := s.muted.contains (t, onu)

/-- Rounded up to a whole unit of 32 bits (R165). -/
def toUnit (x : Nat) : Nat := (x + 31) / 32 * 32

/-- The payload of the burst that the last entries form, and whether an entry of a terminal and profile may join it. -/
def lastBurst : List Grant → Nat × List Grant
  | [] => (8, [])
  | l =>
    let tail := l.reverse
    let group := tail.takeWhile fun g => g.joined
    let burst := (group ++ (tail.drop group.length).take 1).reverse
    (burst.foldl (fun n g => n + g.bytes + (if g.dbru then 4 else 0)) 8, burst)

/-- The earliest opening at or after a that keeps clear of the spans. -/
def earliest (spans : List Span) (sp len lead : Nat) : Nat → Nat → Nat
  | 0, a => a
  | n + 1, a =>
    let s0 := toUnit (a + lead)
    let w : Span := ⟨((s0 - lead : Nat) : Int), ((s0 + len : Nat) : Int)⟩
    match spans.find? fun x => w.near x sp with
    | none => a
    | some x => earliest spans sp len lead n (max (a + 1) (x.closes + sp).toNat)

/-- The placing of one entry after the accepted ones: the new list of entries, or the cause of its refusal. A beat is bound by
quiet windows and by the maps already sealed; what is staged of later steps gives way to it (R191). -/
def placeEntry (s : State) (t l m : Nat) (es : List Grant) (e : MapEntry) : Except Nat (List Grant) :=
  let (quiet, bursts) := occupied s t l m es
  let sp := spacing s t l m
  let slots := if l = 0 then (openSlots s t m quiet).length else 0
  let stop := s.aux .mapStop t l
  if blank s t l m then .error 6
  else if stop / 8 = m + 1 then .error (stop % 8)
  else if (if l = 0 then 1024 else 512) ≤ es.length + slots then .error 4
  else if !entryTerminal s t l e then .error 5
  else if e.onu ≠ 1023 ∧ isMuted s t e.onu = true then .error 7
  else if e.kind = 1 then
    let w : Span := ⟨e.opens, e.closes⟩
    if quiet.any fun q => w.near q sp then .error 3
    else if (burstsOf l m (settledMaps s t l m)).any fun x => w.near x sp
      then .error 1
    else .ok (es ++ [⟨e.onu, e.alloc, e.bytes, e.profile, e.dbru, e.ploamu, 1, e.pin.getD e.opens, e.opens, e.closes, false⟩])
  else
    let f := rateFactor s t l e.profile
    let add := e.bytes + (if e.dbru then 4 else 0)
    let (p, burst) := lastBurst es
    let clash := fun (w : Span) (others : List Span) =>
      if quiet.any fun q => w.near q sp then some 3 else if others.any fun x => w.near x sp then some 1 else none
    let joins := e.pin.isNone && (match burst.head? with
      | some g => g.kind != 1 && g.onu == e.onu && g.profile == e.profile
      | none => false)
    if joins then
      let g0 := burst.headD ⟨0, 0, 0, 0, false, false, 0, 0, 0, 0, false⟩
      let closes := g0.start + bodyBits s t l e.profile (p + add)
      let keep := es.take (es.length - burst.length)
      if frameBits l < closes then .error 2
      else
        let (_, others) := occupied s t l m keep
        match clash ⟨g0.opens, closes⟩ others with
        | some c => .error c
        | none => .ok (keep ++ (burst.map fun g => { g with closes := closes })
            ++ [⟨e.onu, e.alloc, e.bytes, e.profile, e.dbru, e.ploamu, e.kind, g0.start + f * 8 * (p - 4), g0.opens, closes, true⟩])
    else
      let lead := leadBits s t l e.profile
      let len := bodyBits s t l e.profile (8 + add)
      let s0 := match e.pin with
        | some x => toUnit x
        | none =>
          let from' := match (es.filter fun g => g.kind != 1 && g.kind != 5).getLast? with
            | some g => g.closes + sp
            | none => 0
          toUnit (earliest (quiet ++ bursts) sp len lead (quiet.length + bursts.length + 1) from' + lead)
      if frameBits l < s0 + len ∨ s0 < lead then .error 2
      else match clash ⟨((s0 - lead : Nat) : Int), ((s0 + len : Nat) : Int)⟩ bursts with
        | some c => .error c
        | none => .ok (es ++ [⟨e.onu, e.alloc, e.bytes, e.profile, e.dbru, e.ploamu, e.kind, s0, s0 - lead, s0 + len, false⟩])

/-- The tree whose seals are a role's safe points (R384): a grant role's, while maps run on one of its lanes. -/
def sealTree (s : State) (role : Nat) : Option Nat :=
  let t := role / 16 * 4 + role % 16
  if role < 192 ∧ role % 16 < 4 ∧ t < s.trees ∧ (mapsRun s t 0 || mapsRun s t 1) = true then some t else none

/-- What waits for a tree's seal (R384): the engine that carries its grant role is taken out, or the role's own engine takes it
back. -/
def atSeal (t : Nat) (s : State) : State :=
  let role := t / 4 * 16 + t % 4
  let s := match carrierOf s role with
    | some e => if s.aux .safePoint e = 1 then knell e 6 (s.setAux .safePoint e 0 0) else s
    | none => s
  if s.aux .safePoint role = 2 ∧ s.get 0x5400 role 2 = 3 then revert role (s.setAux .safePoint role 0 0) else s

/-- A map refused whole under cause 2 or 4 (spec/11 R382): no entry of it has been accepted. In two consecutive frames it is
an implausible output of the engine that holds the claim. -/
def wholeRefused (t l m : Nat) (s : State) : State :=
  if ((mapOf s.staged t l m).map fun g => g.entries.isEmpty) == some false ∨ s.aux .mapWhole t l = m + 1 then s
  else
    let again := s.aux .mapWhole t l != 0 && frameAdd (s.aux .mapWhole t l - 1) 1 == m
    let s := s.setAux .mapWhole t l (m + 1)
    match again, s.aux .engHolds 0 t with
    | true, e + 1 => knell e 4 s
    | _, _ => s

/-- A refused entry is counted and summarised in event 1538; causes 2 and 4 refuse every later one as well (R166). -/
def entryRefuse (t l m cause : Nat) (s : State) : State :=
  let s := if cause = 2 ∨ cause = 4 then wholeRefused t l m (s.setAux .mapStop t l ((m + 1) * 8 + cause)) else s
  raiseSec 1538 t (fun n => (cause, n)) ((s.bump 0x3600 t 0x0B).put 0x3600 t 0x12 cause)

/-- An entry placed in a frame's staged map, or refused (R165, R166). -/
def putEntry (t l m : Nat) (e : MapEntry) (s : State) : State :=
  let g := (mapOf s.staged t l m).getD ⟨t, l, m, []⟩
  match placeEntry s t l m g.entries e with
  | .ok es => { s with staged := setMap { g with entries := es } s.staged }
  | .error c => entryRefuse t l m c s

/-- A cooperative grant put out of its place by a beat looks for the first free window after it in its map; without one it is
refused, and its bytes are no longer pending. -/
def moveCoop (t m : Nat) (e : Grant) (s : State) : State :=
  let es := ((mapOf s.staged t 0 m).map fun g => g.entries).getD []
  let (quiet, bursts) := occupied s t 0 m es
  let a := earliest (quiet ++ bursts) (spacing s t 0 m) (e.closes - e.start) (e.start - e.opens) (quiet.length + bursts.length + 1) e.opens
  let again : MapEntry := ⟨e.onu, e.alloc, e.bytes, e.profile, e.dbru, e.ploamu, 5, some (a + (e.start - e.opens)), 0, 0⟩
  match placeEntry s t 0 m es again with
  | .ok es => { s with staged := setMap ⟨t, 0, m, es⟩ s.staged }
  | .error _ => coopDropped t [e] (entryRefuse t 0 m 3 s)

/-- Entries that are staged and lie too near a beat's quiet window give way to it (R191): a cooperative grant moves, any other is
refused with cause 3. -/
def giveWay (t l m : Nat) (w : Span) (s : State) : State :=
  overAll (s.staged.filter fun g => g.tree == t && g.lane == l) (fun g s =>
    let near := fun e : Grant => e.kind != 1 && w.near (shiftSpan l m g.frame ⟨e.opens, e.closes⟩) (spacing s t l g.frame)
    match g.entries.filter near with
    | [] => s
    | out =>
      let s : State := { s with staged := s.staged.map fun x => if x = g then { g with entries := g.entries.filter fun e => !near e } else x }
      overAll out (fun e s => if e.kind = 5 then moveCoop t g.frame e s else entryRefuse t l g.frame 3 s) s) s

/-- The profile of an entry is its terminal's current one (spec/06 R224); a beat's is the activation profile of its tree. -/
def withProfile (s : State) (t : Nat) (e : MapEntry) : MapEntry :=
  if e.kind = 1 ∨ 512 ≤ e.onu then e else { e with profile := s.get 0x3900 (512 * t + e.onu) 1 }

/-- An entry staged for a frame's map, or refused (R165, R166, R191). -/
def stageEntry (t l m : Nat) (e : MapEntry) (s : State) : State :=
  let s' := putEntry t l m (withProfile s t e) s
  if e.kind = 1 ∧ s'.staged ≠ s.staged then giveWay t l m ⟨e.opens, e.closes⟩ s' else s'

/-- MAP_ENTRY_WRITE (R171): an entry written to the emitter by a unit under a claim. -/
def execMapEntryWrite (tree lane frame claim unit : Nat) (entry : MapEntry) (s : State) : Host.Outcome State Fault Refusal :=
  whenUp s fun s =>
    if s.trees ≤ tree ∨ 1 < lane then s
    else
      let (ok, s) := offer 0 tree claim unit s
      if ok then stageEntry tree lane frame entry s else s

/-! ## Seals (R172, R206, R212) -/

/-- Bytes granted to an allocation in a map. -/
def grantedIn (s : State) (a : Nat) (g : GrantMap) : Nat :=
  let id := s.get 0x3400 a 3
  g.entries.foldl (fun n e => if e.kind != 1 && e.kind != 0 && e.alloc == id then n + e.bytes else n) 0

/-- The bytes a sealed map charges an owner (R206), with the flam grants of the frame before. -/
def chargedTo (s : State) (g : GrantMap) (owner : Nat) : Nat :=
  g.entries.foldl (fun n e => if e.kind = 2 ∨ e.kind = 5 ∨ e.kind = 6 then
      (match allocOf s g.tree e.alloc with
       | some a => if ownerOf s 1 a = owner then n + e.bytes else n
       | none => n) else n) (if g.lane = 0 then s.aux .flamBytes g.tree owner else 0)

/-- The counts of a sealed map: allocations, shares charged, lent and borrowed (R206, R212). -/
def sealCounts (g : GrantMap) (s : State) : State :=
  let s := overAll (g.entries.filter fun e => e.kind != 1 && e.kind != 0) (fun e s =>
    match allocOf s g.tree e.alloc with
    | none => s
    | some a =>
      let s := (s.bump 0x3400 a 0x0C e.bytes).bump 0x3400 a 0x0D
      s.put 0x3400 a 0x0A (s.get 0x3400 a 0x0A - e.bytes)) s
  let i := 2 * g.tree + g.lane
  let charged := (List.range 17).map fun o => chargedTo s g o
  let guar := fun o => if o < 16 then s.get 0x3820 (96 * o + i) 1 else 0
  let borrowed := fun o => charged.getD o 0 - guar o
  let total := (List.range 17).foldl (fun n o => n + borrowed o) 0
  let order := (List.range 16).map fun k => (g.frame + k) % 16
  let s := (order.foldl (fun (p : Nat × State) o =>
    let h := 96 * o + i
    let lent := min (guar o - charged.getD o 0) p.1
    (p.1 - lent, ((p.2.bump 0x3820 h 5 (charged.getD o 0)).bump 0x3820 h 6 lent).bump 0x3820 h 7 (borrowed o))) (total, s)).2
  if g.lane = 0 then overAll (List.range 17) (fun o s =>
      let full := o < 16 && s.get 0x3820 (96 * o + i) 2 ≤ charged.getD o 0
      s.setAux .roomless g.tree o (if full then g.frame + 1 else 0)) s
    else s

/-- The requests of a sealed map (R170): a DBRu of each allocation, a PLOAMu grant of each terminal. -/
def sealRequests (g : GrantMap) (s : State) : State :=
  overAll (g.entries.filter fun e => e.kind != 1 && e.kind != 0) (fun e s =>
    let s := match allocOf s g.tree e.alloc with
      | some a => if e.dbru then s.setAux .dbruAt a 0 (g.frame + 1) else s
      | none => s
    let n := 512 * g.tree + e.onu
    if e.ploamu ∧ e.onu < 512 then (s.setAux .ploamuAt n 0 (g.frame + 1)).setAux .ploamWant n 0 0 else s) s

/-- A frame without an accepted seal is counted once in the hold run (R174). -/
def countHold (t l m : Nat) (s : State) : State :=
  if s.aux .holdFor t l = m + 1 then s
  else (((s.setAux .holdFor t l (m + 1)).incAux .holdRun t l).incAux .holdLost t l)

/-- Cooperative bytes staged for an allocation in a map. -/
def coopStaged (s : State) (t m a : Nat) : Nat :=
  (((mapOf s.staged t 0 m).map fun g => g.entries).getD []).foldl (fun n e =>
    if e.kind = 5 ∧ e.alloc = s.get 0x3400 a 3 then n + e.bytes else n) 0

/-- Cooperative bytes staged of an allocation, in every map. -/
def coopWaiting (s : State) (a : Nat) : Nat :=
  s.staged.foldl (fun k g => if g.tree = a / 1024 ∧ g.lane = 0 then k + coopStaged s g.tree g.frame a else k) 0

/-- A binding's drain ends at the next seal (R397): what is staged for later maps is discarded and counted. -/
def endCoopDrain (c : Nat) (s : State) : State :=
  let a := s.get 0x3700 c 3
  let n := if a = 0xFFFFFFFF then 0 else coopWaiting s a
  let s : State := { s with staged := s.staged.map fun g =>
    if g.tree = a / 1024 ∧ g.lane = 0 then
      { g with entries := g.entries.filter fun e => !(e.kind == 5 && e.alloc == s.get 0x3400 a 3) } else g }
  ((((s.put 0x3700 c 1 0).setAux .coopDrain c 0 0).bump 0x3700 c 8 n)).setAux .coopPend c 0 (s.aux .coopPend c - n)

/-- The bindings of a tree whose drain a seal ends. -/
def coopSealed (t : Nat) (s : State) : State :=
  overAll ((List.range 1024).filter fun c => s.aux .coopDrain c == 1 && s.get 0x3700 c 3 / 1024 == t) endCoopDrain s

/-- A grant to a terminal that is draining: no map or bulletin sealed afterwards holds it (spec/04 R149). -/
def drainsOnu (s : State) (t onu : Nat) : Bool := onu < 512 && termState s (512 * t + onu) == 7
def drains (s : State) (t : Nat) (e : Grant) : Bool := e.kind != 0 && e.kind != 1 && drainsOnu s t e.onu

/-- MAP_SEAL (R172): by the deadline, for the next frame, matching and under the accepted claim; else late, or without
effect. -/
def execMapSeal (tree lane frame count claim unit : Nat) (s : State) : Host.Outcome State Fault Refusal :=
  whenUp s fun s =>
    if s.trees ≤ tree ∨ 1 < lane then s
    else
      let (ok, s) := offer 0 tree claim unit s
      if !ok then s
      else
        let next := frameAdd (frameNow s tree) 1
        let d := toInt 16 (frame + 65536 - next % 65536)
        let lateness := (s.now : Int) - frameStart s tree - d * 125000 - 117000
        if 0 < lateness ∨ (d = 0 ∧ s.aux .holdFor tree lane = next + 1) then
          raise 1539 tree lane lateness.toNat (s.bump 0x3600 tree 0x0C)
        else if d ≠ 0 then s
        else
          let g := (mapOf s.staged tree lane next).getD ⟨tree, lane, next, []⟩
          if g.entries.length ≠ count then s
          else
            let s := coopDropped tree (g.entries.filter (drains s tree)) s
            let g := { g with entries := g.entries.filter fun e => !drains s tree e }
            let s : State := { s with
              sealedMaps := setMap g s.sealedMaps
              staged := s.staged.filter fun x => !(x.tree == tree && x.lane == lane && x.frame == next) }
            let s := sealRequests g (sealCounts g s)
            atSeal tree (if lane = 0 then coopSealed tree s else s)

/-- SEAL_DEADLINE (R174): no seal has been accepted for the next frame. -/
def execSealDeadline (tree lane : Nat) (s : State) : Host.Outcome State Fault Refusal :=
  whenUp s fun s =>
    let next := frameAdd (frameNow s tree) 1
    if s.trees ≤ tree ∨ 1 < lane ∨ !(mapsRun s tree lane) ∨ (mapOf s.sealedMaps tree lane next).isSome = true then s
    else countHold tree lane next s

/-! ## The mute set (R173) -/

/-- An ONU-ID enters or leaves a tree's mute set. -/
def mute (t onu : Nat) (on : Bool) (s : State) : State :=
  let rest := s.muted.filter fun x => x != (t, onu)
  let s : State := { s with muted := if on then rest ++ [(t, onu)] else rest }
  s.put 0x3600 t 0x15 (s.muted.countP fun x => x.1 == t)

/-- MUTE_SET_CHANGE (R173). -/
def execMuteSetChange (tree onu : Nat) (set : Bool) (s : State) : Host.Outcome State Fault Refusal :=
  whenUp s fun s => if tree < s.trees ∧ onu < 1024 then mute tree onu set s else s

/-! ## Sending (R173 to R176, R180, R194; spec/01 R50) -/

/-- What a map line shows of a grant. -/
def grantArgs (g : Grant) : List Reg :=
  [g.onu, g.alloc, g.start, g.bytes, g.profile, (if g.dbru then 1 else 0) + (if g.ploamu then 2 else 0), g.opens, g.closes]

/-- One cage pin interval. -/
def sendPin (t pin m : Nat) (rise fall : Int) (s : State) : State :=
  s.send .cage [t, pin, m, ofInt 64 rise, ofInt 64 fall]

/-- The burst-enable intervals with those that touch or overlap made one (R50). -/
def joinIntervals : List (Int × Int) → List (Int × Int)
  | [] => []
  | x :: r => match joinIntervals r with
    | [] => [x]
    | y :: l => if y.1 ≤ x.2 then (x.1, max x.2 y.2) :: l else x :: y :: l

/-- The cage pins of the granted windows of a map (R50), in opening order, in bits at 49.7664 Gb/s: the pins' grid is 32 bits
at that rate for both lanes (spec/01, Module-cage timing). The drift guard of 16 bits that widens a window is the main lane's
hunt guard. DESIGN CHOICE (log entry 106): in a post-switch frame the window is widened by the post-switch guard, which the
receiver hunts with (R87). -/
def cagePins (t l m : Nat) (es : List Grant) (s : State) : State :=
  let g : Int := if l = 0 then (huntGuard s t l m : Int) else 16
  let ws := sortBy (fun a b => a.1 ≤ b.1)
    (((es.filter fun e => e.kind != 0).map fun e => (mainBits l e.opens - g, mainBits l e.closes + g)).eraseDups)
  let pin := fun sub => (s.get 0x5E80 t sub : Int) * 32
  if l = 0 then
    let s := overAll ws (fun w s => sendPin t 0 m (w.1 - pin 1) (w.1 - pin 1 + pin 2) s) s
    overAll (joinIntervals (ws.map fun w => (w.1 - pin 3, w.2 + pin 4))) (fun w s => sendPin t 1 m w.1 w.2 s) s
  else overAll ws (fun w s => sendPin t 2 m (w.1 - pin 7) (w.1 - pin 7 + pin 8) s) s

/-- The held map of frame M from the previous one (R175). -/
def heldEntries (s : State) (t l m : Nat) : List Grant :=
  match (s.sentMaps.filter fun g => g.tree == t && g.lane == l).head? with
  | none => []
  | some g =>
    let quiet := openQuiets s t l m
    g.entries.filter fun e => e.kind != 0 && e.kind != 1
      && !(quiet.any fun q => (⟨e.opens, e.closes⟩ : Span).near q (spacing s t l m))

/-- The frames of sent maps that are kept. -/
def mapsKept : Nat := 64

/-- A recovery discovery beat has been sent: the one before it was empty when it received no serial number (spec/04 R156). -/
def recoverySent (t m : Nat) (s : State) : State :=
  let empty := if s.aux .recBeats t = 0 ∨ s.aux .recHeard t = 1 then 0 else s.aux .recEmpty t + 1
  (((s.setAux .recEmpty t 0 empty).setAux .recHeard t 0 0).incAux .recBeats t).setAux .recAt t 0 (m + 1)

/-- A beat that has been sent fresh is no longer due (R193; spec/04 R137): the receiver waits for what it brings. -/
def beatSent (t l m : Nat) (e : Grant) (s : State) : State :=
  let n := if e.alloc = 1 ∨ e.alloc = 2 then 512 * t + e.onu else 0xFFFF
  let s : State := { s with beats := s.beats.filter fun b =>
    !(b.tree == t && b.lane == l && b.kind == e.alloc && b.terminal == n && b.placed == m + 1) }
  if e.alloc = 1 ∨ e.alloc = 2 then s.setAux .beatOut n 0 (m + 1)
  else
    let s := (((s.bump 0x3101 t 1).setAux .discOut t l (e.alloc + 1)).setAux .discHeard t l 0)
    if e.alloc = 3 then recoverySent t m s else s

/-- A map goes out: the mute set and a blank frame's rule applied, the open slots of the frame's layout added, the quiet
windows of its beats noted, and the burst receiver given exactly what is sent, in upstream order (R165, R173, R175, R176, R178,
R180). -/
def emitMap (t l m kind : Nat) (es : List Grant) (s : State) : State :=
  let drop := fun e : Grant => blank s t l m || (e.onu != 1023 && isMuted s t e.onu)
  let s := if kind = 0 then coopDropped t (es.filter drop) s else s
  let es := es.filter fun e => !drop e
  let beats := (es.filter fun e => e.kind == 1).map fun e =>
    (⟨t, l, e.alloc, if e.onu < 512 then 512 * t + e.onu else 0xFFFF, m, e.opens, e.closes⟩ : Quiet)
  let slots := if l = 0 then slotGrants s t (openSlots s t m (openQuiets s t l m ++ beatSpans es)) else []
  let all := sortBy (fun a b => a.opens ≤ b.opens) (slots ++ es)
  let s : State := { s with
    sentMaps := ⟨t, l, m, all⟩ :: s.sentMaps.filter fun g =>
      !(g.tree == t && g.lane == l) || (framesTo g.frame m < (mapsKept : Int) && 0 < framesTo g.frame m)
    quiets := s.quiets ++ beats }
  let s := if kind = 1 then s.setAux .heldAt t (64 * l + m % 64) (m + 1) else s
  let s := s.send .map ([t, l, m, kind] ++ all.flatMap grantArgs)
  let s := overAll (es.filter fun e => e.kind == 1) (beatSent t l m) s
  cagePins t l m es (s.bump 0x3600 t (8 + kind))

/-- The hold frame shown (0x3600[t].14), and events 1536 and 1537 cleared with the last hold run of the tree. -/
def holdShown (t : Nat) (s : State) : State :=
  let h := max (s.aux .holdRun t 0) (s.aux .holdRun t 1)
  let s := s.put 0x3600 t 0x14 (min 255 h)
  if h = 0 then clear 1537 t (clear 1536 t s) else s

/-- A lane's hold run ends. -/
def endHold (t l : Nat) (s : State) : State := holdShown t ((s.setAux .holdRun t l 0).setAux .holdLost t l 0)

/-- FRAME_MAP_SEND (R174, R175, R194): the map of frame M on a lane; a lane that sends no frames drops what was sealed for
it. -/
def mapSend (t l m : Nat) (s : State) : State :=
  let sealed? := mapOf s.sealedMaps t l m
  let old := fun g : GrantMap => g.tree == t && g.lane == l && framesTo g.frame m ≥ 0
  let s := overAll (s.staged.filter old) (fun g s => coopDropped t g.entries s) s
  let s := if mapsRun s t l then s else coopDropped t ((sealed?.map fun g => g.entries).getD []) s
  let s : State := { s with
    sealedMaps := s.sealedMaps.filter fun g => !(g.tree == t && g.lane == l && framesTo g.frame m ≥ 0)
    staged := s.staged.filter fun g => !(g.tree == t && g.lane == l && framesTo g.frame m ≥ 0)
    plan := s.plan.filter fun g => !(g.tree == t && g.lane == l && framesTo g.frame m ≥ 0)
    dues := s.dues.filter fun g => !(g.tree == t && g.lane == l && framesTo g.frame m ≥ 0) }
  if !mapsRun s t l then s
  else match sealed? with
    | some g => emitMap t l m 0 g.entries (endHold t l s)
    | none =>
      if l = 0 ∧ s.aux .postAt t = m + 1 then emitMap t l m 2 [] s
      else
        let s := countHold t l m s
        let h := s.aux .holdRun t l
        let s := holdShown t s
        if h ≤ 2 then raise 1536 t l h (emitMap t l m 1 (heldEntries s t l m) s)
        else
          let s := emitMap t l m 2 [] s
          if h = 3 then raise 1537 t l (s.aux .holdLost t l) s else s

end Sys2Proof.Machine
end

