-- ==== Sys2Proof/Machine/Work.lean ====
section
/-!
DEFINITION. Machine/Work.lean: where upstream frames lie in time, and the work in flight of terminals and allocations: what
a drain waits for, and what it discards (spec/04 R133, R149; spec/11 R394, R397).
-/
namespace Sys2Proof.Machine

/-! ## Upstream frames in time (R133) -/

/-- The equalisation target Teqd of a tree in bits at 49.7664 Gb/s, rounded up (R133; 0x3100[t].15). -/
def teqd (s : State) (t : Nat) : Nat :=
  let milli := 2 * s.get 0x3100 t 4 * (s.get 0x3100 t 3 + s.get 0x3100 t 0x0F) + 1000 * s.get 0x3100 t 6
  ceilDiv (milli * 6220800) 125000000

/-- The instant, in ns, at which a position of upstream frame M, in bits at 49.7664 Gb/s, reaches the device. -/
def upstreamAt (s : State) (t m : Nat) (pos : Int) : Int :=
  frameStart s t + framesTo (frameNow s t) m * 125000 + ((teqd s t : Int) + pos) * 125000 / 6220800

/-- A granted window of upstream frame M has not closed yet, widened by the guard. -/
def windowOpen (s : State) (t l m : Nat) (g : Grant) : Bool :=
  (s.now : Int) < upstreamAt s t m (mainBits l ((g.closes : Int) + (huntGuard s t l m : Int)))

/-- A granted window of the maps and bulletins sent, not closed yet, that a predicate takes. -/
def windowsOpen (s : State) (t : Nat) (p : Grant → Bool) : Bool :=
  s.sentMaps.any fun g => g.tree == t && g.entries.any fun e => e.kind != 0 && p e && windowOpen s t g.lane g.frame e

/-! ## Discards -/

/-- Downstream packets discarded from their queues: how many. -/
def dropPackets (p : Pkt → Bool) (s : State) : Nat × State :=
  let l := s.pkts.filter fun x => !x.up && p x
  (l.length, overAll l (fun x s => queueSettled x.up x.queue (dropReplica x (takeOff x s))) s)

/-- Words of a record that the parser has not read. -/
def Record.unread (r : Record) : Nat := r.words - r.read

/-- Committed records discarded unread: how many records and SDU bytes. Patch markers stay. -/
def dropRecords (p : Record → Bool) (s : State) : Nat × Nat × State :=
  let q := fun r : Record => !r.marker && p r
  let l := s.fifo.filter q
  let s : State := { s with fifo := s.fifo.filter fun r => !q r }
  (l.length, l.foldl (fun n r => n + r.bytes.length) 0,
    overAll l (fun r s => s.put 0x2008 r.tree 2 (s.get 0x2008 r.tree 2 - r.unread)) s)

/-- SDUs that wait in the framer are discarded: how many. -/
def dropFramed (p : DownSdu → Bool) (s : State) : Nat × State :=
  let l := s.downWait.filter p
  (l.length, overAll l (fun x s => endSdu x x.bytes.length s) { s with downWait := s.downWait.filter fun x => !p x })

/-- Records that wait in the coexistence staging buffer are discarded: how many. -/
def dropStaged (p : Record → Bool) (s : State) : Nat × State :=
  ((s.coexStage.filter p).length, { s with coexStage := s.coexStage.filter fun r => !p r })

/-! ## Work in flight (R149, R397) -/

/-- The allocation of a flow. -/
def flowAlloc (s : State) (f : Nat) : Nat := s.get 0x4800 f 3

/-- The terminal that a flow's allocation belongs to, 0xFFFF for none. -/
def flowOwnerTerminal (s : State) (f : Nat) : Nat := (flowTerminal s f).getD 0xFFFF

/-- The work in flight of an allocation (R397). -/
def allocWork (s : State) (a : Nat) : Bool :=
  (s.pkts.any fun x => !x.up && flowAlloc s x.flow == a)
    || (s.downWait.any fun x => flowAlloc s x.flow == a)
    || ((s.fifo ++ s.coexStage).any fun r => !r.marker && flowAlloc s r.flow == a)
    || (windowsOpen s (a / 1024) fun g => g.kind != 1 && g.alloc == s.get 0x3400 a 3)

/-- The work in flight of a terminal (R149). -/
def terminalWork (s : State) (n : Nat) : Bool :=
  (s.pkts.any fun x => !x.up && flowOwnerTerminal s x.flow == n)
    || (s.downWait.any fun x => flowOwnerTerminal s x.flow == n)
    || ((s.fifo ++ s.coexStage).any fun r => !r.marker && r.tree == n / 512 && r.onu == n % 512)
    || (windowsOpen s (n / 512) fun g => g.kind != 1 && g.onu == n % 512)

/-- What remains of an allocation's work is discarded: how many SDUs and records. -/
def dropAllocWork (a : Nat) (s : State) : Nat × State :=
  let (n, s) := dropPackets (fun x => flowAlloc s x.flow == a) s
  let (k, _, s) := dropRecords (fun r => flowAlloc s r.flow == a) s
  let (j, s) := dropFramed (fun x => flowAlloc s x.flow == a) s
  let (i, s) := dropStaged (fun r => flowAlloc s r.flow == a) s
  (n + k + j + i, { s with sdus := s.sdus.filter fun x => flowAlloc s x.flow != a })

/-- The downstream queues bound to a terminal's class nodes. -/
def terminalQueues (s : State) (n : Nat) : List Nat :=
  s.objs.filterMap fun e =>
    if e.1.index == 0x4C40 && e.1.sub == 0x12 && e.2 != 0xFFFFFFFF && e.2 / 8 == n then some e.1.inst else none

/-- A draining terminal drains its queues (spec/09 R325). -/
def drainTerminalQueues (n : Nat) (s : State) : State := overAll (terminalQueues s n) (drainQueue false) s

/-- The end of its queues' drains. -/
def endTerminalQueues (n : Nat) (s : State) : State :=
  overAll ((terminalQueues s n).filter fun q => s.get 0x4C40 q 0x11 == 1) (endQueueDrain false) s

/-- What remains of a terminal's work is discarded. -/
def dropTerminalWork (n : Nat) (s : State) : Nat × State :=
  let before := s.pkts.countP fun x => !x.up && flowOwnerTerminal s x.flow == n
  let (_, s) := dropPackets (fun x => flowOwnerTerminal s x.flow == n) (endTerminalQueues n s)
  let (k, _, s) := dropRecords (fun r => r.tree == n / 512 && r.onu == n % 512) s
  let (i, s) := dropFramed (fun x => flowOwnerTerminal s x.flow == n) s
  let (h, s) := dropStaged (fun r => r.tree == n / 512 && r.onu == n % 512) s
  (before + k + i + h, { s with sdus := s.sdus.filter fun x => !(x.tree == n / 512 && x.onu == n % 512) })

end Sys2Proof.Machine
end

