-- ==== Sys2Proof/Machine/Terminals.lean ====
section
/-!
DEFINITION. Machine/Terminals.lean: the terminal state machine's changes of state, the terminal mirror, drains, and the
equalisation delay (spec/04 R120 to R125, R135, R141, R144, R149; spec/02 R84; spec/11 R402).
-/
namespace Sys2Proof.Machine

/-! ## The terminal mirror (spec/02 R84, spec/11 R402 types 3 and 4) -/

/-- The distance of a response delay in m (R141). -/
def distance (s : State) (t d : Nat) : Nat :=
  let g := fun sub => s.get 0x3100 t sub
  (((d : Int) * 125000000 / 6220800 - 500 * ((g 5 + g 6 : Nat) : Int)) / (2 * (max 1 (g 4) : Nat) : Int)).toNat

/-- A terminal's mirror taken by the standby tree: no state machine runs there, so no event is raised. -/
def takeMirror (n st lane eqd d serial prof caps : Nat) (s : State) : State :=
  let held := s.get 0x3102 0 1
  let s := if termState s n = 0 ∧ st ≠ 0 then s.put 0x3102 0 1 (held + 1)
    else if termState s n ≠ 0 ∧ st = 0 then s.put 0x3102 0 1 (held - 1) else s
  let s := overAll [(1, if st = 0 then 0 else 1), (2, serial), (4, st), (5, if st < 2 then 0xFFFF else n % 512), (6, eqd), (8, d), (9, caps),
    (0x0F, lane)] (fun p s => s.put 0x3000 n p.1 p.2) s
  (s.put 0x3000 n 7 (distance s (n / 512) d)).put 0x3900 n 1 prof

/-- A terminal's change goes to the standby port's mirror (R121). -/
def mirrorTerminal (n : Nat) (s : State) : State :=
  let t := n / 512
  let k := n % 512
  let g := fun sub => s.get 0x3000 n sub
  if s.get 0x2003 t 1 ≠ 1 then s
  else match localPartner s t, remotePartner s t with
    | some p, _ => takeMirror (512 * p + k) (g 4) (g 0x0F) (g 6) (g 8) (g 2) (s.get 0x3900 n 1) (g 9) s
    | _, some (m, p) => sendMirror m 3 0 ([t, p] ++ bytesOf 2 k ++ [g 4, g 0x0F] ++ bytesOf 4 (g 6) ++ bytesOf 4 (g 8) ++ bytesOf 8 (g 2)
        ++ [s.get 0x3900 n 1, g 9]) s
    | _, _ => s

/-! ## Changes of state (R123) -/

/-- What a terminal leaves behind with a state: in OPERATION its exchanges, awaited answers and runs, in DARK the event, in MUFFLED
its muffling state (event 1041 stays until the release, R160), and every beat that is due for it. -/
def leaveState (n old : Nat) (s : State) : State :=
  let s : State := { s with beats := s.beats.filter fun b => b.terminal != n || b.kind == 0 || b.kind == 3 }
  let s := s.setAux .beatOut n 0 0
  match old with
  | 3 => overAll [Aux.regTries, .capTries, .lossRun, .lossAt, .driftLen, .driftSum, .driftHold] (fun a s => s.setAux a n 0 0) (dropExchange n s)
  | 4 => clear 1030 n (s.setAux .keepAlive n 0 0)
  | 6 => s.put 0x3000 n 0x0A 0
  | _ => s

/-- The provisioned allocations of a terminal. -/
def allocsOf (s : State) (n : Nat) : List Nat :=
  s.objs.filterMap fun e =>
    if e.1.index == 0x3400 && e.1.sub == 2 && e.2 == n && s.get 0x3400 e.1.inst 1 == 1 then some e.1.inst else none

/-- A terminal takes a state: event 1024, its ONU-ID, the count of terminals held, and the mirror (R120, R121, R123,
R128, R173). -/
def setTermState (n st : Nat) (s : State) : State :=
  let old := termState s n
  if old = st then s
  else
    let s := leaveState n old s
    let s := (s.put 0x3000 n 4 st).put 0x3000 n 0x0E (time80 s.now)
    let s := if st < 2 then s.put 0x3000 n 5 0xFFFF else if st = 2 then s.put 0x3000 n 5 (n % 512) else s
    let s := if old = 0 then s.put 0x3102 0 1 (s.get 0x3102 0 1 + 1) else if st = 0 then s.put 0x3102 0 1 (s.get 0x3102 0 1 - 1) else s
    let s := if st = 2 then mute (n / 512) (n % 512) false s else s
    let s := if st ≤ 2 then overAll (allocsOf s n) (fun a s => (s.put 0x3400 a 0x10 0).setAux .allocSeq a 0 0) s else s
    let s := raise 1024 n old st s
    let s := if st = 3 then exchangesAtEntry n (profileAtOperation n s) else s
    mirrorTerminal n s

/-- An event that the state table does not list for the terminal's state (R123). -/
def ignoreEvent (t : Nat) (s : State) : State := s.bump 0x3101 t 9

/-- A PLOAM message for a terminal by its ONU-ID. -/
def tell (n : Nat) (k : PloamKind) (args : List Nat) (s : State) : State :=
  queuePloam (n / 512) (laneOf s n) (n % 512) k args s

/-- Assign_Alloc-ID of an allocation is sent to its terminal; 0x3400[a].10 shows its acknowledgement (spec/05 R197; log entry 92). -/
def assignAlloc (n a : Nat) (s : State) : State := tell n .assignAllocId [s.get 0x3400 a 3, a] (s.put 0x3400 a 0x10 0)

/-- Disable_Serial_Number of a terminal, sent to every terminal (log entry 37), ahead of other messages (R153). -/
def tellSerial (n : Nat) (enable : Bool) (s : State) : State :=
  queuePloam (n / 512) (laneOf s n) 1023 (if enable then .enable else .disable) [n % 512, s.get 0x3000 n 2] s true

/-- Deactivate_ONU-ID is sent and the terminal passes to WAITING with a cause. -/
def deactivate (n cause : Nat) (s : State) : State :=
  setTermState n 1 ((tell n .deactivate [] s).put 0x3000 n 0x10 cause)

/-- A terminal goes DARK with a cause (R146, R147). -/
def goDark (n cause : Nat) (s : State) : State :=
  let s := setTermState n 4 s
  raise 1030 n cause 0 (((s.setAux .keepAlive n 0 1).setAux .darkAt n 0 (s.now + 1)).setAux .darkCause n 0 cause)

/-- A lane that has become disabled (R125): its terminals in RANGING, OPERATION or DARK pass to WAITING. -/
def laneToWaiting (t l : Nat) (s : State) : State :=
  overAll ((termsIn s t 2 ++ termsIn s t 3 ++ termsIn s t 4).filter fun n => laneOf s n == l)
    (fun n s => setTermState n 1 (s.put 0x3000 n 0x10 6)) s

/-! ## Draining (R149) -/

/-- The end of a terminal's drain: what remains is counted, Deactivate_ONU-ID is sent if an ONU-ID was assigned, and the
terminal passes to WAITING or VACANT. A vacant one keeps nothing on record (R124). -/
def endTerminalDrain (n : Nat) (s : State) : State :=
  let (k, s) := dropTerminalWork n s
  let vacant := s.aux .drainTo n == 2
  let cause := if vacant then 9 else 1
  let s := (s.bump 0x3000 n 0x11 k).put 0x3000 n 0x10 cause
  let s := if s.get 0x3000 n 5 = 0xFFFF then s else tell n .deactivate [] s
  let s := if vacant then overAll [1, 6, 7, 8, 9, 0x0A, 0x0D] (fun sub s => s.put 0x3000 n sub 0) s else s
  raise 1032 n cause 0 (setTermState n (if vacant then 0 else 1) (s.setAux .drainTo n 0 0))

/-- A drain starts (R149; spec/09 R325): at once at its end when no work is present. -/
def startTerminalDrain (n target : Nat) (s : State) : State :=
  let s := setTermState n 7 (s.setAux .drainTo n 0 target)
  let s : State := { s with
    plan := s.plan.filter fun x => s.get 0x3400 x.alloc 2 != n
    dues := s.dues.filter fun x => x.terminal != n }
  let s := drainTerminalQueues n s
  if terminalWork s n then s else endTerminalDrain n s

/-- The command held while a terminal was PROBED (R149). -/
def heldCommand (n : Nat) (s : State) : State :=
  match s.aux .heldCmd n with
  | 0 => s
  | c => startTerminalDrain n c (s.setAux .heldCmd n 0 0)

/-! ## Delays (R133, R135, R141, R143, R144) -/

/-- Rounded half away from zero. -/
def roundDiv (x : Int) (n : Nat) : Int :=
  let q : Int := ((2 * x.natAbs + n) / (2 * n) : Nat)
  if x < 0 then -q else q

/-- A correction on a lane: on the coexistence lane a multiple of 5 bits (R143). -/
def laneCorrection (l : Nat) (c : Int) : Int := if l = 1 then 5 * roundDiv c 5 else c

/-- A terminal's equalisation and response delays written, with its distance and the mirror. -/
def setDelay (n : Nat) (eqd d : Int) (s : State) : State :=
  mirrorTerminal n (((s.put 0x3000 n 6 eqd.toNat).put 0x3000 n 8 d.toNat).put 0x3000 n 7 (distance s (n / 512) d.toNat))

/-- A correction c of a terminal's delay (R143, R144): Ranging_Time with EqD - c, and the phases held until frame F + 3 of
its sending; none when it would leave the range from 0 to Teqd. -/
def correctDelay (n : Nat) (c : Int) (s : State) : Option State :=
  let eqd := (s.get 0x3000 n 6 : Int) - c
  if eqd < 0 ∨ (teqd s (n / 512) : Int) < eqd then none
  else
    let s := setDelay n eqd ((s.get 0x3000 n 8 : Int) + c) s
    let s := s.put 0x3000 n 0x0D (ofInt 32 (toInt 32 (s.get 0x3000 n 0x0D) + c))
    some (tell n .rangingTime [eqd.toNat] (s.setAux .driftHold n 0 (2 ^ 53 - 1)))

/-- A correction out of range (R144): the terminal is deactivated with cause 5 and event 1034. -/
def driftOut (n : Nat) (c : Int) (s : State) : State :=
  let need := (s.get 0x3000 n 6 : Int) - c
  raise 1034 n (ofInt 32 need) 0 (deactivate n 5 s)

end Sys2Proof.Machine
end

