-- ==== Sys2Proof/Machine/Beats.lean ====
section
/-!
DEFINITION. Machine/Beats.lean: rest beats: what falls due, how wide its window is, where it is placed, and the budget
(spec/04 R134, R136 to R140, R148; spec/05 R162, R179, R191, R193).
-/
namespace Sys2Proof.Machine

/-! ## Sizes (R134) -/

/-- Thousandths of ns as bits at 49.7664 Gb/s, rounded down, and up. -/
def bitsDown (milli : Nat) : Nat := milli * 6220800 / 125000000
def bitsUp (milli : Nat) : Nat := ceilDiv (milli * 6220800) 125000000

/-- The response delays that a beat covers, in bits, and the random delay (R134). -/
def beatRange (s : State) (b : Beat) : Nat × Nat × Nat :=
  let g := fun sub => s.get 0x3100 b.tree sub
  let n := b.terminal
  if b.kind = 0 ∨ b.kind = 3 then
    (bitsDown (2 * g 4 * g 2 + 1000 * g 5), bitsUp (2 * g 4 * g 3 + 1000 * g 6), bitsUp (1000 * g 7))
  else if b.wide then (s.aux .dsn n - bitsUp (1000 * g 7), s.aux .dsn n, 0)
  else
    let half := bitsUp (2 * g 4 * g 0x0F + 500 * (g 6 - g 5))
    (s.get 0x3000 n 8 - half, s.get 0x3000 n 8 + half, 0)

/-- The bits at 49.7664 Gb/s from a beat's window opening to its expected delimiter end E, and its width (R134). -/
def beatShape (s : State) (b : Beat) : Nat × Nat :=
  let (lo, hi, r) := beatRange s b
  let g := if b.lane = 0 then 16 else 20
  (g + (teqd s b.tree - lo), hi + r - lo + bitsUp (1000 * s.get 0x3100 b.tree 8) + 2 * g)

/-- A tree's discovery width in ns, rounded up (R134, R136). -/
def discoveryWidth (s : State) (t : Nat) : Nat :=
  ceilDiv ((beatShape s ⟨t, 0, 0, 0xFFFF, false, 0, false, 0⟩).2 * 125000) 6220800

/-- The rest-beat time of a lane, in bits of its grid, whose windows started in the second before an instant (R137). -/
def beatTime (s : State) (t l : Nat) (at' : Int) : Nat :=
  s.quiets.foldl (fun k q => if q.tree = t ∧ q.lane = l ∧ q.kind ≠ 3 ∧ at' - upstreamAt s t q.frame (mainBits l q.opens) < 1000000000
    then k + (q.closes - q.opens) else k) 0

/-- The rest-beat time of the trailing second on the main lane, in µs (0x3100[t].17). -/
def beatMicros (s : State) (t : Nat) : Nat := beatTime s t 0 s.now * 125 / frameBits 0

/-- Beats staged or sealed and not sent yet, in bits of the lane's grid. -/
def beatStaged (s : State) (t l : Nat) : Nat :=
  (s.staged ++ s.sealedMaps).foldl (fun k g => if g.tree = t ∧ g.lane = l then
    g.entries.foldl (fun k e => if e.kind = 1 ∧ e.alloc ≠ 3 then k + (e.closes - e.opens) else k) k else k) 0

/-- The terminals of a tree with a response delay on record. -/
def timedTerminals (s : State) (t : Nat) : List Nat :=
  s.objs.filterMap fun e => if e.1.index == 0x3000 && e.1.sub == 8 && e.1.inst / 512 == t && e.2 != 0 then some e.1.inst else none

/-- A write of a value that a tree's distance configuration depends on (R136, R141): the distances, the propagation, the response
times, the random delay, the response allowance, the budget, and the rejoin margin. -/
def distanceWrite (acc : Acc) (t sub v : Nat) (s : State) : State :=
  writeValue acc 0x3100 t sub v s fun s =>
    let s' := s.put 0x3100 t sub v
    if 40000 < s'.get 0x3100 t 3 - s'.get 0x3100 t 2 ∨ 1000 * s'.get 0x3100 t 0x0A < discoveryWidth s' t then refuse 4 s
    else done (overAll (timedTerminals s t) (fun n s => s.put 0x3000 n 7 (distance s t (s.get 0x3000 n 8))) s')

/-! ## Placing (R137, R138, R162, R179, R193) -/

/-- The first map that a request made now can shape (R162). -/
def nextBuild (s : State) (t l : Nat) : Nat := frameAdd (frameNow s t) (if s.aux .mapCut t l = 1 then 2 else 1)

/-- The lane places no beat in frame M (R138, R180, R193). DESIGN CHOICE (log entry 110): the hold of a mode change takes in the
maps before frame S + D + 8 and not that frame's own; R73 says "to", R138 "until". -/
def beatsHeld (s : State) (t l m : Nat) : Bool :=
  !mapsRun s t l || (l == 0 && (s.aux .chgState t == 1 || s.aux .changeDrain t == 1 || muffling s t
    || (s.aux .beatHold t != 0 && 0 < framesTo m (s.aux .beatHold t - 1)))) || blank s t l m || postSwitch s t m

/-- The earliest opening at or after a for a quiet window that keeps clear of the spans; the grant start lies lead + 1 bits
after it, on a whole unit (R165). -/
def earliestQuiet (spans : List Span) (sp width lead : Nat) : Nat → Nat → Nat
  | 0, a => a
  | n + 1, a =>
    let o := toUnit (a + lead + 1) - 1 - lead
    match spans.find? fun x => (⟨(o : Int), ((o + width : Nat) : Int)⟩ : Span).near x sp with
    | none => o
    | some x => earliestQuiet spans sp width lead n (max (a + 1) (x.closes + sp).toNat)

/-- The map entry of a beat in frame M, none when no window can open in it. -/
def beatEntry (s : State) (b : Beat) (m : Nat) : Option MapEntry :=
  let t := b.tree
  let l := b.lane
  let (lead, width) := beatShape s b
  let div := if l = 1 then 5 else 1
  let lead := ceilDiv lead div
  let width := ceilDiv width div
  let es := ((mapOf s.staged t l m).map fun g => g.entries).getD []
  let spans := quietAround s t l m ++ beatSpans es ++ burstsOf l m (settledMaps s t l m)
  let o := earliestQuiet spans (spacing s t l m) width lead (spans.length + 1) (quarterBits / div)
  if frameBits l ≤ o then none
  else some ⟨if b.kind = 1 ∨ b.kind = 2 then b.terminal % 512 else 1023, b.kind, 0, s.get 0x3100 t 9, false, false, 1,
    some (o + lead + 1), o, o + width⟩

/-- A beat that is not placed now: counted when it is first deferred (R137). -/
def deferBeat (b : Beat) (s : State) : State :=
  if b.deferred then s
  else { s.bump 0x3101 b.tree 6 with beats := s.beats.map fun x => if x = b then { b with deferred := true } else x }

/-- A beat staged in a map: event 1035 when it had been deferred (R137). -/
def stageBeat (b : Beat) (m : Nat) (e : MapEntry) (s : State) : State :=
  let had := ((mapOf s.staged b.tree b.lane m).map fun g => g.entries.length).getD 0
  let s := stageEntry b.tree b.lane m e s
  if ((mapOf s.staged b.tree b.lane m).map fun g => g.entries.length).getD 0 = had then deferBeat b s
  else
    let s : State := { s with beats := s.beats.map fun x => if x = b then { b with placed := m + 1 } else x }
    let start := frameStart s b.tree + framesTo (frameNow s b.tree) m * 125000
    if b.deferred then raiseSecAt 1035 b.tree b.tree (fun _ => (b.kind, ((start - b.due) / 1000).toNat)) s else s

/-- One due beat is placed, or deferred (R137). -/
def placeBeat (b : Beat) (s : State) : State :=
  let t := b.tree
  let l := b.lane
  let m := nextBuild s t l
  if beatsHeld s t l m then deferBeat b s
  else match beatEntry s b m with
    | none => deferBeat b s
    | some e =>
      let used := beatTime s t l (upstreamAt s t m (mainBits l e.opens)) + beatStaged s t l
      if b.kind ≠ 3 ∧ s.get 0x3100 t 0x0A * frameBits l < (used + (e.closes - e.opens)) * 125 then deferBeat b s
      else stageBeat b m e s

/-- The priority of a beat's kind: rejoin, ranging, discovery (R137). -/
def beatRank (k : Nat) : Nat := match k with
  | 2 => 0
  | 1 => 1
  | _ => 2

/-- A beat is not staged in a map that is still to be sent. -/
def beatFree (s : State) (b : Beat) : Bool := b.placed == 0 || 0 ≤ framesTo (b.placed - 1) (frameNow s b.tree)

/-- REST_BEAT_PLACE (R137): the due beats of a lane in priority order, the earliest due first. -/
def execRestBeatPlace (tree lane : Nat) (s : State) : Host.Outcome State Fault Refusal :=
  whenUp s fun s =>
    let mine := s.beats.filter fun b => b.tree == tree && b.lane == lane && b.kind != 3 && beatFree s b
    let order := sortBy (fun a b => beatRank a.kind < beatRank b.kind || (beatRank a.kind == beatRank b.kind && a.due ≤ b.due)) mine
    overAll order placeBeat s

/-! ## What falls due (R139, R140, R148) -/

/-- A beat falls due now, unless one of its kind is already due for the lane or the terminal. -/
def dueBeat (t l kind n : Nat) (wide : Bool) (s : State) : State :=
  if s.beats.any fun b => b.tree == t && b.lane == l && b.kind == kind && b.terminal == n then s
  else { s with beats := s.beats ++ [⟨t, l, kind, n, wide, s.now, false, 0⟩] }

/-- A ranging beat falls due (R139): narrow only when asked for and a response delay is on record. -/
def dueRanging (n : Nat) (narrow : Bool) (s : State) : State :=
  let wide := !(narrow && s.get 0x3000 n 8 != 0)
  dueBeat (n / 512) (laneOf s n) 1 n wide (s.setAux .rangeWide n 0 (if wide then 1 else 0))

/-- A lane that discovery beats may fall due for. -/
def laneLive (s : State) (t l : Nat) : Bool := 2 ≤ laneState s t l

/-- The lane's next discovery beat may fall due: the last one is concluded, and its interval has passed (R140). -/
def discoveryTime (s : State) (t l : Nat) : Bool := s.aux .discOut t l != 1 && s.aux .discNext t l ≤ s.now + 1

/-- DISCOVERY_DUE (R140). -/
def execDiscoveryDue (tree lane : Nat) (s : State) : Host.Outcome State Fault Refusal :=
  whenUp s fun s =>
    if tree < s.trees ∧ lane < 2 ∧ laneLive s tree lane = true ∧ discoveryTime s tree lane = true then dueBeat tree lane 0 0xFFFF false s
    else s

/-- A write of "discover now" (R140): one beat on every running lane of the tree. -/
def discoverWrite (acc : Acc) (t v : Nat) (s : State) : State :=
  writeValue acc 0x3100 t 0x0E v s fun s =>
    if v = 0 then done s
    else done (overAll [0, 1] (fun l s => if laneLive s t l then dueBeat t l 0 0xFFFF false s else s) s)

/-- DISCOVER_NOW (R140). -/
def execDiscoverNow (acc : Acc) (tree : Nat) (s : State) : Host.Outcome State Fault Refusal :=
  whenUp s fun s => discoverWrite acc tree 1 s

/-- A lane's discovery interval in ms (R140; 0x3100[t].0D on the main lane). -/
def discInterval (s : State) (t l : Nat) : Nat :=
  if l = 0 then s.get 0x3100 t 0x0D else (if s.aux .discInt t = 0 then s.get 0x3100 t 0x0B else s.aux .discInt t)

/-- A lane's discovery interval written. -/
def setInterval (t l v : Nat) (s : State) : State := if l = 0 then s.put 0x3100 t 0x0D v else s.setAux .discInt t 0 v

/-- The instant at which the lane's last discovery beat opened. -/
def discStart (s : State) (t l : Nat) : Int :=
  match (s.quiets.filter fun q => q.tree == t && q.lane == l && q.kind == 0).getLast? with
  | some q => upstreamAt s t q.frame (mainBits l q.opens)
  | none => s.now

/-- DISCOVERY_BEAT_END (R140): the beat was active when it received a serial number, or held a header error or light without a
delimiter, which light says. The end of a recovery beat leaves the interval and the due time as they are (R156). -/
def execDiscoveryBeatEnd (tree lane : Nat) (light : Bool) (s : State) : Host.Outcome State Fault Refusal :=
  whenUp s fun s =>
    if s.aux .discOut tree lane ≠ 1 then s.setAux .discOut tree lane 0
    else
      let old := discInterval s tree lane
      let active := s.aux .discHeard tree lane == 1 || light
      let new := if active then max (s.get 0x3100 tree 0x0B) (old / 4) else min (s.get 0x3100 tree 0x0C) (old * 2)
      let s := (s.setAux .discOut tree lane 0).setAux .discNext tree lane ((discStart s tree lane).toNat + new * 1000000 + 1)
      let s := setInterval tree lane new s
      if new = old then s else raise 1036 tree old new s

/-- REJOIN_BEAT_DUE (R148): after the keep-alive period of a DARK terminal. -/
def execRejoinBeatDue (terminal : Nat) (s : State) : Host.Outcome State Fault Refusal :=
  whenUp s fun s =>
    if termState s terminal = 4 ∧ s.aux .keepAlive terminal = 0 then
      dueBeat (terminal / 512) (laneOf s terminal) 2 terminal false s
    else s

/-- KEEP_ALIVE_PERIOD_EXPIRY (R147, R148). -/
def execKeepAlivePeriodExpiry (terminal : Nat) (s : State) : Host.Outcome State Fault Refusal :=
  whenUp s fun s => if termState s terminal = 4 then s.setAux .keepAlive terminal 0 0 else s

end Sys2Proof.Machine
end

