-- ==== Sys2Proof/Machine/Activation.lean ====
section
/-!
DEFINITION. Machine/Activation.lean: provisioning, discovery, ranging, registration, capabilities, loss and rejoin of
terminals (spec/04 R123 to R131, R135, R139, R144 to R149).
-/
namespace Sys2Proof.Machine

/-! ## Commands of the host (R123, R128, R149) -/

/-- A command that drains a terminal (R123, R149): to is 1 for a deactivation and 2 for an unprovisioning. -/
def drainCommand (n target : Nat) (s : State) : State :=
  match termState s n with
  | 0 => done (ignoreEvent (n / 512) s)
  | 5 => done (s.setAux .heldCmd n 0 target)
  | 7 => refuse 3 s
  | _ => done (startTerminalDrain n target s)

/-- A write of a terminal's provisioned flag (R123, R128, R149). -/
def terminalWrite (acc : Acc) (n v : Nat) (s : State) : State :=
  writeValue acc 0x3000 n 1 v s fun s =>
    if v = 0 then drainCommand n 2 s
    else if 16384 ≤ s.get 0x3102 0 1 then refuse 6 s
    else if termState s n = 7 then refuse 3 s
    else if termState s n ≠ 0 ∨ s.get 0x3000 n 2 = 0 then done (ignoreEvent (n / 512) s)
    else done (setTermState n 1 (s.put 0x3000 n 1 1))

/-- A write of a terminal's deactivate command (R123, R149). -/
def deactivateWrite (acc : Acc) (n v : Nat) (s : State) : State :=
  writeValue acc 0x3000 n 0x0B v s fun s => if v = 0 then done s else drainCommand n 1 s

/-- A write of a terminal's release (R123, R158): the operator's or the owner's. It clears event 1041 in any state (R160; log
entry 128). -/
def releaseMuffleWrite (acc : Acc) (n v : Nat) (s : State) : State :=
  writeValue acc 0x3000 n 0x0C v s fun s =>
    match acc.role with
    | .tenant _ => refuseRole acc 1 0x3000 n 0x0C s
    | _ =>
      if v = 0 then done s
      else
        let s := clear 1041 n s
        if termState s n ≠ 6 then done (ignoreEvent (n / 512) s)
        else done (raise 1044 n 0 0 (setTermState n 1 (tellSerial n true s)))

/-- TERMINAL_PROVISION (R128): 1 written to 0x3000[n].01. -/
def execTerminalProvision (acc : Acc) (terminal : Nat) (s : State) : Host.Outcome State Fault Refusal :=
  whenUp s fun s => terminalWrite acc terminal 1 s

/-- TERMINAL_UNPROVISION (R149): 0 written to 0x3000[n].01. -/
def execTerminalUnprovision (acc : Acc) (terminal : Nat) (s : State) : Host.Outcome State Fault Refusal :=
  whenUp s fun s => terminalWrite acc terminal 0 s

/-- TERMINAL_DEACTIVATE (R149): 1 written to 0x3000[n].0B. -/
def execTerminalDeactivate (acc : Acc) (terminal : Nat) (s : State) : Host.Outcome State Fault Refusal :=
  whenUp s fun s => deactivateWrite acc terminal 1 s

/-- TERMINAL_DRAIN_END (R149): no work is left, or the tree's drain limit has expired. -/
def execTerminalDrainEnd (terminal : Nat) (s : State) : Host.Outcome State Fault Refusal :=
  whenUp s fun s => if termState s terminal = 7 then endTerminalDrain terminal s else s

/-- RELEASE_MUFFLE (R123): 1 written to 0x3000[n].0C. -/
def execReleaseMuffle (acc : Acc) (terminal : Nat) (s : State) : Host.Outcome State Fault Refusal :=
  whenUp s fun s => releaseMuffleWrite acc terminal 1 s

/-! ## Discovery (R123, R126 to R128) -/

/-- An event that names a serial number: its first and last four bytes. -/
def serialEvent (num t serial : Nat) (s : State) : State := raise num t (serial / 2 ^ 32 % 2 ^ 32) (serial % 2 ^ 32) s

/-- The same, at most once per serial number per 60 s. -/
def serialMinute (num t serial : Nat) (a : Aux) (s : State) : State :=
  if s.aux a t serial = 0 ∨ s.aux a t serial - 1 + 60000000000 ≤ s.now then serialEvent num t serial (s.setAux a t serial (s.now + 1)) else s

/-- A terminal is assigned its ONU-ID and a ranging beat falls due (R123, R139). -/
def assignId (n lane : Nat) (phase : Int) (dark : Bool) (s : State) : State :=
  let s := (s.put 0x3000 n 0x0F lane).setAux .dsn n 0 ((teqd s (n / 512) : Int) + phase).toNat
  let s := setTermState n 2 (((s.setAux .attempts n 0 0).setAux .fromDark n 0 (if dark then 1 else 0)))
  dueRanging n true (queuePloam (n / 512) lane 1023 .assignOnuId [n % 512, s.get 0x3000 n 2] s)

/-- The terminal of a tree that holds a serial number on record. -/
def serialHolder (s : State) (t serial : Nat) : Option Nat :=
  (s.objs.find? fun e => e.1.index == 0x3000 && e.1.sub == 2 && e.1.inst / 512 == t && e.2 == serial
    && termState s e.1.inst != 0).map fun e => e.1.inst

/-- The lowest free slot of a tree. -/
def freeTerminal (s : State) (t : Nat) : Option Nat := (List.range 512).find? fun k => termState s (512 * t + k) == 0

/-- A serial number not on record (R126 to R128). -/
def unknownSerial (t lane serial : Nat) (phase : Int) (s : State) : State :=
  if s.get 0x3100 t 1 = 0 then serialMinute 1025 t serial .unkSeen (s.bump 0x3101 t 3)
  else match freeTerminal s t with
    | none => serialEvent 1027 t serial (s.bump 0x3101 t 8)
    | some k =>
      if 16384 ≤ s.get 0x3102 0 1 then serialMinute 1046 t serial .limSeen (s.bump 0x3101 t 0x0A)
      else
        let n := 512 * t + k
        assignId n lane phase false ((s.put 0x3000 n 1 1).put 0x3000 n 2 serial)

/-- SERIAL_NUMBER_RESPONSE (R123, R126 to R128): a serial number received in the discovery beat that was sent last, at an
arrival phase in bits at 49.7664 Gb/s. -/
def execSerialNumberResponse (tree lane serial : Nat) (phase : Int) (s : State) : Host.Outcome State Fault Refusal :=
  whenUp s fun s =>
    if s.aux .discOut tree lane = 0 then s
    else
      let s := (s.bump 0x3101 tree 2).setAux .discHeard tree lane 1
      let s := if lane = 0 then s.setAux .recHeard tree 0 1 else s
      match serialHolder s tree serial with
      | none => unknownSerial tree lane serial phase s
      | some n =>
        match termState s n with
        | 1 => assignId n lane phase false s
        | 4 => assignId n lane phase true s
        | 2 | 3 | 5 => serialEvent 1026 tree serial (s.bump 0x3101 tree 4)
        | _ => ignoreEvent tree s

/-! ## Ranging (R123, R135, R139) -/

/-- A terminal found in its ranging beat enters OPERATION (R123, R129, R130, R135). -/
def ranged (n : Nat) (phase : Int) (s : State) : State :=
  let old := s.get 0x3000 n 6
  let t := n / 512
  let s := s.setAux .beatOut n 0 0
  let s := setDelay n (-phase) ((teqd s t : Int) + phase) (s.put 0x3000 n 0x0D 0)
  let s := setTermState n 3 (tell n .rangingTime [(-phase).toNat] s)
  let s := if s.aux .fromDark n = 1 then raise 1031 n (ofInt 32 ((old : Int) + phase)) 2 (s.setAux .fromDark n 0 0) else s
  let s := if s.get 0x3000 n 3 = 0 then s else tell n .requestRegistration [] (s.setAux .regTries n 0 1)
  let s := overAll (allocsOf s n) (assignAlloc n) s
  tell n .capabilityRequest [] ((s.setAux .capTries n 0 1).setAux .capSeq n 0 0)

/-- RANGING_RESPONSE (R135): a burst accepted in the terminal's ranging beat, with the ONU-ID that its header carries. -/
def execRangingResponse (terminal onu : Nat) (phase : Int) (s : State) : Host.Outcome State Fault Refusal :=
  whenUp s fun s =>
    if termState s terminal ≠ 2 ∨ s.aux .beatOut terminal = 0 ∨ onu ≠ terminal % 512 then ignoreEvent (terminal / 512) s
    else ranged terminal phase (s.setAux .lastPhaseAt terminal 0 (s.aux .beatOut terminal))

/-- RANGING_NO_RESPONSE (R123): the terminal's ranging beat has closed without a response. -/
def execRangingNoResponse (terminal : Nat) (s : State) : Host.Outcome State Fault Refusal :=
  whenUp s fun s =>
    let n := terminal
    let t := n / 512
    if termState s n ≠ 2 ∨ s.aux .beatOut n = 0 then ignoreEvent t s
    else
      let k := s.aux .attempts n + 1
      let s := (s.setAux .attempts n 0 k).setAux .beatOut n 0 0
      if k < s.get 0x3100 t 0x14 then dueRanging n false s
      else raise 1028 n k 0 (deactivate n 2 (s.bump 0x3101 t 5))

/-! ## Registration and capabilities (R129 to R132) -/

/-- A registration mismatch (R123, R129). -/
def mismatch (n : Nat) (s : State) : State := raise 1029 n 0 0 (deactivate n 3 s)

/-- REGISTRATION_RECEIVED (R129): the 36 bytes of a Registration message. -/
def execRegistrationReceived (terminal id : Nat) (s : State) : Host.Outcome State Fault Refusal :=
  whenUp s fun s =>
    if termState s terminal ≠ 3 then ignoreEvent (terminal / 512) s
    else if s.get 0x3000 terminal 3 = 0 ∨ s.get 0x3000 terminal 3 = id then s.setAux .regTries terminal 0 0
    else mismatch terminal s

/-- REGISTRATION_TIMEOUT (R129): 8 frames after a request. -/
def execRegistrationTimeout (terminal : Nat) (s : State) : Host.Outcome State Fault Refusal :=
  whenUp s fun s =>
    match s.aux .regTries terminal with
    | 0 => s
    | k => if k < 3 then tell terminal .requestRegistration [] (s.setAux .regTries terminal 0 (k + 1)) else mismatch terminal s

/-- The capabilities that a report's byte 6 gives (R131, R132): another layout version gives none, and bit 1 without bit 0
leaves both clear. -/
def capabilitiesOf (version caps : Nat) : Nat :=
  let c := if version = 1 then caps % 8 else 0
  if bit 1 c && !bit 0 c then c - 2 else c

/-- CAPABILITY_REPORT (R131, R132): the 48 bytes of a message of type 0xE3 (bytes 1 to 4, its content, its integrity check); its integrity check must hold, and it must carry the
sequence number of the request. -/
def execCapabilityReport (terminal : Nat) (head content check : List Nat) (s : State) : Host.Outcome State Fault Refusal :=
  let bytes := head ++ content ++ check
  whenUp s fun s =>
    if ploamFrom s terminal 0xE3 bytes = false ∨ s.aux .capTries terminal = 0 ∨ s.aux .capSeq terminal = 0
        ∨ bytes.getD 3 0 ≠ s.aux .capSeq terminal then s
    else
      let s := (s.put 0x3000 terminal 9 (capabilitiesOf (bytes.getD 4 0) (bytes.getD 5 0))).setAux .capTries terminal 0 0
      exchangeAtReport terminal (mirrorTerminal terminal s)

/-- CAPABILITY_TIMEOUT (R130): 8 frames after a request. -/
def execCapabilityTimeout (terminal : Nat) (s : State) : Host.Outcome State Fault Refusal :=
  whenUp s fun s =>
    match s.aux .capTries terminal with
    | 0 => s
    | k =>
      if k < s.get 0x3100 (terminal / 512) 0x1A then tell terminal .capabilityRequest [] (s.setAux .capTries terminal 0 (k + 1))
      else raise 1045 terminal 0 0 (mirrorTerminal terminal ((s.put 0x3000 terminal 9 0).setAux .capTries terminal 0 0))

/-! ## Loss and rejoin (R144, R146 to R148) -/

/-- The cause of event 1030 (R146): no burst found since frame S of the lane's last mode change, or missing bursts. -/
def lossCause (s : State) (n : Nat) : Nat :=
  let sw := s.aux .lastSwitchS (n / 512)
  let last := s.aux .lastPhaseAt n
  if laneOf s n = 0 ∧ sw ≠ 0 ∧ (last = 0 ∨ 0 < framesTo (last - 1) (sw - 1)) then 2 else 1

/-- TERMINAL_LOSS (R146): the loss run has reached the loss frames. -/
def execTerminalLoss (terminal : Nat) (s : State) : Host.Outcome State Fault Refusal :=
  whenUp s fun s =>
    if termState s terminal = 3 ∧ s.get 0x3100 (terminal / 512) 0x13 ≤ s.aux .lossRun terminal then goDark terminal (lossCause s terminal) s
    else s

/-- TERMINAL_REJOIN (R135, R144): a burst found in a keep-alive grant (path 0) or a rejoin beat (path 1). A phase at or above
the drift threshold corrects the delay. -/
def execTerminalRejoin (terminal path : Nat) (phase : Int) (s : State) : Host.Outcome State Fault Refusal :=
  whenUp s fun s =>
    let n := terminal
    let t := n / 512
    if termState s n ≠ 4 ∨ (path ≠ 0 ∧ s.aux .beatOut n = 0) then ignoreEvent t s
    else
      let c := if s.get 0x3100 t 0x18 ≤ phase.natAbs then laneCorrection (laneOf s n) phase else 0
      let s := if path = 0 then s else s.setAux .lastPhaseAt n 0 (s.aux .beatOut n)
      let back := fun (s : State) => raise 1031 n (ofInt 32 c) (min path 1) (setTermState n 3 s)
      if c = 0 then back s
      else
        let eqd := (s.get 0x3000 n 6 : Int) - c
        if eqd < 0 ∨ (teqd s t : Int) < eqd then driftOut n c s
        else
          let s := back s
          (correctDelay n c s).getD s

/-- REJOIN_HOLD_EXPIRY (R123). -/
def execRejoinHoldExpiry (terminal : Nat) (s : State) : Host.Outcome State Fault Refusal :=
  whenUp s fun s => if termState s terminal = 4 then raise 1032 terminal 4 0 (deactivate terminal 4 s) else s

end Sys2Proof.Machine
end

