-- ==== Sys2Proof/Machine/Allocs.lean ====
section
/-!
DEFINITION. Machine/Allocs.lean: allocations, flam settings and bulletins, cooperative grants (spec/05 R93 of spec/03, R178
to R190, R196, R197).
-/
namespace Sys2Proof.Machine

/-! ## Provisioning and draining (R197, R208, R397) -/

/-- The end of an allocation's drain (R397): what remains is counted at its terminal, and its place is freed. -/
def endAllocDrain (a : Nat) (s : State) : State :=
  let (n, s) := dropAllocWork a s
  let term := s.get 0x3400 a 2
  let s := if term = 0xFFFF then s else s.bump 0x3000 term 0x11 n
  let s := overAll [1, 0x10] (fun sub s => s.put 0x3400 a sub 0) ((s.setAux .allocDrain a 0 0).setAux .allocSeq a 0 0)
  mirrorAlloc a (s.put 0x3500 0 1 (s.get 0x3500 0 1 - 1))

/-- A write of an allocation's provisioned flag (R197, R208, R394, R395). -/
def allocationWrite (acc : Acc) (a v : Nat) (s : State) : State :=
  writeValue acc 0x3400 a 1 v s fun s =>
    let on := s.get 0x3400 a 1 == 1
    let draining := s.aux .allocDrain a == 1
    if v = 1 then
      if draining then refuse 3 s
      else if on then done s
      else if 32768 ≤ s.get 0x3500 0 1 then refuse 6 (raise 1546 0 a 0 (s.bump 0x3500 0 2))
      else if !contractFits (s.put 0x3400 a 1 1) a then refuse 4 s
      else
        let n := s.get 0x3400 a 2
        let s := mirrorAlloc a ((s.put 0x3400 a 1 1).put 0x3500 0 1 (s.get 0x3500 0 1 + 1))
        done (if n ≠ 0xFFFF ∧ termState s n = 3 then assignAlloc n a s else s)
    else if !on || draining then done s
    else
      let s := s.setAux .allocDrain a 0 1
      let s : State := { s with
        plan := s.plan.filter fun x => x.alloc != a
        dues := s.dues.filter fun x => !((x.kind == 2 || x.kind == 6) && x.alloc == a) }
      done (if allocWork s a then s else endAllocDrain a s)

/-- ALLOCATION_PROVISION (R197): 1 written to 0x3400[a].01. -/
def execAllocationProvision (acc : Acc) (allocation : Nat) (s : State) : Host.Outcome State Fault Refusal :=
  whenUp s fun s => allocationWrite acc allocation 1 s

/-- ALLOCATION_DRAIN (R397): 0 written to 0x3400[a].01. -/
def execAllocationDrain (acc : Acc) (allocation : Nat) (s : State) : Host.Outcome State Fault Refusal :=
  whenUp s fun s => allocationWrite acc allocation 0 s

/-- ALLOCATION_DRAIN_END (R397): no work is left, or the drain limit has expired. -/
def execAllocationDrainEnd (allocation : Nat) (s : State) : Host.Outcome State Fault Refusal :=
  whenUp s fun s => if s.aux .allocDrain allocation = 1 then endAllocDrain allocation s else s

/-! ## Flam settings (R182, R183; spec/03 R93) -/

/-- A flam allocation (R182). -/
def flamAlloc (s : State) (a : Nat) : Bool :=
  let n := s.get 0x3400 a 2
  s.get 0x3400 a 1 == 1 && s.aux .allocDrain a == 0 && s.get 0x3400 a 7 == 1 && n != 0xFFFF && laneOf s n == 0 && termState s n == 3
    && bit 2 (s.get 0x3000 n 9)

/-- The flam allocations of a tree. -/
def flamAllocs (s : State) (t : Nat) : List Nat :=
  s.objs.filterMap fun e =>
    if e.1.index == 0x3400 && e.1.sub == 7 && e.1.inst / 1024 == t && flamAlloc s e.1.inst then some e.1.inst else none

/-- The spacing of the main lane at the default guard (R164). -/
def plainSpacing (s : State) (t : Nat) : Nat := 32 + max (s.get 0x3600 t 1) (32 * s.get 0x5E80 t 1)

/-- T_i of R183. -/
def flamWindow (s : State) (t bytes : Nat) : Nat :=
  (List.range 4).foldl (fun m p => max m (leadBits s t 0 p + bodyBits s t 0 p (12 + bytes))) 0

/-- The flam time committed on a tree: the left side of R183 (0x3600[t].11). -/
def flamTime (s : State) (t : Nat) : Nat :=
  (flamAllocs s t).foldl (fun n a => n + flamWindow s t (s.get 0x3400 a 8) + plainSpacing s t) 0

/-- The test of R183. -/
def flamFits (s : State) (t : Nat) : Bool := flamTime s t ≤ 32 * s.get 0x3600 t 6

/-- A profile is in use (spec/03 R93): a terminal in OPERATION is assigned to it, or a map handed to the emitter uses it. -/
def profileInUse (s : State) (t l p : Nat) : Bool :=
  let uses := fun g : GrantMap => g.tree == t && (g.lane % 2 == l) && g.entries.any fun e => e.kind != 0 && e.profile == p
  ((termsIn s t 3).any fun n => laneOf s n == l && s.get 0x3900 n 1 == p)
    || s.staged.any uses || s.sealedMaps.any uses
    || s.sentMaps.any fun g => g.tree == t && g.lane % 2 == l && g.entries.any fun e =>
        e.kind != 0 && e.profile == p && windowOpen s t l g.frame e

/-- A template write's entry, in force from map W + 3 on (R183); the templates that no frame from now on uses go. -/
def newTemplate (t : Nat) (s : State) : State :=
  let now := frameNow s t
  let x : Template := ⟨t, frameAdd now 3, s.get 0x3600 t 5, s.get 0x3600 t 6⟩
  let old := s.templates.filter fun y => y.tree == t && 3 ≤ framesTo y.frame now
  { s with templates := (s.templates.filter fun y => !(y.tree == t && 3 ≤ framesTo y.frame now && some y != old.getLast?)) ++ [x] }

/-- A write of a flam setting or a profile (R93, R183, R196). -/
def flamSettingWrite (acc : Acc) (index inst sub v : Nat) (s : State) : State :=
  writeValue acc index inst sub v s fun s =>
    let s' := s.put index inst sub v
    match index with
    | 0x3400 =>
      let t := inst / 1024
      let more := (sub = 7 ∧ v = 1) ∨ (sub = 8 ∧ s.get 0x3400 inst 8 < v)
      if more ∧ flamFits s' t = false then refuse 4 s else done s'
    | 0x3600 =>
      if 48600 < s'.get 0x3600 inst 5 + s'.get 0x3600 inst 6 then refuse 4 s
      else if sub = 6 ∧ v < s.get 0x3600 inst 6 ∧ flamFits s' inst = false then refuse 4 s
      else done (newTemplate inst s')
    | _ =>
      let t := inst / 1024
      let l := if index = 0x2005 then 0 else 1
      if profileInUse s t l (inst % 1024) then refuse 3 s
      else if l = 0 ∧ flamFits s t = true ∧ flamFits s' t = false then refuse 4 s
      else done s'

/-- FLAM_SETTING_WRITE (R183). -/
def execFlamSettingWrite (acc : Acc) (index inst sub value : Nat) (s : State) : Host.Outcome State Fault Refusal :=
  whenUp s fun s =>
    if (index = 0x3400 ∧ (sub = 7 ∨ sub = 8)) ∨ (index = 0x3600 ∧ (sub = 5 ∨ sub = 6))
        ∨ ((index = 0x2005 ∨ index = 0x2006) ∧ 1 ≤ sub ∧ sub ≤ 7) then flamSettingWrite acc index inst sub value s
    else refuse 1 s

/-! ## Bulletins (R181 to R185) -/

/-- The target frame and interval of the bulletin of flam point p of frame n (R181). -/
def flamTargetOf (n p : Nat) : Nat × Nat := if p = 3 then (frameAdd n 1, 0) else (n, p + 1)

/-- The target of a flam point of the current frame. -/
def flamTarget (s : State) (t p : Nat) : Nat × Nat := flamTargetOf (frameNow s t) p

/-- The open slot of an interval of frame m's layout, none when it is absent. -/
def slotIn (s : State) (t m i : Nat) : Option Span :=
  (openSlots s t m (openQuiets s t 0 m ++ (match (mapOf s.sentMaps t 0 m).or (mapOf s.sealedMaps t 0 m) with
      | some g => beatSpans g.entries
      | none => []))).find? fun x =>
    (quarterBits * i : Nat) ≤ x.opens && x.opens < (quarterBits * (i + 1) : Nat)

/-- The open slot that the bulletin of a flam point of the current frame targets. -/
def flamSlot (s : State) (t p : Nat) : Option Span := slotIn s t (flamTarget s t p).1 (flamTarget s t p).2

/-- A flam grant's length in units of 32 bits from its start to the end of the FS burst trailer (R163, R184). -/
def flamLength (s : State) (t : Nat) (g : FlamGrant) : Nat :=
  ceilDiv (bodyBits s t 0 g.profile (8 + g.bytes + (if g.dbru then 4 else 0))) 32

/-- A flam grant as the burst receiver is given it, in bits of its target frame (R176, R184). -/
def flamEntry (s : State) (t p : Nat) (g : FlamGrant) : Grant :=
  let s0 := 32 * g.start - (if p = 3 then 6220800 else 0)
  ⟨g.onu, g.alloc, g.bytes, g.profile, g.dbru, false, 7, s0, s0 - leadBits s t 0 g.profile, s0 + 32 * flamLength s t g, false⟩

/-- The insertion of an allocation by its last flam service, oldest first. -/
def byService (s : State) (a : Nat) : List Nat → List Nat
  | [] => [a]
  | b :: l => if s.aux .lastFlam a < s.aux .lastFlam b then a :: b :: l else b :: byService s a l

/-- The bulletin that the grant engine builds for flam point p of frame fr (R182). An owner without room when the map of that
frame was sealed gets DBRu-only grants (spec/06 R214). -/
def flamPlan (s : State) (t fr p : Nat) : List FlamGrant :=
  let (m, i) := flamTargetOf fr p
  match slotIn s t m i with
  | none => []
  | some slot =>
    let order := (flamAllocs s t).foldl (fun l a => byService s a l) []
    ((order.foldl (fun (r : Nat × List FlamGrant) a =>
      let n := s.get 0x3400 a 2
      let want := ceilDiv (min (s.get 0x3400 a 0x0A) (s.get 0x3400 a 8)) 4 * 4
      let bytes := if s.aux .roomless t (ownerOf s 1 a) = fr + 1 then 0 else want
      let prof := s.get 0x3900 n 1
      let s0 := toUnit (r.1 + leadBits s t 0 prof)
      let g : FlamGrant := ⟨n % 512, s.get 0x3400 a 3, s0 / 32 + (if p = 3 then 194400 else 0), bytes, prof, true⟩
      let closes := s0 + 32 * flamLength s t g
      if (want = 0 ∧ s.get 0x3400 a 9 = 0) ∨ slot.closes < (closes : Int) ∨ 64 ≤ r.2.length ∨ isMuted s t (n % 512) = true then r
      else (closes + spacing s t 0 m, r.2 ++ [g])) (slot.opens.toNat, [])).2)

/-- BULLETIN_SEAL (R161, R171, R181, R182): the bulletin of a flam point under a claim; none for the one that the grant
engine's rule gives. Past the deadline it is not taken. -/
def execBulletinSeal (tree point claim unit : Nat) (grants : Option (List FlamGrant)) (s : State) : Host.Outcome State Fault Refusal :=
  whenUp s fun s =>
    if s.trees ≤ tree ∨ 3 < point then s
    else
      let (ok, s) := offer 0 tree claim unit s
      let offset := (s.now : Int) - frameStart s tree
      if ok = false ∨ (if point = 0 then (123000 : Int) else 31250 * point - 2000) < offset then s
      else
        let frame := if point = 0 then frameAdd (frameNow s tree) 1 else frameNow s tree
        let l := sortBy (fun a b => a.start ≤ b.start) ((grants.getD (flamPlan s tree frame point)).filter fun g => !drainsOnu s tree g.onu)
        { s with bulletins := s.bulletins.filter (fun b => b.1 != 4 * tree + point) ++ [(4 * tree + point, l)] }

/-- The cause a bulletin's grants fail with (R166, R181), 0 when they pass: accepted are those before. -/
def flamCause (s : State) (t p : Nat) (slot : Option Span) : List Grant → List FlamGrant → Nat
  | _, [] => 0
  | before, g :: l =>
    let (m, _) := flamTarget s t p
    let e := flamEntry s t p g
    let w : Span := ⟨32 * (g.start : Int) - (if p = 3 then 6220800 else 0) - leadBits s t 0 g.profile, e.closes⟩
    let inside := match slot with
      | some x => x.opens ≤ w.opens && w.closes ≤ x.closes
      | none => false
    if 64 ≤ before.length then 4
    else if !inside then 8
    else if (burstSpans before).any fun x => w.near x (spacing s t 0 m) then 1
    else if !(g.onu < 512 && termState s (512 * t + g.onu) == 3 && laneOf s (512 * t + g.onu) == 0) then 5
    else flamCause s t p slot (before ++ [e]) l

/-- The 8 bytes of a flam grant record (R184). -/
def flamRecord (s : State) (t : Nat) (g : FlamGrant) : List Nat :=
  bytesOf 8 (g.onu % 1024 * 2 ^ 54 + g.alloc % 2 ^ 14 * 2 ^ 40 + g.start % 2 ^ 18 * 2 ^ 22 + flamLength s t g % 2 ^ 16 * 2 ^ 6
    + g.profile % 4 * 16 + (if g.dbru then 8 else 0))

/-- A flam grant that is sent: its allocation's counts, the bytes charged to its owner in the next map (R206), its last
flam service. -/
def flamCount (t : Nat) (g : FlamGrant) (s : State) : State :=
  match allocOf s t g.alloc with
  | none => s
  | some a =>
    let s := ((s.bump 0x3400 a 0x0C g.bytes).bump 0x3400 a 0x0E).setAux .lastFlam a 0 (s.now + 1)
    let s := s.put 0x3400 a 0x0A (s.get 0x3400 a 0x0A - g.bytes)
    s.incAux .flamBytes t (ownerOf s 1 a) g.bytes

/-- The flam grants merged into what the receiver is given for the target frame (R176). -/
def mergeFlam (t m : Nat) (es : List Grant) (s : State) : State :=
  let old := ((mapOf s.sentMaps t 2 m).map fun g => g.entries).getD []
  { s with sentMaps := s.sentMaps.filter (fun g => !(g.tree == t && g.lane == 2 && (g.frame == m || (mapsKept : Int) < framesTo g.frame m)))
      ++ [⟨t, 2, m, old ++ es⟩] }

/-- The tag of a bulletin (R185): the leftmost 64 bits of the GCM tag over its bytes, of an empty plaintext. -/
def bulletinTag (s : State) (k frame p : Nat) (body : List Nat) : Nat :=
  Config.gcmTag (8 * s.get 0x4000 k 3) (s.aux .keyMat k 0) (0xF1 * 2 ^ 88 + frame % 2 ^ 51 * 4 + p) body [] / 2 ^ 64

/-- A checked bulletin goes out as one XGEM frame in clear (R184, R185). -/
def sendBulletin (t p k : Nat) (grants : List FlamGrant) (s : State) : State :=
  let (m, _) := flamTarget s t p
  let head := [0xF1, 0xA7, 1, 64 * p + 16 * s.get 0x4000 k 5] ++ bytesOf 7 (frameNow s t) ++ [grants.length, 0, 0, 0, 0]
  let body := head ++ grants.flatMap (flamRecord s t)
  let s := chargeKey k (slotGen s k) (ceilDiv body.length 16 + 1) s
  let whole := body ++ bytesOf 8 (bulletinTag s k (frameNow s t) p body)
  let b := xgemHeader whole.length 0 (s.get 0x3600 t 4) true ++ padBytes whole
  let s := addFs t 0 b (s.send .bulletin ([t] ++ b))
  let es := grants.map (flamEntry s t p)
  let s := overAll grants (flamCount t) s
  cagePins t 0 m es (mergeFlam t m es (s.bump 0x3600 t 0x0E))

/-- FLAM_POINT (R173, R180, R181, R184, R185): the bulletin of the point is sent, refused or skipped. A tree with flam
operation off and a blank target have none. -/
def flamPoint (t p : Nat) (s : State) : State :=
  let sealed? := (s.bulletins.find? fun b => b.1 == 4 * t + p).map fun b => b.2
  let s : State := { s with bulletins := s.bulletins.filter fun b => b.1 != 4 * t + p }
  let (m, _) := flamTarget s t p
  if !(mapsRun s t 0) || (templateFor s t m).2 == 0 || blank s t 0 m then s
  else
    match sealed?, broadcastSlot s t (doubleStroke s t 0) with
    | some l, some k =>
      let grants := l.filter fun g => !isMuted s t g.onu
      match flamCause s t p (flamSlot s t p) [] grants with
      | 0 =>
        let s := readSlot k s
        if slotLive s k then sendBulletin t p k grants s else s.bump 0x3600 t 0x10
      | c => raise 1541 t c p (s.bump 0x3600 t 0x0F)
    | _, _ => s.bump 0x3600 t 0x10

/-- FLAM_POINT: points 1 to 3 of a frame; the bulletin of point 0 goes out with the frame's start (R161). -/
def execFlamPoint (tree point : Nat) (s : State) : Host.Outcome State Fault Refusal :=
  whenUp s fun s => if s.treeUp tree = true ∧ 1 ≤ point ∧ point ≤ 3 then flamPoint tree point s else s

/-! ## Cooperative grants (R188, R189, R397) -/

/-- The most bytes from lo to lo + 2^n - 1 whose burst fits a number of bits. -/
def mostBytes (s : State) (t p room : Nat) : Nat → Nat → Nat
  | 0, lo => lo
  | n + 1, lo => if bodyBits s t 0 p (8 + lo + 2 ^ n) ≤ room then mostBytes s t p room n (lo + 2 ^ n) else mostBytes s t p room n lo

/-- The map of frame M is sealed, or sent (R189). -/
def mapClosed (s : State) (t m : Nat) : Bool := framesTo (frameNow s t) m ≤ 0 || (mapOf s.sealedMaps t 0 m).isSome

/-- The map of frame M is past its input cut-off: a report no longer shapes it (R162). -/
def mapPastCut (s : State) (t m : Nat) : Bool := framesTo (frameNow s t) m == 1 && s.aux .mapCut t 0 == 1

/-- The first free place at or after a position of frame M for a burst of a terminal: its grant start, and the bits from there
to the next window or the end of the frame. -/
def coopGap (s : State) (t m prof pos : Nat) : Nat × Nat :=
  let es := ((mapOf s.staged t 0 m).map fun g => g.entries).getD []
  let (quiet, bursts) := occupied s t 0 m es
  let spans := quiet ++ bursts
  let sp := spacing s t 0 m
  let lead := leadBits s t 0 prof
  let start := toUnit (earliest spans sp (bodyBits s t 0 prof 12) lead (spans.length + 1) pos + lead)
  let next : Int := spans.foldl (fun (n : Int) x => if (start : Int) ≤ x.opens then min n (x.opens - sp) else n) (frameBits 0 : Nat)
  (start, (next - start).toNat)

/-- The bytes of a forecast window placed from a position of frame M on, in the first free windows, at most the ceiling in each
frame (R189): answers the bytes whose frames are sealed already. A map past its cut-off takes none of them; the next does. -/
def placeCoop (c a n : Nat) : Nat → Nat → Nat → Nat → Nat → State → Nat × State
  | 0, _, _, rest, late, s => (late + rest, s)
  | fuel + 1, m, pos, rest, late, s =>
    let t := a / 1024
    let prof := s.get 0x3900 n 1
    let ceiling := s.get 0x3700 c 6
    let next := frameAdd m 1
    if rest = 0 ∨ ceiling = 0 then (late, s)
    else if mapClosed s t m then
      let x := min rest ceiling
      placeCoop c a n fuel next 0 (rest - x) (late + x) s
    else if mapPastCut s t m ∨ blank s t 0 m = true then placeCoop c a n fuel next 0 rest late s
    else
      let (start, bits) := coopGap s t m prof pos
      let room := min (ceiling - coopStaged s t m a) (mostBytes s t prof bits 20 0)
      let x := min rest room
      let x := if x < rest then x / 4 * 4 else x
      if frameBits 0 ≤ start ∨ coopStaged s t m a = ceiling then placeCoop c a n fuel next 0 rest late s
      else if x = 0 then placeCoop c a n fuel m (start + bits + 1) rest late s
      else
        let e : MapEntry := ⟨n % 512, s.get 0x3400 a 3, x, prof, false, false, 5, some start, 0, 0⟩
        let before := coopStaged s t m a
        let s := stageEntry t 0 m e s
        if coopStaged s t m a = before then placeCoop c a n fuel next 0 rest late s
        else placeCoop c a n fuel m (start + bodyBits s t 0 prof (8 + x)) (rest - x) late ((s.bump 0x3700 c 9 x).incAux .coopPend c 0 x)

/-- One forecast window of a report (R189). -/
def forecast (c a n : Nat) (w : Forecast) (s : State) : State :=
  let t := a / 1024
  let bytes := ceilDiv (w.bytes * (100 + s.get 0x3700 c 5)) 400 * 4
  let delay := ((s.get 0x3000 n 8 : Int) * 125000 / 6220800 - ((s.get 0x3100 t 5 + s.get 0x3100 t 6 : Nat) : Int) / 2) / 2
  let reach := (w.start : Int) + toInt 32 (s.get 0x3700 c 4) + delay
  let from' := reach - frameStart s t - ((teqd s t * 125000 / 6220800 : Nat) : Int)
  let frames := from' / 125000
  let m := frameAdd (frameNow s t) frames
  let pos := ((from' - frames * 125000) * 6220800 / 125000).toNat
  let (late, s) := placeCoop c a n (1024 + bytes) m pos bytes 0 s
  if late = 0 then s
  else raise 1544 c late ((((frameAdd (frameNow s t) 1 : Nat) : Int) - m) * 125).toNat (s.bump 0x3700 c 8 late)

/-- The enabled binding that a CTI report names (R188). -/
def bindingFor (s : State) (id : Nat) : Option Nat :=
  (List.range 1024).find? fun c => s.get 0x3700 c 1 == 1 && s.aux .coopDrain c == 0 && s.get 0x3700 c 2 == id

/-- CTI_REPORT (R188, R189). -/
def execCtiReport (id : Nat) (report : Bool) (windows : List Forecast) (s : State) : Host.Outcome State Fault Refusal :=
  whenUp s fun s =>
    match (if report then bindingFor s id else none) with
    | none => s.bump 0x3701 0 1
    | some c =>
      let a := s.get 0x3700 c 3
      let n := s.get 0x3400 a 2
      let s := s.bump 0x3700 c 7
      if a = 0xFFFFFFFF ∨ n = 0xFFFF then s else overAll windows (forecast c a n) s

/-- A write of a binding's enable (R394, R395, R397). -/
def coopEnableWrite (acc : Acc) (c v : Nat) (s : State) : State :=
  writeValue acc 0x3700 c 1 v s fun s =>
    let draining := s.aux .coopDrain c == 1
    if v = 1 then (if draining then refuse 3 s else done (s.put 0x3700 c 1 1))
    else if s.get 0x3700 c 1 = 0 ∨ draining = true then done s
    else
      let a := s.get 0x3700 c 3
      done (if a = 0xFFFFFFFF ∨ coopWaiting s a = 0 then endCoopDrain c s else s.setAux .coopDrain c 0 1)

end Sys2Proof.Machine
end

