-- ==== Sys2Proof/Machine/Claims.lean ====
section
/-!
DEFINITION. Machine/Claims.lean: claim writes, the engines' checks and commands, the fixed-function units, and the
release of frozen masters and requesters (spec/11 R378 to R393; spec/09 R310, R311; spec/12 R507).
-/
namespace Sys2Proof.Machine

/-- The instances of a privileged stage (R379). -/
def stageOk (s : State) (stage inst : Nat) : Bool :=
  match stage with
  | 0 | 2 => inst < s.trees
  | 1 => inst < 13
  | 3 => inst < 32
  | 4 => inst == 0
  | _ => false

/-- CLAIM_WRITE (R378, R379): a unit's write reaches a privileged stage with a claim: 0 taken, 2 refused. -/
def execClaimWrite (stage inst claim unit : Nat) (s : State) : Host.Outcome State Fault Refusal :=
  whenUp s fun s =>
    if !stageOk s stage inst then refuse 1 s
    else
      let (ok, s) := offer stage inst (claim % 65536) unit s
      if ok then done s else refuse 2 s

/-- WATCHDOG_EXPIRY (R382 cause 1). -/
def execWatchdogExpiry (engine : Nat) (s : State) : Host.Outcome State Fault Refusal :=
  whenUp s fun s => knell engine 1 s

/-- CONTROL_FLOW_MISMATCH (R382 cause 3). -/
def execControlFlowMismatch (engine : Nat) (s : State) : Host.Outcome State Fault Refusal :=
  whenUp s fun s => knell engine 3 s

/-- OUTPUT_IMPLAUSIBLE (R382 cause 4): the output is withheld. -/
def execOutputImplausible (engine : Nat) (s : State) : Host.Outcome State Fault Refusal :=
  whenUp s fun s => knell engine 4 s

/-- What an engine's read of a bad word does (R507): a private word and an image word knell the reader, a word of a
role's area knells the engine that carries the role, whose next carrier rewrites it (R414). An image word is
rewritten whole from the running image, whose content the spec does not give (a free value). -/
def badRead (reader memory word area : Nat) (s : State) : State :=
  if 256 ≤ memory then knell (memory - 256) 2 s
  else if word < 4 * 32768 then
    let (v, s) := (knell reader 2 s).fresh
    rewriteWord memory (readPlace s memory word) v s
  else
    let s := s.setAux .badWord memory (readPlace s memory word) (area + 1)
    match carrierOf s area with
    | some e => knell e 2 s
    | none => s

/-- MEMORY_CHECK_KNELL (R382 cause 2, R507): an engine reads a word of its private memory or of its cluster's memory.
area names the role in whose area a cluster word outside the image banks lies. -/
def execMemoryCheckKnell (reader memory word area flips : Nat) (s : State) : Host.Outcome State Fault Refusal :=
  whenUp s fun s =>
    if !Objects.engine s.trees reader || !(memory == 256 + reader || memory == reader / 16)
        || (if memory < 14 then 524288 else 8192) ≤ word || !s.islandUp (memIsland memory) then s
    else
      let (c, _, s) := readWord memory word flips s
      if c.bad then badRead reader memory word area s else s

/-- SPARE_CLAIM_RAISE (R380, R383 step 5): the spare assigned to a role raises the role's claims and acts. -/
def execSpareClaimRaise (engine : Nat) (s : State) : Host.Outcome State Fault Refusal :=
  whenUp s fun s =>
    let role := s.get 0x5400 engine 1
    if Objects.engine s.trees engine && s.get 0x5400 engine 2 == 1 && role != 0xFF then flushKeys (takeRole role engine s) else s

/-- A write of an engine's command (R384, R397, R406): a grant role's engine waits for its tree's next seal; any other engine
stands at a message boundary between two commands (log entry 15). -/
def engineCommand (acc : Acc) (e v : Nat) (s : State) : State :=
  writeValue acc 0x5400 e 5 v s fun s =>
    let st := s.get 0x5400 e 2
    match v with
    | 1 =>
      if st = 2 ∨ st = 4 ∨ st = 5 then refuse 3 s
      else if st = 0 ∧ (sealTree s (s.get 0x5400 e 1)).isSome = true then done (s.setAux .safePoint e 0 1)
      else done (knell e 6 s)
    | 2 =>
      if st = 3 ∨ st = 4 ∨ (st = 1 ∧ s.get 0x5400 e 1 = 0xFF) then
        done (((s.put 0x5400 e 2 2).setAux .knellAt e 1 0).setAux .knellAt e 2 0)
      else refuse 3 s
    | 3 =>
      if st ≠ 3 ∨ (homeRole e).isNone = true then refuse 3 s
      else if (sealTree s e).isSome then done (s.setAux .safePoint e 0 2)
      else flushKeys (done (revert e s))
    | _ => refuse 4 s

/-- ENGINE_TAKE_OUT: 1 written to 0x5400[e].05. -/
def execEngineTakeOut (acc : Acc) (engine : Nat) (s : State) : Host.Outcome State Fault Refusal :=
  whenUp s fun s => engineCommand acc engine 1 s

/-- ENGINE_RELOAD: 2 written to 0x5400[e].05. -/
def execEngineReload (acc : Acc) (engine : Nat) (s : State) : Host.Outcome State Fault Refusal :=
  whenUp s fun s => engineCommand acc engine 2 s

/-- ENGINE_TAKE_ROLE_BACK: 3 written to 0x5400[e].05. -/
def execEngineTakeRoleBack (acc : Acc) (engine : Nat) (s : State) : Host.Outcome State Fault Refusal :=
  whenUp s fun s => engineCommand acc engine 3 s

/-- The end of a reloaded engine's self-test (R384 to R386): failed, the engine is retired; passed, it takes a role
that its own knell left unserved at once, or resumes its role in place when no spare exists for it (R385), or mirrors
its role, or becomes a spare. -/
def selfTestDone (e : Nat) (passed : Bool) (s : State) : State :=
  if !passed then raise 3076 e (s.get 0x5400 e 3) 0 (s.put 0x5400 e 2 4)
  else
    let s := (clear 3076 e s).setAux .engImg e 0 (s.get 0x5510 (e / 16) 2)
    let s := s.put 0x5400 e 7 (s.get 0x5510 (e / 16) 1)
    let lost := (List.range 16).find? fun n =>
      s.aux .unserved (e / 16 * 16 + n) != 0 && s.aux .knellBy (e / 16 * 16 + n) == e + 1
    match lost, homeRole e with
    | some n, _ => raise 3075 e 0 0 (takeRole (e / 16 * 16 + n) e s)
    | none, none => spareFree e (raise 3075 e 1 0 ((s.put 0x5400 e 1 0xFF).put 0x5400 e 2 1))
    | none, some role =>
      if (roleSpares role).isEmpty then
        let s := raise 3075 e 0 0 (((rewriteRole role s).put 0x5400 e 1 role).put 0x5400 e 2 0)
        if role % 16 = 10 then clear 1560 (role / 16) s else s
      else s.put 0x5400 e 2 3

/-- ENGINE_SELF_TEST_DONE (R384). -/
def execEngineSelfTestDone (engine : Nat) (passed : Bool) (s : State) : Host.Outcome State Fault Refusal :=
  whenUp s fun s =>
    if Objects.engine s.trees engine && s.get 0x5400 engine 2 == 2 then flushKeys (selfTestDone engine passed s) else s

/-- ENGINE_REVERT (R384). -/
def execEngineRevert (engine : Nat) (s : State) : Host.Outcome State Fault Refusal :=
  whenUp s fun s =>
    if Objects.engine s.trees engine && s.get 0x5400 engine 2 == 3 then flushKeys (revert engine s) else s

/-! ## Fixed-function units (R388, R389) -/

/-- The gap of each unit (R388's table), pipe cycles. -/
def unitGap (u : Nat) : Nat :=
  if u < 6 then 2048 else [1024, 4096, 512, 256, 3600, 1800].getD (u - 6) 0

/-- A pipe that leaves service loses what it and its input queue hold. -/
def dropPipe (p : Nat) (s : State) : State :=
  let lost := s.recirc.filter fun x => x.carrier == p
  let s : State := { s with pipeIn := s.pipeIn.filter fun x => x.carrier != p, recirc := s.recirc.filter fun x => x.carrier != p }
  s.put 0x4480 0 6 (s.get 0x4480 0 6 - (lost.filter fun x => x.coat != s.get 0x4480 0 1).length)

/-- A mismatch of a unit's pair (R388): a pipe goes out of service and loses what it and its input queue hold; any
other unit goes on with its other pair, the LAG masters and the path selectors by claim. -/
def unitMismatch (u : Nat) (s : State) : State :=
  let s := ((s.bump32 0x5460 u 2).put 0x5460 u 3 (unitGap u))
  let s := raise 3077 u (unitGap u) 0 s
  if u < 6 then raise 3078 u 0 0 (dropPipe u (s.put 0x5460 u 1 2))
  else
    let side := 1 - s.get 0x5460 u 1
    let s := s.put 0x5460 u 1 side
    if u = 10 then overAll (List.range 32) (fun g s => raiseClaim 3 g (1024 + side) s) s
    else if u = 11 then raiseClaim 4 0 (1024 + side) s
    else s

/-- UNIT_PAIR_MISMATCH (R388). -/
def execUnitPairMismatch (unit : Nat) (s : State) : Host.Outcome State Fault Refusal :=
  whenUp s fun s => if unit < 12 && s.get 0x5460 unit 1 != 2 then unitMismatch unit s else s

/-- PIPE_SERVICE_RETURN (R389): a pipe whose self-test has passed returns while its logical pipe holds no packet. -/
def execPipeServiceReturn (pipe : Nat) (s : State) : Host.Outcome State Fault Refusal :=
  whenUp s fun s =>
    if pipe < 6 && s.get 0x5460 pipe 1 == 2 && !((s.pipeIn ++ s.recirc).any fun x => x.pipe == pipe) then
      raise 3078 pipe 1 0 (s.put 0x5460 pipe 1 0)
    else s

/-! ## Buffer returns and releases (spec/09 R310, R311; R393) -/

/-- A frozen master is released (R393): both records at once, the held buffers reclaimed, an engine reloaded, a ROL
session, DMA channel or bulk ring running again; event 3080 reports it. -/
def releaseMaster (k : Nat) (s : State) : State :=
  let (n, s) := match requesterOf k with
    | some r => let n := (reclaim r s).1; (n, releaseRequester r s)
    | none => (0, s)
  let s := raise 3080 k n 0 (clear 3079 k (s.put 0x5480 k 1 0))
  if k < 216 then
    (if s.get 0x5400 k 2 = 5 then ((s.put 0x5400 k 2 2).setAux .knellAt k 1 0).setAux .knellAt k 2 0 else s)
  else if 256 ≤ k ∧ k < 272 then
    (if s.get 0x1150 (k - 256) 2 = 3 then raise 3991 (k - 256) 3 2 (s.put 0x1150 (k - 256) 2 2) else s)
  else if 272 ≤ k ∧ k < 280 then
    clear 2057 (k - 272) (if s.get 0x4380 (k - 272) 2 = 3 then s.put 0x4380 (k - 272) 2 2 else s)
  else if 280 ≤ k ∧ k < 344 then (if s.get 0x1120 (k - 280) 1 = 3 then s.put 0x1120 (k - 280) 1 2 else s)
  else s

/-- A write of 0x5480[k].05 (R393). -/
def masterReleaseWrite (acc : Acc) (k v : Nat) (s : State) : State :=
  writeValue acc 0x5480 k 5 v s fun s => if v = 1 ∧ frozen s k = true then done (releaseMaster k s) else done s

/-- A write of 0x4C10[r].0A (R311, R393). -/
def requesterReleaseWrite (acc : Acc) (r v : Nat) (s : State) : State :=
  writeValue acc 0x4C10 r 0x0A v s fun s =>
    if v = 1 ∧ s.get 0x4C10 r 9 = 1 then
      (match masterOf r with
       | some k => if frozen s k then done (releaseMaster k s) else done (releaseRequester r s)
       | none => done (releaseRequester r s))
    else done s

/-- MASTER_RELEASE (R393). -/
def execMasterRelease (acc : Acc) (master value : Nat) (s : State) : Host.Outcome State Fault Refusal :=
  whenUp s fun s => masterReleaseWrite acc master value s

/-- REQUESTER_RELEASE (R311). -/
def execRequesterRelease (acc : Acc) (requester value : Nat) (s : State) : Host.Outcome State Fault Refusal :=
  whenUp s fun s => requesterReleaseWrite acc requester value s

/-- A violation (R310): the cause and the pointer are recorded, event 2560 is raised, and the requester is frozen,
with its master where it has one (R392); an engine is knelled with cause 5. -/
def violation (r cause ptr : Nat) (s : State) : State :=
  let s := ((s.bump 0x4C10 r 0x0B).put 0x4C10 r 0x0C cause).put 0x4C10 r 0x0D (ptr % 2 ^ 40)
  let s := raise 2560 r cause (ptr % 2 ^ 32) (s.put 0x4C10 r 9 1)
  match masterOf r with
  | some k => freeze k 4 (ptr % 2 ^ 32) s
  | none => s

/-- BUFFER_RETURN (R308, R310, R311): a requester returns a buffer by its pointer. -/
def execBufferReturn (requester pointer : Nat) (s : State) : Host.Outcome State Fault Refusal :=
  whenUp s fun s =>
    if !Objects.requesterOk s.trees requester then refuse 1 s
    else if s.get 0x4C10 requester 9 = 1 then refuse 9 (s.bump 0x4C10 requester 0x0E)
    else match returnCause s requester pointer with
      | 0 =>
        let p := field 39 38 pointer
        done (freeBuffer p (field 34 0 pointer / bufSize p) s)
      | c => refuse 9 (violation requester c pointer s)

end Sys2Proof.Machine
end

