-- ==== Sys2Proof/Machine/Fifo.lean ====
section
/-!
DEFINITION. Machine/Fifo.lean: the reassembly store, the coexistence staging buffer and the commit FIFO of a tree port (spec/03
R102, R108 to R115, R117).
-/
namespace Sys2Proof.Machine

/-! ## The commit FIFO (R109 to R112) -/

/-- Words of a bank. -/
def bankWords : Nat := 8192

/-- The filling bank, and the bank that drains. -/
def fillBank (s : State) (t : Nat) : Nat := s.get 0x2008 t 1
def drainBank (s : State) (t : Nat) : Nat := 1 - s.get 0x2008 t 1

/-- A bank holds an unread word. -/
def bankUnread (s : State) (t bank : Nat) : Bool := s.fifo.any fun r => r.tree == t && r.bank == bank

/-- The words of a record of a number of SDU bytes. -/
def recordWords (bytes : Nat) : Nat := 1 + ceilDiv bytes 32

/-- The patch marker of the open gap (R112). -/
def markerWord (s : State) (t : Nat) : Reg :=
  min (s.aux .fifoDrop t) (2 ^ 32 - 1) * 2 ^ 224 + s.aux .fifoDropB t % 2 ^ 48 * 2 ^ 176 + s.aux .fifoFirst t % 2 ^ 64 * 2 ^ 112
    + s.aux .fifoLast t % 2 ^ 64 * 2 ^ 48 + t % 256 * 2 ^ 40

/-- The banks trade roles (R111): with a gap open, the patch marker closes the bank (R112). -/
def swapBanks (t : Nat) (s : State) : State :=
  let fill := fillBank s t
  let s :=
    if s.aux .fifoDrop t = 0 then s
    else
      let r : Record := ⟨t, fill, s.aux .fifoNext t fill, 1, 0, true, markerWord s t, [], 0, 0⟩
      let frames := s.aux .fifoDrop t
      let bytes := s.aux .fifoDropB t
      let s : State := { s with fifo := s.fifo ++ [r] }
      let s := (s.put 0x2008 t 2 (s.get 0x2008 t 2 + 1)).bump 0x2008 t 5
      let s := overAll [Aux.fifoDrop, .fifoDropB, .fifoFirst, .fifoLast] (fun a s => s.setAux a t 0 0) s
      raise 18 t (min frames (2 ^ 32 - 1)) (bytes % 2 ^ 32) s
  (s.put 0x2008 t 1 (1 - fill)).setAux .fifoNext t (1 - fill) 0

/-- A record is dropped for lack of room (R112). -/
def dropFull (t bytes : Nat) (s : State) : State :=
  let s := if s.aux .fifoDrop t = 0 then s.setAux .fifoFirst t 0 (stamp64 s.now) else s
  let s := ((s.incAux .fifoDrop t).incAux .fifoDropB t 0 bytes).setAux .fifoLast t 0 (stamp64 s.now)
  (s.bump 0x2008 t 3).bump 0x2008 t 4 bytes

/-- A record is committed at the filling bank's next word (R110), and the banks swap when the draining one holds no unread
word (R111). -/
def commitAt (r : Record) (s : State) : State :=
  let t := r.tree
  let fill := fillBank s t
  let at' := s.aux .fifoNext t fill
  let empty := !bankUnread s t (1 - fill)
  let s : State := { s with fifo := s.fifo ++ [{ r with bank := fill, first := at' }] }
  let s := ((s.setAux .fifoNext t fill (at' + r.words)).put 0x2008 t 2 (s.get 0x2008 t 2 + r.words)).bump 0x2007 t 5
  if empty then swapBanks t s else s

/-- The room test for a record of a number of SDU bytes (R112, R111): it fits the filling bank; else the banks swap when the
draining one holds no unread word; else it is dropped. -/
def roomAt (t bytes : Nat) (s : State) : Bool × State :=
  let fill := fillBank s t
  if s.aux .fifoDrop t = 0 ∧ recordWords bytes + 1 + s.aux .fifoNext t fill ≤ bankWords then (true, s)
  else if bankUnread s t (1 - fill) then (false, dropFull t bytes s)
  else (true, swapBanks t s)

/-- A record arrives at the commit FIFO (R109 to R112). -/
def commitRecord (r : Record) (s : State) : State :=
  let (room, s) := roomAt r.tree r.bytes.length s
  if room then commitAt r s else s

/-! ## Reads (R113, R114) -/

/-- The tag of a word (R114's table): kind, last word, poison, and the valid bytes. -/
def wordTag (kind : Nat) (last poison : Bool) (bytes : Nat) : Nat :=
  2 ^ 15 + kind * 2 ^ 13 + (if last then 2 ^ 12 else 0) + (if poison then 2 ^ 11 else 0) + (bytes - 1) * 2 ^ 6

/-- The next word of a record and its tag. -/
def nextWord (r : Record) (poison : Bool) : Nat × Reg :=
  let last := r.read + 1 == r.words
  if r.read = 0 then (wordTag (if r.marker then 2 else 0) last poison 32, r.head)
  else
    let b := (r.bytes.drop (32 * (r.read - 1))).take 32
    (wordTag 1 last poison b.length, ofBytes b * 2 ^ (8 * (32 - b.length)))

/-- The drain of a lane's upstream is over when nothing of it is left (R115). -/
def laneLeft (s : State) (t l : Nat) : Bool :=
  (s.fifo.any fun r => r.tree == t && !r.marker && field 215 215 r.head == l)
    || (s.sdus.any fun x => x.tree == t && laneOf s (512 * t + x.onu) == l)
    || (l == 1 && s.coexStage.any fun r => r.tree == t)

/-- The upstream state shown for a tree: the more active of its lanes' (R115). -/
def showUp (t : Nat) (s : State) : State :=
  s.put 0x2007 t 0x0E (max (s.aux .upLane t 0) (s.aux .upLane t 1))

/-- A lane's upstream state. -/
def setUp (t l v : Nat) (s : State) : State :=
  showUp t ((s.setAux .upLane t l v).setAux .upClosed t l 0)

/-- A draining upstream with nothing left becomes disabled (R115). -/
def upSettled (t l : Nat) (s : State) : State :=
  if s.aux .upLane t l = 1 ∧ s.aux .upClosed t l = 1 ∧ laneLeft s t l = false then setUp t l 0 s else s

/-- The read of one word from the draining bank (R113, R114); an empty bank is swapped for one that holds committed words. -/
def readWordOf (t : Nat) (poison : Bool) (s : State) : State :=
  let s := if bankUnread s t (drainBank s t) = false ∧ bankUnread s t (fillBank s t) = true then swapBanks t s else s
  match s.fifo.find? fun r => r.tree == t && r.bank == drainBank s t with
  | none => (s.send .fifoWord [t, 0, 0]).bump 0x2008 t 6
  | some r =>
    let (tag, w) := nextWord r poison
    let s := s.send .fifoWord [t, tag, w]
    let rest := r.words - r.read - 1
    if poison then
      let s : State := { s with fifo := s.fifo.erase r }
      raise 21 t r.bank (r.first + r.read) ((s.put 0x2008 t 2 (s.get 0x2008 t 2 - rest - 1)).bump 0x2008 t 9)
    else
      let s : State := { s with fifo := if rest = 0 then s.fifo.erase r else s.fifo.map fun x => if x = r then { r with read := r.read + 1 } else x }
      s.put 0x2008 t 2 (s.get 0x2008 t 2 - 1)

/-- COMMIT_FIFO_READ (R113, R114): poison says that the word was read with the poison syndrome. -/
def execCommitFifoRead (tree : Nat) (poison : Bool) (s : State) : Host.Outcome State Fault Refusal :=
  whenUp s fun s =>
    if s.treeUp tree = false then s else upSettled tree 1 (upSettled tree 0 (readWordOf tree poison s))

/-! ## Reassembly (R102) -/

/-- Event 20: the timeouts and overflows of the last second, at most once per second. -/
def reasmEvent (t : Nat) (timeout : Bool) (s : State) : State := raisePair 20 t (if timeout then 0 else 1) 1 s

/-- The open SDU of an allocation and XGEM port. -/
def openSdu (s : State) (t a x : Nat) : Option OpenSdu := s.sdus.find? fun o => o.tree == t && o.alloc == a && o.xgem == x

/-- The reassembly store without an SDU. -/
def closeSdu (t a x : Nat) (s : State) : State :=
  { s with sdus := s.sdus.filter fun o => !(o.tree == t && o.alloc == a && o.xgem == x) }

/-- An SDU kept, or dropped with its later fragments. -/
def keepSdu (o : OpenSdu) (s : State) : State :=
  let s := closeSdu o.tree o.alloc o.xgem s
  { s with sdus := s.sdus ++ [o] }

/-- An overflow discard (R102). -/
def overflow (t : Nat) (s : State) : State := reasmEvent t false (s.bump 0x2007 t 0x0B)

/-- A fragment that is not the last (R102). A later fragment of an SDU that is open finds room even when the 128 KiB are full
(log entry 123). -/
def addFragment (t a x f k : Nat) (bytes : List Nat) (s : State) : State :=
  match openSdu s t a x with
  | some o =>
    if o.dropped then s
    else if s.get 0x2008 t 8 < o.bytes.length + bytes.length then
      overflow t (keepSdu { o with bytes := [], dropped := true, since := s.now } s)
    else keepSdu { o with bytes := o.bytes ++ bytes, since := s.now } s
  | none =>
    let mine := s.sdus.filter fun o => o.tree == t && !o.dropped
    let used := mine.foldl (fun n o => n + o.bytes.length) 0
    if 64 ≤ mine.length ∨ 131072 < used + bytes.length ∨ s.get 0x2008 t 8 < bytes.length then
      overflow t (keepSdu ⟨t, a, x, f, k, [], s.now, true⟩ s)
    else keepSdu ⟨t, a, x, f, k, bytes, s.now, false⟩ s

/-- A frame of an allocation and XGEM port is rewound: an SDU that it belongs to is discarded (R102), in no counter of the store (log
entry 124). -/
def rewindSdu (t a x f k : Nat) (last : Bool) (s : State) : State :=
  if last then closeSdu t a x s
  else keepSdu ⟨t, a, x, f, k, [], s.now, true⟩ s

/-- REASSEMBLY_TIMEOUT (R102). -/
def execReassemblyTimeout (tree alloc xgem : Nat) (s : State) : Host.Outcome State Fault Refusal :=
  whenUp s fun s =>
    match openSdu s tree alloc xgem with
    | none => s
    | some o =>
      let s := closeSdu tree alloc xgem s
      upSettled tree (laneOf s (512 * tree + o.onu))
        (if o.dropped then s else reasmEvent tree true (s.bump 0x2007 tree 0x0A))

/-! ## The coexistence staging buffer (R108) -/

/-- Bytes staged in a tree's coexistence staging buffer. -/
def stagedBytes (s : State) (t : Nat) : Nat := s.coexStage.foldl (fun n r => if r.tree = t then n + r.bytes.length else n) 0

/-- A frame that passed is staged whole, or dropped when the buffer is full. -/
def stageRecord (r : Record) (s : State) : State :=
  if 16384 < stagedBytes s r.tree + r.bytes.length then (s.bump 0x2008 r.tree 3).bump 0x2008 r.tree 4 r.bytes.length
  else { s with coexStage := s.coexStage ++ [r] }

/-- COEX_STAGING_COMMIT (R108): the oldest staged frame wins arbitration. -/
def execCoexStagingCommit (tree : Nat) (writes : List MemWrite) (s : State) : Host.Outcome State Fault Refusal :=
  whenUp s fun s =>
    match s.coexStage.find? fun r => r.tree == tree with
    | none => s
    | some r =>
      let s : State := { s with coexStage := s.coexStage.erase r }
      upSettled tree 1 (commitRecord r (writeWords writes s))

/-! ## Drain (R115) -/

/-- UPSTREAM_WINDOWS_CLOSED (R115): the last widened window of a lane that sends no more maps has closed. -/
def execUpstreamWindowsClosed (tree lane : Nat) (s : State) : Host.Outcome State Fault Refusal :=
  whenUp s fun s =>
    if s.aux .upLane tree lane = 1 ∧ laneState s tree lane = 0 then upSettled tree lane (s.setAux .upClosed tree lane 1) else s

/-- What a lane's upstream still holds is discarded: the records, the SDUs, and their bytes. -/
def discardLane (t l : Nat) (s : State) : Nat × Nat × State :=
  let (n, b, s) := dropRecords (fun r => r.tree == t && field 215 215 r.head == l) s
  let open' := s.sdus.filter fun o => o.tree == t && laneOf s (512 * t + o.onu) == l
  let mine := open'.filter fun o => !o.dropped
  let staged := if l = 1 then s.coexStage.filter fun r => r.tree == t else []
  (n + mine.length + staged.length,
    b + mine.foldl (fun k o => k + o.bytes.length) 0 + staged.foldl (fun k r => k + r.bytes.length) 0,
    { s with
      sdus := s.sdus.filter fun o => !open'.contains o
      coexStage := s.coexStage.filter fun r => !staged.contains r })

/-- UPSTREAM_DRAIN_EXPIRY (R115): what is left is discarded and counted, and the upstream is disabled. -/
def execUpstreamDrainExpiry (tree lane : Nat) (s : State) : Host.Outcome State Fault Refusal :=
  whenUp s fun s =>
    if s.aux .upLane tree lane = 1 ∧ s.aux .upClosed tree lane = 1 then
      let (n, b, s) := discardLane tree lane s
      let s := s.bump 0x2007 tree 0x0D n
      setUp tree lane 0 (if n = 0 then s else raise 19 tree n (b % 2 ^ 32) s)
    else s

end Sys2Proof.Machine
end

