-- ==== Sys2Proof/Machine/Muffling.lean ====
section
/-!
DEFINITION. Machine/Muffling.lean: the energy detector's report, the detection of a rogue, and the muffling sequence (spec/03
R103, R104; spec/04 R150 to R159).
-/
namespace Sys2Proof.Machine

/-! ## The energy detector (R103, R104) -/

/-- Blocks of 64 bits in a frame. -/
def frameBlocks : Nat := 97200

/-- The blocks that spans of light or of windows touch, in rising order without overlap: first block and length. -/
def blockRuns (l : List (Nat × Nat)) : List (Nat × Nat) :=
  let runs := sortBy (fun a b => a.1 ≤ b.1) ((l.map fun x => (x.1 / 64, min frameBlocks (ceilDiv x.2 64))).filter fun x => x.1 < x.2)
  (runs.foldl (fun (r : Nat × List (Nat × Nat)) x =>
    let a := max x.1 r.1
    if a < x.2 then (x.2, r.2 ++ [(a, x.2 - a)]) else r) (0, [])).2

/-- Blocks in a list of runs. -/
def runTotal (l : List (Nat × Nat)) : Nat := l.foldl (fun n x => n + x.2) 0

/-- One run of blocks less the runs of others, which are in rising order. -/
def lessRuns : List (Nat × Nat) → Nat × Nat → List (Nat × Nat)
  | [], x => if x.2 = 0 then [] else [x]
  | c :: l, x =>
    let a := x.1
    let z := x.1 + x.2
    let p := max a c.1
    let q := min z (c.1 + c.2)
    if p < q then (if a < p then [(a, p - a)] else []) ++ lessRuns l (q, z - q) else lessRuns l x

/-- What counts as granted in upstream frame M of the main lane (R103): the windows, those of the frames beside it too, widened by
the guard and by the burst-enable lead and lag, and the rest beats. -/
def grantedCover (s : State) (t m : Nat) : List (Nat × Nat) :=
  let g := (huntGuard s t 0 m : Int)
  let lead := g + 32 * (s.get 0x5E80 t 3 : Int)
  let lag := g + 32 * (s.get 0x5E80 t 4 : Int)
  let windows := ([-1, 0, 1] : List Int).flatMap fun d => ([0, 2].flatMap fun l =>
      ((mapOf s.sentMaps t l (frameAdd m d)).map fun x => x.entries).getD []).filterMap fun e =>
    let b := (e.closes : Int) + lag + 6220800 * d
    if e.kind = 0 ∨ e.kind = 1 ∨ b ≤ 0 then none else some (((e.opens : Int) - lead + 6220800 * d).toNat, b.toNat)
  let quiet := (s.quiets.filter fun q => q.tree == t && q.lane == 0).filterMap fun q =>
    let d := framesTo m q.frame * 6220800
    let b := (q.closes : Int) + d
    if b ≤ 0 then none else some (((q.opens : Int) + d).toNat, b.toNat)
  blockRuns (windows ++ quiet)

/-- The upstream frame whose last bit reached the device last before downstream frame N starts. -/
def endedFrame (s : State) (t n : Nat) : Nat := frameAdd n (-1 - (ceilDiv (teqd s t) 6220800 : Nat))

/-- The report of an upstream frame (R103, R104): a block holds light when its mean amplitude is above the threshold. -/
def energyOf (s : State) (t m : Nat) (light : List LightIn) : Energy :=
  let cover := grantedCover s t m
  let lit := (blockRuns ((light.filter fun x => s.get 0x2009 t 1 < x.level).map fun x =>
    (64 * x.block, 64 * (x.block + x.length)))).flatMap (lessRuns cover)
  ⟨t, m, runTotal lit, frameBlocks - runTotal cover, (lit.take (s.get 0x2009 t 5)).map fun x => ⟨64 * x.1, 64 * (x.1 + x.2)⟩⟩

/-! ## Scores and the probe order (R152) -/

/-- A terminal's windows in an upstream frame, widened by the guard. -/
def windowsOf (s : State) (t m k : Nat) : List Span :=
  let g := (huntGuard s t 0 m : Int)
  ([0, 2].flatMap fun l => ((mapOf s.sentMaps t l m).map fun x => x.entries).getD []).filterMap fun e =>
    if e.kind != 0 && e.kind != 1 && e.onu == k then some ⟨(e.opens : Int) - g, (e.closes : Int) + g⟩ else none

/-- A lit span borders a window: it starts within 2,048 bits after its end, or ends within 2,048 bits before its start. -/
def borders (x : LitSpan) (w : Span) : Bool :=
  (w.closes ≤ (x.start : Int) && (x.start : Int) ≤ w.closes + 2048) || ((x.stop : Int) ≤ w.opens && w.opens ≤ (x.stop : Int) + 2048)

/-- A terminal's score over the detection frames. -/
def score (s : State) (t k : Nat) (es : List Energy) : Nat :=
  es.foldl (fun n e =>
    let ws := windowsOf s t e.frame k
    n + (e.spans.countP fun x => ws.any fun w => borders x w)
      + 2 * (s.noDelims.countP fun d => d.tree == t && d.frame == e.frame && d.onu == k))
    (if termState s (512 * t + k) = 4 then 4 else 0)

/-- The terminals that may be probed. -/
def suspects (s : State) (t : Nat) : List Nat :=
  ((List.range 512).filter fun k =>
    let n := 512 * t + k
    2 ≤ termState s n && termState s n ≤ 4 && laneOf s n == 0 && s.get 0x3000 n 2 != 0)

/-! ## Steps of the sequence (R153) -/

/-- The probe record of a tree. -/
def probeOf (s : State) (t : Nat) : Probe := (s.probes.find? fun p => p.tree == t).getD ⟨t, [], []⟩

/-- The probe record written. -/
def setProbe (p : Probe) (s : State) : State := { s with probes := s.probes.filter (fun x => x.tree != p.tree) ++ [p] }

/-- A new observation from frame f on. -/
def observe (t f : Nat) (s : State) : State :=
  ((s.setAux .mufFrom t 0 f).setAux .mufObs t 0 0).setAux .mufLit t 0 0

/-- The sequence ends: detection goes on over the last frames (R151, R153). -/
def endSequence (t st : Nat) (s : State) : State :=
  let s : State := { s with probes := s.probes.filter fun x => x.tree != t }
  clear 1040 t (((s.put 0x3200 t 7 st).put 0x3200 t 8 0xFFFF).setAux .mufWait t 0 0)

/-- The next candidate of the probe order is disabled, or the order is exhausted (R153). The step observes from the third frame
after the one whose PLOAM partition carries the message. -/
def nextProbe (t : Nat) (s : State) : State :=
  let p := probeOf s t
  match (p.order.dropWhile fun k => !(2 ≤ termState s (512 * t + k) && termState s (512 * t + k) ≤ 4)) with
  | [] => raise 1042 t (s.aux .mufProbed t) 0 (endSequence t 6 s)
  | k :: rest =>
    let n := 512 * t + k
    let s := setProbe { p with order := rest } s
    let s := ((setTermState n 5 (tellSerial n false s)).put 0x3000 n 0x0A 2).incAux .mufProbed t
    observe t (frameAdd (frameNow s t) 4) (((s.put 0x3200 t 7 3).put 0x3200 t 8 k).setAux .mufWait t 0 (k + 1))

/-- The grants of a withheld candidate are restored, unless it has left the states in which it can have any. -/
def restoreGrants (t k : Nat) (s : State) : State :=
  if 2 ≤ termState s (512 * t + k) ∧ termState s (512 * t + k) ≤ 4 then mute t k false s else s

/-- The next withholding candidate, or the first step of disabling. -/
def nextWithhold (t : Nat) (s : State) : State :=
  let p := probeOf s t
  match p.withhold with
  | [] => nextProbe t s
  | k :: rest =>
    let s := setProbe { p with withhold := rest } s
    let s := (mute t k true s).put 0x3000 (512 * t + k) 0x0A 1
    observe t (frameAdd (frameNow s t) 2) ((s.put 0x3200 t 7 2).put 0x3200 t 8 k)

/-- The terminals of a tree that show a muffling state, MUFFLED ones apart. -/
def marked (s : State) (t : Nat) : List Nat :=
  s.objs.filterMap fun e =>
    if e.1.index == 0x3000 && e.1.sub == 0x0A && e.1.inst / 512 == t && termState s e.1.inst != 6 then some e.1.inst else none

/-- A rogue is detected (R151, R153): lit are the lit frames among the last M. -/
def detect (t : Nat) (es lit : List Energy) (s : State) : State :=
  let cont := !lit.isEmpty && lit.all fun e => s.get 0x3200 t 6 * e.outside ≤ 100 * e.blocks
  let cls := if cont then 0 else 1
  let first : Int := match lit.head? with
    | some e => upstreamAt s t e.frame 0
    | none => s.now
  let scored := (suspects s t).map fun k => (k, score s t k es)
  let sorted := sortBy (fun a b => b.2 < a.2 || (b.2 == a.2 && a.1 ≤ b.1)) scored
  let a := s.get 0x3200 t 5
  let s := overAll [(Aux.mufClass, cls), (.mufA, a), (.mufO, s.get 0x3200 t 4), (.mufThr, s.get 0x3200 t 0x0D), (.mufProbed, 0),
    (.mufFirst, first.toNat + 1)] (fun x s => s.setAux x.1 t 0 x.2) s
  let s := overAll (marked s t) (fun n s => s.put 0x3000 n 0x0A 0) s
  let s := setProbe ⟨t, sorted.map fun x => x.1,
    if cont then [] else ((sorted.filter fun x => 2 ≤ x.2).map fun x => x.1).take a⟩ s
  nextWithhold t (raise 1040 t cls lit.length (s.put 0x3200 t 7 1))

/-- The lit threshold in force (R159). -/
def litThreshold (s : State) (t : Nat) : Nat := if muffling s t then s.aux .mufThr t else s.get 0x3200 t 0x0D

/-- The adaptation engine of the tree's cluster serves (spec/11 R385). -/
def adaptUp (s : State) (t : Nat) : Bool := s.get 0x5400 (16 * (t / 4) + 10) 2 == 0

/-- The sequence pauses while the lane is announcing or dark (R155), and waits for the Disable_Serial_Number of its step. -/
def paused (s : State) (t : Nat) : Bool := laneState s t 0 == 3 || laneState s t 0 == 4 || s.aux .mufWait t != 0

/-- A frame's report reaches the adaptation engine (R151, R153): the step that runs observes it, or detection follows. While
the engine is down, the frame counts neither as lit nor as unlit (spec/11 R385). -/
def takeReport (e : Energy) (s : State) : State :=
  if adaptUp s e.tree = false then s
  else
  let t := e.tree
  let lit := litThreshold s t ≤ e.blocks
  let keep := (s.energy.filter fun x => x.tree == t) ++ [e]
  let mine := keep.drop (keep.length - 16)
  let s : State := { s with energy := s.energy.filter (fun x => x.tree != t) ++ mine }
  let m := s.get 0x3200 t 2
  let last := mine.drop (mine.length - m)
  let isLit := fun x : Energy => s.get 0x3200 t 0x0D ≤ x.blocks
  let s := if isPending s 1042 t ∧ last.length = m ∧ last.all (fun x => !isLit x) = true then clear 1042 t s else s
  let st := s.get 0x3200 t 7
  if 2 ≤ st ∧ st ≤ 4 then
    (if paused s t = false ∧ 0 ≤ framesTo (s.aux .mufFrom t) e.frame ∧ s.aux .mufObs t < s.aux .mufO t then
      let s := s.incAux .mufObs t
      if lit then s.setAux .mufLit t 0 1 else s
    else s)
  else if st = 0 ∧ s.get 0x3200 t 1 = 1 ∧ laneState s t 0 ≠ 5 then
    let hits := last.filter isLit
    if s.get 0x3200 t 3 ≤ hits.length then detect t last hits s else s
  else s

/-- The energy detector's report at a frame's end (R104), with its counts and event 17. -/
def energyReport (t m : Nat) (light : List LightIn) (s : State) : State :=
  let e := energyOf s t m light
  let s := if e.blocks = 0 then clear 17 t s
    else
      let s := (s.bump 0x2009 t 2 e.blocks).bump 0x2009 t 3
      let first := match e.spans.head? with
        | some x => x.start / 64
        | none => 0
      if isPending s 17 t then s else raise 17 t e.blocks first s
  let s : State := { s with noDelims := s.noDelims.filter fun d => d.tree != t || framesTo d.frame m < 16 }
  takeReport e s

/-- A terminal is found to be the rogue (R153): MUFFLED with cause 8, event 1041, and the confirmation starts. -/
def muffle (t k : Nat) (s : State) : State :=
  let n := 512 * t + k
  let ms := (s.now - (s.aux .mufFirst t - 1)) / 1000000
  let s := (setTermState n 6 (s.put 0x3000 n 0x10 8)).put 0x3000 n 0x0A 3
  let s := (s.bump32 0x3200 t 0x0B).put 0x3200 t 0x0C (ms % 2 ^ 32)
  let s := raise 1041 n k ms s
  let next := match (s.energy.filter fun e => e.tree == t).getLast? with
    | some e => frameAdd e.frame 1
    | none => frameNow s t
  heldCommand n (observe t next ((s.put 0x3200 t 7 4).put 0x3200 t 8 0xFFFF))

/-- The observe frames of the running step have been reported, to an engine that serves: the sequence is paused while it is
down (spec/11 R385). -/
def observed (s : State) (t : Nat) : Bool := decide (s.aux .mufO t ≤ s.aux .mufObs t) && adaptUp s t

/-- MUFFLING_WITHHOLD_END (R123, R153). DESIGN CHOICE (log entry 126): a candidate found by withholding in a state that R123 does not
list for it is ignored and counted, and the next one follows. -/
def execMufflingWithholdEnd (tree : Nat) (s : State) : Host.Outcome State Fault Refusal :=
  whenUp s fun s =>
    let t := tree
    if s.get 0x3200 t 7 ≠ 2 ∨ observed s t = false then s
    else
      let k := s.get 0x3200 t 8
      let n := 512 * t + k
      if s.aux .mufLit t = 1 then nextWithhold t ((restoreGrants t k s).put 0x3000 n 0x0A 4)
      else if termState s n = 3 then muffle t k (tellSerial n false s)
      else nextWithhold t (ignoreEvent t ((restoreGrants t k s).put 0x3000 n 0x0A 0))

/-- A PROBED terminal is cleared (R123, R153). -/
def clearProbed (n : Nat) (s : State) : State :=
  let s := (tellSerial n true s).put 0x3000 n 0x10 7
  heldCommand n ((setTermState n 1 s).put 0x3000 n 0x0A 4)

/-- MUFFLING_PROBE_END (R153). -/
def execMufflingProbeEnd (tree : Nat) (s : State) : Host.Outcome State Fault Refusal :=
  whenUp s fun s =>
    let t := tree
    if s.get 0x3200 t 7 ≠ 3 ∨ observed s t = false then s
    else
      let k := s.get 0x3200 t 8
      if s.aux .mufLit t = 0 then muffle t k s else nextProbe t (clearProbed (512 * t + k) s)

/-- MUFFLING_CONFIRM_END (R153): another rogue, or recovery discovery. -/
def execMufflingConfirmEnd (tree : Nat) (s : State) : Host.Outcome State Fault Refusal :=
  whenUp s fun s =>
    let t := tree
    if s.get 0x3200 t 7 ≠ 4 ∨ observed s t = false then s
    else if s.aux .mufLit t = 1 then endSequence t 0 s
    else overAll [Aux.recBeats, .recEmpty, .recHeard, .recAt] (fun a s => s.setAux a t 0 0) (s.put 0x3200 t 7 5)

/-- RECOVERY_DISCOVERY_BEAT (R156): the next beat of recovery discovery, at least 4 frames after the one before, or its end after 16
beats or 2 empty ones. A beat that finds no place stays due; it counts when it has been sent. -/
def execRecoveryDiscoveryBeat (tree : Nat) (s : State) : Host.Outcome State Fault Refusal :=
  whenUp s fun s =>
    let t := tree
    let last := s.aux .recAt t
    let mine := fun b : Beat => b.tree == t && b.kind == 3
    if s.get 0x3200 t 7 ≠ 5 ∨ adaptUp s t = false ∨ (last ≠ 0 ∧ framesTo (last - 1) (nextBuild s t 0) < 4)
        ∨ (s.beats.any fun b => mine b && !beatFree s b) = true then s
    else
      let n := s.aux .recBeats t
      let empty := if n = 0 ∨ s.aux .recHeard t = 1 then 0 else s.aux .recEmpty t + 1
      if 16 ≤ n ∨ 2 ≤ empty then endSequence t 0 { s with beats := s.beats.filter fun b => !mine b }
      else
        let b : Beat := (s.beats.find? mine).getD ⟨t, 0, 3, 0xFFFF, false, s.now, false, 0⟩
        placeBeat b (if s.beats.contains b then s else { s with beats := s.beats ++ [b] })

/-- UNATTRIBUTED_WAIT_END (R153): the 10 s have passed and detection resumes. -/
def execUnattributedWaitEnd (tree : Nat) (s : State) : Host.Outcome State Fault Refusal :=
  whenUp s fun s => if s.get 0x3200 tree 7 = 6 then endSequence tree 0 s else s

/-! ## Abort and the host's commands (R157 to R159) -/

/-- A running sequence is aborted with a cause (R157): withheld grants are restored and PROBED terminals enabled. -/
def abortMuffling (t cause : Nat) (s : State) : State :=
  let st := s.get 0x3200 t 7
  if st = 0 ∨ st = 6 then s
  else
    let k := s.get 0x3200 t 8
    let s := if st = 2 then (restoreGrants t k s).put 0x3000 (512 * t + k) 0x0A 0 else s
    let s := overAll (termsIn s t 5) clearProbed s
    let s : State := { s with beats := s.beats.filter fun x => !(x.tree == t && x.kind == 3) }
    raise 1043 t cause 0 (endSequence t 0 s)

/-- A write of the start command (R159). -/
def mufflingStartWrite (acc : Acc) (t v : Nat) (s : State) : State :=
  writeValue acc 0x3200 t 9 v s fun s =>
    let st := s.get 0x3200 t 7
    if v = 0 then done s
    else if st ≠ 0 ∧ st ≠ 6 then refuse 3 s
    else
      let mine := s.energy.filter fun e => e.tree == t
      let last := mine.drop (mine.length - s.get 0x3200 t 2)
      done (detect t last (last.filter fun e => s.get 0x3200 t 0x0D ≤ e.blocks) s)

/-- A write of the abort command. -/
def mufflingAbortWrite (acc : Acc) (t v : Nat) (s : State) : State :=
  writeValue acc 0x3200 t 0x0A v s fun s => done (if v = 0 then s else abortMuffling t 3 s)

/-- A write of the muffling enable: 0 stops detection and aborts a running sequence. -/
def mufflingEnableWrite (acc : Acc) (t v : Nat) (s : State) : State :=
  writeValue acc 0x3200 t 1 v s fun s =>
    let s := s.put 0x3200 t 1 v
    done (if v = 0 then abortMuffling t 3 s else s)

/-- MUFFLING_START (R159): 1 written to 0x3200[t].09. -/
def execMufflingStart (acc : Acc) (tree : Nat) (s : State) : Host.Outcome State Fault Refusal :=
  whenUp s fun s => mufflingStartWrite acc tree 1 s

/-- MUFFLING_ABORT (R157): 1 written to 0x3200[t].0A. -/
def execMufflingAbort (acc : Acc) (tree : Nat) (s : State) : Host.Outcome State Fault Refusal :=
  whenUp s fun s => mufflingAbortWrite acc tree 1 s

/-- MUFFLING_DISABLE (R158): 0 written to 0x3200[t].01. -/
def execMufflingDisable (acc : Acc) (tree : Nat) (s : State) : Host.Outcome State Fault Refusal :=
  whenUp s fun s => mufflingEnableWrite acc tree 0 s

end Sys2Proof.Machine
end

