-- ==== Sys2Proof/Machine/Downstream.lean ====
section
/-!
DEFINITION. Machine/Downstream.lean: the start of a downstream frame, the lanes of a tree, and the change of its mode (spec/02
R60, R72 to R81, R90).
-/
namespace Sys2Proof.Machine

/-! ## Frames -/

/-- A lane starts frame n on the wire. -/
def sendFrameStart (t l n : Nat) (s : State) : State :=
  let pre := if l = 0 then s.get 0x2001 t 2 else 0
  let s := if l = 0 then s.bump 0x2004 t 1 else s
  s.send .frame ([t, l, n, lanePonId s t l, frameBytes s t l, (if doubleStroke s t l then 1 else 0), pre] ++ frameLead s t l n)

/-! ## Lanes (R80, R82, R115, R125) -/

/-- A lane's state changes: event 0 or 9. -/
def setLane (t l st : Nat) (s : State) : State :=
  let old := laneState s t l
  if old = st then s else raise (if l = 0 then 0 else 9) t old st (s.put (if l = 0 then 0x2000 else 0x2002) t 1 st)

/-- The start of a lane that waits for the frame boundary. -/
def lanePend (l : Nat) : Aux := if l = 0 then .mainPend else .coexPend

/-- A lane starts at a frame boundary: a standby port's output stays idle (R80, R82). Discovery starts at its shortest interval
(spec/04 R140). -/
def startDown (t l : Nat) (s : State) : State :=
  let s := setInterval t l (s.get 0x3100 t 0x0B) ((s.setAux (lanePend l) t 0 0).setAux .discNext t l 0)
  let s := setUp t l 2 (setLane t l (if s.get 0x2003 t 1 = 2 ∨ s.aux .sick t = 1 then 5 else 2) s)
  watchBroadcast t (if l = 0 then s.setAux .silentRun t 0 0 else s)

/-- What waits in the emitter for a lane is dropped. -/
def dropMaps (t l : Nat) (s : State) : State :=
  let mine := fun g : GrantMap => g.tree == t && (g.lane == l || (l == 0 && g.lane == 2))
  { s with
    staged := s.staged.filter fun g => !mine g
    sealedMaps := s.sealedMaps.filter fun g => !mine g
    plan := s.plan.filter fun g => !(g.tree == t && g.lane == l)
    dues := s.dues.filter fun g => !(g.tree == t && g.lane == l)
    bulletins := s.bulletins.filter fun b => !(l == 0 && b.1 / 4 == t) }

/-- A lane reports disabled: its terminals pass to WAITING, and a pending time correction may be accepted (R125; spec/13 R434). -/
def laneDown (t l : Nat) (s : State) : State :=
  let s := dropMaps t l ((setLane t l 0 (closeFs t l s)).setAux .drainOver t l 0)
  let s := if l = 0 then s.setAux .changeDrain t 0 0 else s
  autoAccept (watchBroadcast t (laneToWaiting t l (endHold t l s)))

/-- The change of a tree's mode is dropped with its notices. -/
def dropChange (t : Nat) (s : State) : State :=
  let s : State := { s with
    notices := s.notices.filter fun x => x.tree != t
    ploams := s.ploams.filter fun x => !(x.tree == t && (x.kind == .announceNotice || x.kind == .cancelNotice)) }
  s.setAux .chgState t 0 0

/-- The change that a tree has announced, as an event names it: target mode * 2 + precoding, and S. -/
def changeArgs (s : State) (t : Nat) : Reg × Reg := (s.aux .chgTarget t, switchFrame s t % 2 ^ 32)

/-- A drain abandons an announced or dark change, and stops the notices of a cancelled one (R80). The hold of its rest beats
lasts until the lane is disabled (spec/04 R138). -/
def abandonChange (t : Nat) (s : State) : State :=
  match s.aux .chgState t with
  | 0 => s
  | 1 =>
    let s := ((s.setAux .beatHold t 0 0).setAux .lossHold t 0 0).setAux .changeDrain t 0 1
    raise 4 t (changeArgs s t).1 (changeArgs s t).2 (dropChange t s)
  | _ => dropChange t s

/-- A running lane drains (R80, R115); the main lane's drain aborts a muffling sequence (spec/04 R157). -/
def drainLane (t l : Nat) (s : State) : State :=
  let s := if l = 0 then abortMuffling t 2 (abandonChange t s) else s
  setUp t l 1 ((setLane t l 1 s).setAux .drainOver t l 0)

/-- A write of a lane's enable (R80, R395): a standby lane has no work in flight and is disabled at once. -/
def laneEnableWrite (acc : Acc) (t l v : Nat) (s : State) : State :=
  writeValue acc (if l = 0 then 0x2000 else 0x2002) t 2 v s fun s =>
    if v = 1 ∧ (bit 7 (s.get 0x5E01 t 1) = false ∨ (l = 1 ∧ bit 6 (s.get 0x5E01 t 1) = false)) then refuse 5 s
    else match v, laneState s t l with
    | 0, 0 => done (s.setAux (lanePend l) t 0 0)
    | 0, 1 => done s
    | 0, 5 => done (setUp t l 0 (laneDown t l (if l = 0 then abandonChange t s else s)))
    | 0, _ => done (drainLane t l s)
    | _, 0 => done (s.setAux (lanePend l) t 0 1)
    | _, 1 => refuse 3 s
    | _, _ => done s

/-- MAIN_LANE_ENABLE (R80). -/
def execMainLaneEnable (acc : Acc) (tree : Nat) (s : State) : Host.Outcome State Fault Refusal :=
  whenUp s fun s => laneEnableWrite acc tree 0 1 s

/-- MAIN_LANE_DRAIN (R80). -/
def execMainLaneDrain (acc : Acc) (tree : Nat) (s : State) : Host.Outcome State Fault Refusal :=
  whenUp s fun s => laneEnableWrite acc tree 0 0 s

/-- COEX_LANE_ENABLE (R80). -/
def execCoexLaneEnable (acc : Acc) (tree : Nat) (s : State) : Host.Outcome State Fault Refusal :=
  whenUp s fun s => laneEnableWrite acc tree 1 1 s

/-- COEX_LANE_DRAIN (R80). -/
def execCoexLaneDrain (acc : Acc) (tree : Nat) (s : State) : Host.Outcome State Fault Refusal :=
  whenUp s fun s => laneEnableWrite acc tree 1 0 s

/-- DOWNSTREAM_DRAIN_EXPIRY (R80): what is still staged is discarded and counted. -/
def execDownstreamDrainExpiry (tree lane : Nat) (s : State) : Host.Outcome State Fault Refusal :=
  whenUp s fun s =>
    if 1 < lane ∨ laneState s tree lane ≠ 1 ∨ s.aux .drainOver tree lane = 1 then s
    else
      let x := waitingFrames s tree lane
      let b := waitingBytes s tree lane
      let s := (dropWaiting tree lane s).setAux .drainOver tree lane 1
      if x = 0 then s else raise 8 tree x b (s.bump 0x2004 tree 5 x)

/-- DOWNSTREAM_DRAIN_END (R80): the frame boundary after the drain. -/
def execDownstreamDrainEnd (tree lane : Nat) (s : State) : Host.Outcome State Fault Refusal :=
  whenUp s fun s =>
    if 1 < lane ∨ laneState s tree lane ≠ 1 ∨ (waitingFrames s tree lane ≠ 0 ∧ s.aux .drainOver tree lane = 0) then s
    else laneDown tree lane s

/-! ## The change of a tree's mode (R72 to R78, R81, R90) -/

/-- A local standby port mirrors the change (R81). -/
def mirrorMode (t : Nat) (s : State) : State :=
  match localPartner s t with
  | some p =>
    if s.get 0x2003 t 1 ≠ 1 then s
    else
      let s := overAll [1, 2, 8, 9, 0x0B] (fun sub s => s.put 0x2001 p sub (s.get 0x2001 t sub)) s
      overAll [Aux.chgState, .chgStart, .chgTarget, .chgDark, .beatHold, .lossHold, .lastSwitchS, .modeAt, .oldStroke, .oldS, .oldHold]
        (fun a s => s.setAux a p 0 (s.aux a t)) s
  | none => s

/-- The terminals in operation on the main lane (R72). -/
def mainTerminals (s : State) (t : Nat) : List Nat := (termsIn s t 3).filter fun n => laneOf s n == 0

/-- A terminal follows a double-stroke target (spec/04 R132). -/
def capableOf (s : State) (precoding n : Nat) : Bool :=
  bit 0 (s.get 0x3000 n 9) && (precoding == 0 || bit 1 (s.get 0x3000 n 9))

/-- A mode change requested (R72, R73): the steps in their order. -/
def modeRequest (t : Nat) (s : State) : State :=
  let g := fun sub => s.get 0x2001 t sub
  let mode := g 3
  let pre := g 4
  let inOp := mainTerminals s t
  let unfit := inOp.countP fun n => !capableOf s pre n
  if s.aux .chgState t ≠ 0 ∨ laneState s t 0 ≠ 2 then refuse 3 s
  else if mode = 0 ∧ pre = 1 then refuse 4 s
  else if mode = g 1 ∧ pre = g 2 then done s
  else if mode = 1 ∧ bit 0 (s.get 0x5E10 t 6) = false then refuse 5 s
  else if mode = 1 ∧ unfit ≠ 0 then refuse 5 (s.put 0x2001 t 0x0A unfit)
  else if g 5 < ceilDiv inOp.length 8 + 16 then refuse 4 s
  else
    let f := frameNow s t
    let d := g 6
    let sw := frameAdd f (g 5)
    let s := if s.aux .beatHold t = 0 then s else (s.setAux .oldS t 0 (switchFrame s t + 1)).setAux .oldHold t 0 (s.aux .beatHold t)
    let s := (s.put 0x2001 t 8 sw).put 0x2001 t 9 0
    let s := overAll [(Aux.chgState, 1), (.chgStart, f), (.chgTarget, 2 * mode + pre), (.chgDark, d), (.beatHold, frameAdd sw (d + 8) + 1),
      (.lossHold, frameAdd sw (d + 8) + 1)] (fun x s => s.setAux x.1 t 0 x.2) s
    let s := raise 1 t (changeArgs s t).1 (changeArgs s t).2 (setLane t 0 3 s)
    done (mirrorMode t s)

/-- A cancel requested (R75): A counts the terminals that have been sent a notice. -/
def modeCancel (t : Nat) (s : State) : State :=
  if s.aux .chgState t ≠ 1 then done s
  else
    let told := s.notices.filter fun x => x.tree == t && x.sent != 0
    let sw := switchFrame s t
    if framesTo (frameNow s t) sw < ((ceilDiv told.length 8 + 16 : Nat) : Int) then refuse 3 s
    else
      let s := dropChange t s
      let s : State := { s with notices := s.notices ++ told.map fun x => { x with sent := 0, due := true, acked := false, seq := 0 } }
      let s := overAll [(Aux.chgState, 2), (.chgStart, frameNow s t), (.beatHold, frameAdd sw 8 + 1), (.lossHold, sw + 1), (.lastSwitchS, sw + 1)]
        (fun x s => s.setAux x.1 t 0 x.2) s
      done (mirrorMode t (raise 3 t 0 0 (setLane t 0 2 s)))

/-- A write of the switch command. -/
def switchWrite (acc : Acc) (t v : Nat) (s : State) : State :=
  writeValue acc 0x2001 t 7 v s fun s => if v = 1 then modeRequest t s else modeCancel t s

/-- A write of a change's parameters (R90). -/
def modeParamWrite (acc : Acc) (t sub v : Nat) (s : State) : State :=
  writeValue acc 0x2001 t sub v s fun s => if s.aux .chgState t = 1 then refuse 3 s else store 0x2001 t sub v s

/-- MODE_SWITCH_REQUEST (R72): 1 written to the switch command. -/
def execModeSwitchRequest (acc : Acc) (tree : Nat) (s : State) : Host.Outcome State Fault Refusal :=
  whenUp s fun s => switchWrite acc tree 1 s

/-- MODE_SWITCH_CANCEL (R75): 0 written to the switch command. -/
def execModeSwitchCancel (acc : Acc) (tree : Nat) (s : State) : Host.Outcome State Fault Refusal :=
  whenUp s fun s => switchWrite acc tree 0 s

/-- The notices sent 8 frames before the next frame and not acknowledged are due again (R73, R75). -/
def resendNotices (t : Nat) (s : State) : State :=
  let next := frameAdd (frameNow s t) 1
  { s with notices := s.notices.map fun x =>
    if x.tree == t && !x.acked && x.sent != 0 && 8 ≤ framesTo (x.sent - 1) next then { x with due := true } else x }

/-- MODE_NOTICE_RESEND (R73): none in frame S - 8 or later. -/
def execModeNoticeResend (tree : Nat) (s : State) : Host.Outcome State Fault Refusal :=
  whenUp s fun s =>
    if s.aux .chgState tree = 1 ∧ 9 < framesTo (frameNow s tree) (switchFrame s tree) then resendNotices tree s else s

/-- CANCEL_NOTICE_RESEND (R75): up to frame S - 1. -/
def execCancelNoticeResend (tree : Nat) (s : State) : Host.Outcome State Fault Refusal :=
  whenUp s fun s =>
    if s.aux .chgState tree = 2 ∧ 1 < framesTo (frameNow s tree) (switchFrame s tree) then resendNotices tree s else s

/-- An Acknowledgement of a terminal whose sequence number is that of an Assign_Alloc-ID (spec/05 R197; log entry 92). -/
def allocAcked (n seq : Nat) (s : State) : State :=
  overAll ((allocsOf s n).filter fun a => seq != 0 && s.aux .allocSeq a == seq)
    (fun a s => (s.put 0x3400 a 0x10 1).setAux .allocSeq a 0 0) s

/-- MODE_NOTICE_ACK (R75, R77): the Acknowledgement of a terminal; it counts for the message whose sequence number it carries: the
announce or cancel notice, or an Assign_Alloc-ID. -/
def execModeNoticeAck (terminal : Nat) (ack : Bool × Nat) (s : State) : Host.Outcome State Fault Refusal :=
  let (cancel, seq) := ack
  whenUp s fun s =>
    let t := terminal / 512
    let s := if termState s terminal = 3 then allocAcked terminal seq s else s
    let mine := fun x : Notice => x.tree == t && x.onu == terminal % 512 && x.sent != 0 && x.seq == seq && !x.acked
    if s.aux .chgState t ≠ (if cancel then 2 else 1) ∨ laneState s t 0 = 4 ∨ !(s.notices.any mine) then s
    else
      let s : State := { s with notices := s.notices.map fun x => if mine x then { x with acked := true, due := false } else x }
      if cancel then s else mirrorMode t (s.put 0x2001 t 9 (s.get 0x2001 t 9 + 1))

/-- The notices of a tree that have not been acknowledged. -/
def unacked (s : State) (t : Nat) : Nat := s.notices.countP fun x => x.tree == t && !x.acked

/-- CANCEL_DEADLINE (R75): frame S of a cancelled change. -/
def execCancelDeadline (tree : Nat) (s : State) : Host.Outcome State Fault Refusal :=
  whenUp s fun s =>
    if s.aux .chgState tree ≠ 2 ∨ 0 < framesTo (frameNow s tree) (switchFrame s tree) then s
    else
      let n := unacked s tree
      let s := mirrorMode tree (dropChange tree s)
      if n = 0 then s else raise 3 tree n 0 s

/-- MODE_SWITCH_DARK_START (R74): frame S, electrical idle. -/
def execModeSwitchDarkStart (tree : Nat) (s : State) : Host.Outcome State Fault Refusal :=
  whenUp s fun s =>
    if s.aux .chgState tree ≠ 1 ∨ laneState s tree 0 ≠ 3 ∨ 0 < framesTo (frameNow s tree) (switchFrame s tree) then s
    else mirrorMode tree (setLane tree 0 4 (s.setAux .lastSwitchS tree 0 (switchFrame s tree + 1)))

/-- The first frame in the target mode. -/
def newModeFrame (s : State) (t : Nat) : Nat := frameAdd (switchFrame s t) (s.aux .chgDark t)

/-- MODE_SWITCH_COMPLETE (R74): frame S + D in the target mode. -/
def execModeSwitchComplete (tree : Nat) (s : State) : Host.Outcome State Fault Refusal :=
  whenUp s fun s =>
    let t := tree
    if s.aux .chgState t ≠ 1 ∨ laneState s t 0 ≠ 4 ∨ 0 < framesTo (frameNow s t) (newModeFrame s t) then s
    else
      let n := unacked s t
      let s := (s.setAux .oldStroke t 0 (s.get 0x2001 t 1)).setAux .modeAt t 0 (newModeFrame s t + 1)
      let s := (s.put 0x2001 t 1 (s.aux .chgTarget t / 2)).put 0x2001 t 2 (s.aux .chgTarget t % 2)
      let s := s.put 0x2001 t 0x0B (wrapAdd 16 (s.get 0x2001 t 0x0B) 1)
      let s := raise 2 t (s.get 0x2001 t 0x0B) n (setLane t 0 2 (dropChange t s))
      watchBroadcast t (mirrorMode t s)

end Sys2Proof.Machine
end

