-- ==== Sys2Proof/Machine/Mac.lean ====
section
/-!
DEFINITION. Machine/Mac.lean: the MAC table, learning, aging and the entry commands (spec/08 R289 to R298). An entry is the
128-bit word of R289 at its place: bank · 131,072 + bucket, and slot.
-/
namespace Sys2Proof.Machine

/-! ## Entries (R289, R290) -/

/-- Fields of an entry. -/
def macValid (e : Reg) : Bool := bit 127 e
def macType (e : Reg) : Nat := field 125 124 e
def macDomain (e : Reg) : Nat := field 123 112 e
def macAddr (e : Reg) : Nat := field 111 64 e
def macDest (e : Reg) : Nat := field 63 46 e
def macChallenger (e : Reg) : Nat := field 45 28 e
def macAge (e : Reg) : Nat := field 25 16 e

/-- The challenger field of an entry with no conflict pending (log entry 31). -/
def noChallenger : Nat := 0x3FFFF

/-- Milliseconds of the time base modulo 16,384. -/
def macNow (s : State) : Nat := s.now / 1000000 % 16384

/-- A new entry: held from now, age 0, no challenger (R289, R295). -/
def newEntry (s : State) (typ domain mac dest : Nat) : Reg :=
  2 ^ 127 + typ % 4 * 2 ^ 124 + domain % 4096 * 2 ^ 112 + mac % 2 ^ 48 * 2 ^ 64 + dest % 2 ^ 18 * 2 ^ 46
    + noChallenger * 2 ^ 28 + 2 ^ 15 + macNow s

/-- The content of a place. -/
def macAt (s : State) (p : Nat × Nat) : Reg := s.aux .macEntry p.1 p.2

/-- A place written whole. -/
def setMac (p : Nat × Nat) (e : Reg) (s : State) : State := s.setAux .macEntry p.1 p.2 e

/-- The bucket of a key in a bank, counted over both banks (R289). -/
def macBucket (s : State) (domain mac bank : Nat) : Nat :=
  131072 * bank + crc32cFrom (Nat.xor (Nat.xor 0xFFFFFFFF (s.get 0x4B10 0 0x0A)) (0x5A5A5A5A * bank))
    (bytesOf 2 (domain % 4096) ++ bytesOf 6 mac) % 131072

/-- The 8 candidate places of a key, bank 0 first (R290). -/
def macPlaces (s : State) (domain mac : Nat) : List (Nat × Nat) :=
  [0, 1].flatMap fun b => let k := macBucket s domain mac b; (List.range 4).map fun j => (k, j)

/-- The first valid place that holds the key (R290). -/
def macFind (s : State) (domain mac : Nat) : Option (Nat × Nat) :=
  (macPlaces s domain mac).find? fun p =>
    let e := macAt s p
    macValid e && macDomain e == domain && macAddr e == mac

/-- Every valid entry's place. -/
def macList (s : State) : List (Nat × Nat) :=
  s.regs.filterMap fun r =>
    if r.1.index == Aux.macEntry.ctorIdx && macValid r.2 then some (r.1.inst, r.1.sub) else none

/-- The number of a place in the table: bank, bucket and slot. -/
def macPlace (i : Nat) : Nat × Nat := (i / 4, i % 4)

/-! ## Counts -/

/-- A table-entry write rewrites whatever was poisoned there (spec/12 R413): event 3590 clears with the last one. -/
def rewritten (index inst : Nat) (s : State) : State :=
  if s.aux .entryPoison index inst = 0 then s
  else
    let s := s.setAux .entryPoison index inst 0
    if s.regs.any fun r => r.1.index == Aux.entryPoison.ctorIdx then s else clear 3590 65 s

/-- A U32 count up or down. -/
def tally (add : Bool) (index inst sub : Nat) (s : State) : State :=
  s.put index inst sub (if add then s.get index inst sub + 1 else s.get index inst sub - 1)

/-- The learned entries counted at a destination: its flow, terminal and tree (R294). -/
def tallyDest (add : Bool) (dest : Nat) (s : State) : State :=
  if bit 17 dest then s
  else
    let f := dest % 131072
    let s := tally add 0x4800 f 9 s
    let s := match flowTerminal s f with
      | some n => tally add 0x4880 n 3 s
      | none => s
    if s.get 0x4800 f 1 < s.trees then tally add 0x4890 (s.get 0x4800 f 1) 3 s else s

/-- An entry counted in, or out (0x4B10.01 to .04, 0x4900[d].0C and the limits' counts). -/
def tallyEntry (add : Bool) (e : Reg) (s : State) : State :=
  let s := tally add 0x4B10 0 (2 + macType e) (tally add 0x4B10 0 1 s)
  if macType e = 0 then tallyDest add (macDest e) (tally add 0x4900 (macDomain e) 0x0C s) else s

/-- An entry removed. -/
def macRemove (p : Nat × Nat) (s : State) : State :=
  let e := macAt s p
  if macValid e then tallyEntry false e (rewritten 0x4B00 (4 * p.1 + p.2) (setMac p 0 s)) else s

/-- An entry written into a free place. -/
def macPut (p : Nat × Nat) (e : Reg) (s : State) : State :=
  tallyEntry true e (rewritten 0x4B00 (4 * p.1 + p.2) (setMac p e s))

/-- The learned entries of a domain removed (R272). -/
def flushDomain (d : Nat) (s : State) : State :=
  overAll ((macList s).filter fun p => macDomain (macAt s p) == d && macType (macAt s p) == 0) macRemove s

/-! ## Relocation and insertion (R291, R292) -/

/-- A free slot of a bucket. -/
def freeSlot (s : State) (k : Nat) : Option (Nat × Nat) :=
  ((List.range 4).find? fun j => !macValid (macAt s (k, j))).map fun j => (k, j)

/-- The bucket in the other bank of the key that a place holds. -/
def otherBucket (s : State) (p : Nat × Nat) : Nat :=
  let e := macAt s p
  macBucket s (macDomain e) (macAddr e) (if p.1 < 131072 then 1 else 0)

/-- The breadth-first search of R292: paths of places, the latest first; the answer starts with the free place. -/
def findChain (s : State) : Nat → List (List (Nat × Nat)) → Option (List (Nat × Nat))
  | 0, _ => none
  | n + 1, paths =>
    match paths.findSome? fun path => match path with
      | [] => none
      | p :: _ => (freeSlot s (otherBucket s p)).map fun q => q :: path with
    | some c => some c
    | none => findChain s n (paths.flatMap fun path => match path with
      | [] => []
      | p :: _ => (List.range 4).map fun j => (otherBucket s p, j) :: path)

/-- The relocations of a chain (R291), from the free end; each leaves its old place free. A step holds all four writes, so
the move bit is never seen set between steps. -/
def relocate : List (Nat × Nat) → State → State
  | q :: p :: r, s =>
    let e := macAt s p
    relocate (p :: r) ((setMac p 0 (setMac q e s)).bump 0x4B10 0 5)
  | _, s => s

/-- A free place for a key, relocating where all 8 candidate places are taken (R292). -/
def makeRoom (domain mac : Nat) (s : State) : Option (Nat × Nat) × State :=
  let ps := macPlaces s domain mac
  match ps.find? fun p => !macValid (macAt s p) with
  | some p => (some p, s)
  | none =>
    match findChain s 4 (ps.map fun p => [p]) with
    | none => (none, s)
    | some c => (c.getLast?, relocate c s)

/-! ## Learning (R293 to R295) -/

/-- The first limit that a learned entry on a flow would exceed: its kind and instance (R294). -/
def limitReached (s : State) (f : Nat) : Option (Nat × Nat) :=
  if s.get 0x4800 f 7 ≤ s.get 0x4800 f 9 then some (0, f)
  else
    let tree := let t := s.get 0x4800 f 1; if t < s.trees ∧ s.get 0x4890 t 1 ≤ s.get 0x4890 t 3 then some (2, t) else none
    match flowTerminal s f with
    | some n => if s.get 0x4880 n 1 ≤ s.get 0x4880 n 3 then some (1, n) else tree
    | none => tree

/-- The action of a limit: 0 drops the frame, 1 forwards it unlearned. -/
def limitAction (s : State) (l : Nat × Nat) : Nat :=
  match l.1 with
  | 0 => s.get 0x4800 l.2 8
  | 1 => s.get 0x4880 l.2 2
  | _ => s.get 0x4890 l.2 2

/-- A frame counted at a limit, with event 2313. -/
def limitHit (l : Nat × Nat) (s : State) : State :=
  let s := match l.1 with
    | 0 => s.bump 0x4800 l.2 0x0B
    | 1 => s.bump 0x4880 l.2 4
    | _ => s.bump 0x4890 l.2 4
  raiseSecAt 2313 (l.1 * 2 ^ 20 + l.2) l.2 (fun n => (l.1, n)) s

/-- A learned entry inserted, or its failure counted (R292). -/
def learnNew (r : LearnReq) (s : State) : State :=
  match makeRoom r.domain r.mac s with
  | (some p, s) => macPut p (newEntry s 0 r.domain r.mac r.dest) s
  | (none, s) =>
    raiseSec 2312 r.domain (fun n => (n, 0)) ((s.bump 0x4B10 0 6).bump 0x4900 r.domain 0x0D)

/-- The limits that a learned entry meets at a destination: the uplink side has none. -/
def limitAt (s : State) (dest : Nat) : Option (Nat × Nat) := if bit 17 dest then none else limitReached s (dest % 131072)

/-- An entry moves to Q (R295), unless a limit of Q's flow is reached (R294). -/
def macMove (p : Nat × Nat) (q : Nat) (s : State) : State :=
  let e := macAt s p
  match if macType e = 0 then limitAt s q else none with
  | some l => limitHit l s
  | none =>
    let s := if macType e = 0 then tallyDest true q (tallyDest false (macDest e) s) else s
    let e := putField 63 46 q (putField 45 28 noChallenger (putField 27 26 0 (putField 15 15 1 (putField 13 0 (macNow s) e))))
    raiseSec 2315 (macDomain e) (fun n => (n, 0)) ((setMac p e s).bump 0x4900 (macDomain e) 0x0F)

/-- A conflict counted, with event 2314. -/
def macConflict (e : Reg) (q : Nat) (s : State) : State :=
  raiseSec 2314 (macDomain e) (fun _ => (macDest e, q)) (s.bump 0x4900 (macDomain e) 0x0E)

/-- A learn request served (R292 to R295); requests of a domain that is not running are dropped. -/
def learnServe (r : LearnReq) (s : State) : State :=
  if s.get 0x4900 r.domain 2 ≠ 2 then s
  else match macFind s r.domain r.mac with
    | none => match limitAt s r.dest with
      | some l => limitHit l s
      | none => learnNew r s
    | some p =>
      let e := macAt s p
      if macDest e = r.dest then
        (if macChallenger e = noChallenger then s else setMac p (putField 45 28 noChallenger (putField 27 26 0 e)) s)
      else if macType e = 2 then macConflict e r.dest s
      else if bit 15 e ∧ (macNow s + 16384 - field 13 0 e) % 16384 < s.get 0x4900 r.domain 9 then
        let s := macConflict e r.dest s
        if macChallenger e ≠ r.dest then setMac p (putField 45 28 r.dest (putField 27 26 0 e)) s
        else
          let n := field 27 26 e + 1
          if 3 ≤ n then macMove p r.dest s else setMac p (putField 27 26 n e) s
      else macMove p r.dest s

/-- A learn request is queued at its engine, or dropped and counted (R293). -/
def learnRequest (domain mac dest : Nat) (s : State) : State :=
  let e := macBucket s domain mac 0 % 6
  if 4096 ≤ s.learns.countP fun r => r.engine == e then
    raiseSec 2317 (192 + e) (fun n => (n, 0)) (s.bump 0x4B10 0 9)
  else { s with learns := s.learns ++ [⟨e, domain, mac, dest⟩] }

/-- The first request of an engine taken out of the queues. -/
def takeLearn (e : Nat) : List LearnReq → Option (LearnReq × List LearnReq)
  | [] => none
  | r :: l => if r.engine = e then some (r, l) else (takeLearn e l).map fun x => (x.1, r :: x.2)

/-- MAC_LEARN (R293): the engine that carries role 192 + engine serves its oldest request. -/
def execMacLearn (engine : Nat) (s : State) : Host.Outcome State Fault Refusal :=
  whenUp s fun s =>
    if engine < 6 ∧ (carrierOf s (192 + engine)).isSome = true then
      (match takeLearn engine s.learns with
       | some (r, l) => learnServe r { s with learns := l }
       | none => s)
    else s

/-! ## Aging (R296) -/

/-- The visit of one entry. -/
def ageEntry (p : Nat × Nat) (s : State) : State :=
  let e := macAt s p
  let d := macDomain e
  let held := bit 15 e && (macNow s + 16384 - field 13 0 e) % 16384 < s.get 0x4900 d 9
  let e := if held then e else putField 15 15 0 e
  if macType e ≠ 0 then setMac p e s
  else if bit 14 e then setMac p (putField 25 16 0 (putField 14 14 0 e)) s
  else if s.get 0x4900 d 0x0A ≤ macAge e + 1 then macRemove p s
  else setMac p (putField 25 16 (macAge e + 1) e) s

/-- AGING_VISIT (R296): every entry is visited. -/
def execAgingVisit (s : State) : Host.Outcome State Fault Refusal := whenUp s fun s => overAll (macList s) ageEntry s

/-! ## Entry commands (R292, R298) -/

/-- A destination field names something: a flow, an uplink port or a LAG. -/
def destOk (dest : Nat) : Bool := !bit 17 dest || dest % 131072 < 64

/-- The role may write entries for a destination (R298). -/
def destOwned (s : State) (role : Role) (dest : Nat) : Bool :=
  match role with
  | .tenant n => !bit 17 dest && ownerOf s 2 (dest % 131072) == n
  | _ => true

/-- The end of an entry command with a result that is not "done". -/
def entryRefused (result status : Nat) (s : State) : State := refuse status (s.put 0x4B00 0 2 result)

/-- A user or static entry written (R292): in the place of the one its key already has, else in a free place, else in
place of the oldest learned entry among the 8, else "rehash request". -/
def entryAdd (typ domain mac dest : Nat) (s : State) : State :=
  let fin := fun s => done (s.put 0x4B00 0 2 0)
  match macFind s domain mac with
  | some p => fin (macPut p (newEntry s typ domain mac dest) (macRemove p s))
  | none =>
    match makeRoom domain mac s with
    | (some p, s) => fin (macPut p (newEntry s typ domain mac dest) s)
    | (none, s) =>
      let learned := (macPlaces s domain mac).filter fun p => macType (macAt s p) == 0
      match learned with
      | p0 :: r =>
        let p := r.foldl (fun a p => if macAge (macAt s a) < macAge (macAt s p) then p else a) p0
        fin (macPut p (newEntry s typ domain mac dest) ((macRemove p s).bump 0x4B10 0 8))
      | [] =>
        let b0 := macBucket s domain mac 0
        let b1 := macBucket s domain mac 1 - 131072
        entryRefused 1 7 (raise 2316 domain b0 b1 (((s.put 0x4B00 0 3 b0).put 0x4B00 0 4 b1).bump 0x4B10 0 7))

/-- A write of the entry command 0x4B00.01: 16 bytes as one number. -/
def entryCommand (acc : Acc) (v : Reg) (s : State) : State :=
  writeValue acc 0x4B00 0 1 v s fun s =>
    let op := field 127 120 v
    let domain := field 111 96 v
    let mac := field 95 48 v
    let dest := field 47 24 v
    if op = 0 ∨ 3 < op ∨ field 119 112 v ≠ 0 ∨ field 23 0 v ≠ 0 ∨ 4096 ≤ domain ∨ 2 ^ 18 ≤ dest ∨ destOk dest = false then
      entryRefused 3 4 s
    else if op = 3 then
      match macFind s domain mac with
      | none => entryRefused 2 4 s
      | some p =>
        if destOwned s acc.role (macDest (macAt s p)) then done ((macRemove p s).put 0x4B00 0 2 0)
        else refuseRole acc 2 0x4B00 0 1 s
    else if destOwned s acc.role dest then entryAdd op domain mac dest s
    else refuseRole acc 2 0x4B00 0 1 s

/-- The record of an entry command. -/
def entryRecord (op domain mac dest : Nat) : Reg :=
  op * 2 ^ 120 + domain % 2 ^ 16 * 2 ^ 96 + mac % 2 ^ 48 * 2 ^ 48 + dest % 2 ^ 24 * 2 ^ 24

/-- MAC_ENTRY_ADD_USER (R292). -/
def execMacEntryAddUser (acc : Acc) (domain mac dest : Nat) (s : State) : Host.Outcome State Fault Refusal :=
  whenUp s fun s => entryCommand acc (entryRecord 1 domain mac dest) s

/-- MAC_ENTRY_ADD_STATIC (R292). -/
def execMacEntryAddStatic (acc : Acc) (domain mac dest : Nat) (s : State) : Host.Outcome State Fault Refusal :=
  whenUp s fun s => entryCommand acc (entryRecord 2 domain mac dest) s

/-- MAC_ENTRY_DELETE (R292). -/
def execMacEntryDelete (acc : Acc) (domain mac : Nat) (s : State) : Host.Outcome State Fault Refusal :=
  whenUp s fun s => entryCommand acc (entryRecord 3 domain mac 0) s

/-- An entry placed again under the salt in force; one that finds no place is lost with a rehash request (R292). -/
def replaceEntry (e : Reg) (s : State) : State :=
  match makeRoom (macDomain e) (macAddr e) s with
  | (some p, s) => setMac p e s
  | (none, s) =>
    let b0 := macBucket s (macDomain e) (macAddr e) 0
    let b1 := macBucket s (macDomain e) (macAddr e) 1 - 131072
    raise 2316 (macDomain e) b0 b1 (((tallyEntry false e s).put 0x4B00 0 3 b0).put 0x4B00 0 4 b1)

/-- A write of the salt (R292): the engines rebuild the table. -/
def saltWrite (acc : Acc) (v : Reg) (s : State) : State :=
  writeValue acc 0x4B10 0 0x0A v s fun s =>
    let ps := macList s
    let es := ps.map (macAt s)
    done (overAll es replaceEntry ((overAll ps (fun p s => setMac p 0 s) s).put 0x4B10 0 0x0A v))

/-- SALT_WRITE_REBUILD (R292). -/
def execSaltWriteRebuild (acc : Acc) (value : Nat) (s : State) : Host.Outcome State Fault Refusal :=
  whenUp s fun s => saltWrite acc value s

end Sys2Proof.Machine
end

