-- ==== Sys2Proof/Machine/Sessions.lean ====
section
/-!
DEFINITION. Machine/Sessions.lean: ROL messages, what the device sends in a session, how a session ends, the notifications, the
principals and the vendor role (spec/14 R454 to R462, R480; spec/00 R506).
-/
namespace Sys2Proof.Machine

/-! ## Messages (R454) -/

/-- Bytes padded with zeros to a multiple of 4. -/
def pad4 (b : List Nat) : List Nat := b ++ List.replicate ((4 - b.length % 4) % 4) 0

/-- A message without its tag (R454). The device's own messages name the member that receives them as target. -/
def rolBody (type session seq echo flags : Nat) (payload : List Nat) : List Nat :=
  bytesOf 2 0xA4B5 ++ [1, type] ++ bytesOf 4 session ++ bytesOf 8 seq ++ bytesOf 8 echo ++ [0xFF, flags]
    ++ bytesOf 2 payload.length ++ [0, 0, 0, 0] ++ pad4 payload

/-- A tag of zeros (R455). -/
def zeroTag : List Nat := List.replicate 32 0

/-- The relay header (R469). -/
def relayHead (peer entry port kind : Nat) : List Nat := bytesOf 18 peer ++ [entry, port, kind, 0, 0, 0]

/-- A message leaves for a client: by the management port, or by a kind 6 frame through the entry member (R469). -/
def emitRol (port peer : Nat) (via : Option Nat) (bytes : List Nat) (s : State) : State :=
  match via with
  | none => s.send .rol ([port, peer] ++ bytes)
  | some m => sendFrame m 3 6 0 0 0 (relayHead peer m port 0 ++ bytes) (24 + bytes.length) s

/-- The entry member of a session reached by relay. -/
def sessionVia (s : State) (slot : Nat) : Option Nat := match s.aux .sesVia slot with
  | 0 => none
  | m + 1 => some m

/-- A message leaves in a session. -/
def emitSession (slot : Nat) (bytes : List Nat) (s : State) : State :=
  emitRol (s.aux .sesPort slot) (s.get 0x1120 slot 4) (sessionVia s slot) bytes s

/-- The tag of a message (R455): HMAC-SM3 under a key of 32 bytes, over the header and the padded payload. -/
def rolTag (key : Nat) (body : List Nat) : Nat := Config.hmacSm3 key body % 2 ^ 256

/-- The device's next message of a session (R454, R455, R459): numbered, and tagged under the device-to-client key. -/
def deviceMsg (slot type echo : Nat) (payload : List Nat) (s : State) : List Nat × State :=
  let seq := s.aux .sesSeq slot + 1
  let body := rolBody type (s.aux .sesNonce slot) seq echo 0 payload
  (body ++ bytesOf 32 (rolTag (s.aux .sesKeys slot 1) body), s.setAux .sesSeq slot 0 seq)

/-- A client's message carries the tag of its session's client-to-device key (R455). -/
def tagHolds (s : State) (slot : Nat) (b : List Nat) : Bool :=
  numAt b (b.length - 32) 32 == rolTag (s.aux .sesKeys slot 0) (b.take (b.length - 32))

/-! ## The end of a session (R457) -/

/-- The sessions that are open or frozen (0x1100.08). -/
def openSessions (s : State) : List Nat := (List.range 63).filter fun x => 2 ≤ s.get 0x1120 x 1

/-- A slot returns to FREE: what the session held is gone, and its open transfers are abandoned. -/
def freeSession (x : Nat) (s : State) : State :=
  let s := overAll [(1, 0), (2, 0xFFFF), (3, 0), (4, 0)] (fun p s => s.put 0x1120 x p.1 p.2) s
  let s := overAll [Aux.sesNonce, .sesHigh, .sesSeen, .sesSeq, .sesFails, .sesFail0, .sesDrop, .sesPort, .sesVia, .sesAlive]
    (fun a s => s.setAux a x 0 0) s
  let s := overAll [0, 1, 2, 3] (fun k s => s.setAux .sesKeys x k 0) s
  { s with
    replies := s.replies.filter fun r => r.slot != x
    subs := s.subs.filter fun r => r.slot != x
    notifies := s.notifies.filter fun r => r.slot != x
    backlog := s.backlog.filter fun r => r.1 != x
    transfers := s.transfers.filter fun t => t.master != 280 + x }

/-- A session is closed (R457): CLOSE with the cause, except after a CLOSE received, and event 3985. -/
def closeSession (x cause : Nat) (tell : Bool) (s : State) : State :=
  if s.get 0x1120 x 1 < 2 then s
  else
    let principal := s.get 0x1120 x 2
    let s := if tell then let (m, s) := deviceMsg x 0x31 0 [cause, 0, 0, 0] s; emitSession x m s else s
    raise 3985 x cause principal (freeSession x s)

/-- The session has numbers for n more messages (R459): 2^64 − 1 is never used, and the last number before it is kept for the
CLOSE that reports cause 6. -/
def numbered (x n : Nat) (f : State → State) (s : State) : State :=
  if 2 ^ 64 - 3 < s.aux .sesSeq x + n then closeSession x 6 true s else f s

/-- Event 3986 (R455, R457), at most once per second and slot. -/
def authFailed (x principal : Nat) (s : State) : State := raiseSec 3986 x (fun n => (principal, n)) s

/-- A message dropped without a session's count (R454, R457). -/
def dropRol (s : State) : State := s.bump 0x1100 0 7

/-- A message of a session whose tag fails (R455): the 64th failure within a second closes the session with cause 5. -/
def tagFailed (x : Nat) (s : State) : State :=
  let s := authFailed x (s.get 0x1120 x 2) (dropRol (s.bump 0x1120 x 8))
  let fresh := s.aux .sesFails x = 0 ∨ s.aux .sesFail0 x + 1000000000 ≤ s.now
  let n := if fresh then 1 else s.aux .sesFails x + 1
  let s := (if fresh then s.setAux .sesFail0 x 0 s.now else s).setAux .sesFails x 0 n
  if 64 ≤ n then closeSession x 5 true s else s

/-! ## Notifications (R462) -/

/-- A subscription takes a record: its number, and its severity or, for a clearing record, the flag. -/
def Sub.takes (u : Sub) (r : Rec) : Bool :=
  u.first ≤ r.num && r.num ≤ u.last && (if r.sev = 0 then u.clears else u.low ≤ r.sev)

/-- Up to 32 records of a session's backlog go out in a NOTIFY. The first NOTIFY after a drop begins with a record of event
3988 with the count dropped. -/
def sendNotify (x : Nat) (s : State) : State :=
  let lost := s.aux .sesDrop x
  let s := if lost = 0 then s else raise 3988 x lost 0 (s.setAux .sesDrop x 0 0)
  let head := if lost = 0 then [] else [(⟨3988, severity s 3988, x, s.now, lost % 2 ^ 32, 0, s.aux .evSeq 3988⟩ : Rec)]
  let mine := (s.backlog.filter fun b => b.1 == x).take (32 - head.length)
  let s := { s with backlog := mine.foldl (fun l b => l.erase b) s.backlog }
  let recs := head ++ mine.map Prod.snd
  let payload := [recs.length, 0, 0, 0] ++ recs.flatMap fun r => bytesOf 24 r.entry
  let (m, s) := deviceMsg x 0x22 0 payload s
  emitSession x m { s with notifies := s.notifies ++ [⟨x, s.aux .sesSeq x, m, 1, s.now⟩] }

/-- A session sends what its backlog holds while fewer than 2 NOTIFY messages wait for an acknowledgement. -/
def pump (x : Nat) (s : State) : State :=
  let step := fun s : State =>
    if 2 ≤ s.get 0x1120 x 1 ∧ (s.notifies.countP fun n => n.slot == x) < 2 ∧ (s.backlog.any fun b => b.1 == x) = true
    then numbered x 1 (sendNotify x) s else s
  step (step s)

/-- A record reaches a session that subscribes to it: into the backlog of 2,048, or dropped and counted in .0A. -/
def notifySession (r : Rec) (x : Nat) (s : State) : State :=
  if (s.backlog.countP fun b => b.1 == x) < 2048 then pump x { s with backlog := s.backlog ++ [(x, r)] }
  else (s.bump 0x1120 x 0x0A).incAux .sesDrop x

/-- A record is delivered once to every session with a subscription that takes it. -/
def notifyAll (r : Rec) (s : State) : State :=
  overAll ((s.subs.filter fun u => u.takes r).map Sub.slot).eraseDups (notifySession r) s

/-- NOTIFY_RETRY (R462): no NOTIFY ACK came within 200 ms: sent again under the same number, 5 times in all, and then the
session is closed with cause 4. -/
def execNotifyRetry (slot seq : Nat) (s : State) : Host.Outcome State Fault Refusal :=
  whenUp s fun s => match s.notifies.find? fun n => n.slot == slot && n.seq == seq with
    | none => s
    | some n =>
      if s.now < n.sent + 200000000 then s
      else if 5 ≤ n.tries then closeSession slot 4 true s
      else emitSession slot n.bytes { s with
        notifies := s.notifies.map fun k => if k.slot = slot ∧ k.seq = seq then { k with tries := k.tries + 1, sent := s.now } else k }

/-! ## Timers (R457) -/

/-- HANDSHAKE_TIMEOUT (R457): no CONFIRM within 1 s. -/
def execHandshakeTimeout (slot : Nat) (s : State) : Host.Outcome State Fault Refusal :=
  whenUp s fun s =>
    if slot < 63 ∧ s.get 0x1120 slot 1 = 1 ∧ s.aux .sesAlive slot + 1000000000 ≤ s.now then authFailed slot (s.get 0x1120 slot 2) (freeSession slot s) else s

/-- SESSION_IDLE_TIMEOUT (R457): no message for the idle time of 0x1100.05. -/
def execSessionIdleTimeout (slot : Nat) (s : State) : Host.Outcome State Fault Refusal :=
  whenUp s fun s =>
    if slot < 63 ∧ s.aux .sesAlive slot + s.get 0x1100 0 5 * 1000000000 ≤ s.now then closeSession slot 2 true s else s

/-! ## Closing by object (R457, R480, R506) -/

/-- A write of a session's close. -/
def sessionCloseWrite (acc : Acc) (x v : Nat) (s : State) : State :=
  writeValue acc 0x1120 x 7 v s fun s => if v = 0 then done s else closeSession x 7 true (done s)

/-- SESSION_CLOSE_COMMAND (R457). -/
def execSessionCloseCommand (acc : Acc) (slot : Nat) (s : State) : Host.Outcome State Fault Refusal :=
  whenUp s fun s => sessionCloseWrite acc slot 1 s

/-- The open sessions that p takes are closed with cause 3. -/
def closeWhere (p : State → Nat → Bool) (s : State) : State :=
  overAll ((openSessions s).filter (p s)) (fun x s => closeSession x 3 true s) s

/-- A write of a principal: a write of its role, or a disable, closes its sessions. -/
def principalWrite (acc : Acc) (p sub v : Nat) (s : State) : State :=
  writeValue acc 0x1110 p sub v s fun s =>
    let s := store 0x1110 p sub v s
    if sub = 3 ∨ (sub = 4 ∧ v = 0) then closeWhere (fun s x => s.get 0x1120 x 2 == p) s else s

/-- PRINCIPAL_CHANGE (R457). -/
def execPrincipalChange (acc : Acc) (principal sub value : Nat) (s : State) : Host.Outcome State Fault Refusal :=
  whenUp s fun s => principalWrite acc principal sub value s

/-- A write of the vendor enable (R506). -/
def vendorWrite (acc : Acc) (v : Nat) (s : State) : State :=
  writeValue acc 0x1112 0 1 v s fun s =>
    let s := (done s).setAux .vendorOn 0 0 v
    if v = 0 then closeWhere (fun s x => s.get 0x1120 x 3 == 3) s else s

/-- VENDOR_ENABLE (R506). -/
def execVendorEnable (acc : Acc) (s : State) : Host.Outcome State Fault Refusal := whenUp s fun s => vendorWrite acc 1 s

/-- VENDOR_DISABLE (R506). -/
def execVendorDisable (acc : Acc) (s : State) : Host.Outcome State Fault Refusal := whenUp s fun s => vendorWrite acc 0 s

end Sys2Proof.Machine
end

