-- ==== Sys2Proof/Machine/Islands.lean ====
section
/-!
DEFINITION. Machine/Islands.lean: the reset, the stop and the resumption of a clock island, and the zeroing of its memories
(spec/01 R54, R56; spec/03 R117; spec/11 R396; spec/12 R411, R416, R424).
-/
namespace Sys2Proof.Machine

/-- An island of the variant (0x1051's instances). -/
def islandExists (s : State) (i : Nat) : Bool := Objects.hasInst s.trees 0x1051 i

/-- The memories of an island (spec/12 R408). -/
def islandMemories (s : State) (i : Nat) : List Nat :=
  (List.range 472).filter fun m => Objects.memoryOk s.trees m && memIsland m == i

/-- An island enters another state (event 3975). -/
def setIsland (i new : Nat) (s : State) : State :=
  let old := s.get 0x1051 i 2
  if old = new then s else raise 3975 i old new (s.put 0x1051 i 2 new)

/-- A memory is being zeroed: every word becomes zero, and its scrubber starts a new pass at address 0 (R411, R416). -/
def startZeroing (m : Nat) (s : State) : State :=
  let s := ((s.setAux .scrubAt m 0 0).setAux .scrubAllow m 0 0).setAux .scrubT0 m 0 s.now
  let s : State := { s with
    regs := s.regs.forget fun k => (k.index == Aux.lastCorr.ctorIdx || k.index == Aux.badWord.ctorIdx) && k.inst == m }
  ((zeroMemory m s).put 0x5820 m 3 0).setAux .zeroing m 0 1

/-! ## What the units of an island lose -/

/-- A cluster (R424): the test ends without a report, its objects restart from their defaults, and a retired bank returns. -/
def resetCluster (c : Nat) (s : State) : State :=
  let s : State := { s with
    objs := s.objs.forget fun k => (k.index == 0x5900 && k.inst == c) || (k.index == 0x5940 && k.inst / 16 == c)
    regs := s.regs.forget fun k =>
      ([Aux.stFail, .stRows, .stRetire, .stAban, .stStart].any fun a => k.index == a.ctorIdx && k.inst == c)
        || ([Aux.bankCorr, .bankReq].any fun a => k.index == a.ctorIdx && k.inst / 16 == c) }
  clear 3595 c s

/-- Cluster 13 holds the ROL sessions and the relay (spec/14): the sessions end without a CLOSE. -/
def resetRol (s : State) : State :=
  overAll ((List.range 63).filter fun x => s.get 0x1120 x 1 != 0) freeSession { s with relays := [] }

/-- A tree port (spec/03 R117): the commit FIFO, the staging buffers and the reassembly store are lost without counts, what
is staged or sealed for its lanes too, and its drains end. -/
def resetTree (t : Nat) (s : State) : State :=
  let s : State := { s with
    fifo := s.fifo.filter fun r => r.tree != t
    sdus := s.sdus.filter fun x => x.tree != t
    coexStage := s.coexStage.filter fun r => r.tree != t
    staged := s.staged.filter fun g => g.tree != t
    sealedMaps := s.sealedMaps.filter fun g => g.tree != t
    bulletins := s.bulletins.filter fun b => b.1 / 4 != t }
  let s := overAll [Aux.fifoDrop, .fifoDropB, .fifoFirst, .fifoLast] (fun a s => s.setAux a t 0 0) s
  let s := overAll [0, 1] (fun b s => dropFs t b { s.setAux .fifoNext t b 0 with
    downWait := s.downWait.filter fun x => !(x.tree == t && x.lane == b) }) s
  let s := (s.put 0x2008 t 1 0).put 0x2008 t 2 0
  overAll [0, 1] (fun l s =>
    let s := if s.aux .upLane t l = 1 then setUp t l 0 s else s
    if laneState s t l = 1 then laneDown t l s else s) s

/-- The hidden registers of the traffic state. -/
def trafficRegs : List Aux :=
  [.bufWord, .bufOut, .queueOpen, .queueOff, .deficit, .turn, .tokFrac, .mtrC, .mtrP, .mtrAt, .vqBytes, .entryPoison]

/-- The pipe (R411): packets, rounds, fragments, learn requests, frames, jobs and MAC entries are lost, every buffer is free,
the scheduler and the meters start from zero words, and every key slot is EMPTY. -/
def resetPipe (s : State) : State :=
  let s := overAll s.pkts (fun x s => queueSettled x.up x.queue (takeOff x s)) s
  let s := overAll (macList s) macRemove s
  let s : State := { s with
    pkts := [], rounds := [], pipeIn := [], recirc := [], frags := [], held := [], learns := [], vframes := [], jobs := [], keyWaits := []
    regs := s.regs.forget fun k => (trafficRegs.any fun a => k.index == a.ctorIdx)
    objs := s.objs.forget fun k => k.index == 0x4C10 && 5 ≤ k.sub && k.sub ≤ 8 }
  let held := s.regs.countP fun e => e.1.index == Aux.pageHeld.ctorIdx
  let s := overAll [0, 1, 2, 3] (fun p s => s.put 0x4C00 p 2 (Objects.poolSize p - (if p = 3 then held else 0))) s
  let keys := (s.objs.filter fun e => e.1.index == 0x4000 && e.1.sub == 4).map fun e => e.1.inst
  let s := overAll keys eraseSlot s
  let s := overAll [0, 1, 2, 3] (fun m s => s.setAux .mbox m 3 0) { s with hostWaits := [] }
  let s := overAll (List.range 16) (fun h s =>
    let s := s.setAux .dmaBusy h 0 0
    if s.get 0x1150 h 2 = 1 then raise 3991 h 1 0 (s.put 0x1150 h 2 0) else s) s
  clear 3590 65 s

/-! ## The commands -/

/-- ISLAND_RESET (R411, R396): the island's work and drains end without individual counts, and its memories are zeroed before
it runs again. An island without a memory runs again at once. -/
def execIslandReset (island : Nat) (s : State) : Host.Outcome State Fault Refusal :=
  whenUp s fun s =>
    if !islandExists s island then s
    else
      let s := setIsland island 2 s
      let s := if island = 13 then resetRol s else s
      let s := if island < 14 then resetCluster island s
        else if island = 14 then resetPipe s
        else if 16 ≤ island ∧ island < 64 then resetTree (island - 16) s
        else s
      match islandMemories s island with
      | [] => setIsland island 0 s
      | l => overAll l startZeroing s

/-- MEMORY_ZEROING_DONE (R411): the memory is released; the island leaves state 2 with its last memory. -/
def execMemoryZeroingDone (memory : Nat) (s : State) : Host.Outcome State Fault Refusal :=
  whenUp s fun s =>
    if s.aux .zeroing memory = 0 then s
    else
      let s := s.setAux .zeroing memory 0 0
      let i := memIsland memory
      if s.get 0x1051 i 2 = 2 ∧ ((islandMemories s i).all fun m => s.aux .zeroing m == 0) = true then setIsland i 0 s else s

/-- ISLAND_STOP (spec/00 R7; spec/12 R416, R424): the island's clock stops; what it holds stays. -/
def execIslandStop (island : Nat) (s : State) : Host.Outcome State Fault Refusal :=
  whenUp s fun s => if islandExists s island && s.get 0x1051 island 2 == 0 then setIsland island 1 s else s

/-- ISLAND_RESUME (R424): the island runs again; a self-test that the stop froze is abandoned with cause 5. -/
def execIslandResume (island : Nat) (s : State) : Host.Outcome State Fault Refusal :=
  whenUp s fun s =>
    if islandExists s island && s.get 0x1051 island 2 == 1 then
      let s := setIsland island 0 s
      if island < 14 then abandonTest island 5 s else s
    else s

end Sys2Proof.Machine
end

