-- ==== Sys2Proof/Machine/Parse.lean ====
section
/-!
DEFINITION. Machine/Parse.lean: the parser, the symmetric hash and the rewriting of packets (spec/08 R262, R263, R266 to
R268, R271). A packet is the list of its bytes, an Ethernet frame without FCS.
-/
namespace Sys2Proof.Machine

/-- What the parser found (R266, R268, R273). Fields that were not reached are zero. -/
structure Parsed where
  dmac : Nat := 0
  smac : Nat := 0
  /-- The TCIs of the tags, the outer one first. -/
  tags : List Nat := []
  etherType : Nat := 0
  /-- The MPLS label words, the top one first. -/
  labels : List Nat := []
  pppoe : Bool := false
  v4 : Bool := false
  v6 : Bool := false
  /-- Place of the innermost IP header. -/
  ipAt : Nat := 0
  src : Nat := 0
  dst : Nat := 0
  proto : Nat := 0
  ds : Nat := 0
  ttl : Nat := 0
  flowLabel : Nat := 0
  l4src : Nat := 0
  l4dst : Nat := 0
  tcpFlags : Nat := 0
  ports : Bool := false
  tcp : Bool := false
  icmp : Bool := false
  first : Bool := false
  later : Bool := false
  ident : Nat := 0
  options : Bool := false
  /-- The headers continue beyond what this pass parses. -/
  more : Bool := false
  incomplete : Bool := false
  malformed : Bool := false
  deriving DecidableEq, Repr

/-- What lies before place e is read: then go on; else the headers continue beyond the pass, or the frame ends within
one and the parse is incomplete. -/
def reach (lim : Nat) (b : List Nat) (e : Nat) (p : Parsed) (k : Parsed → Parsed) : Parsed :=
  if e ≤ lim ∧ e ≤ b.length then k p
  else if lim < e ∧ lim < b.length then { p with more := true }
  else { p with incomplete := true }

/-- The one's complement sum of an IPv4 header (RFC 791), 0xFFFF when its checksum is right. -/
def ipSum : List Nat → Nat
  | a :: c :: r => let x := 256 * (a % 256) + c % 256 + ipSum r; x % 65536 + x / 65536
  | [a] => 256 * (a % 256)
  | [] => 0

/-- TCP, UDP, SCTP, ICMP and ICMPv6 (R266). -/
def parseL4 (lim : Nat) (b : List Nat) (at' : Nat) (p : Parsed) : Parsed :=
  match p.proto with
  | 6 => reach lim b (at' + 14) p fun p =>
      { p with l4src := numAt b at' 2, l4dst := numAt b (at' + 2) 2, tcpFlags := numAt b (at' + 13) 1, ports := true, tcp := true }
  | 17 | 132 => reach lim b (at' + 4) p fun p =>
      { p with l4src := numAt b at' 2, l4dst := numAt b (at' + 2) 2, ports := true }
  | 1 | 58 => reach lim b (at' + 2) p fun p => { p with l4src := numAt b at' 2, icmp := true }
  | _ => p

/-- The bytes before place e have been read in this pass and belong to the frame. -/
def seen (lim : Nat) (b : List Nat) (e : Nat) : Bool := e ≤ lim && e ≤ b.length

/-- A length field that has been read points beyond the frame, also where the frame ends within the header (R268): the place where
what it measures begins, where the field ends, and its value in bytes. -/
def beyond (lim : Nat) (b : List Nat) (start after len : Nat) : Bool := seen lim b after && b.length < start + len

/-- An IPv4 header (R266, R268). -/
def parseV4 (lim : Nat) (b : List Nat) (at' : Nat) (p : Parsed) : Parsed :=
  if (seen lim b (at' + 1) && numAt b at' 1 % 16 < 5) || beyond lim b at' (at' + 1) (4 * (numAt b at' 1 % 16))
      || beyond lim b at' (at' + 4) (numAt b (at' + 2) 2) then { p with malformed := true }
  else reach lim b (at' + 20) p fun p =>
    let ihl := numAt b at' 1 % 16
    let hdr := 4 * ihl
    let frag := numAt b (at' + 6) 2
    let p := { p with v4 := true, ipAt := at', ds := numAt b (at' + 1) 1, ident := numAt b (at' + 4) 2 }
    let p := { p with ttl := numAt b (at' + 8) 1, proto := numAt b (at' + 9) 1 }
    let p := { p with src := numAt b (at' + 12) 4, dst := numAt b (at' + 16) 4 }
    let p := { p with first := bit 13 frag && frag % 8192 == 0, later := frag % 8192 != 0, options := 5 < ihl }
    reach lim b (at' + hdr) p fun p =>
      if ipSum ((b.drop at').take hdr) ≠ 0xFFFF then { p with malformed := true }
      else if p.later then p
      else parseL4 lim b (at' + hdr) p

/-- The IPv6 extension headers from place at', at most n more (R266): their next headers 0, 43, 44, 51 and 60 are
followed, ESP ends the parse, and anything else is the upper layer. -/
def parseExt (lim : Nat) (b : List Nat) : Nat → Nat → Nat → Parsed → Parsed
  | n, next, at', p =>
    if !([0, 43, 44, 51, 60].contains next) then
      let p := { p with proto := next }
      if next = 50 then p else parseL4 lim b at' p
    else match n with
      | 0 => { p with incomplete := true }
      | n + 1 =>
        let len := if next = 44 then 8 else if next = 51 then 4 * (numAt b (at' + 1) 1 + 2) else 8 * (numAt b (at' + 1) 1 + 1)
        if next ≠ 44 ∧ beyond lim b at' (at' + 2) len = true then { p with malformed := true }
        else reach lim b (at' + 8) { p with options := true } fun p =>
          let off := numAt b (at' + 2) 2
          let p := if next = 44 then { p with first := off / 8 == 0 && bit 0 off, later := off / 8 != 0, ident := numAt b (at' + 4) 4 } else p
          let after := numAt b at' 1
          if next = 44 ∧ off / 8 ≠ 0 then { p with proto := after }
          else parseExt lim b n after (at' + len) p

/-- An IPv6 header (R266, R268). -/
def parseV6 (lim : Nat) (b : List Nat) (at' : Nat) (p : Parsed) : Parsed :=
  if beyond lim b (at' + 40) (at' + 6) (numAt b (at' + 4) 2) then { p with malformed := true }
  else reach lim b (at' + 40) p fun p =>
    let word := numAt b at' 4
    let p := { p with v6 := true, ipAt := at', ds := field 27 20 word, flowLabel := field 19 0 word }
    let p := { p with ttl := numAt b (at' + 7) 1, src := numAt b (at' + 8) 16, dst := numAt b (at' + 24) 16 }
    parseExt lim b 8 (numAt b (at' + 6) 1) (at' + 40) p

/-- The MPLS labels from place at', at most n more (R266). -/
def parseMpls (lim : Nat) (b : List Nat) : Nat → Nat → Parsed → Parsed
  | 0, _, p => { p with incomplete := true }
  | n + 1, at', p =>
    reach lim b (at' + 4) p fun p =>
      let w := numAt b at' 4
      let p := { p with labels := p.labels ++ [w] }
      if bit 8 w then
        reach lim b (at' + 5) p fun p =>
          match numAt b (at' + 4) 1 / 16 with
          | 4 => parseV4 lim b (at' + 4) p
          | 6 => parseV6 lim b (at' + 4) p
          | _ => p
      else parseMpls lim b n (at' + 4) p

/-- What follows an EtherType at place at' (R266). -/
def parseL3 (lim : Nat) (b : List Nat) (at' : Nat) (p : Parsed) : Parsed :=
  match p.etherType with
  | 0x8864 =>
      if beyond lim b (at' + 6) (at' + 6) (numAt b (at' + 4) 2) then { p with malformed := true }
      else reach lim b (at' + 8) p fun p =>
        let p := { p with pppoe := true }
        match numAt b (at' + 6) 2 with
        | 0x0021 => parseV4 lim b (at' + 8) p
        | 0x0057 => parseV6 lim b (at' + 8) p
        | _ => p
  | 0x8847 | 0x8848 => parseMpls lim b 8 at' p
  | 0x0800 => parseV4 lim b at' p
  | 0x86DD => parseV6 lim b at' p
  | _ => p

/-- The VLAN tags from place at', at most n more, and what follows them (R266). -/
def parseTags (tpid lim : Nat) (b : List Nat) : Nat → Nat → Parsed → Parsed
  | n, at', p =>
    reach lim b (at' + 2) p fun p =>
      let et := numAt b at' 2
      if [0x88A8, 0x8100, tpid].contains et then
        match n with
        | 0 => { p with etherType := et, incomplete := true }
        | n + 1 => reach lim b (at' + 4) p fun p =>
            parseTags tpid lim b n (at' + 4) { p with tags := p.tags ++ [numAt b (at' + 2) 2] }
      else parseL3 lim b (at' + 2) { p with etherType := et }

/-- One pass of the parser over the first lim bytes (R266, R267): 256 in the first pass, 512 in the second. -/
def parse (tpid lim : Nat) (b : List Nat) : Parsed :=
  reach lim b 12 {} fun p => parseTags tpid lim b 2 12 { p with dmac := numAt b 0 6, smac := numAt b 6 6 }

/-- An IP header was parsed. -/
def Parsed.ip (p : Parsed) : Bool := p.v4 || p.v6

/-- The packet is an IP fragment. -/
def Parsed.fragment (p : Parsed) : Bool := p.first || p.later

/-! ## The hash (R262, R263) -/

/-- An endpoint's 18 bytes: the address and the port. IPv4 addresses are ::ffff:a.b.c.d. -/
def endpoint (v4 : Bool) (address port : Nat) : Nat :=
  (if v4 then 0xFFFF * 2 ^ 32 + address else address) * 65536 + port

/-- The 40-byte key of R262: the endpoint that is smaller as an unsigned number comes first. -/
def hashKey (p : Parsed) : List Nat :=
  let real := p.ip && !p.fragment && p.ports
  let x := if p.ip then endpoint p.v4 p.src (if real then p.l4src else 0) else endpoint false p.smac 0
  let y := if p.ip then endpoint p.v4 p.dst (if real then p.l4dst else 0) else endpoint false p.dmac 0
  bytesOf 18 (min x y) ++ bytesOf 18 (max x y) ++ [if p.ip then p.proto else 0, 0, 0, 0]

/-- The symmetric hash H (R263). -/
def flowHash (seed : Nat) (p : Parsed) : Nat := crc32cFrom (Nat.xor 0xFFFFFFFF (seed % 2 ^ 32)) (hashKey p)

/-- The logical pipe (R263). -/
def pipeOf (h : Nat) : Nat := field 31 16 h * 6 / 65536

/-! ## Rewriting (R270, R271) -/

/-- The bytes with those at place i replaced. -/
def setBytes (b : List Nat) (i : Nat) (new : List Nat) : List Nat := b.take i ++ new ++ b.drop (i + new.length)

/-- The routed packet: the TTL or hop limit one lower, the IPv4 checksum made right again, and the next hop's MAC as
destination (R270; 0x4700[h].02). -/
def routed (p : Parsed) (mac : Nat) (b : List Nat) : List Nat :=
  let b := setBytes b 0 (bytesOf 6 mac)
  if p.v4 then
    let b := setBytes b (p.ipAt + 8) [p.ttl - 1]
    let hdr := 4 * (numAt b p.ipAt 1 % 16)
    let zero := setBytes b (p.ipAt + 10) [0, 0]
    setBytes b (p.ipAt + 10) (bytesOf 2 (0xFFFF - ipSum ((zero.drop p.ipAt).take hdr)))
  else setBytes b (p.ipAt + 7) [p.ttl - 1]

/-- A tag pushed after the MAC addresses. -/
def pushTag (tpid vid : Nat) (b : List Nat) : List Nat := b.take 12 ++ bytesOf 2 tpid ++ bytesOf 2 (vid % 4096) ++ b.drop 12

/-- The tags of a domain pushed, where set (R271): the outer one as an S-tag, the inner one as a C-tag (log entry 30). -/
def pushTags (outer inner : Nat) (b : List Nat) : List Nat :=
  let b := if inner = 0xFFFF then b else pushTag 0x8100 inner b
  if outer = 0xFFFF then b else pushTag 0x88A8 outer b

/-- The tags that the domain matched removed (R271). -/
def popTags (outer inner : Nat) (b : List Nat) : List Nat :=
  let b := if inner = 0xFFFF then b else b.take 16 ++ b.drop 20
  if outer = 0xFFFF then b else b.take 12 ++ b.drop 16

end Sys2Proof.Machine
end

