-- ==== Sys2Proof/Machine/Protection.lean ====
section
/-!
DEFINITION. Machine/Protection.lean: Type-B feeder protection: pairing, readiness, the triggers and the switch
(spec/02 R81 to R88; spec/03 R116; spec/04 R157; spec/05 R192 to R194; spec/11 R379).
-/
namespace Sys2Proof.Machine

/-! ## Pairing (R81, R82) -/

/-- The protection selector's instance of a tree's pair (spec/11 R379). -/
def selectorOf (s : State) (t : Nat) : Nat := match localPartner s t with
  | some p => min t p
  | none => t

/-- A port's protection role. -/
def protRole (s : State) (t : Nat) : Nat := s.get 0x2003 t 1

/-- The two ports may be paired: same mode, precoding, PON-ID and frame phase (R81). -/
def pairFits (s : State) (t p : Nat) : Bool :=
  p != t && p < s.trees && s.get 0x2001 t 1 == s.get 0x2001 p 1 && s.get 0x2001 t 2 == s.get 0x2001 p 2
    && s.get 0x2000 t 3 == s.get 0x2000 p 3 && s.get 0x2000 t 4 == s.get 0x2000 p 4

/-- The terminals of a tree that hold a state other than VACANT. -/
def terminalsOf (s : State) (t : Nat) : List Nat := (List.range 512).map (fun k => 512 * t + k) |>.filter fun n => termState s n != 0

/-- A port runs: its island is running, and its module reports no transmitter fault (log entry 112). -/
def healthy (s : State) (t : Nat) : Bool := s.islandUp (16 + t) && s.get 0x5E10 t 8 == 0

/-- A port stops working: its lanes' outputs go idle, its beats end, what its framer, staging buffer and reassembly store hold is
lost, and it commits nothing more (R82, R86; spec/03 R116; spec/05 R193). -/
def goIdle (t role : Nat) (s : State) : State :=
  let s := overAll [(1, role), (5, 0)] (fun x s => s.put 0x2003 t x.1 x.2) s
  let s := overAll [Aux.skewAt, .silentRun, .sick] (fun a s => s.setAux a t 0 0) s
  let s := overAll (terminalsOf s t) (fun n s => clear 1030 n (clear 1041 n (s.setAux .beatOut n 0 0))) s
  let s : State := { s with
    skews := s.skews.filter fun x => x.tree != t
    sdus := s.sdus.filter fun x => x.tree != t
    coexStage := s.coexStage.filter fun r => r.tree != t
    beats := s.beats.filter fun b => b.tree != t }
  overAll [0, 1] (fun l s =>
    let s := (dropFs t l (dropWaiting t l s)).setAux .discOut t l 0
    if laneState s t l = 0 then s else setLane t l 5 s) s

/-- A port becomes standby. -/
def becomeStandby (t : Nat) (s : State) : State := goIdle t 2 s

/-- The old working port becomes standby once it is healthy (R86; log entry 112). -/
def standDown (t : Nat) (s : State) : State :=
  if healthy s t then becomeStandby t s else (goIdle t 0 s).setAux .sick t 0 1

/-- An old working port that is healthy again becomes standby (R86). -/
def heal (t : Nat) (s : State) : State :=
  if s.aux .sick t = 1 ∧ healthy s t = true then (s.put 0x2003 t 1 2).setAux .sick t 0 0 else s

/-- The working port's terminals and allocations go to the mirror of the standby as they stand (spec/04 R121, spec/05 R194). -/
def mirrorAll (t : Nat) (s : State) : State :=
  let s := overAll ((List.range 512).filter fun k => termState s (512 * t + k) != 0) (fun k s => mirrorTerminal (512 * t + k) s) s
  overAll ((List.range 1024).filter fun j => s.get 0x3400 (1024 * t + j) 1 == 1) (fun j s => mirrorAlloc (1024 * t + j) s) s

/-- A port of a pair takes the role of the standby or the working port with its partner word. -/
def pairWith (t word : Nat) (standby : Bool) (s : State) : State :=
  let s := if standby then becomeStandby t s else s.put 0x2003 t 1 1
  s.put 0x2003 t 2 word

/-- The two ports of a pair across members fit: far is what the partner's member says of its port (R81; log entry 113). -/
def farFits (s : State) (t : Nat) (far : FarPort) : Bool :=
  s.get 0x2001 t 1 == far.mode && s.get 0x2001 t 2 == far.precoding && s.get 0x2000 t 3 == far.ponId && s.get 0x2000 t 4 == far.phase

/-- The pairing of a tree (R81): on one device the port written becomes the working one; across members the port whose
partner is already working becomes standby. -/
def pair (t : Nat) (far : FarPort) (s : State) : State :=
  let w := s.get 0x2003 t 2
  let p := w % 256
  if inPair s t then done s
  else if w = 0xFFFF then refuse 4 s
  else if w / 256 = member s then
    (if !pairFits s t p then refuse 4 s
    else if inPair s p then refuse 3 s
    else
      let s := pairWith p (256 * member s + t) true (pairWith t w false s)
      done (mirrorAll t (mirrorMode t (raiseClaim 2 (selectorOf s t) t s))))
  else if 64 ≤ w / 256 ∨ 48 ≤ p ∨ farFits s t far = false then refuse 4 s
  else if s.aux .farSig t / 64 = 1 then done (pairWith t w true s)
  else done (mirrorAll t (raiseClaim 2 t t (pairWith t w false s)))

/-- A port leaves its pair: a former standby runs on its own. -/
def unpairPort (t : Nat) (s : State) : State :=
  let s := overAll [(1, 0), (5, 0)] (fun x s => s.put 0x2003 t x.1 x.2) s
  let s := overAll [Aux.resumeLeft, .swReq, .partnerOk, .mirrorOk, .sick] (fun a s => s.setAux a t 0 0) s
  clear 6 t (overAll [0, 1] (fun l s => if laneState s t l = 5 then setLane t l 2 s else s) s)

/-- The pair of a tree is dissolved (R81). -/
def unpair (t : Nat) (s : State) : State :=
  match localPartner s t with
  | some p => unpairPort t (unpairPort p s)
  | none => if inPair s t then unpairPort t s else s

/-- A write of the protection enable. -/
def protectionWrite (acc : Acc) (t v : Nat) (far : FarPort) (s : State) : State :=
  writeValue acc 0x2003 t 3 v s fun s => if v = 1 then pair t far s else done (unpair t s)

/-- The word of a port that no pairing asks about. -/
def noFar : FarPort := ⟨0, 0, 0, 0, 0, 0, 0, 0, 0⟩

/-- PROTECTION_ENABLE (R81). -/
def execProtectionEnable (acc : Acc) (ports : Nat × FarPort) (s : State) : Host.Outcome State Fault Refusal :=
  whenUp s fun s => protectionWrite acc ports.1 1 ports.2 s

/-- PROTECTION_DISABLE (R81). -/
def execProtectionDisable (acc : Acc) (tree : Nat) (s : State) : Host.Outcome State Fault Refusal :=
  whenUp s fun s => protectionWrite acc tree 0 noFar s

/-! ## Skew and readiness (R83, R84) -/

/-- The skew from the bursts of the sliding second, at least 64 of them (R83), their mean rounded half away from zero (log entry
115). -/
def updateSkew (t : Nat) (s : State) : State :=
  let s : State := { s with skews := s.skews.filter fun x => x.tree != t || s.now < x.since + 1000000000 }
  let mine := s.skews.filter fun x => x.tree == t
  if mine.length < 64 then s
  else
    let d := roundDiv (mine.foldl (fun n x => n + x.diff) 0) mine.length
    (s.put 0x2003 t 4 (ofInt 32 d)).setAux .skewAt t 0 (s.now + 1)

/-- The conditions of readiness (R84): on one device the terminal mirror is always current. -/
def standbyFit (s : State) (t : Nat) : Bool :=
  protRole s t == 2 && s.aux .skewAt t != 0 && s.now ≤ s.aux .skewAt t - 1 + 1000000000
    && (match localPartner s t with
      | some p => s.islandUp (16 + p)
      | none => s.aux .partnerOk t == 1 && s.aux .mirrorOk t == 1)

/-- The readiness shown follows its conditions; event 6 when a ready standby stops being ready. -/
def updateReady (t : Nat) (s : State) : State :=
  if standbyFit s t then clear 6 t (s.put 0x2003 t 5 1)
  else if s.get 0x2003 t 5 = 1 then
    let s := s.put 0x2003 t 5 0
    if protRole s t = 2 then raise 6 t 0 0 s else s
  else s

/-- STANDBY_READY_LOSS (R84). -/
def execStandbyReadyLoss (tree : Nat) (s : State) : Host.Outcome State Fault Refusal :=
  whenUp s fun s => if protRole s tree = 2 then updateReady tree s else s

/-! ## The switch (R86 to R88) -/

/-- The argument of a pending event. -/
def pendingArg (s : State) (num inst : Nat) : Reg :=
  ((s.evPending.find? fun r => r.num == num && r.inst == inst).map fun r => r.a1).getD 0

/-- A terminal's records pass from the old working port to the new one of the same device (R84; spec/04 R121). -/
def moveTerminal (t p k : Nat) (s : State) : State :=
  let n := 512 * t + k
  let m := 512 * p + k
  let g := fun sub => s.get 0x3000 n sub
  let s := takeMirror m (g 4) (g 0x0F) (g 6) (g 8) (g 2) (s.get 0x3900 n 1) (g 9) s
  let s := overAll [1, 3, 5, 7, 0x0A, 0x0D, 0x0E, 0x10] (fun sub s => s.put 0x3000 m sub (s.get 0x3000 n sub)) s
  let s := overAll [2, 3] (fun sub s => s.put 0x3900 m sub (s.get 0x3900 n sub)) s
  let s := overAll [1030, 1041] (fun e s => if isPending s e n then raise e m (pendingArg s e n) 0 (clear e n s) else s) s
  overAll [Aux.attempts, .rangeWide, .regTries, .capTries, .drainTo, .darkAt, .keepAlive, .darkCause, .dsn, .fromDark,
      .ploamuAt, .ploamWant]
    (fun a s => s.setAux a m 0 (s.aux a n)) s

/-- An allocation's records pass to the new working port. -/
def moveAlloc (t p j : Nat) (s : State) : State :=
  let a := 1024 * t + j
  let b := 1024 * p + j
  let n := s.get 0x3400 a 2
  let s := takeAllocMirror b (s.get 0x3400 a 3) (s.get 0x3400 a 4) (s.get 0x3400 a 5) (if n = 0xFFFF then n else 512 * p + n % 512) (s.get 0x3400 a 1) s
  let s := overAll [6, 7, 8, 9, 0x0A, 0x0B] (fun sub s => s.put 0x3400 b sub (s.get 0x3400 a sub)) s
  let s := s.setAux .dbruAt b 0 (s.aux .dbruAt a)
  overAll ((List.range 9).map fun i => i + 1) (fun sub s => s.put 0x3A00 b sub (s.get 0x3A00 a sub)) s

/-- Every beat whose quiet window would open before the end of the second post-switch frame is cancelled and rescheduled on the
new working port (spec/05 R193): those staged or sent and not concluded. -/
def rescheduleBeats (t p : Nat) (s : State) : State :=
  let move := fun n => if n = 0xFFFF then n else 512 * p + n % 512
  let s : State := { s with beats := s.beats.map fun b =>
    if b.tree = t then { b with tree := p, terminal := move b.terminal, placed := 0 } else b }
  let s := overAll ((terminalsOf s t).filter fun n => s.aux .beatOut n != 0) (fun n s =>
    let s := s.setAux .beatOut n 0 0
    if termState s n = 2 then dueBeat p (laneOf s n) 1 (move n) (s.aux .rangeWide n == 1) s
    else dueBeat p (laneOf s n) 2 (move n) false s) s
  overAll [0, 1] (fun l s =>
    let s := if s.aux .discOut t l = 1 then dueBeat p l 0 0xFFFF false s else s
    s.setAux .discOut t l 0) s

/-- Every drift run of a tree is reset (spec/05 R192). -/
def resetDrift (t : Nat) (s : State) : State :=
  overAll (terminalsOf s t) (fun n s => overAll [Aux.driftLen, .driftSum, .lossRun, .lossAt] (fun a s => s.setAux a n 0 0) s) s

/-- The new working port starts sending (R86): its claim is accepted, its grid and its receive reference move by d, the next
frame is the first full one, and the resume wait runs. took is the device's part in ns. -/
def becomeWorking (t main coex cause took : Nat) (s : State) : State :=
  let d := s.get 0x2003 t 4
  let s := raiseClaim 2 (selectorOf s t) t ((s.put 0x2003 t 1 1).put 0x2003 t 5 0)
  let take := fun l st s => if laneState s t l = 0 then s else setUp t l (if st = 1 then 1 else 2) (setLane t l st s)
  let s := take 1 coex (take 0 main s)
  let first := frameAdd (frameNow s t) 1
  let r := ofInt 64 (toInt 32 d)
  let s := overAll [(Aux.txAdv, r), (.rxRef, r), (.postAt, first + 1), (.arrSum, 0), (.arrCount, 0), (.resumeLeft, 1), (.silentRun, 0),
    (.swReq, 0)] (fun x s => s.setAux x.1 t 0 x.2) s
  let s := resetDrift t (endHold t 0 (endHold t 1 s))
  let s := (s.bump32 0x2003 t 0x0B).put 0x2003 t 0x0C (took % 2 ^ 32)
  let s := overAll [0, 1] (fun l s => if [2, 3].contains (laneState s t l) then s.send .idleFill [t, l, frameNow s t] else s) s
  raise 5 t cause took (clear 6 t s)

/-- The state machines of a tree's terminals pass to this member with the claim: DARK ones are kept alive, and their events and
those of MUFFLED ones are raised here; the cause of a DARK one is not in the mirror: a free value (spec/04 R147, R160; log entry
114). What was in ranging, and discovery, have their beats scheduled here (spec/05 R193). -/
def takeTerminals (t : Nat) (s : State) : State :=
  let s := overAll (termsIn s t 4) (fun n s =>
    let (cause, s) := s.fresh
    raise 1030 n cause 0 ((s.setAux .keepAlive n 0 1).setAux .darkAt n 0 (s.now + 1))) s
  let s := overAll (termsIn s t 6) (fun n s => raise 1041 n 0 0 s) s
  let s := overAll (termsIn s t 2) (fun n s => dueBeat t (laneOf s n) 1 n true s) s
  overAll [0, 1] (fun l s => if laneState s t l = 2 then dueBeat t l 0 0xFFFF false s else s) s

/-- The main lane's state on the new working port of a pair across members: a mirrored change goes on (R81). -/
def changeState (s : State) (t : Nat) : Nat :=
  if s.aux .chgState t ≠ 1 then 2 else if 0 < framesTo (frameNow s t) (switchFrame s t) then 3 else 4

/-- A lane state that the new working port takes over: an old port's drain or change goes on (R81; spec/11 R396). -/
def takenState (old : Nat) : Nat := if old = 0 ∨ old = 5 then 2 else old

/-- The switch of a pair on one device from its working port t to p (R86). -/
def switchLocal (t p cause took : Nat) (s : State) : State :=
  let s := abortMuffling p 1 (abortMuffling t 1 s)
  let main := takenState (laneState s t 0)
  let coex := takenState (laneState s t 1)
  let s := mirrorMode t s
  let s : State := { s with notices := s.notices.map fun x => if x.tree = t then { x with tree := p } else x
                            ploams := s.ploams.map fun x => if x.tree = t then { x with tree := p } else x }
  let s := rescheduleBeats t p s
  let s := overAll (List.range 512) (moveTerminal t p) s
  let s := overAll (List.range 1024) (moveAlloc t p) s
  let s := overAll (List.range 512) (fun k s => mute p k (isMuted s t k) s) s
  let s := overAll [(Aux.drainOver, 0), (.drainOver, 1)] (fun x s => s.setAux x.1 p x.2 (s.aux x.1 t x.2)) s
  let s := resetDrift t (standDown t s)
  let s := (s.bump32 0x2003 t 0x0B).put 0x2003 t 0x0C (took % 2 ^ 32)
  becomeWorking p main coex cause took s

/-- The pair of a tree has a working and a standby port. A partner on another member is taken at its last signal frame, and as
standby while none has arrived. -/
def canSwitch (s : State) (t : Nat) : Bool :=
  match localPartner s t with
  | some p => protRole s t + protRole s p == 3
  | none => protRole s t == 2 || (protRole s t == 1 && (s.aux .partnerOk t == 0 || s.aux .farSig t / 64 % 4 == 2))

/-- A standby port of a pair across members takes the working role. -/
def takeOver (t cause took : Nat) (s : State) : State :=
  takeTerminals t (becomeWorking t (changeState s t) 2 cause took s)

/-- The switch of the pair that a tree belongs to, by a cause (R85, R86): across members the working port hands over and asks
its partner to take the role; the standby port takes it. A pair without a standby port does not switch (log entry 112). -/
def switchPair (t cause took : Nat) (s : State) : State :=
  if !canSwitch s t then s
  else match localPartner s t with
  | some p => if protRole s t = 1 then switchLocal t p cause took s else switchLocal p t cause took s
  | none =>
    if protRole s t = 1 then
      (standDown t (abortMuffling t 1 (s.setAux .swReq t 0 cause))).bump32 0x2003 t 0x0B
    else takeOver t cause took s

/-- Causes 1 to 4 are ignored while lockout is set on either port (R85). -/
def lockedOut (s : State) (t : Nat) : Bool :=
  s.get 0x2003 t 8 == 1 || (match localPartner s t with
    | some p => s.get 0x2003 p 8 == 1
    | none => bit 4 (s.aux .farSig t))

/-- WORKING_ISLAND_FAULT (R85 cause 1). -/
def execWorkingIslandFault (tree took : Nat) (s : State) : Host.Outcome State Fault Refusal :=
  whenUp s fun s =>
    if protRole s tree = 1 ∧ s.islandUp (16 + tree) = false ∧ lockedOut s tree = false then switchPair tree 1 took s else s

/-- BURST_LOSS_DETECT (R85 cause 2): the run of silent frames has reached the loss-detect count. -/
def execBurstLossDetect (tree took : Nat) (s : State) : Host.Outcome State Fault Refusal :=
  whenUp s fun s =>
    if protRole s tree = 1 ∧ s.get 0x2003 tree 9 ≤ s.aux .silentRun tree ∧ termsIn s tree 3 ≠ [] ∧ lockedOut s tree = false then
      switchPair tree 2 took s
    else s

/-- PARTNER_SIGNAL_LOSS (R85 cause 4; spec/10 R359): the standby port of a pair across members takes over. -/
def execPartnerSignalLoss (tree took : Nat) (s : State) : Host.Outcome State Fault Refusal :=
  whenUp s fun s =>
    if (remotePartner s tree).isNone then s
    else
      let s := s.setAux .partnerOk tree 0 0
      if protRole s tree = 2 ∧ lockedOut s tree = false then switchPair tree 4 took s else updateReady tree s

/-- A write of the manual switch (R85 cause 5): obeyed under lockout; "busy" on a port without a pair, or whose pair has no
standby port. -/
def manualWrite (acc : Acc) (t v took : Nat) (s : State) : State :=
  writeValue acc 0x2003 t 7 v s fun s =>
    if v = 0 then done s else if canSwitch s t = false then refuse 3 s else done (switchPair t 5 took s)

/-- MANUAL_SWITCH (R85). -/
def execManualSwitch (acc : Acc) (tree took : Nat) (s : State) : Host.Outcome State Fault Refusal :=
  whenUp s fun s => manualWrite acc tree 1 took s

/-- A terminal in OPERATION has not resumed: no burst of it has been found since the first full frame (R88). -/
def unresumed (s : State) (t n : Nat) : Bool :=
  let last := s.aux .lastPhaseAt n
  last == 0 || framesTo (s.aux .postAt t - 1) (last - 1) < 0

/-- RESUME_WAIT_EXPIRY (R88): the terminals that have not resumed go DARK with cause 3. -/
def execResumeWaitExpiry (tree : Nat) (s : State) : Host.Outcome State Fault Refusal :=
  whenUp s fun s =>
    if s.aux .resumeLeft tree = 0 then s
    else
      let s := s.setAux .resumeLeft tree 0 0
      let lost := (termsIn s tree 3).filter (unresumed s tree)
      if lost.isEmpty then s else overAll lost (fun n s => goDark n 3 s) (raise 7 tree lost.length 0 s)

end Sys2Proof.Machine
end

