-- ==== Sys2Proof/Machine/Blocks.lean ====
section
/-!
DEFINITION. Machine/Blocks.lean: what a Vioth lane carries: 66-bit blocks, the scrambler, PAM4 and NRZ symbols, the port
stream on its lanes, and the markers sent (spec/10 R331, R348 to R351, R375).
-/
namespace Sys2Proof.Machine

/-! ## The scrambler (R348) -/

/-- Bits in the order on the line: the bytes in turn, each from its least significant bit on, as 802.3 64b/66b coding sends
them (log entry 133). -/
def lineBits (bytes : List Nat) : List Nat := bytes.flatMap fun b => (List.range 8).map fun i => b / 2 ^ i % 2

/-- The bytes that such bits spell. -/
def lineBytes (bits : List Nat) : List Nat :=
  (List.range (bits.length / 8)).map fun i => ((bits.drop (8 * i)).take 8).foldr (fun b n => 2 * n + b % 2) 0

/-- What x^58 + x^39 + 1 adds to a bit: the line bits 39 and 58 places before it. The latest line bit stands in bit 0. -/
def scramTap (st : Nat) : Nat := (st / 2 ^ 38 + st / 2 ^ 57) % 2

/-- Bits scrambled, and the scrambler after them. -/
def scrambleBits : Nat → List Nat → List Nat × Nat
  | st, [] => ([], st)
  | st, b :: l =>
    let o := (b + scramTap st) % 2
    let r := scrambleBits ((2 * st + o) % 2 ^ 58) l
    (o :: r.1, r.2)

/-- Line bits descrambled, and the descrambler after them. -/
def descrambleBits : Nat → List Nat → List Nat × Nat
  | st, [] => ([], st)
  | st, o :: l =>
    let r := descrambleBits ((2 * st + o % 2) % 2 ^ 58) l
    ((o + scramTap st) % 2 :: r.1, r.2)

/-- A payload's contribution to BIP-8 (R350): bit i of every byte. -/
def bip8 (bytes : List Nat) (bip : Nat) : Nat := bytes.foldl (fun n b => Nat.xor n (b % 256)) bip

/-! ## Symbols (R331, R375) -/

/-- Gray values of pairs of bits in wire order, the first bit the more significant, and the bits of Gray values. -/
def bitPairs : List Nat → List Nat
  | a :: b :: l => gray (2 * a + b) :: bitPairs l
  | _ => []
def pairBits (levels : List Nat) : List Nat := levels.flatMap fun g => [gray (g % 4) / 2, gray (g % 4) % 2]

/-- The Gray values that the receiver recovers from the levels of a precoded lane, from the level before them. -/
def unprecode : Nat → List Nat → List Nat
  | _, [] => []
  | p, q :: l => ((q + p) % 4) :: unprecode (q % 4) l

/-- The flags in force on a lane (R334): 7 transmit and 6 receive polarity inverted, 5 transmit and 4 receive precoding. -/
def laneFlag (s : State) (x i : Nat) : Bool := bit i (s.aux .eqIn x 2)

/-- Levels of 0 to 3, or bits, with their polarity inverted. -/
def invertSymbols (top : Nat) (on : Bool) (l : List Nat) : List Nat := if on then l.map fun q => top - q else l

/-- The symbols that a lane's transmitter sends for bits: PAM4 levels, in forerunner mode bits. -/
def sendSymbols (nrz : Bool) (x : Nat) (bits : List Nat) (s : State) : List Nat × State :=
  if nrz then (invertSymbols 1 (laneFlag s x 7) bits, s)
  else
    let g := bitPairs bits
    let q := if laneFlag s x 5 then precode (s.aux .txLevel x) g else g
    (invertSymbols 3 (laneFlag s x 7) q, s.setAux .txLevel x 0 (q.getLastD (s.aux .txLevel x)))

/-- The bits that a lane's receiver recovers from symbols. -/
def takeSymbols (nrz : Bool) (x : Nat) (symbols : List Nat) (s : State) : List Nat × State :=
  if nrz then (invertSymbols 1 (laneFlag s x 6) symbols, s)
  else
    let q := invertSymbols 3 (laneFlag s x 6) symbols
    let g := if laneFlag s x 4 then unprecode (s.aux .rxLevel x) q else q
    (pairBits g, s.setAux .rxLevel x 0 (q.getLastD (s.aux .rxLevel x) % 4))

/-! ## The lanes sent (R348 to R350) -/

/-- A port runs in forerunner mode. -/
def forerunner (s : State) (v : Nat) : Bool := s.get 0x5100 v 3 == 1

/-- Physical lanes of a port. -/
def portLanes (s : State) (v : Nat) : List Nat := List.range (if forerunner s v then 8 else 9)

/-- A block on a physical lane: its sync header and its payload. A lane sends in SEARCHING, LOCKED and SPARED (R338). -/
def sendBlock (v p sync : Nat) (payload : List Nat) (s : State) : State :=
  if [2, 3, 4].contains (laneSt s (viothLane v p)) then
    let (symbols, s) := sendSymbols (forerunner s v) (viothLane v p) ([sync / 2, sync % 2] ++ lineBits payload) s
    s.send .viothBlock ([v, p] ++ symbols)
  else s

/-- A data block on a physical lane: its word scrambled, and counted in the lane's BIP-8. -/
def sendData (v p word : Nat) (s : State) : State :=
  let x := viothLane v p
  let r := scrambleBits (s.aux .scramTx x) (lineBits (bytesOf 8 word))
  let payload := lineBytes r.1
  sendBlock v p 1 payload ((s.setAux .scramTx x 0 r.2).setAux .bipTx x 0 (bip8 payload (s.aux .bipTx x)))

/-- What a lane field of a marker shows: a logical lane held as one more, 0xF none. -/
def markerLane (l : Nat) : Nat := if l = 0 then 0xF else l - 1

/-- The payload of the marker on a physical lane (R350). -/
def markerBytes (s : State) (v p : Nat) : List Nat :=
  let carried := if p = 8 then markerLane (s.aux .spareTx v) else p
  let bip := s.aux .bipTx (viothLane v p)
  [0xD2, 16 * carried + p, 16 * markerLane (s.aux .spareTx v), 16 * markerLane (s.aux .spareRx v)]
    ++ bytesOf 2 (s.aux .markTx v) ++ [bip, 255 - bip]

/-- A marker set: one block on each lane, at one block index. Its count is that of the sets sent, this one included. -/
def sendMarkers (v : Nat) (s : State) : State :=
  let s := (s.setAux .markTx v 0 (wrapAdd 16 (s.aux .markTx v) 1)).setAux .rowsTx v 0 0
  overAll (portLanes s v) (fun p s => (sendBlock v p 2 (markerBytes s v p) s).setAux .bipTx (viothLane v p) 0 0) s

/-- The word that a physical lane sends of a row of eight: its logical lane's, on the spare a copy, or zeros (R349, R350). -/
def laneWord (s : State) (v p : Nat) : Nat :=
  if p < 8 then s.aux .rowWord v p else match s.aux .spareTx v with
    | 0 => 0
    | l + 1 => s.aux .rowWord v l

/-- A row of eight words leaves, one data block on each lane. -/
def sendRow (v : Nat) (s : State) : State :=
  overAll (portLanes s v) (fun p s => sendData v p (laneWord s v p) s)
    ((s.setAux .rowLen v 0 0).setAux .rowsTx v 0 (s.aux .rowsTx v + 1))

/-! ## The lanes received (R348, R351) -/

/-- The sync header and the payload of the block that a lane's symbols carry. -/
def readBlock (v p : Nat) (symbols : List Nat) (s : State) : (Nat × List Nat) × State :=
  let r := takeSymbols (forerunner s v) (viothLane v p) symbols s
  ((2 * r.1.getD 0 0 + r.1.getD 1 0, lineBytes (r.1.drop 2)), r.2)

/-- A block's payload as a word: that of a data block descrambled, and counted in BIP-8. A block with an invalid sync header
is taken as a data block, and one with a marker's header as it stands (log entry 134). -/
def takeWord (v p sync : Nat) (payload : List Nat) (s : State) : Nat × State :=
  let x := viothLane v p
  if sync = 2 then (ofBytes payload, s)
  else
    let r := descrambleBits (s.aux .scramRx x) (lineBits payload)
    (ofBytes (lineBytes r.1), (s.setAux .scramRx x 0 r.2).setAux .bipRx x 0 (bip8 payload (s.aux .bipRx x)))

end Sys2Proof.Machine
end

