-- ==== Sys2Proof/Machine/Vioth.lean ====
section
/-!
DEFINITION. Machine/Vioth.lean: the Vioth ports: lanes, markers and the spare lane, the framer, multiframe overhead,
defects and their consequences, primer fill, and the path table (spec/10 R348 to R375).
-/
namespace Sys2Proof.Machine

/-! ## State of a port -/

/-- Port state: 0 disabled, 1 draining, 2 starting, 3 aligning, 4 in service, 5 out of service. -/
def portSt (s : State) (v : Nat) : Nat := s.get 0x5100 v 2 / 16

/-- Framer state: 0 HUNT, 1 PRESYNC1, 2 PRESYNC2, 3 SYNC. -/
def framer (s : State) (v : Nat) : Nat := s.get 0x5100 v 2 % 16

/-- The port's state changes: event 2833. -/
def setPort (v new : Nat) (s : State) : State :=
  let old := portSt s v
  if new = old then s else raise 2833 v old new (s.put 0x5100 v 2 (16 * new + framer s v))

/-- The framer's state. -/
def setFramer (v f : Nat) (s : State) : State := s.put 0x5100 v 2 (16 * portSt s v + f)

/-- A defect is held, by its code (R360). -/
def hasDefect (s : State) (v code : Nat) : Bool := bit (code - 1) (s.get 0x5100 v 7)

/-- The physical lane that carries a logical lane towards this member. -/
def carrier (s : State) (v l : Nat) : Nat := if s.aux .spareRx v = l + 1 then 8 else l

/-- A physical lane is in use: it carries a logical lane to the deskew. -/
def laneUsed (s : State) (v p : Nat) : Bool :=
  if p = 8 then s.aux .spareRx v != 0 else s.aux .spareRx v != p + 1

/-- Every logical lane has block lock on the lane that carries it. -/
def allLocked (s : State) (v : Nat) : Bool :=
  (List.range 8).all fun l => s.aux .blockLock (viothLane v (carrier s v l)) == 1

/-! ## Reach and paths (R357, R364) -/

/-- A port is in service for transmission (R361, R362, R369). -/
def txService (s : State) (v : Nat) : Bool := portSt s v == 4 && !hasDefect s v 7

/-- A port is usable for a member (R364). -/
def usable (s : State) (v m : Nat) : Bool := v < 4 && txService s v && bit m (s.aux .reachIn v)

/-- The active port for a member by the path table. -/
def choosePath (s : State) (m : Nat) : Nat :=
  if usable s (s.get 0x5140 m 1) m then s.get 0x5140 m 1
  else if usable s (s.get 0x5140 m 2) m then s.get 0x5140 m 2
  else 0xFF

/-- The path table follows service and reach: every change of an active port counts and raises event 2834. -/
def recomputePaths (s : State) : State :=
  overAll (List.range 64) (fun m s =>
    let old := s.get 0x5140 m 3
    let new := choosePath s m
    if new = old then s else raise 2834 m old new ((s.put 0x5140 m 3 new).bump32 0x5140 m 5)) s

/-- Members reachable through the ports in service, but for one port (4 for none), and this member itself (R357). -/
def reachBut (s : State) (v : Nat) : Nat :=
  ((List.range 4).filter fun p => p != v && portSt s p == 4).foldl (fun r p => Nat.lor r (s.aux .reachIn p)) (2 ^ member s)

/-- 0x51C0.04 follows the ports; a member whose bit clears is left out of the levels (R399). -/
def updateReach (s : State) : State :=
  let old := s.get 0x51C0 0 4
  let new := reachBut s 4
  let s := recomputePaths (s.put 0x51C0 0 4 new)
  overAll ((List.range 64).filter fun m => bit m old && !bit m new) leaveMember s

/-! ## Defects (R360 to R363) -/

/-- A defect whose consequences apply: all but RDI, and DEG only when its action says so. -/
def consequent (s : State) (v code : Nat) : Bool := code ≤ 5 || (code == 6 && s.get 0x5100 v 0x0A == 1)

/-- Some consequent defect is held. -/
def anyConsequent (s : State) (v : Nat) : Bool := [1, 2, 3, 4, 5, 6].any fun c => hasDefect s v c && consequent s v c

/-- Ports that declare defects: in or out of service (log entry 26). -/
def watched (s : State) (v : Nat) : Bool := portSt s v == 4 || portSt s v == 5

/-- The members to which frames received on a port were forwarded in the last 1 ms (R365). -/
def forwardedTo (s : State) (v : Nat) : Nat :=
  ((List.range 64).filter fun m => s.aux .fwdAt v m != 0 && s.now < s.aux .fwdAt v m + 1000000).foldl (fun n m => n + 2 ^ m) 0

/-- A defect is declared (R360): event 2832. A consequent one takes the port out of service, moves its paths and starts
primer fill (R361), unless the far end announced it (R369); RDI alone moves the paths (R362). -/
def declareDefect (v code : Nat) (s : State) : State :=
  if hasDefect s v code || !watched s v then s
  else
    let far := s.aux .farDn v
    let planned := far != 0 && s.now < far + 1000000
    let s := s.put 0x5100 v 7 (s.get 0x5100 v 7 + 2 ^ (code - 1))
    let s := raise 2832 v code (if planned then 2 else 1) s
    if consequent s v code then
      let s := if planned ∨ portSt s v = 5 then s
        else (s.setAux .primer v 0 code).setAux .primerFor v 0 (forwardedTo s v)
      updateReach (setPort v 5 s)
    else if code = 7 then recomputePaths s
    else s

/-- A defect clears: event 2832. With no consequent defect left primer fill stops (R365), and with no defect left the port
returns to service, with its paths (R363). -/
def clearDefect (v code : Nat) (s : State) : State :=
  if !hasDefect s v code then s
  else
    let s := s.put 0x5100 v 7 (s.get 0x5100 v 7 - 2 ^ (code - 1))
    let s := raise 2832 v code 0 s
    let s := if s.get 0x5100 v 7 = 0 then clear 2832 v s else s
    let s := if anyConsequent s v then s else s.setAux .primer v 0 0
    let s := if s.get 0x5100 v 7 = 0 ∧ portSt s v = 5 then setPort v 4 s else s
    updateReach s

/-- The framer leaves SYNC, or stays out of it: to HUNT; leaving SYNC is LOF. -/
def toHunt (v : Nat) (s : State) : State :=
  let was := framer s v
  let s := ((setFramer v 0 s).setAux .framerFail v 0 0).setAux .framePos v 0 0
  if was = 3 then declareDefect v 2 s else s

/-- The stream breaks off: the framer hunts (R355), and the words that it has not taken are gone. -/
def breakStream (v : Nat) (s : State) : State :=
  toHunt v { s with viothIn := s.viothIn.filter fun w => w.1 != v }

/-- A lane in use is lost: LOS, and the framer hunts (R355, R360). -/
def lineLost (v : Nat) (s : State) : State :=
  breakStream v (declareDefect v 1 ((s.setAux .deskew v 0 0).setAux .markOk v 0 0))

/-- A spare lane that fails while it carries logical lane x (R372): taken back from physical lane x when that is SPARED
with block lock and a clean last marker set; else LOS. -/
def spareFail (v : Nat) (s : State) : State :=
  match s.aux .spareRx v with
  | 0 => s
  | l + 1 =>
    let x := viothLane v l
    if laneSt s x = 4 ∧ s.aux .blockLock x = 1 ∧ bit l (s.aux .bipLast v) = false then
      let s := overAll [Aux.spareRx, .spareTx, .spareWant, .spareMove, .restoring] (fun a s => s.setAux a v 0 0) s
      let s := ((s.put 0x5100 v 0x0F 0).put 0x5100 v 0x10 0xF).setAux .laneSpare x 0 0
      raise 2836 v l 0 (s.put 0x5000 x 1 3)
    else lineLost v s

/-- Block lock of a Vioth lane is lost (R351). -/
def blockLost (x : Nat) (s : State) : State :=
  let v := (x - 32) / 9
  let p := (x - 32) % 9
  let s := ((s.setAux .blockLock x 0 0).setAux .syncRun x 0 0).setAux .cleanRun x 0 0
  if !laneUsed s v p then s else if p = 8 then spareFail v s else lineLost v s

/-- LANE_LOCK_LOSS (R338): LOCKED or SPARED to SEARCHING. A Vioth lane in use loses its blocks with it (R360). -/
def execLaneLockLoss (lane : Nat) (s : State) : Host.Outcome State Fault Refusal :=
  whenUp s fun s =>
    if lane < 70 ∧ (laneSt s lane = 3 ∨ laneSt s lane = 4) then
      let s := loseLock lane s
      if 32 ≤ lane ∧ lane < 68 then blockLost lane s else s
    else s

/-- A lane gains block lock: a port whose lanes in use all have it is aligning (R351). -/
def blockGained (x : Nat) (s : State) : State :=
  let v := (x - 32) / 9
  let s := (s.setAux .blockLock x 0 1).setAux .syncHist x 0 0
  if portSt s v = 2 ∧ allLocked s v = true then setPort v 3 s else s

/-- A sync header of a Vioth lane, 0b01 and 0b10 valid (R348): block lock after 64 consecutive valid ones at the candidate position,
lost when 16 of any 64 consecutive ones are invalid (R351). -/
def takeHeader (x header : Nat) (s : State) : State :=
  let ok := header == 1 || header == 2
  if s.aux .blockLock x = 1 then
    let hist := (2 * s.aux .syncHist x + if ok then 0 else 1) % 2 ^ 64
    let s := s.setAux .syncHist x 0 hist
    if 16 ≤ popCount 64 hist then blockLost x s else s
  else
    let run := if ok then s.aux .syncRun x + 1 else 0
    if 64 ≤ run then blockGained x (s.setAux .syncRun x 0 0) else s.setAux .syncRun x 0 run

/-- A Vioth lane whose receiver passes data to the PCS (R338). -/
def laneHeard (s : State) (x : Nat) : Bool := 32 ≤ x && x < 68 && (laneSt s x == 3 || laneSt s x == 4)

/-- VIOTH_BLOCK_LOCK_LOSS (R351): sync headers of a lane that has block lock. -/
def execViothBlockLockLoss (heard : Nat × List Nat) (s : State) : Host.Outcome State Fault Refusal :=
  let (lane, headers) := heard
  whenUp s fun s => if laneHeard s lane && s.aux .blockLock lane == 1 then overAll headers (takeHeader lane) s else s

/-- VIOTH_BLOCK_LOCK_GAIN (R351): sync headers at one candidate position of a lane that has no block lock. -/
def execViothBlockLockGain (heard : Nat × List Nat) (s : State) : Host.Outcome State Fault Refusal :=
  let (lane, headers) := heard
  whenUp s fun s => if laneHeard s lane && s.aux .blockLock lane == 0 then overAll headers (takeHeader lane) s else s

/-! ## The spare procedure (R370 to R372) -/

/-- Physical lane x of the port joins or leaves the spare's service. -/
def spareShown (v l st : Nat) (s : State) : State := raise 2836 v l st (s.put 0x5100 v 0x0F st)

/-- Step 3 (R370): Spare receive = x both sent and received. -/
def spareTaken (v : Nat) (s : State) : State :=
  match s.aux .spareRx v with
  | 0 => s
  | l + 1 =>
    let x := viothLane v l
    if s.get 0x5100 v 0x0F = 1 ∧ s.aux .farRx v = l + 1 ∧ laneSt s x = 3 then
      spareShown v l 2 ((s.put 0x5000 x 1 4).setAux .laneSpare x 0 1)
    else s

/-- What the spare procedure does with the marker set that the port is about to send: it stops copying when both members have sent
Spare receive = 0xF (R371), copies the lane that it is to move, and takes the lane from the spare or back from its physical
lane (R370). -/
def spareAtSend (v : Nat) (s : State) : State :=
  let mine := s.aux .spareWant v
  let x := viothLane v (mine - 1)
  let s := if mine ≠ 0 ∧ s.aux .restoring v = 1 ∧ s.aux .spareRx v = 0 ∧ s.aux .farRx v = 0 then
      let s := overAll [Aux.spareTx, .spareWant, .restoring] (fun a s => s.setAux a v 0 0) s
      spareShown v (mine - 1) 0 (((s.put 0x5000 x 1 3).setAux .laneSpare x 0 0).put 0x5100 v 0x10 0xF)
    else s.setAux .spareTx v 0 mine
  match s.aux .spareMove v with
  | 1 => spareTaken v ((s.setAux .spareMove v 0 0).setAux .spareRx v 0 (s.aux .spareTx v))
  | 2 => (s.setAux .spareMove v 0 0).setAux .spareRx v 0 0
  | _ => s

/-- What the spare procedure makes of a marker set received, with the far end's fields, as one more than the logical lane. -/
def spareAtReceive (v ft fr : Nat) (s : State) : State :=
  let run := if ft = s.aux .farTx v then min 255 (s.aux .farTxRun v + 1) else 1
  let s := ((s.setAux .farTx v 0 ft).setAux .farTxRun v 0 run).setAux .farRx v 0 fr
  let mine := s.aux .spareWant v
  let st := s.get 0x5100 v 0x0F
  -- step 1: the far end's request is followed; of two different requests the lower member ID gives way (R372)
  let follow := fun (s : State) => (((s.setAux .spareWant v 0 ft).setAux .spareMove v 0 0).put 0x5100 v 0x0F 1).put 0x5100 v 0x10 (ft - 1)
  let s := if ft ≠ 0 ∧ 2 ≤ run ∧ mine = 0 ∧ st = 0 then follow s
    else if ft ≠ 0 ∧ 2 ≤ run ∧ mine ≠ 0 ∧ ft ≠ mine ∧ st = 1 ∧ member s < s.get 0x5100 v 0x0B then
      raise 2837 v (mine - 1) (ft - 1) (follow s)
    else s
  let mine := s.aux .spareWant v
  let x := viothLane v (mine - 1)
  if mine = 0 then s
  else if s.get 0x5100 v 0x0F = 1 then
    -- step 2: four clean sets on the copy
    let s := if s.aux .spareRx v = 0 ∧ s.aux .spareTx v = mine ∧ ft = mine ∧ 4 ≤ s.aux .cleanRun (viothLane v 8) then
        s.setAux .spareMove v 0 1 else s
    spareTaken v s
  else
    -- restore: begun here, or at the far end, which sends Spare receive = 0xF
    let s := if fr = 0 ∧ s.aux .spareRx v = mine then s.setAux .restoring v 0 1 else s
    if s.aux .restoring v = 1 ∧ s.aux .spareRx v = mine ∧ laneSt s x = 4 ∧ 4 ≤ s.aux .cleanRun x then s.setAux .spareMove v 0 2 else s

/-! ## Markers received (R350, R351) -/

/-- The marker of a physical lane as received: it stands under a marker's header, with the type, its own lane and a BIP check. -/
def markerOk (p : Nat) (m : Nat × List Nat) : Bool :=
  m.1 == 2 && m.2.getD 0 0 == 0xD2 && m.2.getD 1 0 % 16 == p

/-- The logical lane that a physical lane of the port carries towards this member, as a marker shows it. -/
def carriedHere (s : State) (v p : Nat) : Nat := if p < 8 then p else markerLane (s.aux .spareRx v)

/-- The BIP-8 errors that a marker shows on its lane (R350), none where its two BIP bytes do not agree (log entry 134). -/
def markerErrors (s : State) (v p : Nat) (m : List Nat) : Nat :=
  if m.getD 6 0 + m.getD 7 0 = 255 then popCount 8 (Nat.xor (m.getD 6 0) (s.aux .bipRx (viothLane v p))) else 0

/-- The lanes in use have delivered a set with consistent counts and logical lane numbers within the skew (R351). -/
def setConsistent (s : State) (v : Nat) (set : List (Nat × (Nat × List Nat))) (skew : List Int) : Bool :=
  let used := (portLanes s v).filter (laneUsed s v)
  let at' := fun p => ((set.find? fun e => e.1 == p).map Prod.snd).getD (0, [])
  let count := fun p => numAt (at' p).2 4 2
  used.all fun p => markerOk p (at' p) && (at' p).2.getD 1 0 / 16 == carriedHere s v p && count p == count (used.headD 0)
    && (skew.getD p 0).natAbs ≤ 256

/-- A marker on a physical lane counts its BIP-8 errors, and those of a lane in use count for the second (R350, R360). -/
def takeMarker (v p : Nat) (m : Nat × List Nat) (s : State) : State :=
  let x := viothLane v p
  let errs := if markerOk p m then markerErrors s v p m.2 else 0
  let clean := markerOk p m && errs == 0 && m.2.getD 6 0 + m.2.getD 7 0 == 255 && s.aux .blockLock x == 1
  let s := if errs = 0 then s else s.bump 0x5000 x 0x0B errs
  let s := if laneUsed s v p then s.incAux .bipSec v 0 errs else s
  let s := (s.setAux .bipRx x 0 0).setAux .cleanRun x 0 (if clean then min 15 (s.aux .cleanRun x + 1) else 0)
  s.setAux .bipLast v 0 (setBit p (!clean) (s.aux .bipLast v))

/-- The blocks of one index on the lanes whose receivers pass data (R338), each with its sync header taken: lane, header, payload. -/
def takeRow (v : Nat) (row : List (List Nat)) (s : State) : List (Nat × (Nat × List Nat)) × State :=
  ((portLanes s v).filter fun p => laneHeard s (viothLane v p) && !(row.getD p []).isEmpty).foldl (fun r p =>
    let (b, s) := readBlock v p (row.getD p []) r.2
    (r.1 ++ [(p, b)], takeHeader (viothLane v p) b.1 s)) ([], s)

/-- The copy on the spare counts as clean only while the far end sends it (R370). -/
def copyRun (v ft : Nat) (s : State) : State :=
  if ft ≠ 0 ∧ ft = s.aux .spareWant v then s else s.setAux .cleanRun (viothLane v 8) 0 0

/-- The marker blocks of one set by physical lane, from their sync headers, their bytes 0 to 3, their counts and their BIP bytes, as
symbols in the order of the line (R350). -/
def markerRow (sync marks counts bip : List (List Nat)) : List (List Nat) :=
  (List.range sync.length).map fun i => sync.getD i [] ++ marks.getD i [] ++ counts.getD i [] ++ bip.getD i []

/-- MARKER_SET_RECEIVE (R350, R351): the marker blocks of one set as symbols, by physical lane, and how far each lies from the
first lane's, in blocks. -/
def execMarkerSetReceive (port : Nat) (sync marks counts bip : List (List Nat)) (skew : List Int) (s : State) :
    Host.Outcome State Fault Refusal :=
  let row := markerRow sync marks counts bip
  whenUp s fun s =>
    let v := port
    if 4 ≤ v ∨ portSt s v = 0 then s
    else
      let (set, s) := takeRow v row s
      let s := overAll set (fun e s => takeMarker v e.1 e.2 s) s
      if portSt s v < 3 ∧ portSt s v ≠ 1 ∨ allLocked s v = false then s
      else
        let lead := (((set.find? fun e => laneUsed s v e.1).map Prod.snd).getD (0, [])).2
        let consistent := setConsistent s v set skew
        let count := numAt lead 4 2
        let last := s.aux .markCnt v
        let inStep := consistent && (last == 0 || count == last % 65536)
        let s := s.setAux .markCnt v 0 (if consistent then count + 1 else 0)
        if !inStep then breakStream v ((s.setAux .deskew v 0 0).setAux .markOk v 0 (if consistent then 1 else 0))
        else
          let ok := min 2 (s.aux .markOk v + 1)
          let s := s.setAux .markOk v 0 ok
          let s := if ok = 2 then s.setAux .deskew v 0 1 else s
          if forerunner s v then s
          else
            let lane := fun b => if b / 16 < 8 then b / 16 + 1 else 0
            let ft := lane (lead.getD 2 0)
            spareAtReceive v ft (lane (lead.getD 3 0)) (copyRun v ft s)

/-- A write of the spare command (R370, R371). -/
def spareWrite (acc : Acc) (v c : Nat) (s : State) : State :=
  writeValue acc 0x5100 v 0x0E c s fun s =>
    let st := s.get 0x5100 v 0x0F
    let l := s.get 0x5100 v 0x10
    if c < 8 then
      (if portSt s v ≠ 4 ∨ st ≠ 0 ∨ s.aux .spareWant v ≠ 0 ∨ s.get 0x5100 v 3 = 1 then refuse 3 s
       else done (((s.setAux .spareWant v 0 (c + 1)).put 0x5100 v 0x0F 1).put 0x5100 v 0x10 c))
    else if 0x80 ≤ c ∧ c < 0x88 then
      (if st = 2 ∧ l = c - 0x80 ∧ laneSt s (viothLane v l) = 4 then
         done (spareShown v l 3 (s.put 0x5000 (viothLane v l) 1 5))
       else refuse 3 s)
    else if c = 0xFF then
      (if st = 0 then done s
       else if st = 1 then refuse 3 s
       else
         let s := s.setAux .restoring v 0 1
         let x := viothLane v l
         done (if laneSt s x = 5 then startLane x s else s))
    else refuse 4 s

/-- SPARE_COMMAND (R370): lane x written. -/
def execSpareCommand (acc : Acc) (port lane : Nat) (s : State) : Host.Outcome State Fault Refusal :=
  whenUp s fun s => if lane < 8 then spareWrite acc port lane s else refuse 4 s

/-- SPARE_RETIRE (R371): 0x80 + x written. -/
def execSpareRetire (acc : Acc) (port lane : Nat) (s : State) : Host.Outcome State Fault Refusal :=
  whenUp s fun s => if lane < 8 then spareWrite acc port (0x80 + lane) s else refuse 4 s

/-- SPARE_RESTORE (R371): 0xFF written. -/
def execSpareRestore (acc : Acc) (port : Nat) (s : State) : Host.Outcome State Fault Refusal :=
  whenUp s fun s => spareWrite acc port 0xFF s

/-- SPARE_LANE_FAIL (R372). -/
def execSpareLaneFail (port : Nat) (s : State) : Host.Outcome State Fault Refusal :=
  whenUp s fun s => if port < 4 then spareFail port ((s.setAux .blockLock (viothLane port 8) 0 0).setAux .cleanRun (viothLane port 8) 0 0) else s

/-! ## Ports (R369) -/

/-- A port without lanes, frames or defects: disabled. -/
def viothOffNow (v : Nat) (s : State) : State :=
  let s := overAll (viothLanes s v) stopLane (setPort v 0 (setFramer v 0 s))
  let s := overAll [Aux.deskew, .markOk, .markCnt, .spareTx, .spareRx, .spareWant, .spareMove, .farTx, .farTxRun, .farRx, .restoring,
    .framerFail, .framePos, .rdiRun, .rdiClr, .timRun, .timClr, .mfRdi, .bipSec, .bipLast, .goingDn, .farDn, .reachIn, .primer, .mfSend,
    .linkN, .rowLen, .rowsTx, .drainFrom] (fun a s => s.setAux a v 0 0) { s with viothIn := s.viothIn.filter fun w => w.1 != v }
  let s := overAll (List.range 8) (fun c s => s.setAux .vqBytes v c 0) s
  let s := ((s.put 0x5100 v 7 0).put 0x5100 v 0x0F 0).put 0x5100 v 0x10 0xF
  updateReach (clear 2832 v s)

/-- A write of a Vioth port's enable (R369). -/
def viothEnableWrite (acc : Acc) (v c : Nat) (s : State) : State :=
  writeValue acc 0x5100 v 1 c s fun s =>
    if c = 1 then
      (match portSt s v with
       | 0 => done (overAll (viothLanes s v) startLane (setPort v 2 s))
       | 1 => refuse 3 s
       | _ => done s)
    else if portSt s v ≤ 1 then done s
    else done (updateReach (setPort v 1 ((s.setAux .goingDn v 0 1).setAux .drainFrom v 0 (s.now + 1))))

/-- VIOTH_PORT_ENABLE (R369). -/
def execViothPortEnable (acc : Acc) (port : Nat) (s : State) : Host.Outcome State Fault Refusal :=
  whenUp s fun s => viothEnableWrite acc port 1 s

/-- VIOTH_PORT_DRAIN (R369): "going down" is sent, the paths move off, and no local frame is accepted. -/
def execViothPortDrain (acc : Acc) (port : Nat) (s : State) : Host.Outcome State Fault Refusal :=
  whenUp s fun s => viothEnableWrite acc port 0 s

/-- VIOTH_DRAIN_EXPIRY (R369): what is still queued is discarded, counted and reported in event 2840. -/
def execViothDrainExpiry (port : Nat) (s : State) : Host.Outcome State Fault Refusal :=
  whenUp s fun s =>
    if 4 ≤ port ∨ portSt s port ≠ 1 then s
    else
      let left := s.vframes.filter fun f => f.port == port
      let s := { s with vframes := s.vframes.filter fun f => f.port != port }
      let s := if left.isEmpty then s
        else raise 2840 port left.length (left.foldl (fun n f => n + f.len) 0) (s.bump 0x5100 port 0x1B left.length)
      viothOffNow port s

/-- The next frame of a port in the strict order of R367: multiframe and signal, primer fill, transit, mirror and
management, local data with class 7 first. -/
def nextFrame (s : State) (v : Nat) : Option VFrame :=
  let mine := s.vframes.filter fun f => f.port == v
  (List.range 4).findSome? (fun o => mine.find? fun f => f.order == o)
    |>.or ((List.range 8).findSome? fun c => mine.find? fun f => f.order == 4 && f.cls == 7 - c)

/-- The payload CRC of a frame (R353): CRC-32C, 0 when the frame has no payload. -/
def viothCrc (payload : List Nat) : Nat := if payload.isEmpty then 0 else crc32c payload

/-- Bits [127:16] of a frame's header (R353). Alarm is 1 in primer fill. -/
def viothTop (f : VFrame) (rdi : Bool) : Nat :=
  let fields : List (Nat × Nat) := [(4, f.kind), (1, if f.kind = 3 then 1 else 0), (3, f.cls), (6, f.source), (6, f.dest),
    (6, f.hops), (14, f.len), (17, f.context), (14, 0x3FFF - f.len % 2 ^ 14), (2, f.colour), (1, if rdi then 1 else 0), (6, 0),
    (32, viothCrc f.payload)]
  fields.foldl (fun h x => h * 2 ^ x.1 + x.2 % 2 ^ x.1) 0

/-- A frame on the link (R352, R353): its 16-byte header with the HEC, and its payload padded with zeros to whole words. -/
def viothWire (f : VFrame) (rdi : Bool) : List Nat :=
  let head := bytesOf 14 (viothTop f rdi)
  head ++ bytesOf 2 (crc16 head) ++ f.payload ++ List.replicate ((8 - f.payload.length % 8) % 8) 0

/-- A fill frame of a port (R354). -/
def fillFrame (s : State) (port : Nat) : VFrame := ⟨port, 5, 2, 0, member s, 0, 0, 0, 0, 0, []⟩

/-- A word joins the port's stream (R349): word j goes to logical lane j mod 8, and after every 16,384 data blocks each lane sends a
marker (R350). -/
def pushWord (v w : Nat) (s : State) : State :=
  let n := s.aux .rowLen v
  let s := s.setAux .rowWord v n w
  if n < 7 then s.setAux .rowLen v 0 (n + 1)
  else
    let s := sendRow v s
    if s.aux .rowsTx v = 16384 then sendMarkers v (spareAtSend v s) else s

/-- The words of a frame's bytes. -/
def wordsOf (b : List Nat) : List Nat := (List.range (b.length / 8)).map fun i => numAt b (8 * i) 8

/-- A frame enters the port's stream. -/
def streamFrame (v : Nat) (b : List Nat) (s : State) : State := overAll (wordsOf b) (pushWord v) (s.send .vioth (v :: b))

/-- VIOTH_FRAME_SEND (R353, R367): the port sends its next frame whole, or fill when nothing is due; every header says
whether the sender holds a defect (R361). A draining port that has nothing left after 250 µs ends its drain (R369). -/
def execViothFrameSend (port : Nat) (s : State) : Host.Outcome State Fault Refusal :=
  whenUp s fun s =>
    if 4 ≤ port ∨ portSt s port = 0 then s
    else
      let rdi := anyConsequent s port
      match nextFrame s port with
      | none =>
        if portSt s port = 1 ∧ s.aux .drainFrom port + 250000 ≤ s.now + 1 then viothOffNow port s
        else streamFrame port (viothWire (fillFrame s port) rdi) s
      | some f =>
        let s := { s with vframes := s.vframes.erase f }
        let s := if f.order = 4 then s.setAux .vqBytes port f.cls (s.aux .vqBytes port f.cls - f.len) else s
        streamFrame port (viothWire f rdi) (s.bump 0x5100 port 0x12)

/-! ## Multiframe overhead (R357, R358, R360) -/

/-- Byte 19 of the multiframe: the defects of the sender's receive side, and going down. -/
def defectByte (s : State) (v : Nat) : Nat :=
  ([1, 2, 3, 4, 5, 6].foldl (fun n c => if hasDefect s v c then n + 2 ^ (8 - c) else n) 0) + 2 * s.aux .goingDn v

/-- MULTIFRAME_SEND (R357). -/
def execMultiframeSend (port : Nat) (s : State) : Host.Outcome State Fault Refusal :=
  whenUp s fun s =>
    if 4 ≤ port ∨ portSt s port = 0 then s
    else
      let n := wrapAdd 32 (s.aux .mfCount port) 1
      let s := s.setAux .mfCount port 0 n
      let echo := s.aux .mfSend port
      let turn := if echo = 0 then 0 else s.now - s.aux .mfArr port
      let payload := bytesOf 16 (s.get 0x5100 port 4) ++ [1, member s % 64, port, defectByte s port] ++ bytesOf 4 n
        ++ bytesOf 8 (s.now % 2 ^ 64) ++ bytesOf 8 echo ++ bytesOf 4 (turn % 2 ^ 32) ++ bytesOf 2 (s.get 0x5580 0 1)
        ++ bytesOf 2 (s.get 0x5580 0 2) ++ bytesOf 8 (reachBut s port) ++ bytesOf 8 0
      { s with vframes := s.vframes ++ [⟨port, 0, 4, 0, member s, member s, 0, 64, 0, 0, payload⟩] }

/-- The average of the last 8 link delays (R358): linkN holds how many are held and the next place. -/
def linkDelay (v d : Nat) (s : State) : State :=
  let k := s.aux .linkN v % 16
  let at' := s.aux .linkN v / 16
  let s := s.setAux .linkDel v at' d
  let k := min 8 (k + 1)
  let s := s.setAux .linkN v 0 ((at' + 1) % 8 * 16 + k)
  s.put 0x5100 v 0x0D (((List.range k).foldl (fun n i => n + s.aux .linkDel v i) 0) / k % 2 ^ 32)

/-- The path delays through a port (R374): its link delay, and what lies beyond the far member; event 2838 above 250 µs. -/
def pathDelays (v : Nat) (s : State) : State :=
  overAll ((List.range 64).filter fun m => s.aux .pathBeyond v m != 0 && s.get 0x5140 m 3 == v) (fun m s =>
    let d := s.get 0x5100 v 0x0D + (s.aux .pathBeyond v m - 1)
    let s := s.put 0x5140 m 4 (d % 2 ^ 32)
    if 250000 < d then (if isPending s 2838 m then s else raise 2838 m d 0 s) else clear 2838 m s) s

/-- A multiframe delivered in SYNC (R357 to R362): its 64-byte payload. -/
def takeMultiframe (v : Nat) (b : List Nat) (s : State) : State :=
  let u := fun i n => numAt b i n
  if portSt s v < 3 ∨ framer s v ≠ 3 ∨ u 16 1 ≠ 1 then s
  else
    let trace := u 0 16
    let far := u 17 1 % 64
    let defects := u 19 1
    let s := ((s.put 0x5100 v 0x0B far).put 0x5100 v 0x0C (u 18 1 % 4)).put 0x5100 v 6 trace
    let s := ((s.setAux .mfSend v 0 (u 24 8)).setAux .mfArr v 0 s.now).setAux .lomBack v 0 1
    let s := if u 32 8 = 0 then s else linkDelay v ((s.now - u 32 8 - u 40 4) / 2) s
    let s := if bit 1 defects then s.setAux .farDn v 0 (s.now + 1) else s.setAux .farDn v 0 0
    let s := updateReach (s.setAux .reachIn v 0 (u 48 8))
    -- the port's first multiframe in SYNC brings it into service (log entry 26)
    let s := if portSt s v = 3 then updateReach (setPort v 4 s) else s
    -- TIM: three differing or three matching traces
    let expected := s.get 0x5100 v 5
    let differs := expected ≠ 0 ∧ trace ≠ expected
    let run := if differs then min 3 (s.aux .timRun v + 1) else 0
    let ok := if differs then 0 else min 3 (s.aux .timClr v + 1)
    let s := (s.setAux .timRun v 0 run).setAux .timClr v 0 ok
    let s := if run = 3 then declareDefect v 4 s else if ok = 3 then clearDefect v 4 s else s
    -- MID
    let s := if far = member s then declareDefect v 5 s else clearDefect v 5 s
    -- RDI by byte 19
    let rdi := if defects / 4 % 64 ≠ 0 then min 3 (s.aux .mfRdi v + 1) else 0
    let s := s.setAux .mfRdi v 0 rdi
    let s := if 2 ≤ rdi then declareDefect v 7 s
      else if rdi = 0 ∧ 8 ≤ s.aux .rdiClr v then clearDefect v 7 s
      else s
    pathDelays v (s.setAux .pathBeyond v far 1)

/-- MULTIFRAME_RECEIVE (R357 to R362, R374): a multiframe's 64-byte payload. beyond says of a member reached through the far one
what the link delays beyond it sum to, in ns, and how many transit members the path has: no frame of the spec carries them
(log entry 136). -/
def execMultiframeReceive (port : Nat) (payload : List Nat) (beyond : List (Nat × Nat × Nat)) (s : State) :
    Host.Outcome State Fault Refusal :=
  whenUp s fun s =>
    if 4 ≤ port then s
    else takeMultiframe port payload
      (overAll (beyond.filter fun p => p.1 < 64) (fun p s => s.setAux .pathBeyond port p.1 (p.2.1 + 1500 * p.2.2 + 1)) s)

/-- LOM_TIMEOUT (R360): no multiframe for 375 µs while in SYNC. -/
def execLomTimeout (port : Nat) (s : State) : Host.Outcome State Fault Refusal :=
  whenUp s fun s => if port < 4 ∧ framer s port = 3 then declareDefect port 3 (s.setAux .lomBack port 0 0) else s

/-- DEFECT_CLEAR_HOLD_END (R360): a defect's condition for clearing has held for the clear hold: LOS every logical lane
locked and deskewed, LOF in SYNC, LOM a multiframe received. -/
def execDefectClearHoldEnd (port code : Nat) (s : State) : Host.Outcome State Fault Refusal :=
  whenUp s fun s =>
    let ok := match code with
      | 1 => allLocked s port && s.aux .deskew port == 1
      | 2 => framer s port == 3
      | 3 => s.aux .lomBack port == 1
      | _ => false
    if port < 4 && ok then clearDefect port code s else s

/-- DEGRADE_SECOND (R360): BIP-8 errors of the second against the threshold and its tenth. -/
def execDegradeSecond (port : Nat) (s : State) : Host.Outcome State Fault Refusal :=
  whenUp s fun s =>
    if 4 ≤ port then s
    else
      let n := s.aux .bipSec port
      let thr := s.get 0x5100 port 9
      let s := s.setAux .bipSec port 0 0
      if thr < n then declareDefect port 6 s else if n * 10 ≤ thr then clearDefect port 6 s else s

/-! ## Primer fill (R365) -/

/-- PRIMER_FILL_SEND (R365): one frame to each destination to which the port's frames went, on that one's active port. -/
def execPrimerFillSend (port : Nat) (s : State) : Host.Outcome State Fault Refusal :=
  whenUp s fun s =>
    let code := s.aux .primer port
    if 4 ≤ port ∨ code = 0 ∨ anyConsequent s port = false then s
    else overAll ((List.range 64).filter fun m => bit m (s.aux .primerFor port)) (fun m s =>
      match activePort s m with
      | none => s
      | some v => sendFrame m 1 3 0 0 0 [member s, port, code, s.get 0x5100 port 0x0B, 0, 0, 0, 0] 8 (s.bump 0x5100 v 0x16)) s

/-- PRIMER_TIME_EXPIRY (R365). -/
def execPrimerTimeExpiry (port : Nat) (s : State) : Host.Outcome State Fault Refusal :=
  whenUp s fun s => s.setAux .primer port 0 0

/-! ## The path table (R364) -/

/-- A write of a path's working or protection port (R364, R376): through the path selector, which the holder of its claim
writes. -/
def pathWrite (acc : Acc) (m sub v : Nat) (s : State) : State :=
  writeValue acc 0x5140 m sub v s fun s =>
    if s.aux .engVac 4 0 = 0 then refuse 3 s else recomputePaths (store 0x5140 m sub v s)

/-- PATH_WRITE (R364): a write of 0x5140[m].01 or .02. -/
def execPathWrite (acc : Acc) (member sub value : Nat) (s : State) : Host.Outcome State Fault Refusal :=
  whenUp s fun s => if sub = 1 ∨ sub = 2 then pathWrite acc member sub value s else refuse 1 s

/-! ## The lane references (spec/01 R46, R56) -/

/-- A lane goes OFF because its reference was absent (R338); a Vioth lane in use is lost with it, a management port
goes down. -/
def laneRefOff (x : Nat) (s : State) : State :=
  if laneSt s x = 0 then s
  else
    let spare := s.aux .laneSpare x
    let s := ((stopLane x s).setAux .laneByRef x 0 1).setAux .laneSpare x 0 spare
    if 32 ≤ x ∧ x < 68 then blockLost x s
    else if 68 ≤ x ∧ s.get 0x50C0 (x - 68) 3 = 4 then mgmtState (x - 68) 2 s
    else s

/-- LANE_REFERENCE_HOLD_EXPIRY (R46): the lanes of a lane reference lost for 10 ms stop. -/
def execLaneReferenceHoldExpiry (clock : Nat) (s : State) : Host.Outcome State Fault Refusal :=
  whenUp s fun s => if s.aux .refLost clock = 1 then overAll (referenceLanes clock) laneRefOff s else s

/-- REFERENCE_RESTORED (R46, R56): a reference has stayed in tolerance for 10 ms, with the offset now measured: its events
clear, and the lanes it stopped start again if their ports are still enabled. -/
def execReferenceRestored (reading : Nat × Int) (s : State) : Host.Outcome State Fault Refusal :=
  let (clock, offset) := reading
  whenPowered s fun s =>
    if 4 ≤ clock then s
    else
      let s := withdraw 3974 clock (withdraw 3973 clock
        (((s.setAux .refLost clock 0 0).put 0x1050 clock 1 2).put 0x1050 clock 2 (ofInt 32 offset)))
      overAll (referenceLanes clock) (fun x s =>
        if s.aux .laneByRef x = 1 then (if laneWanted s x then startLane x s else s.setAux .laneByRef x 0 0) else s) s

end Sys2Proof.Machine
end

