-- ==== Sys2Proof/Machine/Boot.lean ====
section
/-!
DEFINITION. Machine/Boot.lean: the start of the device: image checks, fallback and recovery, the board identity memory, the
modules, the calibration set, and what READY brings (spec/01 R36 to R43, R49; spec/10 R333 to R335; spec/15 R482 to R502, R505).
-/
namespace Sys2Proof.Machine

/-! ## Image checks (R486, R487) -/

/-- Fields of an image header. -/
def imgBody (h : List Nat) : Nat := numAt h 8 4
def imgLevel (h : List Nat) : Nat := numAt h 4 2
def imgRollback (h : List Nat) : Nat := numAt h 3 1
def imgDigest (h : List Nat) : Nat := numAt h 24 32

/-- SM3 of an owner public key of 64 bytes (R487, R488). -/
def keyHash (k : Nat) : Nat := Config.sm3 (bytesOf 64 k) % 2 ^ 256

/-- Bit of the Steppings byte for the device's stepping code (R486, R503). -/
def stepBit (code : Nat) : Nat := if code = 0x00 then 0 else if code = 0x01 then 1 else 2

/-- Magic, version, reserved bytes and lengths of a header (check 2). -/
def headerFits (h : List Nat) : Bool :=
  let l := [numAt h 12 4, numAt h 16 4, numAt h 20 4]
  numAt h 0 2 == 0x5A1A && numAt h 2 1 == 1 && numAt h 7 1 == 0 && (h.drop 248).all (· == 0)
    && l.all (fun n => 1 ≤ n && n ≤ 1048576) && imgBody h == l.foldl (· + ·) 0

/-- The cause that refuses an image, 0 when it is accepted (R487); checks 5 and 7 are skipped on an unowned device (R488). -/
def imageCause (s : State) (i : ImageIn) : Nat :=
  let h := i.header
  let owned := s.get 0x1320 0 1 != 0
  if !i.answers || h.length != 512 || i.bytes < 512 + imgBody h then 1
  else if !headerFits h then 2
  else if !bit (stepBit (s.get 0x1000 0 2)) (numAt h 6 1) then 3
  else if imgRollback h < s.get 0x1320 0 3 then 4
  else if owned && keyHash (numAt h 56 64) != s.get 0x1320 0 1 then 5
  else if !i.knabexOk then 6
  else if owned && !i.ownerOk then 7
  else if !i.majorOk then 8
  else if i.bodyHash != imgDigest h then 9
  else 0

/-- What 0x1300 shows of a valid image. -/
def slotValid (k : Nat) (h : List Nat) (s : State) : State :=
  overAll [(2, 1), (3, imgLevel h), (4, imgRollback h), (5, imgDigest h), (6, 0)] (fun p s => s.put 0x1300 k p.1 p.2) s

/-! ## Records of the identity memories (R493, R498) -/

/-- The records of a list of bytes, type and body, and whether the last one is whole. A record whose second byte is not 0 is
given type 256. -/
def recordsOf : Nat → List Nat → List (Nat × List Nat) × Bool
  | _, [] => ([], true)
  | 0, _ => ([], false)
  | n + 1, b =>
    let len := numAt b 2 2
    if b.length < 4 ∨ b.length < 4 + len then ([], false)
    else
      let r := recordsOf n (b.drop (4 + len))
      ((if b.getD 1 0 = 0 then b.headD 0 else 256, (b.drop 4).take len) :: r.1, r.2)

/-- The body of the first record of a type. -/
def recordOf (l : List (Nat × List Nat)) (t : Nat) : Option (List Nat) := (l.find? fun r => r.1 == t).map Prod.snd

/-- Bytes of a memory with a field of four bytes taken as zero. -/
def zeroField (at' : Nat) (b : List Nat) : List Nat := b.take at' ++ [0, 0, 0, 0] ++ b.drop (at' + 4)

/-! ## Equalisation entries (spec/10 R334, R335) -/

/-- The lane that an entry names. -/
def entryLane (e : List Nat) : Option Nat :=
  match e.headD 0, e.getD 1 0 with
  | 0, l => if l < 32 then some l else none
  | 1, l => if l < 36 then some (32 + l) else none
  | 2, l => if l < 2 then some (68 + l) else none
  | _, _ => none

/-- An entry is refused, with the lanes read before it. -/
def entryRefusedBy (seen : List Nat) (e : List Nat) : Bool :=
  let at' := fun i => e.getD i 0
  let taps := [3, 4, 5, 6, 7].map fun i => toInt 8 (at' i)
  match entryLane e with
  | none => true
  | some x =>
    seen.contains x || 128 < (taps.foldl (fun n t => n + t.natAbs) 0) || taps.getD 3 0 < 64
      || (at' 0 == 2 && (field 5 4 (at' 2) != 0 || [9, 10, 11, 12, 13].any fun i => at' i != 0))
      || (at' 0 != 1 && (at' 14 != 0 || at' 15 != 0))

/-- Entries of 16 bytes: the accepted ones with their lanes, and the refused ones as the lane byte or lane, and the position. -/
def readEntries (b : List Nat) : List (Nat × List Nat) × List (Nat × Nat) :=
  let l := (List.range (b.length / 16)).map fun i => (b.drop (16 * i)).take 16
  let r := (l.zipIdx).foldl (fun (a : List Nat × List (Nat × List Nat) × List (Nat × Nat)) p =>
    let lane := entryLane p.1
    let seen := match lane with
      | some x => x :: a.1
      | none => a.1
    if entryRefusedBy a.1 p.1 then (seen, a.2.1, a.2.2 ++ [(lane.getD (p.1.getD 1 0), p.2)])
    else (seen, a.2.1 ++ [(lane.getD 0, p.1)], a.2.2)) ([], [], [])
  (r.2.1, r.2.2)

/-- A lane takes its entry from a source: 1 the board table, 2 the calibration set. -/
def applyEntry (source : Nat) (x : Nat) (e : List Nat) (s : State) : State :=
  overAll [(2, numAt e 2 1), (3, numAt e 3 5), (4, numAt e 8 1), (5, numAt e 9 1), (6, numAt e 10 1), (7, numAt e 11 3), (8, numAt e 14 1),
    (9, numAt e 15 1), (0x0A, source)] (fun p s => s.put 0x5000 x p.1 p.2) s

/-- The board's equalisation table (R335): the result of 0x5010.01. -/
def tableResult (b : List Nat) : Nat :=
  if b.length < 16 ∨ numAt b 0 2 ≠ 0x4551 then 1
  else if numAt b 2 1 ≠ 1 then 3
  else if b.length ≠ 16 + 16 * numAt b 3 1 ∨ 70 < numAt b 3 1 ∨ crc32c (zeroField 4 b) ≠ numAt b 4 4 then 2
  else 0

/-- The board's table is read: events 2823 and 2824. -/
def readTable (b : List Nat) (s : State) : State :=
  let r := tableResult b
  let s := s.put 0x5010 0 1 r
  if r ≠ 0 then raise 2823 0 r 0 s
  else
    let (ok, bad) := readEntries (b.drop 16)
    let s := (s.put 0x5010 0 2 (numAt b 3 1)).put 0x5010 0 3 bad.length
    overAll bad (fun p s => raise 2824 p.1 p.2 0 s) (overAll ok (fun p s => applyEntry 1 p.1 p.2 s) s)

/-! ## The board identity memory (R493, R494) -/

/-- The result of 0x5E00.01. -/
def boardResult (b : BoardIn) : Nat :=
  let x := b.bytes
  let len := numAt x 4 2
  if !b.answers || x.length < 32 || numAt x 0 2 != 0x4249 then 1
  else if numAt x 2 1 ≠ 1 then 3
  else if len < 32 ∨ 2048 < len ∨ x.length < len ∨ crc32c (zeroField 8 (x.take len)) ≠ numAt x 8 4 then 2
  else 0

/-- The cage map: a tree that it does not name counts as not fitted. -/
def readCages (b : List Nat) (s : State) : State :=
  let l := (List.range (b.length / 4)).map fun i => (b.drop (4 * i)).take 4
  overAll (List.range s.trees) (fun t s =>
    match l.find? fun e => e.headD 0 == t with
    | some e => (s.put 0x5E01 t 1 (e.getD 1 0)).put 0x5E01 t 2 (numAt e 2 2)
    | none => s.put 0x5E01 t 1 0) s

/-- The board identity memory is read and used, or ignored as a whole (event 3980). -/
def readBoard (b : BoardIn) (s : State) : State :=
  let r := boardResult b
  let s := (s.put 0x5E00 0 1 r).put 0x5E00 0 5 (if b.answers then Config.sm3 b.bytes % 2 ^ 256 else 0)
  if r ≠ 0 then raise 3980 0 r 0 (s.put 0x5010 0 1 1)
  else
    let x := b.bytes.take (numAt b.bytes 4 2)
    let (l, _) := recordsOf (min 8 (numAt x 30 2)) (x.drop 32)
    let s := (s.put 0x5E00 0 2 (numAt x 12 16)).put 0x5E00 0 3 (numAt x 28 2)
    let s := match recordOf l 3 with
      | some t => s.put 0x5E00 0 4 (numAt t 0 16)
      | none => s
    let s := match recordOf l 2 with
      | some m => readCages m s
      | none => s
    match recordOf l 1 with
    | some t => readTable t s
    | none => s.put 0x5010 0 1 1

/-! ## The calibration set (R498, R499) -/

/-- The bytes in use of a set, none when its length is out of range. -/
def calBytes (v : Reg) : List Nat :=
  let n := v / 2 ^ (8 * (65536 - 8)) % 2 ^ 32
  if n < 64 ∨ 65536 < n then [] else bytesOf n (v / 2 ^ (8 * (65536 - n)))

/-- The start-up ports of record 5: quad modes that R342 allows, and a member ID below 64. -/
def portsFit (b : List Nat) : Bool :=
  b.length == 17 && b.getD 16 0 < 64 && (List.range 8).all fun j =>
    b.getD j 0 ≤ 4 && (j % 2 == 0 || (b.getD j 0 == 4) == (b.getD (j - 1) 0 == 4))

/-- A record meets its own layout, and record 1 meets R335. -/
def recordFits (r : Nat × List Nat) : Bool :=
  match r.1 with
  | 1 => r.2.length % 16 == 0 && (readEntries r.2).2.isEmpty
  | 2 => r.2.length == 20
  | 3 => r.2.length == 40
  | 4 => r.2.length == 192
  | 5 => portsFit r.2
  | 6 => r.2.length == 4
  | n => n < 256

/-- The check of a set: 0, or the result of 0x1400.05 (R499, R500). -/
def calCheck (s : State) (v : Reg) : Nat :=
  let b := calBytes v
  if b.isEmpty ∨ numAt b 0 2 ≠ 0xCA1B ∨ numAt b 2 1 ≠ 1 then 1
  else if crc32c (zeroField 8 b) ≠ numAt b 8 4 then 2
  else if numAt b 22 16 ≠ s.get 0x1000 0 1 then 3
  else
    let (l, whole) := recordsOf b.length (b.drop 64)
    if whole && l.all recordFits then 0 else 4

/-- The records that apply: those of a set that passes its header, CRC and serial, each on its own. -/
def calRecords (s : State) (v : Reg) : List (Nat × List Nat) :=
  match calCheck s v with
  | 0 | 4 => let b := calBytes v; ((recordsOf b.length (b.drop 64)).1).filter recordFits
  | _ => []

/-- The start-up ports (record 5): the member ID, the quads, and the ports it enables. -/
def startPorts (b : List Nat) (s : State) : State :=
  let s := s.put 0x51C0 0 1 (b.getD 16 0)
  let s := overAll (List.range 8) (fun j s => setQuad j (b.getD j 0) s) s
  let s := overAll ((List.range 32).filter fun e => bit e (numAt b 8 4) && s.aux .upQuad e != 0) (fun e s =>
    overAll (uplinkLanes s e) startLane (s.put 0x5090 e 2 2)) s
  let s := overAll (List.range 4) (fun v s => if bit v (b.getD 13 0) then s.put 0x5100 v 3 1 else s) s
  let s := overAll ((List.range 4).filter fun v => bit v (b.getD 12 0)) (fun v s => overAll (viothLanes s v) startLane (setPort v 2 s)) s
  let m := numAt b 14 2
  let s := overAll [0, 1] (fun i s => if bit (8 + i) m then s.put 0x50C0 i 2 1 else s) s
  overAll ([0, 1].filter fun i => bit i m) (fun i s => startLane (68 + i) (mgmtState i 2 s)) s

/-- The sensor offsets of the set in force (R498), zero without them. The trims of records 3, 4 and 6 act before what the commands
bring (log entry 80). -/
def readTrims (s : State) : State :=
  match recordOf (calRecords s (s.get 0x1400 0 3)) 2 with
  | some b => overAll (List.range 10) (fun i s => s.setAux .sensorTrim i 0 (numAt b (2 * i) 2)) s
  | none => s

/-- The set in force is applied (R499): event 3992 for each record of types 2, 3, 4 and 6 that is missing. -/
def applyCalibration (s : State) : State :=
  let l := calRecords s (s.get 0x1400 0 3)
  let s := overAll ([2, 3, 4, 6].filter fun t => (recordOf l t).isNone) (fun t s => raise 3992 0 t 0 s) s
  let s := match recordOf l 1 with
    | some b => overAll (readEntries b).1 (fun p s => applyEntry 2 p.1 p.2 s) s
    | none => s
  match recordOf l 5 with
  | some b => startPorts b s
  | none => s

/-! ## Modules (R496, R497) -/

/-- The capabilities of the module in a cage: PAM4 as it advertises, or as the owner's override says. -/
def modCaps (s : State) (t : Nat) : Nat := if s.aux .modPam t = 1 ∨ s.get 0x5E10 t 7 = 1 then 1 else 0

/-- The standard that a module is read under (R496): 1 SFF-8472, 2 CMIS, 3 neither. -/
def modStandard (m : ModuleIn) : Nat := if m.memory.headD 0 = 3 then 1 else if m.cmis then 2 else 3

/-- A text of 16 bytes of a module, at its place under SFF-8472 or CMIS. -/
def modText (m : ModuleIn) (sff cmis : Nat) : Nat :=
  match modStandard m with
  | 1 => numAt m.memory sff 16
  | 2 => numAt m.memory cmis 16
  | _ => 0

/-- The transmitter fault (R496): bit 2 of its byte under SFF-8472, and lane 1's flag, bit 0, under CMIS. -/
def modFault (m : ModuleIn) : Bool :=
  match modStandard m with
  | 1 => bit 2 m.flags
  | 2 => bit 0 m.flags
  | _ => false

/-- A newly present module is identified (event 3981); the override clears when it has another serial. -/
def identify (t : Nat) (m : ModuleIn) (s : State) : State :=
  let std := modStandard m
  let serial := modText m 68 166
  let s := if s.aux .modSer t ≠ 0 ∧ s.aux .modSer t ≠ serial + 1 then s.put 0x5E10 t 7 0 else s
  let s := (s.setAux .modSer t 0 (serial + 1)).setAux .modPam t 0 (if std = 2 ∧ m.pam4 = true then 1 else 0)
  let s := overAll [(1, 1), (2, std), (3, modText m 20 129), (4, modText m 40 148), (5, serial)]
    (fun p s => s.put 0x5E10 t p.1 p.2) s
  let s := s.put 0x5E10 t 6 (modCaps s t)
  raise 3981 t std (modCaps s t) s

/-! ## READY (R482, R505) -/

/-- Every unit that takes a role, a LAG map or the paths at the start raises its claim (spec/11 R378, R380). -/
def claimAll (s : State) : State :=
  let roles := (List.range 216).filter fun e => Objects.engine s.trees e && !Objects.spareSlot e
  let s := overAll roles (fun e s => overAll (roleStages s e) (fun st s => raiseClaim st.1 st.2 e s) s) s
  raiseClaim 4 0 1024 (overAll (List.range 32) (fun g s => raiseClaim 3 g 1024 s) s)

/-- The features that an image lists (spec/11 R401): f, level, scope and name. -/
def listFeatures (l : List (Nat × Nat × Nat × Nat)) (s : State) : State :=
  overAll (l.filter fun f => f.1 < 64) (fun f s => ((s.put 0x55C0 f.1 1 f.2.2.2).put 0x55C0 f.1 2 f.2.1).put 0x55C0 f.1 3 f.2.2.1) s

/-- The image that runs, in every cluster: its level, its slot (2 for a recovery image), and the features that it lists. -/
def runImage (slot : Nat) (i : ImageIn) (s : State) : State :=
  let level := imgLevel i.header
  let s := overAll (clusters s) (fun c s => ((s.put 0x5510 c 1 level).put 0x5510 c 2 slot).setAux .prevImg c 0 slot) s
  let s := overAll ((List.range 216).filter (Objects.engine s.trees)) (fun e s =>
    (s.put 0x5400 e 7 level).setAux .engImg e 0 slot) s
  (listFeatures i.features s).setAux .slotKey slot 0 (numAt i.header 56 64)

/-- A reference clock as the start finds it (spec/01 R46): 0 absent, 1 out of tolerance, 2 in tolerance, and its offset. -/
def takeReference (clock state : Nat) (offset : Int) (s : State) : State :=
  let s := s.put 0x1050 clock 1 state
  match state with
  | 0 => reportCause 3973 clock 0 0 (s.setAux .refLost clock 0 1)
  | 1 => reportCause 3974 clock (ofInt 32 offset) 0 (s.put 0x1050 clock 2 (ofInt 32 offset))
  | _ => withdraw 3974 clock (withdraw 3973 clock ((s.setAux .refLost clock 0 0).put 0x1050 clock 2 (ofInt 32 offset)))

/-- The islands' clocks (spec/00 R7, spec/01 R47): each runs at its nominal clock. A measured clock of an engine or pipe island
stands in its place within the ±1,000 ppm that its PLL holds (spec/01 R46). -/
def startClocks (clocks : List (Nat × Nat)) (s : State) : State :=
  let s := overAll ((List.range 142).filter (Objects.hasInst s.trees 0x1051)) (fun i s => s.put 0x1051 i 1 (islandNominal i)) s
  overAll (clocks.filter fun c => c.1 < 15 && 1000 * absDiff c.2 (islandNominal c.1) ≤ islandNominal c.1)
    (fun c s => s.put 0x1051 c.1 1 c.2) s

/-- What the sensors and the references read, the islands' clocks, and FREF's frequency (spec/13 R429): absent, it is not
usable from the start. The readings are compared as any others are (spec/01 R42, R44). -/
def readEnvironment (b : BootIn) (s : State) : State :=
  let f := b.fref % 3
  let s := (s.put 0x5C00 0 0x12 f).setAux .frefLost 0 0 (if f = 0 then 1 else 0)
  let s := overAll (b.refs.take 4).zipIdx (fun p s => takeReference p.2 (p.1.1 % 3) p.1.2 s) (startClocks b.clocks s)
  overAll (b.sensors.take 10).zipIdx (fun p s => if powered s then takeTemp p.2 p.1 s else s) s

/-- The stack pages held out of use (R484): event 3996 for each stack. Page k lies in stack k mod 2 (spec/09 R301). -/
def holdPages (pages : List Nat) (s : State) : State :=
  let l := (pages.filter fun k => k < Objects.poolSize 3).eraseDups
  let s := overAll l (fun k s => s.setAux .pageHeld k 0 1) s
  let free := s.get 0x4C00 3 1 - l.length
  let s := (s.put 0x4C00 3 2 free).put 0x4C00 3 5 free
  overAll [0, 1] (fun m s => match l.countP fun k => k % 2 == m with
    | 0 => s
    | n => raise 3996 m n 0 s) s

/-- READY rises (R482, R505): the dictionary is on line, and the causes that arose before are reported. slot is 0 or 1 for an
image of the flash, 2 for a recovery image. -/
def goReady (b : BootIn) (slot : Nat) (i : ImageIn) (s : State) : State :=
  let s := readEnvironment b { s with phase := .starting }
  if s.phase ≠ .starting then s
  else
  let s := reportEarly (raise 3976 0 (s.get 0x1040 0 0x0B) 0 { s with phase := .running })
  let s := if s.aux .frefLost = 1 then raise 3848 0 0 0 s else s
  let s := overAll [0, 1] (fun k s => if s.aux .slotCause k = 0 then s else raise 3977 k (s.aux .slotCause k) 0 s) s
  let s := if s.get 0x1301 0 2 = 1 then raise 3978 0 slot (1 - slot) s else s
  let s := overAll [0, 1] (fun k s => if s.aux .startTo k = 0 then s else raise 3997 k (s.aux .startTo k) 0 s) s
  let s := if slot = 2 then raise 3979 0 (s.aux .recSlot) 0 s else s
  let s := runImage slot i (claimAll s)
  let s := applyCalibration (readBoard b.board s)
  let s := (holdPages b.pages s).put 0x5C80 0 2 (Config.clockIdentity (s.get 0x1000 0 1) % 2 ^ 64)
  recomputeLevels (overAll (b.modules.filter fun m => m.1 < s.trees) (fun m s => identify m.1 m.2 s) s)

/-! ## Starts (R36, R37, R43, R483, R489, R490) -/

/-- The objects that outlast a restart: identity, fuses, the owner store, the slots and the calibration set (R502). -/
def survives (k : Key) : Bool :=
  match k.index with
  | 0x1000 | 0x1101 | 0x1110 | 0x1320 => true
  | 0x1040 => k.sub == 0x0B
  | 0x1100 => k.sub == 1 || k.sub == 6
  | 0x1130 => k.sub == 2
  | 0x1140 => k.sub == 1
  | 0x1300 => true
  | 0x1301 => k.sub == 3
  | 0x1400 => k.sub == 3 || k.sub == 4 || k.sub == 6 || k.sub == 7
  | _ => false

/-- The registers that outlast the tries of one start. -/
def startRegs : List Aux := [.bootSel, .bootTest, .slotTried, .slotCause, .startTo, .slotKey, .railLowSince, .railOut, .tempWarn,
  .tempCrit, .refLost, .sensorTrim]

/-- Every island in reset, every memory zeroed, every other object and register back at its default. The time base counts on,
and the commands that wait stay. -/
def restart (s : State) : State :=
  { State.reset with
    now := s.now
    out := s.out
    freeCtr := s.freeCtr
    pending := s.pending
    early := s.early
    objs := s.objs.forget fun k => !(survives k)
    regs := s.regs.forget fun k => !(startRegs.any fun a => k.index == a.ctorIdx) }

/-- The boot ROM waits for an image over PCIe (R490). -/
def waitRecovery (slot : Nat) (s : State) : State := ({ s with phase := .recovery } : State).setAux .recSlot 0 0 slot

/-- The boot ROM tries a slot's image, then the others (R487, R489). A slot whose programming was cut off is refused with
cause 9 (R491). -/
def trySlots (b : BootIn) : List Nat → State → State
  | [], s => waitRecovery (s.aux .recSlot) s
  | k :: rest, s =>
    let i := if k = 0 then b.imageA else b.imageB
    let cause := match imageCause s i with
      | 0 => if s.get 0x1300 k 2 = 3 then 9 else 0
      | c => c
    let s := s.setAux .slotTried k 0 1
    if cause ≠ 0 then trySlots b rest (((s.put 0x1300 k 2 2).put 0x1300 k 6 cause).setAux .slotCause k 0 cause |>.setAux .recSlot 0 0 k)
    else
      let s := (slotValid k i.header s).put 0x1301 0 1 k
      let s := if s.aux .slotTried (1 - k) = 1 then s.put 0x1301 0 2 1 else s
      if b.onLine then goReady b k i s else { s with phase := .starting }

/-- A start with the straps as sampled (R36, R37). -/
def startUp (b : BootIn) (s : State) : State :=
  let s := readTrims s
  if s.aux .bootTest = 1 then { s with phase := .heldTest }
  else match s.aux .bootSel with
    | 2 => waitRecovery 0xFF s
    | 1 => trySlots b [1, 0] s
    | _ => trySlots b [0, 1] s

/-- A new start: nothing has been tried. -/
def newStart (cause : Nat) (s : State) : State :=
  let s := restart s
  let s : State := { s with
    early := []
    regs := s.regs.forget fun k => !([Aux.bootSel, .bootTest, .slotKey].any fun a => k.index == a.ctorIdx) }
  s.put 0x1040 0 0x0B cause

/-- POWER_ON_RESET (R36): PORST_N rises. After a brown-out it must have been low for 10 µs (R39), and after a thermal shutdown
every sensor must read below 120 °C (R43); otherwise the device stays held. -/
def execPowerOnReset (boot : BootIn) (s : State) : Host.Outcome State Fault Refusal :=
  .next (
    if s.phase = .heldBrownOut ∧ boot.width < 10000 then s
    else if s.phase = .heldThermal ∧ (boot.sensors.zipIdx.any fun t => 12000 ≤ t.1 + sensorTrim s t.2) = true then s
    else
      let cause := if s.phase = .heldBrownOut then 1 else if s.phase = .heldThermal then 2 else 0
      let s := (s.setAux .bootSel 0 0 (boot.straps % 4)).setAux .bootTest 0 0 (if boot.testEn then 1 else 0)
      startUp boot (newStart cause s))

/-- JTAG_RESET (R54): a restart with cause 3, with the straps as sampled before. A device held in reset by PORST_N, a brown-out
or a thermal shutdown stays held (R39, R43). -/
def execJtagReset (boot : BootIn) (s : State) : Host.Outcome State Fault Refusal :=
  .next (
    if s.phase = .heldPorst ∨ s.phase = .heldBrownOut ∨ s.phase = .heldThermal then s
    else startUp boot (newStart 3 s))

/-- START_TIMEOUT (R489): the image that runs has not brought the dictionary on line in time; every memory is zeroed again, and
the image that has not been tried is. A recovery image that fails so leaves the device waiting. -/
def execStartTimeout (boot : BootIn) (s : State) : Host.Outcome State Fault Refusal :=
  .next (
    if s.phase ≠ .starting then s
    else
      let k := s.get 0x1301 0 1
      let rec' := s.aux .recSlot
      let s := (restart s).setAux .startTo k 0 (s.get 0x1301 0 3)
      if k = 2 then waitRecovery rec' s
      else trySlots boot ([0, 1].filter fun j => s.aux .slotTried j == 0) (s.setAux .recSlot 0 0 k))

/-- RECOVERY_LOAD (R490): the host has written the registers and 1 to the command. A refused image leaves its cause and the
device waits again; an accepted one runs from memory, and the flash is not written. -/
def execRecoveryLoad (addr length : Nat) (image : ImageIn) (boot : BootIn) (s : State) : Host.Outcome State Fault Refusal :=
  .next (
    if s.phase ≠ .recovery then s
    else
      let s := (s.setAux .recAddr 0 0 (addr % 2 ^ 64)).setAux .recLen 0 0 length
      let cause := if length < 515 ∨ 3146240 < length then 2 else imageCause s { image with bytes := min image.bytes length }
      let s := (s.setAux .recCause 0 0 cause).setAux .recOk 0 0 (if cause = 0 then 1 else 0)
      if cause ≠ 0 then s
      else
        let s := s.put 0x1301 0 1 2
        if boot.onLine then goReady boot 2 image s else { s with phase := .starting })

end Sys2Proof.Machine
end

