-- ==== Sys2Proof/Machine/Bulk.lean ====
section
/-!
DEFINITION. Machine/Bulk.lean: the bulk job engine: rings, jobs and completions (spec/07 R252 to R257).
-/
namespace Sys2Proof.Machine

/-- The ring's job in flight. -/
def jobOf (s : State) (r : Nat) : Option Job := s.jobs.find? fun j => j.ring == r

/-- AES-CTR, and the two SM4 operations. -/
def isCtr (d : JobDesc) : Bool := d.op == 5
def isSm4 (d : JobDesc) : Bool := d.op == 3 || d.op == 4

/-- Lengths, overlap and reserved fields of a descriptor are valid (R253). -/
def descOk (d : JobDesc) : Bool :=
  1 ≤ d.op && d.op ≤ 5 && d.flags ≤ 1 && d.length ≤ 16777216 && d.aadLength ≤ 65536
    && (!isCtr d || (1 ≤ d.length && d.aadLength == 0 && d.tag % 2 ^ 96 == 0))
    && (d.dest == d.source || d.dest + d.length ≤ d.source || d.source + d.length ≤ d.dest)

/-- The status a descriptor's checks give, 0 when the job starts: ownership, then lengths and fields, kind, EMPTY,
exhausted (R254 to R256; log entry 20). -/
def descStatus (s : State) (r : Nat) (d : JobDesc) : Nat :=
  let owner := if s.get 0x4380 r 3 = 0xFF then 16 else s.get 0x4380 r 3
  if ownerOf s 6 d.slot ≠ owner then 9
  else if !descOk d then 6
  else if slotKind s d.slot ≠ (if isSm4 d then 6 else 5) then 4
  else if slotState s d.slot = 0 ∨ slotPoisoned s d.slot = true then 2
  else if s.get 0x4000 d.slot 0x0A = 1 then 3
  else 0

/-- A draining ring without a job in flight reports disabled (R257). -/
def ringSettled (r : Nat) (s : State) : State :=
  if s.get 0x4380 r 2 = 1 ∧ (jobOf s r).isNone = true then s.put 0x4380 r 2 0 else s

/-- A descriptor's 64 bytes (R253). -/
def jobDesc (b : List Nat) : JobDesc :=
  ⟨b.getD 0 0, b.getD 1 0, leAt b 2 2, leAt b 4 4, leAt b 8 8, leAt b 16 8, leAt b 24 8, leAt b 32 4, numAt b 36 12, numAt b 48 16⟩

/-- The output of a job for the input that it has read (R253). -/
def jobOut (j : Job) (aad data : List Nat) : List Nat :=
  let d := j.desc
  if isCtr d then Config.ctrBulk (8 * j.len) j.key (d.iv * 2 ^ 32 + d.tag / 2 ^ 96) data
  else if isSm4 d then Config.sm4Gcm j.key d.iv aad data
  else Config.gcmCipher (8 * j.len) j.key d.iv aad data

/-- The tag over a job's authenticated bytes and plaintext. -/
def jobTag (j : Job) (aad plain : List Nat) : Nat :=
  (if isSm4 j.desc then Config.sm4Tag j.key j.desc.iv aad plain else Config.gcmTag (8 * j.len) j.key j.desc.iv aad plain) % 2 ^ 128

/-- A job deciphers, and must match its tag. -/
def deciphers (d : JobDesc) : Bool := d.op == 2 || d.op == 4

/-- A completion record's 32 bytes (R254). -/
def completionBytes (r position status bytes : Nat) (at' : Ns) (tag : Nat) : List Nat :=
  leBytes 2 position ++ [status, r] ++ leBytes 4 bytes ++ leBytes 8 (stamp64 at') ++ bytesOf 16 tag

/-- A job's completion (R254, R255): the zeroed area, the counts, event 2056, the record, and the ring's vector. -/
def postCompletion (r position : Nat) (d : JobDesc) (status bytes tag : Nat) (s : State) : State :=
  let s := if [1, 5, 7, 8].contains status then s.send .zeroArea [d.dest, d.length] else s
  let s := if status = 0 then (s.bump 0x4380 r 0x0A).bump 0x4380 r 0x0C d.length
    else raise 2056 r status position (s.bump 0x4380 r 0x0B)
  let s := if status = 1 then s.bump 0x4380 r 0x0D else s
  let s := s.send .completion ([r, s.get 0x4380 r 6 + 32 * position] ++ completionBytes r position status bytes s.now tag)
  if d.flags = 1 then s.send .msix [17 + r] else s

/-- Blocks a job has processed (R232). -/
def jobBlocks (d : JobDesc) (bytes : Nat) : Nat :=
  ceilDiv bytes 16 + (if isCtr d then 0 else ceilDiv d.aadLength 16 + 1)

/-- A job ends (R233, R254, R255) after reading data: with a fault, else done, or with status 1 when a decryption's tag fails. Its
output has been written; its blocks are charged when the generation still stands. -/
def endJob (j : Job) (fault : Nat) (aad data : List Nat) (s : State) : State :=
  let d := j.desc
  let data := data.take d.length
  let out := jobOut j aad data
  let tag := jobTag j aad (if deciphers d then out else data)
  let status := if fault ≠ 0 then fault else if deciphers d = true ∧ tag ≠ d.tag then 1 else 0
  let s : State := { s with jobs := s.jobs.erase j }
  let s := if data.isEmpty then s else s.send .bulkOut ([j.ring, d.dest] ++ out)
  let s := chargeKey d.slot j.gen (jobBlocks d data.length) s
  ringSettled j.ring (postCompletion j.ring j.position d status data.length (if status = 0 ∧ (d.op = 1 ∨ d.op = 3) then tag else 0) s)

/-- A write of a ring's enable (R257). A ring whose master is frozen is enabled as frozen (R256). -/
def ringEnableWrite (acc : Acc) (r v : Nat) (s : State) : State :=
  writeValue acc 0x4380 r 1 v s fun s =>
    match v, s.get 0x4380 r 2 with
    | 0, 2 | 0, 3 => done (ringSettled r (s.put 0x4380 r 2 1))
    | 0, _ => done s
    | _, 0 => done (s.put 0x4380 r 2 (if frozen s (272 + r) then 3 else 2))
    | _, 2 => done s
    | _, _ => refuse 3 s

/-- BULK_RING_ENABLE (R257): 1 written to 0x4380[r].01. -/
def execBulkRingEnable (acc : Acc) (ring : Nat) (s : State) : Host.Outcome State Fault Refusal :=
  whenUp s fun s => ringEnableWrite acc ring 1 s

/-- BULK_RING_DRAIN (R257): 0 written to 0x4380[r].01. -/
def execBulkRingDrain (acc : Acc) (ring : Nat) (s : State) : Host.Outcome State Fault Refusal :=
  whenUp s fun s => ringEnableWrite acc ring 0 s

/-- BULK_DRAIN_EXPIRY (R257): the jobs still running complete with status 8, and event 2059 counts them. data is what the ring's
job has read so far, aad its authenticated bytes. -/
def execBulkDrainExpiry (input : Nat × List Nat × List Nat) (s : State) : Host.Outcome State Fault Refusal :=
  let (ring, aad, data) := input
  whenUp s fun s =>
    if s.get 0x4380 ring 2 ≠ 1 then s
    else match s.jobs.filter fun j => j.ring == ring with
      | [] => ringSettled ring s
      | left => raise 2059 ring left.length 0 (overAll left (fun j s => endJob j 8 aad data s) s)

/-- BULK_DOORBELL (R252): the host writes 0x4380[r].07. -/
def execBulkDoorbell (acc : Acc) (ring value : Nat) (s : State) : Host.Outcome State Fault Refusal :=
  whenUp s fun s => writeValue acc 0x4380 ring 7 value s fun s => store 0x4380 ring 7 value s

/-- A descriptor of a running ring may be fetched (R252): one is available, the ring has no job in flight, fewer than
8 are in flight, and the job control role is served. -/
def mayFetch (s : State) (r : Nat) : Bool :=
  let size := s.get 0x4380 r 5
  s.get 0x4380 r 2 == 2 && s.get 0x4380 r 7 % size != s.get 0x4380 r 8 && (jobOf s r).isNone
    && s.jobs.length < 8 && portServed s 12

/-- The ring whose turn it is (R252): the first from the round robin's place on that may fetch. -/
def ringTurn (s : State) : Option Nat := ((List.range 8).map fun i => (s.aux .bulkTurn 0 + i) % 8).find? (mayFetch s)

/-- BULK_JOB_START (R233, R252, R253, R255, R256): the next descriptor of the ring whose turn it is, its 64 bytes, is fetched and
checked in full. A slot of another owner freezes the ring. -/
def execBulkJobStart (ring : Nat) (bytes : List Nat) (s : State) : Host.Outcome State Fault Refusal :=
  whenUp s fun s =>
    if ringTurn s ≠ some ring then s
    else
      let desc := jobDesc bytes
      let position := s.get 0x4380 ring 8
      let s := (s.put 0x4380 ring 8 ((position + 1) % s.get 0x4380 ring 5)).setAux .bulkTurn 0 0 ((ring + 1) % 8)
      let s := readSlot desc.slot s
      match descStatus s ring desc with
      | 0 => { s with jobs := s.jobs ++
          [⟨ring, position, desc, slotGen s desc.slot, s.get 0x4000 desc.slot 3, s.aux .keyMat desc.slot 0⟩] }
      | 9 =>
        let s := freeze (272 + ring) 5 desc.slot (postCompletion ring position desc 9 0 0 s)
        raise 2057 ring desc.slot (s.get 0x4380 ring 3) s
      | c =>
        let s := if c = 2 ∨ c = 3 then refuseKey desc.slot 2 s else s
        postCompletion ring position desc c 0 0 s

/-- BULK_JOB_COMPLETE (R254, R255): the ring's job has read all its input, or ends with status 5 or 7 after reading data; aad are
its authenticated bytes. -/
def execBulkJobComplete (ring fault : Nat) (input : List Nat × List Nat) (s : State) : Host.Outcome State Fault Refusal :=
  let (aad, data) := input
  whenUp s fun s =>
    match jobOf s ring with
    | none => s
    | some j =>
      if !([0, 5, 7].contains fault) || (fault == 0 && (data.length != j.desc.length || aad.length != j.desc.aadLength)) then s
      else endJob j fault aad data s

end Sys2Proof.Machine
end

