-- ==== Sys2Proof/Machine/Coats.lean ====
section
/-!
DEFINITION. Machine/Coats.lean: rules, coats, routes and next hops (spec/08 R273 to R282, R286, R287).
-/
namespace Sys2Proof.Machine

/-! ## Rules (R273 to R278) -/

/-- A rule's value with the owner bits that the device sets for a tenant's rule (R275). -/
def ruleValue (s : State) (i : Nat) : Reg :=
  let g := ownerOf s 8 (i % 65536)
  let v := s.get 0x4400 i 1
  if g < 16 then putField 567 563 g v else v

/-- A rule's mask, its owner bits all ones for a tenant's rule (R275). -/
def ruleMask (s : State) (i : Nat) : Reg :=
  let v := s.get 0x4400 i 2
  if ownerOf s 8 (i % 65536) < 16 then putField 567 563 31 v else v

/-- The slot of the current coat. -/
def coatSlot (s : State) : Nat := s.get 0x4480 0 1 % 2

/-- State of a slot (R279): 0 CURRENT, 1 DRAINING, 2 STANDBY, 3 COPYING. -/
def slotCode (s : State) (slot : Nat) : Nat := s.get 0x4480 0 (2 + slot)

/-- An action word that names nothing reserved (R276, R278). -/
def actionOk (a : Reg) : Bool :=
  !(bit 27 a && field 26 25 a == 3) &&
  (!bit 24 a || (match field 23 22 a with
    | 0 => true
    | 1 => field 21 5 a < 8192
    | 3 => field 21 5 a < 2
    | _ => false))

/-- A tenant's rule names a queue of its own, or none (R278). -/
def actionOwned (s : State) (g : Nat) (a : Reg) : Bool :=
  16 ≤ g || !bit 24 a || (match field 23 22 a with
    | 0 => ownerOf s 3 (field 21 5 a) == g
    | 1 => ownerOf s 4 (field 21 5 a) == g
    | _ => true)

/-- A rule write (R275, R278, R279). -/
def ruleWrite (acc : Acc) (i sub : Nat) (v : Reg) (s : State) : State :=
  writeValue acc 0x4400 i sub v s fun s =>
    if slotCode s (i / 65536) ≠ 2 then refuse 3 (s.bump 0x4480 0 0x0A)
    else if sub = 2 ∧ (field 15 0 v ≠ 0 ∨ bit 518 v = true) then refuse 4 s
    else if sub = 3 ∧ actionOk v = false then refuse 4 s
    else if sub = 3 ∧ actionOwned s (ownerOf s 8 (i % 65536)) v = false then refuseBinding acc 0x4400 sub s
    else
      let s := s.put 0x4400 i sub v
      done (rewritten 0x4400 i ((s.put 0x4400 i 1 (ruleValue s i)).put 0x4400 i 2 (ruleMask s i)))

/-- RULE_WRITE (R278). -/
def execRuleWrite (acc : Acc) (rule sub value : Nat) (s : State) : Host.Outcome State Fault Refusal :=
  whenUp s fun s => ruleWrite acc rule sub value s

/-! ## Coats (R279 to R282) -/

/-- The slot that is not current. -/
def otherSlot (s : State) : Nat := 1 - coatSlot s

/-- The packets that carry a coat number other than the current one: those waiting for their second pass (R280). -/
def oldPackets (s : State) : Nat := s.recirc.countP fun x => x.coat != s.get 0x4480 0 1

/-- A write of 1 to 0x4480.04 (R280). -/
def coatSwap (acc : Acc) (v : Reg) (s : State) : State :=
  writeValue acc 0x4480 0 4 v s fun s =>
    if v = 0 then done s
    else if slotCode s (otherSlot s) ≠ 2 then refuse 3 s
    else
      let old := s.get 0x4480 0 1
      let new := wrapAdd 16 old 1
      let s := ((s.put 0x4480 0 (2 + otherSlot s) 0).put 0x4480 0 (2 + coatSlot s) 1).put 0x4480 0 1 new
      let s := (((s.put 0x4480 0 6 (oldPackets s)).bump 0x4480 0 7).put 0x4480 0 8 (time80 s.now)).setAux .swapAt 0 0 s.now
      done (raise 2304 0 old new s)

/-- COAT_SWAP (R280). -/
def execCoatSwap (acc : Acc) (s : State) : Host.Outcome State Fault Refusal := whenUp s fun s => coatSwap acc 1 s

/-- OLD_COAT_RELEASE (R280): no packet carries the old coat's number between parser entry and rule match. -/
def execOldCoatRelease (s : State) : Host.Outcome State Fault Refusal :=
  whenUp s fun s =>
    if slotCode s (otherSlot s) = 1 ∧ oldPackets s = 0 then
      let delay := (s.now - s.aux .swapAt) % 2 ^ 32
      raise 2305 0 ((s.get 0x4480 0 1 + 65535) % 65536) delay ((s.put 0x4480 0 (2 + otherSlot s) 2).put 0x4480 0 9 delay)
    else s

/-- The rules of a slot copied into the other (R281): value, mask, action and valid; the copies' hit counters are zero. -/
def copyRules (from' to' : Nat) (s : State) : State :=
  let old := s.objs.filter fun e => e.1.index == 0x4400 && e.1.inst / 65536 == to' && e.1.sub ≤ 5
  let src := s.objs.filter fun e => e.1.index == 0x4400 && e.1.inst / 65536 == from' && e.1.sub ≤ 4
  let s := overAll old (fun e s => s.put 0x4400 e.1.inst e.1.sub 0) s
  overAll src (fun e s => s.put 0x4400 (65536 * to' + e.1.inst % 65536) e.1.sub e.2) s

/-- A write of 1 to 0x4480.05 (R281). -/
def coatCopy (acc : Acc) (v : Reg) (s : State) : State :=
  writeValue acc 0x4480 0 5 v s fun s =>
    if v = 0 then done s
    else if slotCode s (otherSlot s) ≠ 2 then refuse 3 s
    else done (copyRules (coatSlot s) (otherSlot s) (s.put 0x4480 0 (2 + otherSlot s) 3))

/-- COAT_COPY (R281). -/
def execCoatCopy (acc : Acc) (s : State) : Host.Outcome State Fault Refusal := whenUp s fun s => coatCopy acc 1 s

/-- COAT_COPY_DONE (R281). -/
def execCoatCopyDone (s : State) : Host.Outcome State Fault Refusal :=
  whenUp s fun s => if slotCode s (otherSlot s) = 3 then s.put 0x4480 0 (2 + otherSlot s) 2 else s

/-! ## Routes and next hops (R286, R287) -/

/-- Width of a family's addresses. -/
def addrWidth (v6 : Bool) : Nat := if v6 then 128 else 32

/-- A route that covers an address in a table. -/
def Route.covers (r : Route) (table : Nat) (v6 : Bool) (address : Nat) : Bool :=
  r.table == table && r.v6 == v6 &&
    address / 2 ^ (addrWidth v6 - r.len) == r.pfx / 2 ^ (addrWidth v6 - r.len)

/-- The longest match of an address (R286): its next hop. -/
def lpm (s : State) (table : Nat) (v6 : Bool) (address : Nat) : Option Nat :=
  ((s.routes.filter fun r => r.covers table v6 address).foldl (fun best r => match best with
    | some b => if b.len < r.len then some r else some b
    | none => some r) (none : Option Route)).map fun r => r.hop

/-- Two routes name the same prefix. -/
def Route.same (a b : Route) : Bool := a.v6 == b.v6 && a.table == b.table && a.len == b.len && a.pfx == b.pfx

/-- A route's place in the counts, in or out. -/
def tallyRoute (add : Bool) (r : Route) (s : State) : State :=
  let s := tally add 0x4600 0 (if r.v6 then 4 else 3) s
  let s := tally add 0x4601 r.table (if r.v6 then 2 else 1) s
  tally add 0x4700 r.hop 3 s

/-- The end of a route command with a result. -/
def routeResult (result status : Nat) (s : State) : State := refuse status (s.put 0x4600 0 2 result)

/-- A route added or replaced (R286, R287). -/
def routeAdd (r : Route) (s : State) : State :=
  let s := rewritten 0x4600 r.table s
  match s.routes.find? fun x => x.same r with
  | some x =>
    let s := tallyRoute true r (tallyRoute false x s)
    done ({ s with routes := s.routes.map fun (y : Route) => if y.same r then r else y }.put 0x4600 0 2 0)
  | none =>
    let full := if r.v6 then 524288 ≤ s.get 0x4600 0 4 else 1048576 ≤ s.get 0x4600 0 3
    if full then routeResult 1 6 (raise 2310 r.table (if r.v6 then 6 else 4) 1 (s.bump 0x4600 0 5))
    else
      let s := tallyRoute true r s
      done ({ s with routes := s.routes ++ [r] }.put 0x4600 0 2 0)

/-- A route deleted (R287). -/
def routeDelete (r : Route) (s : State) : State :=
  match s.routes.find? fun x => x.same r with
  | none => routeResult 2 4 s
  | some x =>
    let s := tallyRoute false x (rewritten 0x4600 r.table s)
    done ({ s with routes := s.routes.filter fun (y : Route) => !y.same r }.put 0x4600 0 2 0)

/-- A write of the route command 0x4600.01: 24 bytes as one number (R287). -/
def routeCommand (acc : Acc) (v : Reg) (s : State) : State :=
  writeValue acc 0x4600 0 1 v s fun s =>
    let op := field 191 184 v
    let family := field 183 176 v
    let table := field 175 168 v
    let len := field 167 160 v
    let v6 := family == 6
    let w := addrWidth v6
    let pfx := if v6 then field 159 32 v else field 159 128 v
    if (op ≠ 1 ∧ op ≠ 2) ∨ (family ≠ 4 ∧ family ≠ 6) ∨ 31 < table ∨ w < len ∨ pfx % 2 ^ (w - len) ≠ 0
        ∨ (v6 = false ∧ field 127 32 v ≠ 0) ∨ field 15 0 v ≠ 0 then routeResult 3 4 s
    else
      let r : Route := ⟨v6, table, len, pfx, field 31 16 v⟩
      if op = 1 then routeAdd r s else routeDelete r s

/-- The record of a route command. -/
def routeRecord (op family table len pfx hop : Nat) : Reg :=
  op * 2 ^ 184 + family % 256 * 2 ^ 176 + table % 256 * 2 ^ 168 + len % 256 * 2 ^ 160
    + (if family = 6 then pfx % 2 ^ 128 * 2 ^ 32 else pfx % 2 ^ 32 * 2 ^ 128) + hop % 2 ^ 16 * 2 ^ 16

/-- ROUTE_ADD (R287). -/
def execRouteAdd (acc : Acc) (family table length pfx nextHop : Nat) (s : State) : Host.Outcome State Fault Refusal :=
  whenUp s fun s => routeCommand acc (routeRecord 1 family table length pfx nextHop) s

/-- ROUTE_DELETE (R287). -/
def execRouteDelete (acc : Acc) (family table length pfx : Nat) (s : State) : Host.Outcome State Fault Refusal :=
  whenUp s fun s => routeCommand acc (routeRecord 2 family table length pfx 0) s

/-- A write of a next hop (R287): one that routes still name cannot become "none". -/
def nextHopWrite (acc : Acc) (h sub : Nat) (v : Reg) (s : State) : State :=
  writeValue acc 0x4700 h sub v s fun s =>
    if sub = 1 ∧ field 31 30 v = 0 ∧ s.get 0x4700 h 3 ≠ 0 then refuse 3 s
    else if sub = 1 ∧ 2 ≤ field 31 30 v ∧ 32 ≤ field 16 0 v then refuse 4 s
    else rewritten 0x4700 h (store 0x4700 h sub v s)

end Sys2Proof.Machine
end

