-- ==== Sys2Proof/Machine/Forward.lean ====
section
/-!
DEFINITION. Machine/Forward.lean: a packet's way through a forwarding pipe: parse, domain, lookups, fragments, rules and
hand-off, and the domains' enables (spec/08 R261 to R285, R288, R293; spec/09 R312, R322; spec/10 R368; spec/11 R389; spec/12 R412, R413).
-/
namespace Sys2Proof.Machine

/-! ## Flows and domains (R269) -/

/-- The flow of a tree with an XGEM port. -/
def flowOfPort (s : State) (t xgem : Nat) : Option Nat :=
  let own := fun t => (s.objs.find? fun e => e.1.index == 0x4800 && e.1.sub == 2 && e.2 == xgem && s.get 0x4800 e.1.inst 1 == t).map
    fun e => e.1.inst
  (own t).or ((localPartner s t).bind own)

/-- The uplink word of a domain names a port: the port itself, or a LAG that it is a member of. -/
def uplinkHas (s : State) (u e : Nat) : Bool := (uplinkPorts s u).contains e

/-- A domain's VIDs match a packet's tags; a VID of 0xFFFF is not compared (log entry 32). -/
def vidsMatch (s : State) (d : Nat) (p : Parsed) : Bool :=
  let ok := fun (v i : Nat) => v == 0xFFFF || (match p.tags[i]? with
    | some t => t % 4096 == v
    | none => false)
  ok (s.get 0x4900 d 5) 0 && ok (s.get 0x4900 d 6) 1

/-- How much of a packet's tags a domain names: the more specific match decides. -/
def vidRank (s : State) (d : Nat) : Nat :=
  (if s.get 0x4900 d 5 = 0xFFFF then 0 else 2) + (if s.get 0x4900 d 6 = 0xFFFF then 0 else 1)

/-- The domain of a downstream packet (R269): of the domains that are not disabled and match it, the most specific, then
the lowest. -/
def domainDown (s : State) (e : Nat) (p : Parsed) : Option Nat :=
  let ds := s.objs.filterMap fun o =>
    if o.1.index == 0x4900 && o.1.sub == 2 && o.2 != 0 && uplinkHas s (s.get 0x4900 o.1.inst 4) e && vidsMatch s o.1.inst p
    then some o.1.inst else none
  ds.foldl (fun best d => match best with
    | some b => if vidRank s b < vidRank s d then some d else some b
    | none => some d) none

/-! ## What a packet is (R273) -/

/-- A packet with what the pipe has found of it: its ingress flow (0 downstream) and its domain. -/
structure Meet where
  pkt : InPkt
  p : Parsed
  flow : Nat
  domain : Nat
  second : Bool
  deriving DecidableEq, Repr

/-- The flow behind a decision: the ingress flow, or the one flow of a downstream packet that is not flooded. -/
def knownFlow (m : Meet) (f : Fate) : Option Nat :=
  if m.pkt.up then some m.flow else if f.flooded then none else f.flows.head?

/-- The owner of a packet (R275). -/
def packetOwner (s : State) (m : Meet) (f : Fate) : Nat :=
  match knownFlow m f with
  | some x => ownerOf s 2 x
  | none => 16

/-- Presence bits (R273). -/
def presence (m : Meet) (f : Fate) : Nat :=
  let p := m.p
  let flags := [false, (knownFlow m f).isSome, m.second, p.incomplete, p.options, p.later, p.first, p.icmp, p.tcp, p.ports,
    p.v6, p.v4, p.pppoe, !p.labels.isEmpty, 1 < p.tags.length, !p.tags.isEmpty]
  (flags.zipIdx).foldl (fun n b => if b.1 then n + 2 ^ b.2 else n) 0

/-- The MPLS field: top label, TC and label count, saturating at 7. -/
def mplsField (p : Parsed) : Nat :=
  match p.labels with
  | [] => 0
  | w :: _ => field 31 12 w * 2 ^ 6 + field 11 9 w * 2 ^ 3 + min 7 p.labels.length

/-- The 576-bit key of R273. -/
def ruleKey (s : State) (m : Meet) (f : Fate) : Reg :=
  let p := m.p
  let fields : List (Nat × Nat) := [
    (1, if m.pkt.up then 1 else 0), (7, if m.pkt.up then m.pkt.port else 64 + m.pkt.port), (5, packetOwner s m f),
    (12, m.domain), (17, (knownFlow m f).getD 0), (16, presence m f), (48, p.dmac), (48, p.smac),
    (16, p.tags.getD 0 0), (16, p.tags.getD 1 0), (16, p.etherType), (26, mplsField p), (128, p.src), (128, p.dst),
    (8, p.proto), (8, p.ds), (16, p.l4src), (16, p.l4dst), (8, p.tcpFlags), (20, p.flowLabel), (16, 0)]
  fields.foldl (fun k x => k * 2 ^ x.1 + x.2 % 2 ^ x.1) 0

/-- A rule matches a key (R274). -/
def ruleMatches (s : State) (i : Nat) (key : Reg) : Bool :=
  Nat.land (Nat.xor key (ruleValue s i)) (ruleMask s i) == 0

/-- The deciding rule of a slot: the lowest valid one that matches (R274). -/
def decidingRule (s : State) (slot : Nat) (key : Reg) : Option Nat :=
  (s.objs.find? fun e => e.1.index == 0x4400 && e.1.sub == 4 && e.2 == 1 && e.1.inst / 65536 == slot
    && ruleMatches s e.1.inst key).map fun e => e.1.inst

/-- The class a packet has by default (R277). -/
def defaultClass (s : State) (m : Meet) (f : Fate) : Nat :=
  match knownFlow m f with
  | some x => s.get 0x4800 x 5
  | none => s.get 0x4A00 (packetOwner s m f) 1

/-- The upstream port a decision leads to (R265): the uplink port, or the LAG member of the packet's bucket; none when the
LAG has no member in service. -/
def egressPort (s : State) (u hash : Nat) : Option Nat :=
  if u = 0xFFFF then none
  else if bit 5 u then
    (if s.get 0x44A0 (u % 32) 3 = 0 then none else some ((bytesOf 256 (s.get 0x44A0 (u % 32) 2)).getD (hash % 256) 0))
  else some (u % 32)

/-- The queue replacement of an action is ignored (R277). -/
def queueIgnored (s : State) (m : Meet) (f : Fate) (rule : Nat) (a : Reg) : Bool :=
  let q := field 21 5 a
  let other := fun o => 16 ≤ ownerOf s 8 (rule % 65536) && o != packetOwner s m f
  match field 23 22 a with
  | 0 => m.pkt.up || other (ownerOf s 3 q)
  | 1 => !m.pkt.up || (match egressPort s f.uplink m.pkt.hash with
      | some e => other (ownerOf s 4 (256 * e + q % 256))
      | none => false)
  | 3 => q == 0 && m.pkt.up
  | _ => true

/-- The rule match of a packet (R274, R276, R277): its class, colour and queue. -/
def classify (m : Meet) (f : Fate) (s : State) : Fate × State :=
  let f := { f with cls := defaultClass s m f }
  match decidingRule s (m.pkt.coat % 2) (ruleKey s m f) with
  | none => (f, s)
  | some r =>
    let a := s.get 0x4400 r 3
    let s := s.bump 0x4400 r 5
    let f := if bit 31 a then { f with cls := field 30 28 a } else f
    let f := if bit 27 a then { f with colour := field 26 25 a } else f
    if !bit 24 a then (f, s)
    else if queueIgnored s m f r a then (f, raiseSec 2318 r (fun n => (n, 0)) (s.bump 0x4400 r 6))
    else if field 23 22 a = 3 then ({ f with special := 1 + field 21 5 a }, s)
    else ({ f with queue := some (field 21 5 a) }, s)

/-! ## Lookups (R270, R288, R290, R293) -/

/-- A packet's own ingress as a MAC table destination. -/
def ingressDest (s : State) (m : Meet) : Nat :=
  if m.pkt.up then m.flow else 2 ^ 17 + s.get 0x4900 m.domain 4 % 64

/-- The source lookup of a bridged packet (R290, R293, R294): false when a limit drops the frame. lost says that the entry
was read with poison: it is removed and counts as a miss (spec/12 R413). -/
def learnSource (m : Meet) (s : State) : Bool × State :=
  let q := ingressDest s m
  match macFind s m.domain m.p.smac with
  | none =>
    match limitAt s q with
    | some l => if limitAction s l = 0 then (false, limitHit l s) else (true, limitHit l s)
    | none => (true, learnRequest m.domain m.p.smac q s)
  | some p =>
    let e := macAt s p
    if macDest e ≠ q then (true, learnRequest m.domain m.p.smac q s)
    else
      let s := if macType e = 0 then setMac p (setBit 14 true e) s else s
      (true, if macChallenger e = noChallenger then s else learnRequest m.domain m.p.smac q s)

/-- A decision before classification. -/
def bareFate (flows : List Nat) (flooded : Bool) (uplink : Nat) (mac : Option Nat) : Fate :=
  ⟨flows, flooded, uplink, mac, 0, 0, none, [], 0⟩

/-- A packet dropped by routing (R270). -/
def routingDrop (m : Meet) (s : State) : Option Fate × State := (none, s.bump 0x4491 m.pkt.carrier 7)

/-- The destination of a next hop: its kind and index (0x4700[h].01). -/
def hopKind (s : State) (h : Nat) : Nat := field 31 30 (s.get 0x4700 h 1)
def hopIndex (s : State) (h : Nat) : Nat := field 16 0 (s.get 0x4700 h 1)

/-- The uplink word of a next hop that names an uplink port or a LAG. -/
def hopUplink (s : State) (h : Nat) : Option Nat :=
  match hopKind s h with
  | 2 => some (hopIndex s h % 32)
  | 3 => some (32 + hopIndex s h % 32)
  | _ => none

/-- Anti-spoofing passes (R288). -/
def sourceOk (s : State) (m : Meet) : Bool :=
  let p := m.p
  let exempt := (p.v4 && p.src == 0 && p.proto == 17 && p.ports && p.l4dst == 67)
    || (p.v6 && (p.src == 0 || field 127 118 p.src == 0x3FA))
  exempt || !p.ip || (match lpm s (s.get 0x4900 m.domain 7) p.v6 p.src with
    | some h => hopKind s h == 1 && (match flowTerminal s (hopIndex s h), flowTerminal s m.flow with
      | some a, some b => a == b
      | _, _ => false)
    | none => false)

/-- The upstream lookups (R270, R288). -/
def lookupUp (m : Meet) (s : State) : Option Fate × State :=
  let d := m.domain
  if s.get 0x4800 m.flow 6 = 1 ∧ sourceOk s m = false then
    (none, raiseSec 2311 m.flow (fun n => (n, m.p.src % 2 ^ 32)) (s.bump 0x4800 m.flow 0x0A))
  else if s.get 0x4900 d 3 = 1 then
    let (ok, s) := learnSource m s
    (if ok then some (bareFate [m.flow] false (s.get 0x4900 d 4) none) else none, s)
  else
    let found := (lpm s (s.get 0x4900 d 7) m.p.v6 m.p.dst).bind fun h => (hopUplink s h).map fun u => (h, u)
    let back := (hopUplink s (s.get 0x4900 d 8)).map fun u => (s.get 0x4900 d 8, u)
    match found.or back with
    | some (h, u) => (some (bareFate [m.flow] false u (some (s.get 0x4700 h 2))), s)
    | none => routingDrop m s

/-- The flows of a domain whose flood member flag is set, ascending (R270). -/
def floodFlows (s : State) (d : Nat) : List Nat :=
  s.objs.filterMap fun e =>
    if e.1.index == 0x4800 && e.1.sub == 0x0C && e.2 == 1 && s.get 0x4800 e.1.inst 4 == d then some e.1.inst else none

/-- The downstream lookups (R270). -/
def lookupDown (m : Meet) (s : State) : Option Fate × State :=
  let d := m.domain
  if s.get 0x4900 d 3 = 1 then
    let (ok, s) := learnSource m s
    if !ok then (none, s)
    else
      let flood := (some (bareFate (floodFlows s d) true 0xFFFF none), s)
      if bit 40 m.p.dmac then flood
      else match macFind s d m.p.dmac with
        | some p =>
          let dest := macDest (macAt s p)
          if bit 17 dest then (none, s.bump 0x4491 m.pkt.carrier 8)
          else (some (bareFate [dest % 131072] false 0xFFFF none), s)
        | none => flood
  else match lpm s (s.get 0x4900 d 7) m.p.v6 m.p.dst with
    | some h =>
      if hopKind s h = 1 then (some (bareFate [hopIndex s h] false 0xFFFF (some (s.get 0x4700 h 2))), s)
      else routingDrop m s
    | none => routingDrop m s

/-! ## Hand-off (R271, R277; spec/09 R309, R312, R322; spec/10 R368) -/

/-- The packet as it leaves (R270, R271). -/
def rewrite (s : State) (m : Meet) (f : Fate) : List Nat :=
  let o := s.get 0x4900 m.domain 5
  let i := s.get 0x4900 m.domain 6
  let b := match f.mac with
    | some mac => routed m.p mac m.pkt.bytes
    | none => m.pkt.bytes
  if m.pkt.up then pushTags o i b else popTags o i b

/-- The downstream queue of a flow for a class (R312). -/
def queueDown (s : State) (f cls : Nat) : Option Nat :=
  let q := s.get 0x4D00 f 1
  if q = 0xFFFFFFFF then none else some (q + classOffset (s.get 0x4D00 f 2) cls)

/-- The upstream queue of a flow for a class within an uplink port (R312). -/
def queueUp (s : State) (f cls : Nat) : Option Nat :=
  let b := s.get 0x4D00 f 3
  if b = 0xFFFF then none else some (b + classOffset (s.get 0x4D00 f 4) cls)

/-- A decision with its queues (R277, R283): those that a rule put in place, or those that forwarding chooses for the class. -/
def settle (s : State) (m : Meet) (f : Fate) : Fate :=
  { f with queues := f.flows.filterMap fun x => (match f.queue with
    | some q => some (if m.pkt.up then q % 256 else q)
    | none => if m.pkt.up then queueUp s x f.cls else queueDown s x f.cls).map fun q => (x, q) }

/-- The member on which the working port of a flow's tree stands, when it is another one (R368). -/
def workingMember (s : State) (f : Nat) : Option Nat :=
  let t := s.get 0x4800 f 1
  if t < s.trees ∧ laneState s t 0 = 5 then (remotePartner s t).map fun x => x.1 else none

/-- The home member of a domain, when it is another one (0x5180[d].01). -/
def homeMember (s : State) (d : Nat) : Option Nat :=
  let h := s.get 0x5180 d 1
  if h = 0xFF ∨ h = member s then none else some h

/-- A metered packet carried to another member as local data (R368): kind 0 downstream, 1 upstream, within the limit of
its class queue. -/
def carry (member' kind flow meter : Nat) (f : Fate) (bytes : List Nat) (len : Nat) (s : State) : State :=
  let (c, s) := policed meter len f.colour s
  match c with
  | none => s
  | some colour =>
    match activePort s member' with
    | none => s.bump 0x5140 member' 6
    | some v =>
      let n := bytes.length
      if s.get 0x5100 v 0x1C < s.aux .vqBytes v f.cls + n then s.bump 0x5100 v 0x1D
      else sendFrame member' 4 kind f.cls flow colour bytes n (s.setAux .vqBytes v f.cls (s.aux .vqBytes v f.cls + n))

/-- An upstream packet handed off. -/
def handUp (m : Meet) (f : Fate) (picks : List Nat) (s : State) : State :=
  let bytes := rewrite s m f
  let len := m.pkt.bytes.length
  let meter := s.get 0x4D00 m.flow 6
  match homeMember s m.domain with
  | some h => carry h 1 m.flow meter f bytes len s
  | none =>
    match egressPort s f.uplink m.pkt.hash with
    | none => if f.uplink = 0xFFFF then s.bump 0x4491 m.pkt.carrier 6 else s.bump 0x44A0 (f.uplink % 32) 5
    | some e =>
      storePacket m.pkt.port true (f.queues.map fun x => (x.1, 256 * e + x.2)) bytes len meter f.colour picks s

/-- A flow takes no new downstream SDUs: its terminal or its allocation drains (spec/04 R149, spec/11 R397). -/
def flowDraining (s : State) (f : Nat) : Bool :=
  let a := s.get 0x4800 f 3
  a != 0xFFFFFFFF && (s.aux .allocDrain a == 1 || (match flowTerminal s f with
    | some n => termState s n == 7
    | none => false))

/-- A downstream packet handed off: its replicas on this member, and one frame for each flow whose working port is on
another. -/
def handDown (m : Meet) (f : Fate) (picks : List Nat) (s : State) : State :=
  let bytes := rewrite s m f
  let len := bytes.length
  let meter := if f.flooded then s.get 0x4D80 m.domain 1 else s.get 0x4D00 (f.flows.headD 0) 5
  let there := f.flows.filterMap fun x => (workingMember s x).map fun h => (x, h)
  let targets := f.queues.filter fun x =>
    workingMember s x.1 == none && !(flowDraining s x.1 && s.get 0x4C40 x.2 0x11 == 2)
  let s := if targets.isEmpty then s else storePacket (64 + m.pkt.port) false targets bytes len meter f.colour picks s
  overAll there (fun x s => carry x.2 0 x.1 meter f bytes len s) s

/-- A decision carried out (R277): the discard queue drops, the cooperative queue leads to the grant engines. -/
def handOff (m : Meet) (f : Fate) (picks : List Nat) (s : State) : State :=
  match f.special with
  | 1 => s.send .cti (f.flows.headD 0 :: rewrite s m f)
  | 2 => s
  | _ => if m.pkt.up then handUp m f picks s else handDown m f picks s

/-! ## Fragments (R283 to R285) -/

/-- The key of a fragment (R283). -/
def fragKey (m : Meet) : FragKey := ⟨m.pkt.up, m.domain, m.p.v6, m.p.src, m.p.dst, m.p.proto, m.p.ident⟩

/-- The lookups of a packet. -/
def lookups (m : Meet) (s : State) : Option Fate × State := if m.pkt.up then lookupUp m s else lookupDown m s

/-- A later fragment forwarded unmatched (R285): its own lookups, its owner's default class, green. -/
def unmatched (timedOut : Bool) (m : Meet) (picks : List Nat) (s : State) : State :=
  let s := raisePair 2309 0 (if timedOut then 0 else 1) 1 (s.bump 0x4500 0 (if timedOut then 0x0A else 0x0B))
  match lookups m s with
  | (none, s) => s
  | (some f, s) => handOff m (settle s m { f with cls := s.get 0x4A00 (packetOwner s m f) 1 }) picks s

/-- The parse of a packet again, with its flow and domain. -/
def meetOf (s : State) (x : InPkt) (domain : Nat) : Meet :=
  let tpid := s.get 0x4490 0 2
  let p := parse tpid 256 x.bytes
  let second := p.more
  let p := if second then parse tpid 512 x.bytes else p
  ⟨x, { p with incomplete := p.incomplete || p.more }, if x.up then (flowOfPort s x.port x.xgem).getD 0 else 0, domain, second⟩

/-- The first fragment's decision is stored (R283, R284), and the fragments held for its key follow it (R285). -/
def storeDecision (m : Meet) (f : Fate) (picks : List Nat) (s : State) : State :=
  let key := fragKey m
  let s := if !(s.frags.any fun e => e.key == key) && 32768 ≤ s.frags.length then
      raiseSec 2308 0 (fun n => (n, 0)) (s.bump 0x4500 0 8)
    else
      let s : State := { s with frags := (s.frags.filter fun e => e.key != key) ++ [⟨key, f, s.now⟩] }
      rewritten 0x4500 0 ((s.put 0x4500 0 1 s.frags.length).bump 0x4500 0 6)
  let mine := s.held.filter fun h => h.key == key
  let s : State := { s with held := s.held.filter fun h => h.key != key }
  let s := (s.put 0x4500 0 5 s.held.length).bump 0x4500 0 7 mine.length
  (mine.zipIdx).foldl (fun s h => handOff (meetOf s h.1.pkt h.1.key.domain) f (picks.drop (h.2 + 1)) s) s

/-- A later fragment (R283, R285): it takes the stored decision, is held, or goes unmatched. -/
def laterFragment (m : Meet) (picks : List Nat) (s : State) : State :=
  let key := fragKey m
  match s.frags.find? fun e => e.key == key with
  | some e => handOff m e.fate picks (s.bump 0x4500 0 9)
  | none =>
    if s.get 0x4500 0 4 ≤ (s.held.countP fun h => h.key == key) ∨ 4096 ≤ s.held.length then unmatched false m picks s
    else
      let s : State := { s with held := s.held ++ [⟨key, m.pkt, s.now⟩] }
      s.put 0x4500 0 5 s.held.length

/-! ## The pipe (R261, R264, R267, R268) -/

/-- The in-service pipes. -/
def livePipes (s : State) : List Nat := (List.range 6).filter fun p => s.get 0x5460 p 1 == 0

/-- The pipe that carries the packets of a logical pipe (spec/11 R389): itself, or one of the others in service. -/
def carrierPipe (s : State) (p hash : Nat) : Option Nat :=
  let live := livePipes s
  if live.contains p then some p
  else if live.isEmpty then none
  else live[hash % 65536 % live.length]?

/-- The poisoned words that a packet's lookups read (spec/12 R413): a learned MAC entry is removed and counts as a miss, a
meter's buckets are filled, a buffer whose owner tag is bad goes out of use; any other table entry drops the packet. -/
def pipePoison (x : Poison) (s : State) : Bool × State :=
  match x with
  | .entry index inst =>
    if index = 0x4B10 then (false, macRemove (macPlace inst) s)
    else (true, raise 3590 65 index inst ((s.bump 0x5800 65 4).setAux .entryPoison index inst 1))
  | .meter m => (false, fillMeter m s)
  | .tag p b => (false, tagPoison p b s)
  | _ => (false, s)

/-- All of them: whether the packet is dropped. -/
def pipePoisons : List Poison → State → Bool × State
  | [], s => (false, s)
  | x :: l, s =>
    let (a, s) := pipePoison x s
    let (b, s) := pipePoisons l s
    (a || b, s)

/-- The ingress flow (0 downstream) and the domain of a packet, none where it matches no domain that is not disabled
(R269). -/
def packetDomain (s : State) (m : Meet) : Option (Nat × Nat) :=
  if m.pkt.up then (flowOfPort s m.pkt.port m.pkt.xgem).bind fun f =>
    let d := s.get 0x4800 f 4
    if d < 4096 ∧ s.get 0x4900 d 2 ≠ 0 then some (f, d) else none
  else (domainDown s m.pkt.port m.p).map fun d => (0, d)

/-- The stages after the parser (R261, R268 to R270, R272). -/
def pipeStages (m : Meet) (picks : List Nat) (s : State) : State :=
  let c := m.pkt.carrier
  if m.p.malformed then s.bump 0x4491 c 5
  else
    let s := if m.p.incomplete then raiseSec 2307 c (fun n => (n, 0)) (s.bump 0x4491 c 4) else s
    match packetDomain s m with
    | none => s.bump 0x4491 c 6
    | some (f, d) =>
      let m := { m with flow := f, domain := d }
      if s.get 0x4900 d 2 = 1 ∧ m.pkt.shut.contains d = true then s.bump 0x4900 d 0x11
      else if s.get 0x4900 d 3 = 2 ∧ (m.p.ip = false ∨ m.p.ttl ≤ 1) then s.bump 0x4491 c 7
      else if m.p.later then laterFragment m picks s
      else match lookups m s with
        | (none, s) => s
        | (some f, s) =>
          let (f, s) := classify m f s
          let f := settle s m f
          let s := handOff m f picks s
          if m.p.first then storeDecision m f picks s else s

/-- The domains that drain. -/
def drainingDomains (s : State) : List Nat :=
  s.objs.filterMap fun e => if e.1.index == 0x4900 && e.1.sub == 2 && e.2 == 1 then some e.1.inst else none

/-- A packet enters its pipe's parser with the current coat (R261, R267, R278): one whose headers continue past byte 256 waits for
its second pass. -/
def enterPipe (x : InPkt) (turn : Turn) (s : State) : State :=
  let x := { x with coat := s.get 0x4480 0 1 }
  let s := overAll turn.writes writeWord s
  let p := parse (s.get 0x4490 0 2) 256 x.bytes
  let (bad, s) := pipePoisons turn.poison s
  if bad then s
  else if p.more ∧ p.malformed = false then { s.bump 0x4491 x.carrier 3 with recirc := s.recirc ++ [x] }
  else pipeStages ⟨x, p, 0, 0, false⟩ turn.picks s

/-- What a turn has where the command gives none. -/
def noTurn : Turn := ⟨[], [], []⟩

/-- The turns of the packets that a pipe takes, in order. -/
def turnsOf (picks : List (List Nat)) (writes : List (List MemWrite)) (poison : List (List Poison)) : List Turn :=
  (List.range (max picks.length (max writes.length poison.length))).map fun i =>
    ⟨picks.getD i [], writes.getD i [], poison.getD i []⟩

/-- The packets of a pipe's input queue enter it in order, as long as no packet waits for its second pass there: recirculated
packets go ahead of new ones (R264). -/
def serveQueue (c : Nat) : List InPkt → List Turn → State → State
  | [], _, s => s
  | x :: l, turns, s =>
    if s.recirc.any fun y => y.carrier == c then s
    else serveQueue c l turns.tail (enterPipe x (turns.headD noTurn) { s with pipeIn := s.pipeIn.erase x })

/-- The input queue of a pipe. -/
def pipeQueue (s : State) (c : Nat) : List InPkt := s.pipeIn.filter fun x => x.carrier == c

/-- PACKET_INGRESS (R261, R264): a packet of a tree's XGEM port (up) or of an uplink port reaches the input queue of its pipe, which
holds 2,048 packets. The pipe then takes what waits there, unless it is busy (wait; log entry 33). -/
def execPacketIngress (up : Bool) (port xgem : Nat) (bytes : List Nat) (wait : Bool) (picks : List (List Nat))
    (writes : List (List MemWrite)) (poison : List (List Poison)) (s : State) : Host.Outcome State Fault Refusal :=
  let turns := turnsOf picks writes poison
  whenUp s fun s =>
    if (if up then s.trees ≤ port else 32 ≤ port) ∨ s.islandUp 14 = false then s
    else
      let h := flowHash (s.get 0x4490 0 1) (parse (s.get 0x4490 0 2) 256 bytes)
      let full := fun (c : Nat) (s : State) => raiseSec 2306 c (fun n => (n, 0)) (s.bump 0x4491 c 2)
      match carrierPipe s (pipeOf h) h with
      | none => full (pipeOf h) s
      | some c =>
        if 2048 ≤ (pipeQueue s c).length then full c s
        else
          let x : InPkt := ⟨up, port, xgem, bytes, pipeOf h, c, h, s.get 0x4480 0 1, drainingDomains s⟩
          let s := { s.bump 0x4491 c 1 with pipeIn := s.pipeIn ++ [x] }
          if wait then s else serveQueue c (pipeQueue s c) turns s

/-- PACKET_RECIRCULATE (R264, R267): the oldest packet that waits to re-enter a pipe makes its second and last pass; when no other
waits so, the pipe takes what its input queue holds. -/
def execPacketRecirculate (pipe : Nat) (picks : List (List Nat)) (writes : List (List MemWrite)) (poison : List (List Poison))
    (s : State) : Host.Outcome State Fault Refusal :=
  let turns := turnsOf picks writes poison
  whenUp s fun s =>
    match s.recirc.find? fun x => x.carrier == pipe with
    | none => s
    | some x =>
      let turn := turns.headD noTurn
      let s : State := { s with recirc := s.recirc.erase x }
      let s := if x.coat ≠ s.get 0x4480 0 1 then s.put 0x4480 0 6 (oldPackets s) else s
      let (bad, s) := pipePoisons turn.poison (overAll turn.writes writeWord s)
      let s := if bad then s else pipeStages (meetOf s x 0) turn.picks s
      serveQueue pipe (pipeQueue s pipe) turns.tail s

/-- FRAGMENT_HOLD_EXPIRY (R285): the hold time of the fragment in a place of the hold store has passed. -/
def execFragmentHoldExpiry (entry : Nat) (picks : List Nat) (poison : List Poison) (s : State) : Host.Outcome State Fault Refusal :=
  whenUp s fun s =>
    match s.held[entry]? with
    | none => s
    | some h =>
      let s : State := { s with held := s.held.eraseIdx entry }
      let s := s.put 0x4500 0 5 s.held.length
      let (bad, s) := pipePoisons poison s
      if bad then s else unmatched true (meetOf s h.pkt h.key.domain) picks s

/-- FRAGMENT_LIFETIME_EXPIRY (R283): the lifetime of the entry in a place of the fragment table has passed. -/
def execFragmentLifetimeExpiry (entry : Nat) (s : State) : Host.Outcome State Fault Refusal :=
  whenUp s fun s =>
    let s : State := { s with frags := s.frags.eraseIdx entry }
    s.put 0x4500 0 1 s.frags.length

/-! ## Domains (R272) -/

/-- A packet that was in a pipe when its domain began to drain. -/
def inDomain (s : State) (d : Nat) (x : InPkt) : Bool :=
  ((packetDomain s (meetOf s x 0)).map fun y => y.2) == some d && !x.shut.contains d

/-- What a domain's drain waits for: its packets in the pipes and their input queues, and the fragments held for it. -/
def domainWork (s : State) (d : Nat) : Nat :=
  (s.pipeIn.countP (inDomain s d)) + (s.recirc.countP (inDomain s d)) + s.held.countP fun h => h.key.domain == d

/-- The end of a domain's drain: what is still in the pipes or held for it is discarded and counted, its learned entries
are removed, and it reports disabled. -/
def domainOffNow (d : Nat) (s : State) : State :=
  let s1 : State := { s with
    pipeIn := s.pipeIn.filter fun x => !inDomain s d x
    recirc := s.recirc.filter fun x => !inDomain s d x
    held := s.held.filter fun h => h.key.domain != d }
  let s1 := if s1.recirc.length = s.recirc.length then s1 else s1.put 0x4480 0 6 (oldPackets s1)
  let s1 := (s1.put 0x4500 0 5 s1.held.length).bump 0x4900 d 0x11 (domainWork s d)
  (flushDomain d s1).put 0x4900 d 2 0

/-- A write of a domain's enable (R272, R394): with nothing held for it, a drain ends at once. -/
def domainEnableWrite (acc : Acc) (d : Nat) (v : Reg) (s : State) : State :=
  writeValue acc 0x4900 d 1 v s fun s =>
    match v, s.get 0x4900 d 2 with
    | 1, 0 => done (s.put 0x4900 d 2 2)
    | 1, 1 => refuse 3 s
    | 0, 2 => done (if domainWork s d = 0 then domainOffNow d s else s.put 0x4900 d 2 1)
    | _, _ => done s

/-- A write of 1 to a domain's flush. -/
def domainFlushWrite (acc : Acc) (d : Nat) (v : Reg) (s : State) : State :=
  writeValue acc 0x4900 d 0x0B v s fun s => done (if v = 1 then flushDomain d s else s)

/-- DOMAIN_ENABLE (R272). -/
def execDomainEnable (acc : Acc) (domain : Nat) (s : State) : Host.Outcome State Fault Refusal :=
  whenUp s fun s => domainEnableWrite acc domain 1 s

/-- DOMAIN_DRAIN (R272). -/
def execDomainDrain (acc : Acc) (domain : Nat) (s : State) : Host.Outcome State Fault Refusal :=
  whenUp s fun s => domainEnableWrite acc domain 0 s

/-- DOMAIN_DRAIN_END (R272): the work in flight has ended, or the drain limit has passed. -/
def execDomainDrainEnd (domain : Nat) (s : State) : Host.Outcome State Fault Refusal :=
  whenUp s fun s => if s.get 0x4900 domain 2 = 1 then domainOffNow domain s else s

/-- DOMAIN_FLUSH (R272). -/
def execDomainFlush (acc : Acc) (domain : Nat) (s : State) : Host.Outcome State Fault Refusal :=
  whenUp s fun s => domainFlushWrite acc domain 1 s

end Sys2Proof.Machine
end

