-- ==== Sys2Proof/Machine/Cascade.lean ====
section
/-!
DEFINITION. Machine/Cascade.lean: Vioth frames received: delineation, transit, local data, primer fill, signal frames and
mirror records; and the signal frames sent (spec/10 R353 to R368; spec/11 R398, R402; spec/02 R81, R84, R85).
-/
namespace Sys2Proof.Machine

/-! ## Signal frames (R359) -/

/-- The members that a Type-B pair is shared with. -/
def pairMembers (s : State) : List Nat := ((List.range s.trees).filterMap fun t => (remotePartner s t).map Prod.fst).eraseDups

/-- The record of a tree's pair. -/
def signalRecord (s : State) (t p : Nat) : List Nat :=
  [t, p, 64 * protRole s t + 32 * s.get 0x2003 t 5 + 16 * s.get 0x2003 t 8 + s.aux .swReq t % 16, 0]
    ++ bytesOf 2 (stageClaim s 2 t) ++ bytesOf 2 (frameNow s t % 65536)

/-- The ports that signal frames to a member leave by: the working and the protection port of its path, where usable. -/
def signalPorts (s : State) (m : Nat) : List Nat := ([s.get 0x5140 m 1, s.get 0x5140 m 2].filter fun v => usable s v m).eraseDups

/-- SIGNAL_FRAME_SEND (R359): one frame to each partner member, on each usable port of its path. -/
def execSignalFrameSend (s : State) : Host.Outcome State Fault Refusal :=
  whenUp s fun s => overAll (pairMembers s) (fun m s =>
    let records := (List.range s.trees).filterMap fun t => match remotePartner s t with
      | some (x, p) => if x = m then some (signalRecord s t p) else none
      | none => none
    let seq := wrapAdd 32 (s.aux .sigSeq m) 1
    let body := bytesOf 4 seq ++ [records.length, 0, 0, 0] ++ records.flatMap id
    let s := s.setAux .sigSeq m 0 seq
    match signalPorts s m with
    | [] => s.bump 0x5140 m 6
    | l => { s with vframes := s.vframes ++ l.map fun v => ⟨v, 0, 5, 0, member s, m, s.get 0x51C0 0 3, body.length, 0, 0, body⟩ }) s

/-- The standby port takes the working port's mode and its change as they stand (spec/02 R81). The spec gives no frame that carries
them: they come with the command (log entry 113). -/
def takeChange (t : Nat) (far : Option FarPort) (s : State) : State :=
  match far with
  | none => s
  | some x =>
    let first := frameAdd x.switch x.dark
    let s := if s.get 0x2001 t 1 = x.mode then s else (s.setAux .oldStroke t 0 (s.get 0x2001 t 1)).setAux .modeAt t 0 (first + 1)
    let s := overAll [(1, x.mode), (2, x.precoding), (8, x.switch), (0x0B, x.gen)] (fun p s => s.put 0x2001 t p.1 p.2) s
    let hold := if x.change = 1 then frameAdd first 8 + 1 else if x.change = 2 then frameAdd x.switch 8 + 1 else s.aux .beatHold t
    overAll [(Aux.chgState, x.change), (.chgTarget, x.target), (.chgDark, x.dark), (.beatHold, hold)] (fun p s => s.setAux p.1 t 0 p.2) s

/-- One record of a signal frame (R81, R84 to R86): the partner's state is noted; a higher claim of a working partner is
accepted and makes this port the standby; a switch request makes a standby port the working one, unless lockout is set. -/
def signalTaken (source took : Nat) (r : SigRecord) (s : State) : State :=
  let t := r.partner
  if s.trees ≤ t ∨ remotePartner s t ≠ some (source, r.sender) then s
  else
    let near := absDiff (frameNow s t % 65536) (r.frame % 65536)
    let s := ((s.setAux .farSig t 0 (r.state % 256)).setAux .farClaim t 0 (r.claim % 65536)).setAux .farFrame t 0 (r.frame % 65536)
    let s := (s.setAux .partnerOk t 0 1).setAux .mirrorOk t 0
      (if (near ≤ 1 ∨ near = 65535) ∧ levelFits (s.get 0x5580 0 1) (s.get 0x5590 source 1) = true then 1 else 0)
    let role := r.state / 64 % 4
    let request := r.state % 16
    let s := if claimHigher r.claim (stageClaim s 2 t) then
        let s := acceptClaim 2 t r.claim (2048 + source) s
        if role = 1 ∧ protRole s t = 1 then (standDown t (abortMuffling t 1 s)).bump32 0x2003 t 0x0B else s
      else s
    let s := if role = 1 ∧ protRole s t = 2 then s.setAux .swReq t 0 0 else s
    let s := if role = 1 ∧ protRole s t = 2 then takeChange t r.far s else s
    let s := if request ≠ 0 ∧ protRole s t = 2 ∧ (request = 5 ∨ lockedOut s t = false) then takeOver t request took s else s
    updateReady t s

/-- SIGNAL_FRAME_RECEIVE (R359). took is the device's part of a switch that the frame triggers, in ns. -/
def execSignalFrameReceive (source : Nat) (records : List SigRecord) (took : Nat) (s : State) : Host.Outcome State Fault Refusal :=
  whenUp s fun s => overAll records (signalTaken source took) s

/-- The records of a signal frame's payload. -/
def signalRecords (b : List Nat) : List SigRecord :=
  (List.range (b.getD 4 0)).map fun i =>
    let x := b.drop (8 + 8 * i)
    ⟨x.getD 0 0, x.getD 1 0, x.getD 2 0, numAt x 4 2, numAt x 6 2, none⟩

/-! ## Mirror records (spec/11 R398, R402) -/

/-- The tree of this member that is the standby partner of a member's tree. -/
def standbyFor (s : State) (m far : Nat) : Option Nat :=
  (List.range s.trees).find? fun t => remotePartner s t == some (m, far) && protRole s t == 2

/-- A record of a member, after its 12-byte header. A reserved type is counted. -/
def mirrorRecord (v m type : Nat) (b : List Nat) (s : State) : State :=
  let u := fun i n => numAt b i n
  match type with
  | 1 => if m = member s then s else levelReport m (u 1 2) (u 4 2) s
  | 2 => levelCommit (u 0 2) (u 2 6 * 1000000000 + u 8 4) s
  | 3 =>
    match standbyFor s m (u 0 1) with
    | some t =>
      if t = u 1 1 ∧ u 2 2 < 512 then takeMirror (512 * t + u 2 2) (u 4 1) (u 5 1) (u 6 4) (u 10 4) (u 14 8) (u 22 1) (u 23 1) s else s
    | none => s
  | 4 =>
    match standbyFor s m (u 0 1) with
    | some t =>
      let none' := u 8 2 = 0xFFFF
      if u 2 2 < 1024 ∧ (u 8 2 < 512 ∨ none') then
        takeAllocMirror (1024 * t + u 2 2) (u 4 2) (u 6 1) (u 7 1) (if none' then 0xFFFF else 512 * t + u 8 2) (if none' then 0 else 1) s
      else s
    | none => s
  | 5 =>
    receiveKey m (u 0 2) (u 2 1) (u 3 1) (u 4 2) (b.drop 8) s
  | 6 => receiveUsage (u 0 2) (u 2 2) (u 4 8) s
  | 15 => if u 0 1 = 5 then ackKey m (u 4 4) s else s
  | _ => s.bump 0x5100 v 0x19

/-- A mirror frame received (R402): refused by its level, or applied and acknowledged when it asks for it. -/
def mirrorFrame (v m : Nat) (p : List Nat) (s : State) : State :=
  let level := numAt p 1 2
  if !levelFits (s.get 0x5580 0 1) level then refuseLevel m level s
  else
    let type := p.getD 0 0
    let s := mirrorRecord v m type ((p.drop 12).take (numAt p 8 2)) s
    if bit 7 (p.getD 3 0) then sendMirror m 15 0 ([type, 0, 0, 0] ++ bytesOf 4 (numAt p 4 4)) s else s

/-! ## Local data (R368) -/

/-- A packet of another member for a flow: stored under the port's requester, queued by this member's own record of the flow,
and admitted from step 2 of R314. -/
def viothData (v : Nat) (f : ViothIn) (pick : Nat) (s : State) : State :=
  let flow := f.context
  let len := f.payload.length
  if f.kind = 0 then
    match queueDown s flow f.cls with
    | some q => storeCopy (96 + v) false [(flow, q)] f.payload len f.colour pick false s
    | none => s
  else
    let hash := flowHash (s.get 0x4490 0 1) (parse (s.get 0x4490 0 2) 256 f.payload)
    let up := s.get 0x4900 (s.get 0x4800 flow 4) 4
    match egressPort s up hash with
    | none => if up = 0xFFFF then s else s.bump 0x44A0 (up % 32) 5
    | some e =>
      match queueUp s flow f.cls with
      | some q =>
        let meter := s.get 0x4D00 flow 6
        let dei := 0 < f.colour && meter != 0xFFFFFFFF && s.get 0x4F00 meter 9 == 1
        storeCopy (96 + v) true [(flow, 256 * e + q)] f.payload len f.colour pick dei s
      | none => s

/-! ## Frames (R354 to R356, R366, R367) -/

/-- A frame at its hop limit (R367). -/
def hopDiscard (v : Nat) (s : State) : State := raiseSec 2839 v (fun n => (n, 0)) (s.bump 0x5100 v 0x18)

/-- A frame for another member (R367), primer fill ahead of the other transit frames (R365). -/
def transit (v : Nat) (f : ViothIn) (s : State) : State :=
  match activePort s f.dest with
  | none => s.bump 0x5140 f.dest 6
  | some w =>
    let s := s.setAux .fwdAt v f.dest (s.now + 1)
    { s with vframes := s.vframes ++
      [⟨w, if f.kind = 3 then 1 else 2, f.kind, f.cls, f.source, f.dest, f.hops - 1, f.payload.length, f.context, f.colour, f.payload⟩] }

/-- A frame consumed here. A ROL message relayed in kind 6 reaches the session engines as a command of its own. -/
def consume (v : Nat) (f : ViothIn) (pick took : Nat) (s : State) : State :=
  match f.kind with
  | 0 | 1 => viothData v f pick s
  | 3 => raiseSecAt 2835 f.source f.source (fun _ => (f.payload.getD 1 0, f.payload.getD 2 0)) (s.bump 0x5100 v 0x17)
  | 5 => overAll (signalRecords f.payload) (signalTaken f.source took) s
  | 7 => mirrorFrame v f.source f.payload s
  | _ => s

/-- A frame delivered by the framer (R354, R356, R357, R361): fill is discarded without counting, and multiframe overhead is the
port's own. -/
def delivered (v : Nat) (f : ViothIn) (pick took : Nat) (s : State) : State :=
  if !f.crcOk then s.bump 0x5100 v 0x14
  else if f.kind = 2 then s
  else
    let s := s.bump 0x5100 v 0x11
    if f.kind = 4 then takeMultiframe v f.payload s
    else if portSt s v ≠ 4 ∧ portSt s v ≠ 1 then s
    else if 8 ≤ f.kind then s.bump 0x5100 v 0x19
    else
      let here := f.dest == member s
      if f.hops = 0 ∨ (!here ∧ f.hops = 1) then hopDiscard v s
      else if here then consume v f pick took s
      else transit v f s

/-! ## Headers (R353, R355) -/

/-- The Length check is the complement of Length. -/
def lengthOk (h : Nat) : Bool := field 70 57 h == 0x3FFF - field 101 88 h

/-- A header fits (R355). -/
def headerOk (h : Nat) : Bool :=
  crc16 (bytesOf 14 (h / 65536 % 2 ^ 112)) == h % 65536 && field 101 88 h ≤ 10240 && lengthOk h

/-- The header that fits after the inversion of one bit. -/
def repaired (h : Nat) : Option Nat := ((List.range 128).map fun i => Nat.xor h (2 ^ i)).find? headerOk

/-- What the framer makes of the 16 bytes at the place where it looks. -/
def headerFit (h : Nat) : HeaderFit :=
  if headerOk h then .fits else if (repaired h).isSome then .corrected else .bad (lengthOk h)

/-- The frame of a header that fits, with the Length bytes that follow it (R353, R356). -/
def viothIn (h : Nat) (after : List Nat) : ViothIn :=
  let payload := after.take (field 101 88 h)
  ⟨field 127 124 h, field 122 120 h, field 119 114 h, field 113 108 h, field 107 102 h, field 87 71 h, field 56 55 h,
    bit 54 h, payload, viothCrc payload == field 47 16 h⟩

/-- RDI in the headers received (R360). -/
def headerRdi (v : Nat) (rdi : Bool) (s : State) : State :=
  let run := if rdi then min 8 (s.aux .rdiRun v + 1) else 0
  let ok := if rdi then 0 else min 8 (s.aux .rdiClr v + 1)
  let s := (s.setAux .rdiRun v 0 run).setAux .rdiClr v 0 ok
  if run = 8 then declareDefect v 7 s else if ok = 8 ∧ s.aux .mfRdi v = 0 then clearDefect v 7 s else s

/-! ## The framer (R349, R355) -/

/-- The words that wait at a port's framer. -/
def portWords (s : State) (v : Nat) : List Nat := (s.viothIn.filter fun w => w.1 == v).map Prod.snd

/-- The framer has taken the first n of them. -/
def dropWords (v n : Nat) (s : State) : State :=
  { s with viothIn := (s.viothIn.filter fun w => w.1 != v) ++ ((portWords s v).drop n).map fun w => (v, w) }

/-- Words from a header to the next one of its chain. -/
def chainWords (h : Nat) : Nat := 2 + ceilDiv (field 101 88 h) 8

/-- The framer's next move over the words that wait, and whether it delivers a frame; none while it waits for more words. In
PRESYNC the words are kept from the candidate on, so that the hunt can go on from the word after it. -/
def framerStep (v pick took : Nat) (s : State) : Option (State × Bool) :=
  let pos := s.aux .framePos v
  let ws := (portWords s v).drop pos
  let h := ws.headD 0 * 2 ^ 64 + ws.getD 1 0
  let after := fun (h : Nat) => viothIn h (((ws.take (chainWords h)).drop 2).flatMap (bytesOf 8))
  let whole := fun (h : Nat) => chainWords h ≤ ws.length
  let give := fun (h : Nat) (s : State) =>
    let f := after h
    (delivered v f pick took (headerRdi v f.rdi (dropWords v (pos + chainWords h) ((s.setAux .framerFail v 0 0).setAux .framePos v 0 0))), true)
  if ws.length < 2 then none
  else match framer s v with
    | 0 => if headerOk h then some ((setFramer v 1 (s.bump 0x5100 v 0x15)).setAux .framePos v 0 (chainWords h), false)
      else some (dropWords v 1 s, false)
    | 1 => if headerOk h then some ((setFramer v 2 s).setAux .framePos v 0 (pos + chainWords h), false)
      else some (dropWords v 1 ((setFramer v 0 s).setAux .framePos v 0 0), false)
    | 2 =>
      if !headerOk h then some (dropWords v 1 ((setFramer v 0 s).setAux .framePos v 0 0), false)
      else if whole h then some (give h (setFramer v 3 s)) else none
    | _ => match headerFit h with
      | .fits => if whole h then some (give h s) else none
      | .corrected =>
        let h := (repaired h).getD h
        if whole h then some (give h (s.bump 0x5100 v 0x13)) else none
      | .bad true =>
        if 4 ≤ s.aux .framerFail v + 1 then some (dropWords v 1 (toHunt v s), false)
        else if whole h then some (dropWords v (chainWords h) (s.setAux .framerFail v 0 (s.aux .framerFail v + 1)), false)
        else none
      | .bad false => some (dropWords v 1 (toHunt v (s.bump 0x5100 v 0x13)), false)

/-- The framer goes on while it can move; each packet that it delivers takes its buffer from picks. -/
def framerRun (v took : Nat) : Nat → List Nat → State → State
  | 0, _, s => s
  | n + 1, picks, s => match framerStep v (picks.headD 0) took s with
    | none => s
    | some (s', gave) => framerRun v took n (if gave then picks.drop 1 else picks) s'

/-- A row of blocks, one on each lane (R348, R349): once deskewed, the eight words of the lanes that carry the logical lanes join
the port's stream. -/
def takeData (v : Nat) (row : List (List Nat)) (s : State) : State :=
  let (blocks, s) := takeRow v row s
  let s := overAll blocks (fun e s =>
    let (w, s) := takeWord v e.1 e.2.1 e.2.2 s
    s.setAux .rxWord (viothLane v e.1) 0 w) s
  if s.aux .deskew v = 1 then
    { s with viothIn := s.viothIn ++ (List.range 8).map fun l => (v, s.aux .rxWord (viothLane v (carrier s v l))) }
  else s

/-- Rows of blocks by physical lane, each block's sync header before its 64 bits (R348). -/
def blockRows (sync blocks : List (List (List Nat))) : List (List (List Nat)) := sync.zipWith (List.zipWith (· ++ ·)) blocks

/-- VIOTH_FRAME_RECEIVE (R348, R349, R355): rows of blocks as symbols, by physical lane, as the deskew lines them up; the framer then
takes what it can. took is the device's part of a switch that a frame triggers, in ns. -/
def execViothFrameReceive (port : Nat) (sync blocks : List (List (List Nat))) (picks : List Nat) (took : Nat) (s : State) :
    Host.Outcome State Fault Refusal :=
  whenUp s fun s =>
    if 4 ≤ port ∨ portSt s port = 0 then s
    else
      let s := overAll (blockRows sync blocks) (takeData port) s
      if s.aux .deskew port = 0 then s else framerRun port took (3 * (portWords s port).length + 3) picks s

end Sys2Proof.Machine
end

