-- ==== Sys2Proof/Machine/EventPath.lean ====
section
/-!
DEFINITION. Machine/EventPath.lean: masking, the dispatch of records, and the PCIe event ring (spec/14 R472 to R478).
-/
namespace Sys2Proof.Machine

/-! ## Masks (R473) -/

/-- The raised records that an unmask generates: one for each pending instance, oldest first, at most 1,024, with the
arguments and the stamp of its last raised record and the severity in force. -/
def regenerate (num : Nat) (s : State) : State :=
  overAll ((s.evPending.filter fun r => r.num == num).take 1024)
    (fun r s => enqueueRec num (severity s num) r.inst r.stamp r.a1 r.a2 s) s

/-- A write of an event number's mask. -/
def maskWrite (acc : Acc) (num v : Nat) (s : State) : State :=
  writeValue acc 0x1200 num 1 v s fun s =>
    let was := s.get 0x1200 num 1
    let s := store 0x1200 num 1 v s
    if was = 1 ∧ v = 0 then regenerate num s else s

/-- EVENT_UNMASK (R473). -/
def execEventUnmask (acc : Acc) (number : Nat) (s : State) : Host.Outcome State Fault Refusal :=
  whenUp s fun s => maskWrite acc number 0 s

/-- EVENT_MASK (R473). -/
def execEventMask (acc : Acc) (number : Nat) (s : State) : Host.Outcome State Fault Refusal :=
  whenUp s fun s => maskWrite acc number 1 s

/-! ## The PCIe event ring (R478) -/

/-- Slots of the ring that the host has not consumed. -/
def ringUsed (s : State) : Nat := (s.aux .ringProd + 2 ^ 32 - s.aux .ringCons) % 2 ^ 32

/-- A write of the ring's enable: an enabled ring starts empty at slot 0. -/
def ringEnable (acc : Acc) (v : Nat) (s : State) : State :=
  writeValue acc 0x1210 0 8 v s fun s =>
    let was := s.get 0x1210 0 8
    let s := store 0x1210 0 8 v s
    if was = 0 ∧ v = 1 then (s.setAux .ringProd 0 0 0).setAux .ringCons 0 0 0 else s

/-- A record goes into the next slot, with the phase bit that flips on each wrap; vector 16 when the ring was empty. -/
def ringPut (r : Rec) (s : State) : State :=
  let size := s.get 0x1210 0 5
  let p := s.aux .ringProd
  let empty := ringUsed s = 0
  let s := s.send .eventSlot [p % size, r.entry, (p / size + 1) % 2]
  let s := s.setAux .ringProd 0 0 ((p + 1) % 2 ^ 32)
  if empty then s.send .msix [16] else s

/-- EVENT_RING_CONSUMER_WRITE (R478): an index beyond the producer is not one the host can have consumed and changes nothing. -/
def execEventRingConsumerWrite (value : Nat) (s : State) : Host.Outcome State Fault Refusal :=
  whenUp s fun s =>
    if ringUsed s < (value + 2 ^ 32 - s.aux .ringCons) % 2 ^ 32 ∨ 2 ^ 32 ≤ value then s
    else
      let s := s.setAux .ringCons 0 0 value
      if ringUsed s = 0 then s else s.send .msix [16]

/-! ## Dispatch (R477) -/

/-- A record goes to the log. -/
def logPut (r : Rec) (s : State) : State :=
  let n := s.aux .logSeq
  (s.put 0x1220 (n % 1024) 1 r.entry).setAux .logSeq 0 0 (n + 1)

/-- EVENT_DISPATCH (R477): the event engine takes the oldest record to the log, the PCIe event ring and the subscriptions. While
the ring is full the records wait in the queue (R478). Below 4,096 entries, event 3987 reports the records lost. -/
def execEventDispatch (s : State) : Host.Outcome State Fault Refusal :=
  whenUp s fun s =>
    let ring := s.get 0x1210 0 8 == 1
    match s.evQueue with
    | [] => s
    | r :: rest =>
      if (carrierOf s 211).isNone ∨ (ring ∧ s.get 0x1210 0 5 ≤ ringUsed s) then s
      else
        let s := logPut r { s with evQueue := rest }
        let s := if ring then ringPut r s else s
        let s := notifyAll r s
        let lost := s.aux .evLostRep
        if s.evQueue.length < 4096 ∧ lost ≠ 0 then raise 3987 0 lost 0 (s.setAux .evLostRep 0 0 0) else s

end Sys2Proof.Machine
end

