-- ==== Sys2Proof/Machine/Identity.lean ====
section
/-!
DEFINITION. Machine/Identity.lean: images written to the flash, the fuses, the modules' polls, the calibration set's commit, the
attestation report and the PCIe link (spec/14 R481; spec/15 R488, R491, R492, R496, R500, R503).
-/
namespace Sys2Proof.Machine

/-! ## Images and fuses -/

/-- The slot of the image that cluster 13 runs: 2 for a recovery image. -/
def runningSlot (s : State) : Nat := s.get 0x5510 13 2

/-- A running upgrade takes its image from a slot (spec/11 R403). -/
def upgradeUses (s : State) (slot : Nat) : Bool := s.get 0x5500 0 4 != 0 && s.get 0x5500 0 1 == slot

/-- A block write of an image (R491): refused with "busy", refused by the checks of R487 with its cause in .06, or accepted. -/
def imageWrite (acc : Acc) (slot : Nat) (i : ImageIn) (s : State) : State :=
  access acc true 0x1300 slot 1 s fun s =>
    if (clusters s).any (fun c => s.get 0x5510 c 2 == slot) || upgradeUses s slot || s.get 0x1300 (1 - slot) 2 == 3
        || s.get 0x1300 slot 2 == 3 then refuse 3 s
    else
      let cause := imageCause s i
      let s := s.put 0x1300 slot 6 cause
      if cause ≠ 0 then refuse 4 s
      else
        let h := i.header
        let s := ((s.setAux .imgHead slot 0 (imgLevel h)).setAux .imgHead slot 1 (imgRollback h)).setAux .imgHead slot 2 (imgDigest h)
        done ((s.setAux .slotKey slot 0 (numAt h 56 64)).put 0x1300 slot 2 3)

/-- IMAGE_WRITE (R491): the whole image has arrived. -/
def execImageWrite (acc : Acc) (slot : Nat) (image : ImageIn) (s : State) : Host.Outcome State Fault Refusal :=
  whenUp s fun s => imageWrite acc slot image s

/-- IMAGE_PROGRAM_DONE (R491): the slot is programmed, and reading it back finds the image or not. -/
def execImageProgramDone (slot : Nat) (verified : Bool) (s : State) : Host.Outcome State Fault Refusal :=
  whenUp s fun s =>
    if 2 ≤ slot ∨ s.get 0x1300 slot 2 ≠ 3 then s
    else if verified then
      overAll [(2, 1), (3, s.aux .imgHead slot 0), (4, s.aux .imgHead slot 1), (5, s.aux .imgHead slot 2)] (fun p s => s.put 0x1300 slot p.1 p.2) s
    else s.put 0x1300 slot 2 2

/-- A write of the owner key hash (R488): once, and only SM3 of the running image's owner public key. -/
def keyHashWrite (acc : Acc) (v : Nat) (s : State) : State :=
  writeValue acc 0x1320 0 2 v s fun s =>
    if s.get 0x1320 0 1 ≠ 0 then refuse 3 s
    else if v = 0 ∨ v ≠ keyHash (s.aux .slotKey (runningSlot s)) then refuse 4 s
    else raise 3995 0 0 0 (done (s.put 0x1320 0 1 v))

/-- OWNER_KEY_HASH_PROGRAM (R488). -/
def execOwnerKeyHashProgram (acc : Acc) (value : Nat) (s : State) : Host.Outcome State Fault Refusal :=
  whenUp s fun s => keyHashWrite acc value s

/-- A write of the rollback commit (R492): fuses are blown up to the running image's rollback version. -/
def rollbackWrite (acc : Acc) (v : Nat) (s : State) : State :=
  writeValue acc 0x1320 0 4 v s fun s =>
    let slot := runningSlot s
    let old := s.get 0x1320 0 3
    let new := s.get 0x1300 slot 4
    if v = 0 then done s
    else if slot = 2 ∨ (clusters s).any (fun c => s.get 0x5510 c 2 != slot) = true then refuse 3 s
    else if new ≤ old then done s
    else if s.get 0x1300 (1 - slot) 2 = 1 ∧ s.get 0x1300 (1 - slot) 4 < new then refuse 3 s
    else raise 3994 0 old new (done (s.put 0x1320 0 3 new))

/-- ROLLBACK_COMMIT (R492). -/
def execRollbackCommit (acc : Acc) (s : State) : Host.Outcome State Fault Refusal :=
  whenUp s fun s => rollbackWrite acc 1 s

/-! ## Modules (R496, R497; spec/02 R85) -/

/-- The transmitter fault at a poll (R496): event 3983 while it is set; on a working port it switches the pair (cause 3). -/
def moduleFault (t took : Nat) (fault : Bool) (s : State) : State :=
  let was := s.get 0x5E10 t 8
  let s := s.put 0x5E10 t 8 (if fault then 1 else 0)
  if fault then
    let s := if was = 0 then raise 3983 t 0 0 s else s
    if protRole s t = 1 ∧ lockedOut s t = false then switchPair t 3 took s else s
  else if was = 1 then clear 3983 t s else s

/-- MODULE_POLL (R496): a cage's poll finds a module, or no acknowledgement; the third in a row removes the record. The owner's
override stays. -/
def execModulePoll (tree : Nat) (answer : Option ModuleIn) (took : Nat) (s : State) : Host.Outcome State Fault Refusal :=
  whenUp s fun s =>
    if s.treeUp tree = false then s
    else match answer with
      | some m =>
        let s := s.setAux .modMiss tree 0 0
        moduleFault tree took (modFault m) (if s.get 0x5E10 tree 1 = 0 then identify tree m s else s)
      | none =>
        if s.get 0x5E10 tree 1 = 0 then s
        else
          let n := s.aux .modMiss tree + 1
          if n < 3 then s.setAux .modMiss tree 0 n
          else
            let s := overAll [1, 2, 3, 4, 5, 6] (fun k s => s.put 0x5E10 tree k 0) ((s.setAux .modMiss tree 0 0).setAux .modPam tree 0 0)
            raise 3982 tree 0 0 (moduleFault tree took false s)

/-- A write of the PAM4 override (R497): the record of the module present follows it. -/
def overrideWrite (acc : Acc) (t v : Nat) (s : State) : State :=
  writeValue acc 0x5E10 t 7 v s fun s =>
    let s := s.put 0x5E10 t 7 v
    done (if s.get 0x5E10 t 1 = 1 then s.put 0x5E10 t 6 (modCaps s t) else s)

/-! ## The calibration set (R500) -/

/-- A transfer to an object is open (spec/14 R461). -/
def transferOpen (s : State) (index inst sub : Nat) : Bool :=
  s.transfers.any fun x => x.index == index && x.inst == inst && x.sub == sub

/-- A write of the commit (R500): refused with "busy", or with "out of range" when the staged set fails a check, and .05 says
why. -/
def calCommitWrite (acc : Acc) (v : Nat) (s : State) : State :=
  writeValue acc 0x1400 0 2 v s fun s =>
    if v = 0 then done s
    else if transferOpen s 0x1400 0 1 ∨ s.aux .calBusy = 1 then refuse 3 (s.put 0x1400 0 5 5)
    else match calCheck s (s.aux .calStaged) with
      | 0 => done ((s.put 0x1400 0 5 0).setAux .calBusy 0 0 1)
      | c => refuse 4 (s.put 0x1400 0 5 c)

/-- CALIBRATION_COMMIT (R500). -/
def execCalibrationCommit (acc : Acc) (s : State) : Host.Outcome State Fault Refusal :=
  whenUp s fun s => calCommitWrite acc 1 s

/-- CALIBRATION_COMMIT_DONE (R500): the staged set is the one that the memory holds; it is applied at the next start. -/
def execCalibrationCommitDone (_done : Unit) (s : State) : Host.Outcome State Fault Refusal :=
  whenUp s fun s =>
    if s.aux .calBusy = 0 then s
    else
      let digest := Config.sm3 (calBytes (s.aux .calStaged)) % 2 ^ 256
      let origin := s.aux .calStaged / 2 ^ (8 * (65536 - 4)) % 256
      let s := (((s.setAux .calBusy 0 0 0).put 0x1400 0 3 (s.aux .calStaged)).put 0x1400 0 6 digest).put 0x1400 0 7 origin
      let s := s.bump32 0x1400 0 4
      raise 3993 0 (s.get 0x1400 0 4) origin s

/-! ## Attestation (R503) -/

/-- The report before its signature. -/
def reportBytes (s : State) : List Nat :=
  let flag := fun (b : Bool) (n : Nat) => if b then n else 0
  let flags := flag (s.get 0x1301 0 1 == 2) 1 + flag (s.get 0x1301 0 2 == 1) 2 + flag (s.aux .vendorOn == 1) 4 + flag (s.get 0x1320 0 1 == 0) 8
  let runB := (List.range 14).foldl (fun n c => if s.get 0x5510 c 2 = 1 then n + 2 ^ c else n) 0
  [0xA7, 0xE5, 0x01, flags] ++ bytesOf 32 (s.get 0x1010 0 1) ++ bytesOf 10 (time80 s.now) ++ bytesOf 2 runB
    ++ bytesOf 16 (s.get 0x1000 0 1) ++ [s.get 0x1000 0 2 % 256, s.get 0x1000 0 3 % 256, s.get 0x51C0 0 1 % 256, s.get 0x1320 0 3 % 256]
    ++ bytesOf 32 (s.get 0x1320 0 1) ++ bytesOf 32 (s.get 0x1300 0 5) ++ bytesOf 32 (s.get 0x1300 1 5)
    ++ bytesOf 32 (s.get 0x1400 0 6) ++ bytesOf 32 (s.get 0x5E00 0 5) ++ [0, 0, 0, 0]

/-- A write of the generate command (R503): the report replaces the one before. The signature's value is free. -/
def attestWrite (acc : Acc) (v : Nat) (s : State) : State :=
  writeValue acc 0x1010 0 2 v s fun s =>
    if v = 0 then done s
    else
      let (sig, s) := s.fresh
      done (s.put 0x1010 0 3 (ofBytes (reportBytes s ++ bytesOf 64 sig)))

/-- ATTESTATION_GENERATE (R503). -/
def execAttestationGenerate (acc : Acc) (s : State) : Host.Outcome State Fault Refusal :=
  whenUp s fun s => attestWrite acc 1 s

/-! ## The PCIe link (spec/14 R481) -/

/-- PCIE_LINK_CHANGED (R481): the link comes up with its lanes and generation, or goes down. -/
def execPcieLinkChanged (up : Bool) (lanes generation : Nat) (s : State) : Host.Outcome State Fault Refusal :=
  whenUp s fun s =>
    if up then pcieLink 1 (s.put 0x1140 0 3 (lanes % 16 * 16 + generation % 16)) else pcieLink 0 s

end Sys2Proof.Machine
end

