-- ==== Sys2Proof/Machine/Upgrade.lean ====
section
/-!
DEFINITION. Machine/Upgrade.lean: the upgrade of a cluster to another image, role by role, and the way back (spec/11 R403, R404;
spec/15 R490).
-/
namespace Sys2Proof.Machine

/-- The engines of a cluster. -/
def clusterEngines (s : State) (c : Nat) : List Nat := ((List.range 16).map fun n => 16 * c + n).filter (Objects.engine s.trees)

/-- The spares of a cluster. -/
def clusterSpares (s : State) (c : Nat) : List Nat := (clusterEngines s c).filter Objects.spareSlot

/-- The engine runs the image that the upgrade leads to. -/
def onTarget (s : State) (e : Nat) : Bool := s.aux .engImg e == s.aux .upTarget

/-- The engine carries a role. -/
def carries (s : State) (e : Nat) : Bool := s.get 0x5400 e 1 != 0xFF

/-- Step 1: the spares that carry no role and are not on the image yet. -/
def stepSpares (s : State) (c : Nat) : List Nat := (clusterSpares s c).filter fun e => !carries s e && !onTarget s e

/-- The roles with spares whose own engine is not on the image yet. -/
def rolesLeft (s : State) (c : Nat) : List Nat :=
  (clusterEngines s c).filter fun e => !(roleSpares e).isEmpty && !Objects.spareSlot e && !onTarget s e

/-- Step 2: each free spare, in order, with the first role left that it covers and that its own engine carries. -/
def handOvers (s : State) (c : Nat) : List (Nat × Nat) :=
  let free := (clusterSpares s c).filter fun e => !carries s e && s.get 0x5400 e 2 == 1
  free.foldl (fun l x =>
    match (rolesLeft s c).find? fun r =>
        (roleSpares r).contains x && s.get 0x5400 r 1 == r && s.get 0x5400 r 2 == 0 && !(l.any fun p => p.1 == r) with
    | some r => l ++ [(r, x)]
    | none => l) []

/-- Step 3: the engines whose role a spare carries. -/
def released (s : State) (c : Nat) : List Nat :=
  (rolesLeft s c).filter fun r => (roleSpares r).any fun x => s.get 0x5400 x 1 == r

/-- Step 4: the engines that have reloaded and mirror their role. -/
def returning (s : State) (c : Nat) : List Nat :=
  (clusterEngines s c).filter fun e => !Objects.spareSlot e && onTarget s e && s.get 0x5400 e 2 == 3

/-- Step 5: slots 10 and 11, where they are not on the image yet. -/
def inPlace (s : State) (c : Nat) : List Nat :=
  (clusterEngines s c).filter fun e => (roleSpares e).isEmpty && !Objects.spareSlot e && !onTarget s e

/-- An engine reloads the new image. -/
def reload (e : Nat) (s : State) : State := s.put 0x5400 e 2 2

/-- A step begins: shown in 0x5500.04 and reported (event 3081) with its first engine, 0xFF for none. -/
def beginStep (c step : Nat) (l : List Nat) (s : State) : State :=
  raise 3081 c step (l.headD 0xFF) ((s.put 0x5500 0 4 step).setAux .upStep 0 0 step)

/-- Step 6 (R403): the cluster reports its new level, and the upgrade is complete. -/
def upgradeEnd (c : Nat) (s : State) : State :=
  let slot := s.aux .upTarget
  let old := s.get 0x5510 c 1
  let new := s.get 0x1300 slot 3
  let s := (beginStep c 6 [] s).put 0x5510 c 1 new
  let s := ((s.put 0x5510 c 2 slot).put 0x5500 0 4 0).setAux .upStep 0 0 0
  recomputeLevels (raise 3082 c old new s)

/-- The next step that has something to do. -/
def nextStep (c : Nat) (s : State) : State :=
  match stepSpares s c, rolesLeft s c, inPlace s c with
  | e :: l, _, _ => beginStep c 1 (e :: l) (overAll (e :: l) reload s)
  | [], _ :: _, _ => beginStep c 2 ((handOvers s c).map Prod.snd) s
  | [], [], e :: l =>
    let s := overAll (e :: l) (fun e s =>
      let s := (reload e s).put 0x5400 e 1 0xFF
      if e % 16 = 10 then raise 1560 (e / 16) 0 0 s else diagnosticDown e s) s
    beginStep c 5 (e :: l) s
  | [], [], [] => upgradeEnd c s

/-- An engine's reload has passed its self-test: it runs the new image. -/
def reloaded (e : Nat) (s : State) : State :=
  let slot := s.aux .upTarget
  (s.setAux .engImg e 0 slot).put 0x5400 e 7 (s.get 0x1300 slot 3)

/-- What the reload of step 1, 3 or 5 makes of an engine. -/
def reloadEnd (step e : Nat) (s : State) : State :=
  let s := reloaded e s
  match step with
  | 1 => spareFree e (s.put 0x5400 e 2 1)
  | 3 => s.put 0x5400 e 2 3
  | _ =>
    let s := (s.put 0x5400 e 2 0).put 0x5400 e 1 e
    if e % 16 = 10 then clear 1560 (e / 16) s else s

/-- The engines that a step reloads: spares in step 1, engines whose role a spare carries in step 3, slots 10 and 11 in step 5. -/
def inStep (step e : Nat) : Bool :=
  match step with
  | 1 => Objects.spareSlot e
  | 3 => !Objects.spareSlot e && !(roleSpares e).isEmpty
  | 5 => !Objects.spareSlot e && (roleSpares e).isEmpty
  | _ => false

/-- The engines that the running step reloads. -/
def reloading (s : State) (c : Nat) : List Nat :=
  (clusterEngines s c).filter fun e => s.get 0x5400 e 2 == 2 && !onTarget s e && inStep (s.aux .upStep) e

/-- A failed self-test stops the upgrade (R404): its engine is retired, the others stay on the new image, and the roles are
served. -/
def upgradeStop (c step e : Nat) (s : State) : State :=
  let s := overAll ((reloading s c).filter fun x => x != e) (reloadEnd step) s
  let s := raise 3076 e (s.get 0x5400 e 3) 0 ((s.put 0x5400 e 2 4).setAux .engImg e 0 3)
  let s := ((s.put 0x5500 0 4 0).setAux .upStep 0 0 0).setAux .upStop 0 0 (c + 1)
  raise 3083 c step e s

/-- The end of the running step: what it brings, and the next step. -/
def stepDone (c step : Nat) (s : State) : State :=
  match step with
  | 2 =>
    let s := overAll (handOvers s c) (fun p s => takeRole p.1 p.2 (s.put 0x5400 p.1 1 0xFF)) s
    let l := released s c
    beginStep c 3 l (overAll l reload s)
  | 3 =>
    let s := overAll (reloading s c) (reloadEnd 3) s
    beginStep c 4 (returning s c) s
  | 4 => nextStep c (overAll (returning s c) revert s)
  | n => nextStep c (overAll (reloading s c) (reloadEnd n) s)

/-- UPGRADE_STEP_END (R403, R404): the step's end condition is met, or an engine has failed its self-test. -/
def execUpgradeStepEnd (failed : Option Nat) (s : State) : Host.Outcome State Fault Refusal :=
  whenUp s fun s =>
    let step := s.aux .upStep
    let c := s.aux .upCluster - 1
    if step = 0 then s
    else match failed with
      | some e => if (reloading s c).contains e then flushKeys (upgradeStop c step e s) else s
      | none => flushKeys (stepDone c step s)

/-- The upgrade of a cluster towards a slot begins. -/
def beginUpgrade (c slot : Nat) (s : State) : State :=
  let s := ((s.setAux .upCluster 0 0 (c + 1)).setAux .upTarget 0 0 slot).setAux .upStop 0 0 0
  let s := overAll (List.range 14) (fun x s => clear 3083 x s) s
  nextStep c s

/-- A write of the cluster to upgrade (R403, R490). features are those that the new image lists. -/
def upgradeWrite (acc : Acc) (c : Nat) (features : List (Nat × Nat × Nat × Nat)) (s : State) : State :=
  writeValue acc 0x5500 0 2 c s fun s =>
    let slot := s.get 0x5500 0 1
    let level := s.get 0x1300 slot 3
    if !(clusters s).contains c then refuse 4 s
    else if s.aux .upStep ≠ 0 ∨ s.get 0x1301 0 1 = 2 ∨ ((clusterSpares s c).any fun e => carries s e || s.get 0x5400 e 2 == 4) = true
      then refuse 3 s
    else if s.get 0x1300 slot 2 ≠ 1 ∨ ((clusters s).any fun x => x != c && !levelFits (s.get 0x5510 x 1) level) = true
        ∨ ((List.range 64).any fun m => s.get 0x5590 m 1 != 0 && !levelFits (s.get 0x5590 m 1) level) = true then refuse 4 s
    else done (beginUpgrade c slot (listFeatures features (s.setAux .prevImg c 0 (s.get 0x5510 c 2))))

/-- UPGRADE_CLUSTER (R403). -/
def execUpgradeCluster (acc : Acc) (cluster : Nat) (features : List (Nat × Nat × Nat × Nat)) (s : State) :
    Host.Outcome State Fault Refusal :=
  whenUp s fun s => upgradeWrite acc cluster features s

/-- A write of the roll-back (R404): a stopped upgrade runs towards the cluster's previous image. -/
def rollBackWrite (acc : Acc) (v : Nat) (s : State) : State :=
  writeValue acc 0x5500 0 3 v s fun s =>
    if v = 0 then done s
    else if s.aux .upStep ≠ 0 ∨ s.aux .upStop = 0 then refuse 3 s
    else
      let c := s.aux .upStop - 1
      done (beginUpgrade c (s.aux .prevImg c) s)

/-- ROLL_BACK (R404). -/
def execRollBack (acc : Acc) (s : State) : Host.Outcome State Fault Refusal :=
  whenUp s fun s => rollBackWrite acc 1 s

end Sys2Proof.Machine
end

