-- ==== Sys2Proof/Machine/Upstream.lean ====
section
/-!
DEFINITION. Machine/Upstream.lean: the burst receiver, the XGEM delineator, demand, drift and the per-burst record, and
signal-strength measurement (spec/03 R94 to R107, R118; spec/04 R142, R143, R146; spec/05 R169, R190; spec/06 R217, R221).
-/
namespace Sys2Proof.Machine

/-! ## Demand (spec/05 R169, R190) -/

/-- Bytes granted to an allocation in the maps sealed after the one of frame M, its cooperative grants apart; a held map was not
sealed. -/
def grantedLater (s : State) (a m : Nat) : Nat :=
  let id := s.get 0x3400 a 3
  (s.sealedMaps ++ s.sentMaps).foldl (fun n g =>
    if g.tree = a / 1024 ∧ 0 < framesTo m g.frame ∧ s.aux .heldAt g.tree (64 * g.lane + g.frame % 64) ≠ g.frame + 1 then
      g.entries.foldl (fun n e => if e.alloc = id ∧ e.kind ≠ 0 ∧ e.kind ≠ 1 ∧ e.kind ≠ 5 then n + e.bytes else n) n else n) 0

/-- Bytes counted as unused, or as added on a report (R190). -/
def coopCount (c sub n : Nat) (s : State) : State :=
  if n = 0 then s
  else raisePair 1545 c (if sub = 0x0A then 0 else 1) n (s.bump 0x3700 c sub n)

/-- A cooperative binding's reconciliation at a report of v bytes (R190). -/
def reconcile (c a v : Nat) (s : State) : State :=
  let pend := s.aux .coopPend c
  if v = 0 then
    let n := coopWaiting s a
    let s : State := { s with staged := s.staged.map fun g =>
      if g.tree = a / 1024 ∧ g.lane = 0 then
        { g with entries := g.entries.filter fun e => !(e.kind == 5 && e.alloc == s.get 0x3400 a 3) } else g }
    coopCount c 0x0A n (s.setAux .coopPend c 0 (pend - n))
  else coopCount c 0x0B (v - pend) s

/-- The demand of an allocation that reports; a traffic-monitored one's does not follow reports (R169). -/
def setDemand (a v : Nat) (s : State) : State := if s.get 0x3400 a 5 = 1 then s else s.put 0x3400 a 0x0A v

/-- A DBRu value in bytes reaches the grant engine (R99, R169). -/
def report (a m v : Nat) (s : State) : State :=
  let s := (s.put 0x3400 a 0x0B v).setAux .noRep a 0 0
  match coopBinding s a with
  | none => setDemand a (v - grantedLater s a m) s
  | some c =>
    let pend := s.aux .coopPend c
    setDemand a (v - pend - grantedLater s a m) (reconcile c a v s)

/-- A "no report" (R96, R99, R169). -/
def noReport (a : Nat) (s : State) : State :=
  let k := s.aux .noRep a + 1
  let s := (s.bump 0x3400 a 0x0F).setAux .noRep a 0 k
  if 8 ≤ k then setDemand a 0 s else s

/-- The demand of a traffic-monitored allocation after a served frame (R169). -/
def monitored (granted idle : Nat) : Nat :=
  let u := granted - idle
  if 16 * idle < granted then u * 9 / 8 + 1536 else u

/-- A served grant of a traffic-monitored allocation: its demand follows all the grants of the frame (R169). -/
def monitor (a m granted idle : Nat) (s : State) : State :=
  let s := if s.aux .monFrame a = m + 1 then s else ((s.setAux .monFrame a 0 (m + 1)).setAux .monGrant a 0 0).setAux .monIdle a 0 0
  let s := (s.incAux .monGrant a 0 granted).incAux .monIdle a 0 idle
  if s.get 0x3400 a 5 = 1 ∧ 0 < s.aux .monGrant a then s.put 0x3400 a 0x0A (monitored (s.aux .monGrant a) (s.aux .monIdle a)) else s

/-- What the receiver found in one allocation of a burst that it delivered (R99, R107): the DBRu, idle XGEM frames and their
bytes, SDU bytes. -/
structure AllocSeen where
  dbru : Option Nat
  idle : Nat
  idleBytes : Nat
  sdu : Nat

/-- What the receiver tells the grant engine of one allocation of a burst that it delivered, or of one it did not (none). -/
def tellDemand (g : Grant) (m a : Nat) (x : Option AllocSeen) (s : State) : State :=
  let s := match g.kind, coopBinding s a with
    | 5, some c => s.setAux .coopPend c 0 (s.aux .coopPend c - g.bytes)
    | _, _ => s
  match x with
  | none => if g.dbru then noReport a s else s
  | some x =>
    let idle := min x.idleBytes g.bytes
    let n := 512 * (a / 1024) + g.onu
    let s := if measureDropped s n (laneOf s n) m then s
      else (s.incAux .adUsed a 0 (g.bytes - idle)).incAux .adGranted a 0 g.bytes
    let s := match g.kind, coopBinding s a with
      | 5, some c => coopCount c 0x0A idle s
      | _, _ => s
    let s := monitor a m g.bytes idle s
    if g.dbru then (match x.dbru with
      | some v => report a m v s
      | none => noReport a s) else s

/-! ## The burst as decoded (R97 to R100) -/

/-- What a burst's frames share: tree, lane and frame; the grant of the allocation and its instance; the burst's sequence number,
arrival time and grant start; whether its profile has FEC; the burst; and where the allocation's payload lies in its body. -/
structure BurstOf where
  tree : Nat
  lane : Nat
  frame : Nat
  grant : Grant
  alloc : Nat
  seq : Nat
  arrive : Ns
  start : Nat
  fec : Bool
  burst : BurstIn
  base : Nat
  len : Nat

/-- The bytes that a codeword of a lane's upstream FEC carries (spec/05 R163). -/
def codewordBytes (l : Nat) : Nat := if l = 0 then 1824 else 232

/-- Some of the bytes from a place in the body on lie in an uncorrectable codeword (R97): the FS burst header is 4 bytes. -/
def flagged (l : Nat) (fec : Bool) (b : BurstIn) (at' len : Nat) : Bool :=
  fec && b.bad.any fun c => c * codewordBytes l < 4 + at' + len && 4 + at' < (c + 1) * codewordBytes l

/-- The FS burst header is right (R98): its HEC, its bytes, and the ONU-ID of the grant. -/
def headerRight (onu : Nat) (fec : Bool) (b : BurstIn) : Bool :=
  !(fec && b.bad.contains 0) && b.header == some onu

/-- The bytes of a burst's body from a place on; what the line did not bring is zero. -/
def bodyBytes (b : BurstIn) (at' len : Nat) : List Nat := (List.range len).map fun i => b.body.getD (at' + i) 0

/-- An XGEM header in an allocation's payload (R100): its place there, its 64 bits after correction, and whether it was free of
errors. -/
structure XHead where
  place : Nat
  bits : Nat
  clean : Bool

/-- The fields of an XGEM header (spec/02 R63). -/
def XHead.pli (h : XHead) : Nat := field 63 50 h.bits
def XHead.keyIndex (h : XHead) : Nat := field 49 48 h.bits
def XHead.port (h : XHead) : Nat := field 47 32 h.bits
def XHead.last (h : XHead) : Bool := bit 13 h.bits

/-- An idle XGEM frame: the port ID that the standard keeps for it (log entry 117). -/
def XHead.idle (h : XHead) : Bool := h.port == 0xFFFF

/-- The header at a place of the payload, none when its HEC fails or a byte of it is flagged. -/
def headAt (b : BurstOf) (at' : Nat) : Option XHead :=
  if flagged b.lane b.fec b.burst (b.base + at') 8 then none
  else (b.burst.heads.find? fun x => x.1 == b.base + at').map fun x =>
    let v := ofBytes (bodyBytes b.burst (b.base + at') 8)
    match x.2 with
    | none => ⟨at', v, true⟩
    | some i => ⟨at', Nat.xor v (2 ^ (i % 64)), false⟩

/-- The downstream frame of number M was in double-stroke mode (spec/07 R240). -/
def strokeIn (s : State) (t l m : Nat) : Bool :=
  if l = 0 ∧ s.aux .modeAt t ≠ 0 ∧ 0 < framesTo m (s.aux .modeAt t - 1) then s.aux .oldStroke t == 1 else doubleStroke s t l

/-- A GCM tag follows the frame's payload (spec/02 R63). -/
def hasTag (s : State) (b : BurstOf) (h : XHead) : Bool :=
  strokeIn s b.tree b.lane b.frame && (h.keyIndex == 1 || h.keyIndex == 2)

/-- The bytes of a frame: header, padded payload, tag. -/
def frameSize (s : State) (b : BurstOf) (h : XHead) : Nat := 8 + padded h.pli + (if hasTag s b h then 16 else 0)

/-- A frame lies inside its payload. -/
def fits (s : State) (b : BurstOf) (h : XHead) : Bool := h.place + frameSize s b h ≤ b.len

/-! ## Frame checks (R101, R102) -/

/-- The descriptor of a record (spec/03's descriptor word). -/
def descriptor (s : State) (b : BurstOf) (h : XHead) (len : Nat) (rebuilt stroke : Bool) : Reg :=
  let rate := if b.lane = 1 then 3 else s.get 0x2005 (1024 * b.tree + b.grant.profile) 1
  let cipher := if h.keyIndex = 0 then 0 else if stroke then 2 else 1
  h.port * 2 ^ 240 + b.grant.alloc % 2 ^ 14 * 2 ^ 226 + b.grant.onu % 2 ^ 10 * 2 ^ 216 + b.lane % 2 * 2 ^ 215
    + (if rebuilt then 2 ^ 214 else 0) + len % 2 ^ 14 * 2 ^ 200 + h.keyIndex * 2 ^ 198 + b.grant.profile % 4 * 2 ^ 196 + rate % 4 * 2 ^ 194
    + cipher * 2 ^ 192 + stamp64 b.arrive * 2 ^ 128 + b.seq % 2 ^ 32 * 2 ^ 96 + b.frame % 2 ^ 32 * 2 ^ 64

/-- A whole SDU goes to the commit FIFO, or to the coexistence staging buffer (R102, R108, R109). DESIGN CHOICE (log entry 120): on
the coexistence lane a reassembled SDU is staged as well. -/
def deliverSdu (b : BurstOf) (h : XHead) (f : Nat) (bytes : List Nat) (rebuilt : Bool) (s : State) : State :=
  if s.get 0x2008 b.tree 8 < bytes.length then overflow b.tree s
  else
    let head := descriptor s b h bytes.length rebuilt (strokeIn s b.tree b.lane b.frame)
    let r : Record := ⟨b.tree, 0, 0, recordWords bytes.length, 0, false, head, bytes, f, b.grant.onu⟩
    if b.lane = 1 then stageRecord r s else commitRecord r s

/-- The flow of an XGEM port, provided that it is provisioned for the granted terminal (R101 check 3). -/
def burstFlow (s : State) (b : BurstOf) (xgem : Nat) : Option Nat :=
  match flowOfPort s b.tree xgem with
  | some f => match flowTerminal s f with
    | some n => if n % 512 = b.grant.onu ∧ (n / 512 = b.tree ∨ localPartner s b.tree = some (n / 512)) then some f else none
    | none => none
  | none => none

/-- A frame is rewound (R101, R102): counted, and an SDU that it belongs to is discarded. -/
def rewindHead (b : BurstOf) (h : XHead) (s : State) : State :=
  let s := s.bump 0x2007 b.tree 6
  if !h.idle && ((openSdu s b.tree b.alloc h.port).isSome || !h.last) then
    rewindSdu b.tree b.alloc h.port ((burstFlow s b h.port).getD 131072) b.grant.onu h.last s
  else s

/-- A main-lane frame that is an SDU of its own needs room in the commit FIFO at its header, from PLI (R112): false when it is
dropped there. -/
def headerRoom (b : BurstOf) (h : XHead) (s : State) : Bool × State :=
  if b.lane = 0 ∧ h.last = true ∧ (openSdu s b.tree b.alloc h.port).isNone = true then roomAt b.tree h.pli s else (true, s)

/-- A frame that the delineator passes on meets checks 2 to 4 of R101, and is committed, reassembled or rewound: whether it passes.
A frame of an unknown flow counts in both counters that name it (log entry 121). -/
def checkFrame (b : BurstOf) (h : XHead) (s : State) : Bool × State :=
  let t := b.tree
  let at' := b.base + h.place
  let data := bodyBytes b.burst (at' + 8) (padded h.pli)
  if flagged b.lane b.fec b.burst at' (frameSize s b h) then (false, rewindHead b h s)
  else match burstFlow s b h.port with
    | none => (false, rewindHead b h (s.bump 0x2007 t 7))
    | some f =>
      let n := (flowTerminal s f).getD (512 * t + b.grant.onu)
      let tag := ofBytes (bodyBytes b.burst (at' + 8 + padded h.pli) 16)
      match cipherUp (n / 512) n f (strokeIn s t b.lane b.frame) ⟨h.keyIndex, bytesOf 8 h.bits, data, tag, b.frame, b.start, at'⟩ s with
      | (none, s) => (false, rewindHead b h s)
      | (some plain, s) =>
        let bytes := plain.take h.pli
        (true, if !h.last then addFragment t b.alloc h.port f b.grant.onu bytes s
          else match openSdu s t b.alloc h.port with
            | some o =>
              let s := closeSdu t b.alloc h.port s
              if o.dropped then s else deliverSdu b h f (o.bytes ++ bytes) true s
            | none => deliverSdu b h f bytes false s)

/-! ## Delineation (R100) -/

/-- What the delineator has done in a payload so far. -/
structure Delin where
  state : State
  idle : Nat
  idleBytes : Nat
  sdu : Nat

/-- A frame in SYNC: an idle one is counted, any other meets the room test and the checks. -/
def passOn (b : BurstOf) (d : Delin) (h : XHead) : Delin :=
  let s := if h.clean then d.state else d.state.bump 0x2007 b.tree 0x0C
  if h.idle then ⟨s, d.idle + 1, d.idleBytes + frameSize s b h, d.sdu⟩
  else
    let (room, s) := headerRoom b h s
    if !room then { d with state := s }
    else
      let (ok, s) := checkFrame b h s
      { d with state := s, sdu := d.sdu + (if ok then h.pli else 0) }

/-- The delineator over one allocation payload (R100): st is its state (0 SYNC, 1 HUNT, 2 PRESYNC1, 3 PRESYNC2), at' the place it
looks at, held the frames that wait in PRESYNC. The bytes that the hunt steps over are the ones that it loses (log entry 116). -/
def delineate (b : BurstOf) : Nat → Nat → Nat → List XHead → Delin → Delin
  | 0, _, _, _, d => d
  | n + 1, st, at', held, d =>
    let t := b.tree
    let s := d.state
    if b.len < at' + 8 then
      let s := overAll held (rewindHead b) s
      { d with state := if st = 1 then s.bump 0x2007 t 9 (b.len - at') else s }
    else
      let found := headAt b at'
      let good := found.filter fun h => h.clean && fits s b h
      let hunt := fun (from' : Nat) (s : State) => delineate b n 1 (from' + 4) [] { d with state := (s.bump 0x2007 t 8).bump 0x2007 t 9 4 }
      match st with
      | 0 => match found with
        | none => hunt at' (s.bump 0x2007 t 6)
        | some h => if fits s b h then delineate b n 0 (at' + frameSize s b h) [] (passOn b d h) else hunt at' (rewindHead b h s)
      | 1 => match good with
        | none => delineate b n 1 (at' + 4) [] { d with state := s.bump 0x2007 t 9 4 }
        | some h => delineate b n 2 (at' + frameSize s b h) [h] d
      | 2 => match good with
        | none => hunt (held.headD ⟨0, 0, true⟩).place (overAll held (rewindHead b) s)
        | some h => delineate b n 3 (at' + frameSize s b h) (held ++ [h]) d
      | _ => match good with
        | none => hunt (held.headD ⟨0, 0, true⟩).place (overAll held (rewindHead b) s)
        | some h => delineate b n 0 (at' + frameSize s b h) [] ((held ++ [h]).foldl (passOn b) d)

/-- The delineator's run over a whole payload: every place is the start of a hunt at most once. -/
def delineatePayload (b : BurstOf) (s : State) : Delin := delineate b (4 * (b.len / 4 + 2)) 0 0 [] ⟨s, 0, 0, 0⟩

/-! ## Drift (spec/04 R142, R143; spec/05 R192) -/

/-- The phase of a found burst counts towards a drift run: none of a post-switch map, none while a correction waits, a
muffling sequence runs on the lane, or the adaptation engine is down (spec/11 R385). -/
def driftCounts (s : State) (t l m n : Nat) : Bool :=
  let h := s.aux .driftHold n
  termState s n == 3 && adaptUp s t && !(l == 0 && (postSwitch s t m || muffling s t))
    && (h == 0 || (h != 2 ^ 53 - 1 && 0 ≤ framesTo (h - 1) m))

/-- The run has reached its length (R143). -/
def driftDone (n : Nat) (len : Nat) (sum : Int) (s : State) : State :=
  let t := n / 512
  let s := (s.setAux .driftLen n 0 0).setAux .driftSum n 0 0
  let c := laneCorrection (laneOf s n) (roundDiv sum len)
  if c = 0 then s
  else
    let old := s.get 0x3000 n 6
    match correctDelay n c s with
    | some s => raise 1033 n old (s.get 0x3000 n 6) (s.bump 0x3101 t 7)
    | none => driftOut n c s

/-- A found burst's phase extends, restarts or clears the terminal's run (R142). -/
def driftRun (t l m n : Nat) (phase : Int) (s : State) : State :=
  if !driftCounts s t l m n then s
  else
    let s := s.setAux .driftHold n 0 0
    let len := s.aux .driftLen n
    let sum := toInt 64 (s.aux .driftSum n)
    if phase.natAbs < s.get 0x3100 t 0x18 then (s.setAux .driftLen n 0 0).setAux .driftSum n 0 0
    else
      let same := len != 0 && ((0 < phase) == (0 < sum))
      let len := if same then len + 1 else 1
      let sum := if same then sum + phase else phase
      if s.get 0x3100 t 0x19 ≤ len then driftDone n len sum s
      else (s.setAux .driftLen n 0 len).setAux .driftSum n 0 (ofInt 64 sum)

/-! ## Loss (spec/04 R146, R154) -/

/-- The frame does not count towards the loss rule. -/
def lossExempt (s : State) (t l m : Nat) : Bool :=
  s.aux .resumeLeft t == 1 || (l == 0 && (muffling s t
    || (s.aux .lossHold t != 0 && 0 < framesTo m (s.aux .lossHold t - 1))))

/-- A missing burst of a terminal: the frame counts once, unless a burst of it was found in the frame. -/
def countMissing (t l m n : Nat) (s : State) : State :=
  if lossExempt s t l m ∨ s.aux .lastPhaseAt n = m + 1 ∨ s.aux .lossAt n = m + 1 then s
  else (s.setAux .lossAt n 0 (m + 1)).incAux .lossRun n

/-! ## Signal strength (R52, R106) -/

/-- The measurement ends with a value, 0xFFFF on failure; a module that reads 0xFFFF is taken as failed (log entry 122). -/
def measured106 (t value : Nat) (s : State) : State :=
  let s := (s.put 0x200A t 2 value).put 0x200A t 4 (if value = 0xFFFF then 3 else 1)
  raise 22 t (s.aux .sigOnu t) value (s.setAux .sigTrig t 0 0)

/-- The trigger inside the first qualifying granted burst of the chosen terminal (R52, R106); the arrival time of a burst that is
found is kept. -/
def trigger (t m : Nat) (g : Grant) (arrive : Option Ns) (s : State) : State :=
  let guard := huntGuard s t 0 m
  let delay := 32 * s.get 0x5E80 t 5
  let width := 32 * s.get 0x5E80 t 6
  let opens : Int := (g.opens : Int) - guard
  if s.get 0x200A t 4 = 2 ∧ s.aux .sigTrig t = 0 ∧ s.aux .sigOnu t = g.onu ∧ 2 ≤ framesTo (s.aux .sigFrame t) (frameAdd m (-1))
      ∧ delay + width ≤ g.closes - g.opens + 2 * guard then
    let s := match arrive with
      | some x => s.put 0x200A t 3 (time80 x)
      | none => s
    sendPin t 3 m (opens + delay) (opens + delay + width) (s.setAux .sigTrig t 0 (s.now + 1))
  else s

/-- A write of the signal-strength request (R106). -/
def signalWrite (acc : Acc) (t v : Nat) (s : State) : State :=
  writeValue acc 0x200A t 1 v s fun s =>
    if s.get 0x200A t 4 = 2 then refuse 3 s
    else if 512 ≤ v ∨ termState s (512 * t + v) ≠ 3 ∨ laneOf s (512 * t + v) ≠ 0 then refuse 4 s
    else done ((((s.put 0x200A t 4 2).setAux .sigOnu t 0 v).setAux .sigFrame t 0 (frameNow s t)).setAux .sigTrig t 0 0)

/-- SIGNAL_STRENGTH_REQUEST (R106). -/
def execSignalStrengthRequest (acc : Acc) (tree onu : Nat) (s : State) : Host.Outcome State Fault Refusal :=
  whenUp s fun s => signalWrite acc tree onu s

/-- SIGNAL_STRENGTH_READ (R106): what the module answers 200 µs after the trigger's end; none when it does not. -/
def execSignalStrengthRead (tree : Nat) (power : Option Nat) (s : State) : Host.Outcome State Fault Refusal :=
  whenUp s fun s =>
    if s.get 0x200A tree 4 = 2 ∧ s.aux .sigTrig tree ≠ 0 then
      let std := s.get 0x5E10 tree 2
      measured106 tree (match power with
        | some v => if std = 0 ∨ std = 3 then 0xFFFF else v % 2 ^ 16
        | none => 0xFFFF) s
    else s

/-- SIGNAL_STRENGTH_TIMEOUT (R106): no qualifying burst within 1 s of the request. -/
def execSignalStrengthTimeout (tree : Nat) (s : State) : Host.Outcome State Fault Refusal :=
  whenUp s fun s => if s.get 0x200A tree 4 = 2 ∧ s.aux .sigTrig tree = 0 then measured106 tree 0xFFFF s else s

/-! ## Bursts (R94 to R99, R107) -/

/-- The entries of the burst that a map of frame M grants at a grant start. -/
def burstEntries (s : State) (t l m start : Nat) : List Grant :=
  let es := (if l = 0 then [0, 2] else [1]).flatMap fun x => ((mapOf s.sentMaps t x m).map fun g => g.entries).getD []
  match es.dropWhile fun e => !(e.kind != 0 && e.kind != 1 && !e.joined && e.start == start) with
  | [] => []
  | e :: r => e :: r.takeWhile fun g => g.joined

/-- The per-terminal object of a burst. -/
def burstObj (t k : Nat) : Nat := 1024 * t + k

/-- The hunt's reach in bits at 49.7664 Gb/s (R94, R108). -/
def huntReach (s : State) (t l m : Nat) : Nat := if l = 1 then 20 else huntGuard s t 0 m

/-- The accepted position of the delimiter (R95): within the tolerance, the fewest differing bits, then the nearest to E, then the
earlier. -/
def acceptHit (reach tolerance : Nat) (hits : List DelimIn) : Option DelimIn :=
  (sortBy (fun a b => a.errors < b.errors || (a.errors == b.errors && (a.pos.natAbs < b.pos.natAbs
    || (a.pos.natAbs == b.pos.natAbs && a.pos ≤ b.pos))))
    (hits.filter fun x => x.pos.natAbs ≤ reach && x.errors ≤ tolerance)).head?

/-- The accepted delimiter of a burst granted with a profile. -/
def foundAt (s : State) (t l m profile : Nat) (b : BurstIn) : Option DelimIn :=
  acceptHit (huntReach s t l m) (s.get (profileIndex l) (1024 * t + profile) 6) b.hits

/-- The payload P of a burst (spec/05 R163). -/
def burstBytes (es : List Grant) : Nat := es.foldl (fun x e => x + e.bytes + (if e.dbru then 4 else 0)) 8

/-- Codewords of a burst. -/
def codewords (l : Nat) (fec : Bool) (es : List Grant) : Nat := if fec then ceilDiv (burstBytes es) (codewordBytes l) else 0

/-- The part of the per-burst record that both engines get (R107): tree, sequence number, ONU-ID, profile, lane, and the flags
missing, header error, light without delimiter. -/
def recordHead (s : State) (t l : Nat) (g : Grant) (missing bad light : Bool) : List Reg :=
  [t, s.aux .burstSeq t, g.onu, g.profile, l, if missing then 1 else 0, if bad then 1 else 0, if light then 1 else 0]

/-- An allocation's part of the record to the grant engine: Alloc-ID, 0 no DBRu asked for, 1 a value, 2 "no report", the value,
idle XGEM frames, SDU bytes. -/
def allocRecord (g : Grant) (x : Option AllocSeen) : List Reg :=
  let v := x.bind fun x => x.dbru
  [g.alloc, if g.dbru then (if v.isSome then 1 else 2) else 0, v.getD 0, (x.map fun x => x.idle).getD 0, (x.map fun x => x.sdu).getD 0]

/-- The per-burst record is sent to the grant engine, and to the adaptation engine (R107). seen is what each allocation brought;
phase, time and counts are those of a burst that was found. -/
def sendRecord (head : List Reg) (seen : List (Grant × Option AllocSeen)) (counts : List Reg) (s : State) : State :=
  let s := s.send .burstRecord ([0] ++ head ++ seen.flatMap fun x => allocRecord x.1 x.2)
  s.send .burstRecord ([1] ++ head ++ counts ++ seen.flatMap fun x =>
    [x.1.alloc, (x.2.map fun y => y.idle).getD 0, (x.2.map fun y => y.sdu).getD 0])

/-- A missing burst (R96, R107): every allocation of it goes to the grant engine as "no report". -/
def burstMissing (t l m : Nat) (es : List Grant) (g : Grant) (light : Bool) (s : State) : State :=
  let k := g.onu
  let s := (s.bump 0x2007 t 3).bump 0x2010 (burstObj t k) 2
  let s := if light then
      let s : State := { s with noDelims := s.noDelims ++ [⟨t, m, k⟩] }
      s.bump 0x2009 t 4
    else s
  let s := sendRecord (recordHead s t l g true false light) (es.map fun e => ({ e with dbru := true }, none)) [] s
  let s := overAll es (fun g s => match allocOf s t g.alloc with
    | some a => tellDemand { g with dbru := true } m a none s
    | none => s) s
  countMissing t l m (512 * t + k) s

/-- What the per-burst record gives the adaptation engine (R107; spec/06 R216, R221, R222). -/
def burstStats (t l m n : Nat) (g : Grant) (payload : Nat) (fec : Bool) (errors : Nat) (b : BurstIn) (bad : Bool) (s : State) : State :=
  if measureDropped s n l m then s else
  let s := s.incAux .adBits n 0 (if fec then codedBits s t l g.profile payload else s.get (profileIndex l) (1024 * t + g.profile) 4)
  let s := s.incAux .adErr n 0 (if fec then b.corrected else errors)
  let s := s.incAux .adUnc n 0 (if fec then b.bad.length else 0)
  if bad then s.incAux .adHdr n else s

/-- The allocations of a burst whose header is right, in turn (R99, R100): off is where the next one starts in the body. -/
def takeAllocs (mk : Grant → Nat → Nat → BurstOf) (m : Nat) (fec : Bool) :
    List Grant → Nat → State → List (Grant × Option AllocSeen) × State
  | [], _, s => ([], s)
  | e :: l, off, s =>
    let base := if e.dbru then off + 4 else off
    let b := mk e 0 0
    match allocOf s b.tree e.alloc with
    | none =>
      let (r, s) := takeAllocs mk m fec l (base + e.bytes) s
      ((e, none) :: r, s)
    | some a =>
      let value := if flagged b.lane fec b.burst off 4 then none else (b.burst.dbrus.find? fun x => x.1 == off).map fun x => x.2
      let d := delineatePayload { mk e base e.bytes with alloc := a } s
      let seen : AllocSeen := ⟨if e.dbru then value else none, d.idle, d.idleBytes, d.sdu⟩
      let (r, s) := takeAllocs mk m fec l (base + e.bytes) (tellDemand e m a (some seen) d.state)
      ((e, some seen) :: r, s)

/-- A found burst (R95, R97 to R101, R107). -/
def burstFound (t l m start : Nat) (es : List Grant) (g : Grant) (hit : DelimIn) (b : BurstIn) (s : State) : State :=
  let k := g.onu
  let n := 512 * t + k
  let o := burstObj t k
  let fec := s.get (profileIndex l) (1024 * t + g.profile) 7 == 1
  let at' := mainBits l start
  let arrive := (upstreamAt s t m (at' - 1 + hit.pos)).toNat
  let s := clear 16 t (((s.bump 0x2007 t 2).bump 0x2010 o 1).incAux .found t (m % 16))
  let s := (s.put 0x2010 o 3 (ofInt 32 hit.pos)).bump 0x2010 o 4 hit.errors
  let s := if fec then (s.bump 0x2010 o 5 b.corrected).bump 0x2010 o 6 b.bad.length else s
  let s := ((s.setAux .lossRun n 0 0).setAux .lossAt n 0 0).setAux .lastPhaseAt n 0 (m + 1)
  let s := if l = 0 ∧ s.aux .postAt t = m + 1 then
      (s.setAux .arrSum t 0 (ofInt 64 (toInt 64 (s.aux .arrSum t) + hit.pos))).incAux .arrCount t
    else s
  let s := if l = 0 then trigger t m g (some arrive) s else s
  let bad := !headerRight k fec b
  let s := burstStats t l m n g (burstBytes es) fec hit.errors b bad s
  let (seen, s) := if bad then
      (es.map fun e => (e, none), overAll es (fun e s => match allocOf s t e.alloc with
        | some a => tellDemand e m a none s
        | none => s) ((s.bump 0x2007 t 4).bump 0x2010 o 7))
    else takeAllocs (fun e base len => ⟨t, l, m, e, 0, s.aux .burstSeq t, arrive, at'.toNat, fec, b, base, len⟩) m fec es 0
      (if b.trailerOk then s else s.incAux .trailerBad t)
  let s := sendRecord (recordHead s t l g false bad false) seen [ofInt 32 hit.pos, time80 arrive, hit.errors, codewords l fec es,
    if fec then b.corrected else 0, if fec then b.bad.length else 0] s
  driftRun t l m n hit.pos s

/-- What a standby port hears of a burst (R83; spec/03 R116): the accepted delimiter, at the tolerance of the profile that the
mirror holds for the terminal that its header names; its position counts from the working port's arrival, so no window binds it
(log entry 118). -/
def standbyHit (s : State) (t : Nat) (b : BurstIn) : Option DelimIn :=
  let profile := s.get 0x3900 (512 * t + b.header.getD 0 % 512) 1
  (sortBy (fun a b => a.errors ≤ b.errors) (b.hits.filter fun x => x.errors ≤ s.get 0x2005 (1024 * t + profile) 6)).head?

/-- The widened window of a granted burst ends (R94, R96, R107): on the working port the burst is decoded or missing; a standby
port only measures its skew, on the main lane (R83, R116). light is the mean amplitude in the window. -/
def receiveBurst (t l m start : Nat) (burst : BurstIn) (light : Nat) (s : State) : State :=
  if laneState s t l = 5 then
    match standbyHit s t burst with
    | some x => if l = 0 then { s with skews := s.skews ++ [⟨t, s.now, x.pos⟩] } else s
    | none => s
  else if s.aux .upLane t l = 0 ∨ s.aux .upClosed t l = 1 then s
  else match burstEntries s t l m start with
    | [] => s
    | g :: r =>
      let es := g :: r
      let s := (s.bump 0x2007 t 1).setAux .burstSeq t 0 (wrapAdd 32 (s.aux .burstSeq t) 1)
      match foundAt s t l m g.profile burst with
      | some x => burstFound t l m start es g x burst s
      | none => burstMissing t l m es g (l = 0 && s.get 0x2009 t 1 < light) (if l = 0 then trigger t m g none s else s)

/-- A tree port's copy of a key slot read with poison (spec/07 R239). -/
def copyPoison (p : Poison) (s : State) : State :=
  match p with
  | .slotCopy k => s.setAux .keyPoison k 0 1
  | _ => s

/-- BURST_RECEIVE (R94): the granted burst of upstream frame M at a grant start; light is the mean amplitude of its window in mV. -/
def execBurstReceive (tree frame start : Nat) (burst : BurstIn) (light : Nat) (writes : List MemWrite) (poison : List Poison)
    (s : State) : Host.Outcome State Fault Refusal :=
  whenUp s fun s =>
    if s.treeUp tree = false then s
    else receiveBurst tree 0 frame start burst light (overAll poison copyPoison (writeWords writes s))

/-- COEX_BURST_RECEIVE (R108). The energy detector does not see this lane. -/
def execCoexBurstReceive (tree frame start : Nat) (burst : BurstIn) (poison : List Poison) (s : State) :
    Host.Outcome State Fault Refusal :=
  whenUp s fun s =>
    if s.treeUp tree = false then s else receiveBurst tree 1 frame start burst 0 (overAll poison copyPoison s)

/-- A write of a terminal's burst clear (R118). -/
def burstClearWrite (acc : Acc) (o v : Nat) (s : State) : State :=
  writeValue acc 0x2010 o 8 v s fun s =>
    done (if v = 0 then s else overAll [1, 2, 3, 4, 5, 6, 7] (fun sub s => s.put 0x2010 o sub 0) s)

/-- TERMINAL_BURST_STATS_CLEAR (R118). -/
def execTerminalBurstStatsClear (acc : Acc) (tree onu : Nat) (s : State) : Host.Outcome State Fault Refusal :=
  whenUp s fun s => burstClearWrite acc (burstObj tree onu) 1 s

end Sys2Proof.Machine
end

