-- ==== Sys2Proof/Machine/Dictionary.lean ====
section
/-!
DEFINITION. Machine/Dictionary.lean: one access to one subindex of one instance, as a request names it: the object behind
the address, the rule of a write, and what a read shows (spec/00 R18 to R21; spec/14 R449 to R452).
-/
namespace Sys2Proof.Machine

/-! ## Writes -/

/-- A write of an object without a rule of its own. -/
def plain (acc : Acc) (i n sub : Nat) (v : Reg) (s : State) : State := writeValue acc i n sub v s (store i n sub v)

/-- A write of a channel's enable (R468): an enabled channel starts with empty rings; a drain with nothing in flight is over at
once (spec/11 R394). -/
def dmaEnable (acc : Acc) (h v : Nat) (s : State) : State :=
  writeValue acc 0x1150 h 1 v s fun s =>
    let target := fun (new : Nat) (s : State) => raise 3991 h (s.get 0x1150 h 2) new (s.put 0x1150 h 2 new)
    match v, s.get 0x1150 h 2 with
    | 1, 0 =>
      let s := ((s.put 0x1150 h 9 0).setAux .dmaProd h 0 0).setAux .dmaRx h 0 0
      done (target (if frozen s (256 + h) then 3 else 2) s)
    | 1, 1 => refuse 3 s
    | 0, 2 | 0, 3 => done (target (if s.aux .dmaBusy h = 0 then 0 else 1) s)
    | _, _ => done s

/-- A write of a flow's object (spec/08 R269, R298; spec/12 R413): one that would map the flow to queues of another owner, which its
tree and its domain help to choose, is refused; else an entry lost to an error is whole again. -/
def flowWrite (acc : Acc) (f sub : Nat) (v : Reg) (s : State) : State :=
  writeValue acc 0x4800 f sub v s fun s =>
    if (sub = 1 ∨ sub = 4) ∧ flowMapFault (s.put 0x4800 f sub v) f = 2 then refuseBinding acc 0x4800 sub s
    else rewritten 0x4800 f (store 0x4800 f sub v s)

/-- A write of an allocation's Alloc-ID, kind or reporting: a Type-B standby learns it (spec/04 R121), and the contract on record
must meet a new kind (spec/06 R208). -/
def allocFieldWrite (acc : Acc) (a sub : Nat) (v : Reg) (s : State) : State :=
  writeValue acc 0x3400 a sub v s fun s =>
    let s' := s.put 0x3400 a sub v
    if sub = 4 ∧ contractFits s' a = false then refuse 4 s else done (mirrorAlloc a s')

/-- A write of the calibration set's data (spec/15 R500): the set waits for its commit. -/
def calDataWrite (acc : Acc) (v : Reg) (s : State) : State :=
  writeValue acc 0x1400 0 1 v s fun s => done (s.setAux .calStaged 0 0 v)

/-- Writes of the identity, ROL, event, firmware and calibration objects. -/
def writeLow (acc : Acc) (i n sub : Nat) (v : Reg) (x : WriteIn) (s : State) : State :=
  match i, sub with
  | 0x1010, 2 => attestWrite acc v s
  | 0x1041, 5 => railClear acc n v s
  | 0x1110, 3 | 0x1110, 4 => principalWrite acc n sub v s
  | 0x1112, 1 => vendorWrite acc v s
  | 0x1120, 7 => sessionCloseWrite acc n v s
  | 0x1130, 1 => slotBind acc i n sub v s
  | 0x1150, 1 => dmaEnable acc n v s
  | 0x1200, 1 => maskWrite acc n v s
  | 0x1210, 8 => ringEnable acc v s
  | 0x1300, 1 => imageWrite acc n { x.image with header := bytesOf 512 (v / 2 ^ (8 * (3146240 - 512))) } s
  | 0x1320, 2 => keyHashWrite acc v s
  | 0x1320, 4 => rollbackWrite acc v s
  | 0x1400, 1 => calDataWrite acc v s
  | 0x1400, 2 => calCommitWrite acc v s
  | _, _ => plain acc i n sub v s

/-- Writes of the tree ports' objects. -/
def writeTree (acc : Acc) (i n sub : Nat) (v : Reg) (x : WriteIn) (s : State) : State :=
  match i, sub with
  | 0x2000, 2 => laneEnableWrite acc n 0 v s
  | 0x2002, 2 => laneEnableWrite acc n 1 v s
  | 0x2001, 3 | 0x2001, 4 | 0x2001, 5 | 0x2001, 6 => modeParamWrite acc n sub v s
  | 0x2001, 7 => switchWrite acc n v s
  | 0x2003, 3 => protectionWrite acc n v x.far s
  | 0x2003, 7 => manualWrite acc n v x.took s
  | 0x2005, _ | 0x2006, _ => flamSettingWrite acc i n sub v s
  | 0x200A, 1 => signalWrite acc n v s
  | 0x2010, 8 => burstClearWrite acc n v s
  | _, _ => plain acc i n sub v s

/-- Writes of the terminals', allocations', grants' and policy's objects. -/
def writeAccess (acc : Acc) (i n sub : Nat) (v : Reg) (s : State) : State :=
  match i, sub with
  | 0x3000, 1 => terminalWrite acc n v s
  | 0x3000, 0x0B => deactivateWrite acc n v s
  | 0x3000, 0x0C => releaseMuffleWrite acc n v s
  | 0x3100, 2 | 0x3100, 3 | 0x3100, 4 | 0x3100, 5 | 0x3100, 6 | 0x3100, 7 | 0x3100, 8 | 0x3100, 0x0A | 0x3100, 0x0F =>
    distanceWrite acc n sub v s
  | 0x3100, 0x0E => discoverWrite acc n v s
  | 0x3200, 1 => mufflingEnableWrite acc n v s
  | 0x3200, 9 => mufflingStartWrite acc n v s
  | 0x3200, 0x0A => mufflingAbortWrite acc n v s
  | 0x3400, 1 => allocationWrite acc n v s
  | 0x3400, 2 | 0x3700, 3 => bindingWrite acc i n sub v s
  | 0x3400, 3 | 0x3400, 4 | 0x3400, 5 => allocFieldWrite acc n sub v s
  | 0x3400, 7 | 0x3400, 8 | 0x3600, 5 | 0x3600, 6 => flamSettingWrite acc i n sub v s
  | 0x3700, 1 => coopEnableWrite acc n v s
  | 0x3800, 1 => ownershipWrite acc n v s
  | 0x3820, _ | 0x3A00, 1 | 0x3A00, 2 | 0x3A00, 3 => shareWrite acc i n sub v s
  | 0x3880, 1 | 0x3880, 2 => shareWrite acc i n sub v s
  | 0x3810, 2 | 0x3810, 3 | 0x3880, 4 => tenantWeightWrite acc i n sub v s
  | 0x3A00, 4 | 0x3A00, 5 | 0x3A00, 6 => weightWrite acc n sub v s
  | 0x3900, 1 => currentProfileWrite acc n v s
  | 0x3900, 2 => allowedWrite acc n v s
  | _, _ => plain acc i n sub v s

/-- Writes of the keys', forwarding's, buffers' and queues' objects. -/
def writeTraffic (acc : Acc) (i n sub : Nat) (v : Reg) (s : State) : State :=
  match i, sub with
  | 0x4000, 1 | 0x4000, 3 => slotConfigWrite acc n sub v s
  | 0x4000, 8 | 0x4000, 9 => limitWrite acc n sub v s
  | 0x4000, 0x0B => keyEraseWrite acc n v s
  | 0x4100, 1 | 0x4100, 2 | 0x4200, 1 | 0x4200, 2 | 0x4200, 3 => slotBind acc i n sub v s
  | 0x4200, 7 => rekeyWrite acc n v s
  | 0x4300, _ => flowCipherWrite acc n sub v s
  | 0x4380, 1 => ringEnableWrite acc n v s
  | 0x4400, _ => ruleWrite acc n sub v s
  | 0x4480, 4 => coatSwap acc v s
  | 0x4480, 5 => coatCopy acc v s
  | 0x44A0, 1 => lagWrite acc n v s
  | 0x4600, 1 => routeCommand acc v s
  | 0x4700, _ => nextHopWrite acc n sub v s
  | 0x4800, 3 => bindingWrite acc i n sub v s
  | 0x4800, _ => flowWrite acc n sub v s
  | 0x4900, 1 => domainEnableWrite acc n v s
  | 0x4900, 0x0B => domainFlushWrite acc n v s
  | 0x4B00, 1 => entryCommand acc v s
  | 0x4B10, 0x0A => saltWrite acc v s
  | 0x4C10, 0x0A => requesterReleaseWrite acc n v s
  | 0x4C40, 0x10 => queueEnableWrite acc false n v s
  | 0x4C80, 0x10 => queueEnableWrite acc true n v s
  | 0x4C40, 1 | 0x4C40, 2 | 0x4C80, 1 | 0x4C80, 2 | 0x4E00, 1 | 0x4E00, 2 | 0x4E20, 1 | 0x4E20, 2 | 0x4E40, 1 | 0x4E40, 2
  | 0x4E60, 1 | 0x4E60, 2 => attachmentWrite acc i n sub v s
  | 0x4C40, 4 | 0x4C40, 5 | 0x4C40, 6 | 0x4C40, 7 | 0x4C80, 4 | 0x4C80, 5 | 0x4C80, 6 | 0x4C80, 7
  | 0x4E00, 4 | 0x4E00, 5 | 0x4E00, 6 | 0x4E00, 7 | 0x4E20, 4 | 0x4E20, 5 | 0x4E20, 6 | 0x4E20, 7
  | 0x4E40, 4 | 0x4E40, 5 | 0x4E40, 6 | 0x4E40, 7 | 0x4E60, 4 | 0x4E60, 5 | 0x4E60, 6 | 0x4E60, 7 =>
    shaperWrite acc i n sub v s
  | 0x4E00, 0x0D => tenantWeightWrite acc i n sub v s
  | 0x4D00, _ => flowMapWrite acc n sub v s
  | 0x4F00, 0x0E => meterClear acc n v s
  | 0x4F00, _ => meterWrite acc n sub v s
  | _, _ => plain acc i n sub v s

/-- Writes of the lanes', ports', engines', memories', time's and start-up's objects. -/
def writeHigh (acc : Acc) (i n sub : Nat) (v : Reg) (x : WriteIn) (s : State) : State :=
  match i, sub with
  | 0x5000, 0x0F => laneRestartWrite acc n v s
  | 0x5000, _ => equalisationWrite acc n sub v s
  | 0x5080, 1 => quadWrite acc n v s
  | 0x5090, 1 => uplinkEnableWrite acc n v s
  | 0x50C0, 1 => mgmtEnableWrite acc n v s
  | 0x5100, 1 => viothEnableWrite acc n v s
  | 0x5100, 0x0E => spareWrite acc n v s
  | 0x5140, _ => pathWrite acc n sub v s
  | 0x5400, 5 => engineCommand acc n v s
  | 0x5480, 5 => masterReleaseWrite acc n v s
  | 0x5500, 2 => upgradeWrite acc v x.features s
  | 0x5500, 3 => rollBackWrite acc v s
  | 0x5580, _ => levelWrite acc sub v s
  | 0x5590, 3 => slotBind acc i n sub v s
  | 0x5800, 0x0A => memoryClear acc n v s
  | 0x5820, 2 => passPeriodWrite acc n v s
  | 0x5840, 4 => flipArmWrite acc n v s
  | 0x5900, 1 => selfTestWrite acc n v s
  | 0x5C00, 8 => acceptWrite acc v s
  | 0x5C00, 0x0A => autoAcceptWrite acc v s
  | 0x5C00, 0x0E => timeSetWrite acc v s
  | 0x5C00, 0x10 => hostOffsetWrite acc v s
  | 0x5C10, _ => sourceWrite acc n sub v s
  | 0x5D20, _ => ppsWrite acc n sub v s
  | 0x5E10, 7 => overrideWrite acc n v s
  | _, _ => plain acc i n sub v s

/-- The rule of the object that a write names. -/
def writeRule (acc : Acc) (i n sub : Nat) (v : Reg) (x : WriteIn) (s : State) : State :=
  if i < 0x2000 then writeLow acc i n sub v x s
  else if i < 0x3000 then writeTree acc i n sub v x s
  else if i < 0x4000 then writeAccess acc i n sub v s
  else if i < 0x5000 then writeTraffic acc i n sub v s
  else writeHigh acc i n sub v x s

/-- An access to an object that does not exist: a frozen master (R392) and a disabled vendor role (R506) are refused first. -/
def noObject (acc : Acc) (s : State) : State :=
  if frozen s acc.master then refuse 9 s
  else if acc.role = .vendor ∧ s.aux .vendorOn = 0 then refuse 2 s
  else refuse 1 s

/-- An index of the dictionary, as this model holds it (spec/00 R18). -/
def indexOf (raw : Nat) : Nat := if 0x2000 ≤ raw ∧ raw < 0x3000 then 0x2000 + (raw - 0x2000) % 0x40 else raw

/-- The index is a table: its objects have instances. -/
def isTable (raw : Nat) : Bool :=
  if 0x2000 ≤ raw ∧ raw < 0x3000 then [0x2005, 0x2006, 0x2010].contains (indexOf raw) else Objects.count 48 raw != 0

/-- The number of instances that the device has of a table index (R450). -/
def instances (s : State) (raw : Nat) : Nat :=
  let i := indexOf raw
  if i = 0x2010 then 512
  else if i = 0x2005 ∨ i = 0x2006 then 4
  else ((List.range (Objects.count s.trees i)).filter fun n => Objects.hasInst s.trees i n).length

/-- The object exists and its ports have been created (R19; spec/10 R342), for subindex 0 as for any other. -/
def reachable (s : State) (i n : Nat) : Bool := 0 < Objects.highest i && Objects.hasInst s.trees i n && access.present s i n

/-- A read of subindex 0 (R450): the highest subindex as a U8, or with instance 0xFFFFFFFF a table's count as a U32. -/
def readHead (acc : Acc) (raw inst : Nat) (s : State) : State :=
  let ends := fun (i n v : Nat) =>
    if frozen s acc.master || (acc.role == .vendor && s.aux .vendorOn == 0) then noObject acc s
    else match rights s acc.role false i n 0 with
      | 0 => done s v
      | c => refuseRole acc c i n 0 s
  let table := isTable raw && 0 < Objects.highest (indexOf raw)
    && (raw < 0x2000 || 0x3000 ≤ raw || (raw - 0x2000) / 0x40 < s.trees)
  if inst = 0xFFFFFFFF ∧ table = true then ends (indexOf raw) 0xFFFFFFFF (instances s raw)
  else match Objects.locate raw inst with
    | none => noObject acc s
    | some (i, n) => if reachable s i n then ends i n (Objects.highest i) else noObject acc s

/-- A write of one value as a request carries it (R449, R450): its bytes most significant first. Key material is not a
value of its object's type and is checked by its own rule (spec/07 R230, R234). -/
def writeObj (acc : Acc) (raw inst sub : Nat) (data : List Nat) (x : WriteIn) (s : State) : State :=
  match Objects.locate raw inst with
  | none => noObject acc s
  | some (i, n) =>
    if sub = 0 then (if reachable s i n then
        (if frozen s acc.master || (acc.role == .vendor && s.aux .vendorOn == 0) then noObject acc s
         else match rights s acc.role true i n 0 with
          | 0 => refuse 2 s
          | c => refuseRole acc c i n 0 s)
      else noObject acc s)
    else access acc true i n sub s fun s =>
      match Objects.row i sub with
      | none => refuse 1 s
      | some r =>
        if r.acc = .ro ∨ roAt i n sub = true then refuse 2 s
        else if i = 0x4000 ∧ sub = 2 then keyWrite acc n data.length (ofBytes data) s
        else if !r.ty.lengthOk data.length then refuse 8 s
        else writeRule acc i n sub (r.ty.fill data.length (ofBytes data)) x s

/-- OBJECT_WRITE (R20, R450). -/
def execObjectWrite (acc : Acc) (index inst sub : Nat) (data : List Nat) (beyond : WriteIn) (s : State) :
    Host.Outcome State Fault Refusal :=
  whenUp s fun s => writeObj acc index inst sub data beyond s

/-! ## Reads -/

/-- What an object shows: what its chapter defines as worked out at the read, else what it holds. -/
def shown (s : State) (i n sub : Nat) : Reg :=
  match i, sub with
  | 0x1051, 1 => islandClock s n
  | 0x1100, 8 => (openSessions s).length
  | 0x1130, 3 => s.relays.length
  | 0x1210, 2 => s.evQueue.length
  | 0x1210, 9 => rootWord s
  | 0x1211, 1 => groupWord s n
  | 0x2005, 8 => (termsIn s (n / 1024) 3).countP fun k => laneOf s k == 0 && s.get 0x3900 k 1 == n % 1024
  | 0x2006, 8 => (termsIn s (n / 1024) 3).countP fun k => laneOf s k == 1 && s.get 0x3900 k 1 == n % 1024
  | 0x3100, 0x15 => teqd s n
  | 0x3100, 0x16 => (termsIn s n 3).length
  | 0x3100, 0x17 => beatMicros s n
  | 0x3600, 0x11 => flamTime s n
  | 0x3800, 5 => recordInUse s n
  | 0x3B00, 4 => profileRank s (n / 4) (n % 4)
  | 0x4400, 1 => ruleValue s n
  | 0x4400, 2 => ruleMask s n
  | 0x5C00, 2 => time80 s.now
  | _, _ => s.get i n sub

/-- A read of one value (R20, R449): a write-only object reads zero; the head of an edge-capture or transmit time-stamp
queue leaves its queue (spec/13 R442, R443). -/
def readObj (acc : Acc) (raw inst sub : Nat) (s : State) : State :=
  if sub = 0 then readHead acc raw inst s
  else match Objects.locate raw inst with
    | none => noObject acc s
    | some (i, n) => access acc false i n sub s fun s =>
      match Objects.row i sub with
      | none => refuse 1 s
      | some r =>
        if r.acc = .wo then done s 0
        else if i = 0x5D00 ∧ sub = 3 then popStamp true n s
        else if i = 0x5D40 ∧ sub = 1 then (if s.get 0x5C40 n 1 = 2 then popStamp false n s else refuse 3 s)
        else done s (shown s i n sub)

/-- The type of what a read of an address brings (R449, R450). -/
def typeAt (raw inst sub : Nat) : Option Ty :=
  if sub = 0 then some (if inst = 0xFFFFFFFF ∧ isTable raw = true then .u32 else .u8)
  else (Objects.row (indexOf raw) sub).map Row.ty

/-- The bytes of the value that a read brings. -/
def widthAt (raw inst sub : Nat) : Nat := match typeAt raw inst sub with
  | some t => t.bytes
  | none => 0

/-- A read's status, its bytes, most significant first, and the state after it. -/
def readItem (acc : Acc) (raw inst sub : Nat) (s : State) : Nat × List Nat × State :=
  let s := readObj acc raw inst sub s
  (s.answer.status, if s.answer.status = 0 then bytesOf (widthAt raw inst sub) s.answer.value else [], s)

/-- A write's status and the state after it. -/
def writeItem (acc : Acc) (raw inst sub : Nat) (data : List Nat) (x : WriteIn) (s : State) : Nat × State :=
  let s := writeObj acc raw inst sub data x s
  (s.answer.status, s)

end Sys2Proof.Machine
end

