-- ==== Sys2Proof/Machine/Frame.lean ====
section
/-!
DEFINITION. Machine/Frame.lean: a tree's frame boundary: notices and PLOAM, maps and bulletin, key boundaries, tokens, the
energy report, the silence of the upstream, skew and readiness, and the engines' checkpoints (spec/02 R57, R58, R62, R73,
R83 to R87; spec/03 R104; spec/05 R161; spec/07 R234, R245; spec/11 R385).
-/
namespace Sys2Proof.Machine

/-- A lane sends frame n: it is not dark, nor in the dark frames of a change (R74). -/
def laneSends (s : State) (t l n : Nat) : Bool :=
  mapsRun s t l && !(l == 0 && s.aux .chgState t == 1 && (let d := framesTo (switchFrame s t) n; 0 ≤ d && d < (s.aux .chgDark t : Int)))

/-! ## Notices (R73, R75, R77) -/

/-- Bytes 5 to 40 of a tree's mode or cancel notice (R77). -/
def noticeBytes (s : State) (t : Nat) (cancel : Bool) : List Nat :=
  let gen := s.get 0x2001 t 0x0B
  [if cancel then 2 else 1, s.aux .chgTarget t / 2, s.aux .chgTarget t % 2, s.aux .chgDark t] ++ bytesOf 7 (switchFrame s t)
    ++ bytesOf 2 (if cancel then gen else wrapAdd 16 gen 1) ++ List.replicate 23 0

/-- A terminal that is in OPERATION while a change is announced has a notice. -/
def addNotices (t : Nat) (s : State) : State :=
  let new := (mainTerminals s t).filter fun n => !(s.notices.any fun x => x.tree == t && x.onu == n % 512)
  { s with notices := s.notices ++ new.map fun n => ⟨t, n % 512, 0, true, false, 0⟩ }

/-- The due notices of a tree enter its PLOAM queue, at most 8 in a frame. -/
def queueNotices (t : Nat) (k : PloamKind) (s : State) : State :=
  let waiting := s.ploams.countP fun x => x.tree == t && x.kind == k
  let chosen := (s.notices.filter fun x => x.tree == t && x.due && !x.acked && termState s (512 * t + x.onu) == 3).take (8 - waiting)
  let bytes := noticeBytes s t (k == .cancelNotice)
  let s := overAll chosen (fun x s => queuePloam t 0 x.onu k bytes s) s
  { s with notices := s.notices.map fun x => if chosen.contains x then { x with due := false } else x }

/-- The notices of frame n (R73, R75): announce notices from F + 1 up to S - 9, cancel notices up to S - 1. -/
def frameNotices (t n : Nat) (s : State) : State :=
  let left := framesTo n (switchFrame s t)
  let drop := fun (s : State) => { s with ploams := s.ploams.filter fun x => !(x.tree == t && (x.kind == .announceNotice || x.kind == .cancelNotice)) }
  match s.aux .chgState t with
  | 1 => if 8 < left then queueNotices t .announceNotice (addNotices t s) else drop s
  | 2 => if 0 < left then queueNotices t .cancelNotice s else drop s
  | _ => s

/-! ## The PLOAM partition (R62) -/

/-- What the sending of a message in frame n brings with it: the mute set follows Deactivate and Disable (spec/05 R173), the
phases of a corrected terminal count again from frame n + 3 (spec/04 R143), a notice has been sent, and a message that requires an
answer makes a PLOAMu grant due (spec/05 R170; log entry 97). -/
def ploamSent (n : Nat) (m : Ploam) (seq : Nat) (s : State) : State :=
  match m.kind with
  | .deactivate => mute m.tree m.onu true s
  | .disable =>
    let k := m.args.headD 0
    let s := mute m.tree k true s
    if s.aux .mufWait m.tree = k + 1 then observe m.tree (frameAdd n 3) (s.setAux .mufWait m.tree 0 0) else s
  | .assignAllocId => (s.setAux .allocSeq (m.args.getD 1 0) 0 seq).setAux .ploamWant (512 * m.tree + m.onu) 0 1
  | .rangingTime =>
    let x := 512 * m.tree + m.onu
    if s.aux .driftHold x = 2 ^ 53 - 1 then s.setAux .driftHold x 0 (frameAdd n 3 + 1) else s
  | .announceNotice | .cancelNotice =>
    let s : State := { s with
      notices := s.notices.map fun x => if x.tree = m.tree ∧ x.onu = m.onu then { x with sent := n + 1, seq := seq } else x }
    if m.kind = .announceNotice then s.setAux .ploamWant (512 * m.tree + m.onu) 0 1 else s
  | .capabilityRequest => (s.setAux .capSeq (512 * m.tree + m.onu) 0 seq).setAux .ploamWant (512 * m.tree + m.onu) 0 1
  | .keyControl | .strokeKeyRequest => (s.setAux .kxSeq (512 * m.tree + m.onu) 0 seq).setAux .ploamWant (512 * m.tree + m.onu) 0 1
  | .requestRegistration => s.setAux .ploamWant (512 * m.tree + m.onu) 0 1
  | _ => s

/-- The place of a message in the partition: broadcast first, those of muffling ahead, then the order queued. -/
def ploamRank (m : Ploam) : Nat := (if m.onu = 1023 then 0 else 2) + (if m.urgent then 0 else 1)

/-- Message type, and content bytes 5 to 40: those that the spec gives, or the standard's (R77; spec/04 R130; spec/07 R248). -/
def ploamBody (m : Ploam) : Nat × List Nat :=
  match m.kind with
  | .announceNotice | .cancelNotice => (0xE1, m.args)
  | .capabilityRequest => (0xE2, List.replicate 36 0)
  | .strokeKeyRequest => (0xE4, [1, m.args.getD 0 0] ++ bytesOf 2 (m.args.getD 1 0) ++ List.replicate 32 0)
  | k => (Config.ploamType k.ctorIdx, Config.ploamContent k.ctorIdx m.onu m.args)

/-- The 48 bytes of a message (R77; log entry 109): ONU-ID, type, sequence number, content, integrity check. -/
def ploamBytes (s : State) (m : Ploam) (seq : Nat) : List Nat :=
  let (type, content) := ploamBody m
  let b := bytesOf 2 m.onu ++ [type, seq] ++ content
  b ++ bytesOf 8 (Config.ploamMic (integrityKey s m.tree m.onu) b)

/-- The sequence number of a message: a notice or a request sent before keeps its own; any other message takes the
terminal's next (log entry 109). -/
def ploamSeqOf (s : State) (m : Ploam) : Nat :=
  let next := s.aux .ploamSeq m.tree m.onu % 255 + 1
  let asked := match m.kind with
    | .capabilityRequest => s.aux .capSeq (512 * m.tree + m.onu)
    | .keyControl | .strokeKeyRequest => s.aux .kxSeq (512 * m.tree + m.onu)
    | _ => 0
  if asked ≠ 0 then asked
  else match s.notices.find? fun x => x.tree == m.tree && x.onu == m.onu && x.seq != 0 with
  | some x => if m.kind = .announceNotice ∨ m.kind = .cancelNotice then x.seq else next
  | none => next

/-- A message leaves in frame n: its bytes join those of the partition. -/
def sendPloam (t l n : Nat) (m : Ploam) (p : List (List Nat) × State) : List (List Nat) × State :=
  let s := p.2
  let seq := ploamSeqOf s m
  let b := ploamBytes s m seq
  let s := s.setAux .ploamSeq m.tree m.onu seq
  (p.1 ++ [b], ploamSent n m seq ((s.bump 0x2004 t 6).send .ploam ([t, l, m.onu, m.kind.ctorIdx] ++
    (match m.kind with
     | .announceNotice | .cancelNotice | .capabilityRequest | .strokeKeyRequest => []
     | _ => m.args) ++ b)))

/-- The messages of a lane's next partition, in their order, and those that stay queued. -/
def ploamOrder (s : State) (t l : Nat) : List Ploam × List Ploam :=
  let mine := s.ploams.filter fun x => x.tree == t && x.lane == l
  let order := (List.range 4).flatMap fun r => mine.filter fun x => ploamRank x == r
  (order.take (s.get 0x2000 t 7), order.drop (s.get 0x2000 t 7))

/-- The PLOAM partition of frame n on a lane. -/
def sendPloams (t l n : Nat) (s : State) : List (List Nat) × State :=
  let (now, later) := ploamOrder s t l
  let s : State := { s with ploams := s.ploams.filter (fun x => !(x.tree == t && x.lane == l)) ++ later }
  now.foldl (fun p m => sendPloam t l n m p) ([], s)

/-! ## The upstream frame that has ended (R85, R87; spec/03 R104, R119) -/

/-- The granted windows of upstream frame u. -/
def windowCount (s : State) (t u : Nat) : Nat :=
  [0, 1, 2].foldl (fun n l => n + ((((mapOf s.sentMaps t l u).map fun g => g.entries).getD []).countP fun e =>
    e.kind != 0 && e.kind != 1 && !e.joined)) 0

/-- Event 16, and the run of silent frames of R85; a frame without a granted window breaks the run. -/
def silence (t u : Nat) (s : State) : State :=
  let w := windowCount s t u
  let f := s.aux .found t (u % 16)
  let s := s.setAux .found t (u % 16) 0
  if w = 0 ∨ (termsIn s t 3).isEmpty = true ∨ f ≠ 0 then s.setAux .silentRun t 0 0
  else
    let s := s.setAux .silentRun t 0 (min 255 (s.aux .silentRun t + 1))
    if isPending s 16 t then s else raise 16 t w 0 s

/-- The receive reference is corrected once, at the end of the first post-switch frame, by the mean arrival error (R87), rounded half
away from zero (log entry 115). -/
def correctReference (t u : Nat) (s : State) : State :=
  let k := s.aux .arrCount t
  if s.aux .postAt t = 0 ∨ k = 0 ∨ framesTo (s.aux .postAt t - 1) u < 0 then s
  else
    let c := roundDiv (toInt 64 (s.aux .arrSum t)) k
    let s := (s.setAux .arrSum t 0 0).setAux .arrCount t 0 0
    raise 10 t (ofInt 32 c) 0 (s.setAux .rxRef t 0 (ofInt 64 (toInt 64 (s.aux .rxRef t) + c)))

/-! ## The mirror of a standby port on another member (spec/11 R405) -/

/-- While the partner's port reports that it is not ready, the working port sends it the terminal, allocation and key mirror
records of the tree. A key whose last record still waits for its acknowledgement is not sent again. -/
def refreshPartner (t : Nat) (s : State) : State :=
  if (remotePartner s t).isNone ∨ protRole s t ≠ 1 ∨ s.aux .farSig t / 64 ≠ 2 ∨ bit 5 (s.aux .farSig t) = true then s
  else
    let s := mirrorAll t s
    let keys := (List.range 32768).filter fun k => slotState s k != 0 && slotTree s k == some t && s.aux .keyUnacked k == 0
    overAll keys (fun k s => mirrorKey k (s.get 0x4000 k 5) (slotGen s k) s) s

/-! ## The boundary -/

/-- A lane's part of frame n (R62; spec/05 R161): the frame before ends, then the FS header and the map, the PLOAM partition, the
bulletin of flam point 0 as the first XGEM frame, and what waits in the framer. -/
def laneFrame (t l n : Nat) (s : State) : State :=
  let s := closeFs t l (((s.setAux .mapBuild t l (frameAdd n 1 + 1)).setAux .mapCut t l 0))
  if !laneSends s t l n then mapSend t l n s
  else
    let s := mapSend t l n (sendFrameStart t l n s)
    let entries := ((mapOf s.sentMaps t l n).map fun g => g.entries).getD []
    let (partition, s) := sendPloams t l n s
    let s := openFs t l n entries partition s
    resumeSdus t l (if l = 0 then flamPoint t 0 s else s)

/-- A tree's flam charges start anew with a frame: a map is charged the bulletins of the frame before it (spec/06 R206). -/
def clearFlam (t : Nat) (s : State) : State := overAll (List.range 17) (fun o s => s.setAux .flamBytes t o 0) s

/-- The trees whose scheduler ports and keys a tree's boundary serves: its own, and a local standby's. -/
def servedBy (s : State) (t : Nat) : List Nat := match localPartner s t with
  | some p => if protRole s t = 1 then [t, p] else []
  | none => [t]

/-- The engines without a spare write a checkpoint (spec/11 R385). -/
def checkpoints (t n : Nat) (s : State) : State :=
  overAll [t / 4 * 16 + 10, t / 4 * 16 + 11] (fun e s => if s.get 0x5400 e 2 = 0 then s.setAux .chkpt e 0 (n + 1) else s) s

/-- A frame boundary of a tree. light is what the energy detector found in the upstream frame that has ended; a standby lane makes no
report of it (log entry 125). -/
def frameBoundary (t : Nat) (light : List LightIn) (s : State) : State :=
  let n := frameNow s t
  let s := s.put 0x2000 t 5 n
  let s := overAll [0, 1] (fun l s => if s.aux (lanePend l) t = 1 then startDown t l s else s) s
  let s := frameNotices t n s
  let s := laneFrame t 1 n (laneFrame t 0 n (clearFlam t s))
  let s := overAll (servedBy s t) (fun x s => keyBoundary x (frameRefill (2 * x) (frameRefill (2 * x + 1) s))) s
  let s := sendUsage t s
  let u := endedFrame s t n
  let s := if laneState s t 0 = 0 ∨ laneState s t 0 = 5 then s else energyReport t u light s
  let s := correctReference t u (silence t u s)
  let s : State := { s with quiets := s.quiets.filter fun q => q.tree != t || (s.now : Int) < upstreamAt s t q.frame (mainBits q.lane q.closes) + 1000000000 }
  checkpoints t n (refreshPartner t (updateReady t (updateSkew t (heal t s))))

/-- Runs of blocks, first block and length each, with their amplitudes. -/
def lightIn (runs : List (Nat × Nat)) (levels : List Nat) : List LightIn := runs.zipWith (fun r v => ⟨r.1, r.2, v⟩) levels

/-- FRAME_BOUNDARY (R57): the tree's grid reaches a frame start, with the light of the upstream frame that ends. -/
def execFrameBoundary (tree : Nat) (runs : List (Nat × Nat)) (levels : List Nat) (s : State) : Host.Outcome State Fault Refusal :=
  whenUp s fun s =>
    if s.treeUp tree = false ∨ frameNow s tree = s.get 0x2000 tree 5 then s else frameBoundary tree (lightIn runs levels) s

end Sys2Proof.Machine
end

