-- ==== Sys2Proof/Machine/Rol.lean ====
section
/-!
DEFINITION. Machine/Rol.lean: Rosuth Object Link: session set-up, requests, block transfers, subscriptions, and messages relayed
for clients (spec/14 R453 to R462, R469).
-/
namespace Sys2Proof.Machine

/-- The role that a role code names (R480). -/
def roleOf (code : Nat) : Role :=
  match code with
  | 0 => .observer
  | 1 => .operator
  | 2 => .owner
  | 3 => .vendor
  | n => .tenant (n - 0x10)

/-- The header and the lengths of a message are those of R454. -/
def rolForm (b : List Nat) : Bool :=
  let len := numAt b 26 2
  64 ≤ b.length && numAt b 0 2 == 0xA4B5 && b.getD 2 0 == 1 && len ≤ 1384 && b.length == 64 + (len + 3) / 4 * 4

/-- The payload of a message. -/
def rolPayload (b : List Nat) : List Nat := (b.drop 32).take (numAt b 26 2)

/-! ## Messages for other members (R469) -/

/-- A relay-generated ERROR (R455, R469). -/
def relayError (port peer session echo status : Nat) (s : State) : State :=
  emitRol port peer none (rolBody 0x3F session 0 echo 0x80 [0, status, 0, 0] ++ zeroTag) s

/-- A message that its target answers. -/
def awaitsAnswer (type : Nat) : Bool := [0x01, 0x10, 0x12, 0x14, 0x16, 0x20].contains type

/-- The relay entries with one used now (0x1130.03): 256, the oldest replaced after 60 s unused; none when there is no room. -/
def touchRelay (e : RelayEntry) (s : State) : Option (List RelayEntry) :=
  let same := fun r : RelayEntry => r.peer == e.peer && r.port == e.port && r.target == e.target
  let rest := s.relays.filter fun r => !same r
  let e := { e with waits := ((s.relays.filter same).flatMap RelayEntry.waits) ++ e.waits }
  if rest.length < 256 then some (rest ++ [e])
  else match rest with
    | [] => none
    | r :: l => if r.used + 60000000000 ≤ s.now then some (l ++ [e]) else none

/-- A client's message for another member leaves unchanged in a kind 6 frame, or an ERROR with status 11 answers it. -/
def relayOut (m : RolIn) (s : State) : State :=
  let b := m.bytes
  let target := b.getD 24 0
  let session := numAt b 4 4
  let seq := numAt b 8 8
  if 64 ≤ target ∨ (activePort s target).isNone then
    raise 3989 target 11 0 (relayError m.port m.peer session seq 11 s)
  else match touchRelay ⟨m.peer, m.port, target, s.now, if awaitsAnswer (b.getD 3 0) then [(session, seq, s.now)] else []⟩ s with
    | none => dropRol s
    | some l => sendFrame target 3 6 0 0 0 (relayHead m.peer (member s) m.port 0 ++ b) (24 + b.length) { s with relays := l }

/-- The target's answer is sent to the recorded client. -/
def relayBack (target : Nat) (m : RolIn) (s : State) : State :=
  let session := numAt m.bytes 4 4
  let echo := numAt m.bytes 16 8
  let open' := fun w : Nat × Nat × Ns => !((w.1 == session || w.1 == 0) && w.2.1 == echo)
  let of := fun r : RelayEntry => r.peer == m.peer && r.port == m.port && r.target == target
  let used := fun r : RelayEntry => if of r then ⟨r.peer, r.port, r.target, s.now, r.waits.filter open'⟩ else r
  if s.relays.any of then emitRol m.port m.peer none m.bytes { s with relays := s.relays.map used } else s

/-- RELAY_FORWARD (R469): a client's message for another member, or the answer that a member gives to one. -/
def execRelayForward (msg : RolIn) (answerOf : Option Nat) (s : State) : Host.Outcome State Fault Refusal :=
  whenUp s fun s =>
    let target := msg.bytes.getD 24 0
    if !rolForm msg.bytes then dropRol s
    else match answerOf with
      | some t => relayBack t msg s
      | none => if target = 0xFF ∨ target = member s then s else relayOut msg s

/-! ## Messages of a session (R455, R459) -/

/-- A message for this member with the type of its command. -/
def rolIn (type : Nat) (m : RolIn) (s : State) (body : State → State) : State :=
  let target := m.bytes.getD 24 0
  if !rolForm m.bytes || m.bytes.getD 3 0 != type then dropRol s
  else if target ≠ 0xFF ∧ target ≠ member s then (if m.via.isNone then relayOut m s else dropRol s)
  else body s

/-- A session's answers and notifications go the way its last message came. -/
def routeSession (x : Nat) (m : RolIn) (s : State) : State :=
  let s := (s.put 0x1120 x 4 m.peer).setAux .sesPort x 0 m.port
  let s := s.setAux .sesVia x 0 (match m.via with
    | some k => k + 1
    | none => 0)
  s.setAux .sesAlive x 0 s.now

/-- What the window of the client's numbers makes of one (R459): 0 new, 1 seen, 2 below the window or a number never used. -/
def windowCode (s : State) (x seq : Nat) : Nat :=
  let high := s.aux .sesHigh x
  if seq = 0 ∨ 2 ^ 64 - 1 ≤ seq ∨ seq + 64 ≤ high then 2
  else if high < seq then 0
  else if bit (high - seq) (s.aux .sesSeen x) then 1 else 0

/-- A number is noted as seen, and replies below the window are forgotten. -/
def markSeen (x seq : Nat) (s : State) : State :=
  let high := s.aux .sesHigh x
  let seen := s.aux .sesSeen x
  if high < seq then
    let moved := if 64 ≤ seq - high then 1 else seen * 2 ^ (seq - high) % 2 ^ 64 + 1
    let s := (s.setAux .sesHigh x 0 seq).setAux .sesSeen x 0 moved
    { s with replies := s.replies.filter fun r => r.slot != x || seq < r.seq + 64 }
  else s.setAux .sesSeen x 0 (setBit (high - seq) true seen)

/-- A message of an open or frozen session (R455, R459): its tag is checked, then its number: executed, answered from the
cache, or dropped as stale. -/
def inSession (type : Nat) (m : RolIn) (s : State) (body : Nat → Nat → State → State) : State :=
  rolIn type m s fun s =>
    let session := numAt m.bytes 4 4
    let seq := numAt m.bytes 8 8
    let x := session % 64
    if (carrierOf s (209 + x / 32)).isNone then s
    else if s.get 0x1120 x 1 < 2 ∨ s.aux .sesNonce x ≠ session then dropRol s
    else if !tagHolds s x m.bytes then tagFailed x s
    else
      let s := routeSession x m s
      match windowCode s x seq with
      | 2 => s.bump 0x1120 x 9
      | 1 => overAll ((s.replies.filter fun r => r.slot == x && r.seq == seq).flatMap Reply.msgs) (emitSession x) s
      | _ => body x seq (markSeen x seq s)

/-- The answers to a request leave and are kept (R459). -/
def reply (x seq : Nat) (answers : List (Nat × List Nat)) (s : State) : State :=
  let (msgs, s) := answers.foldl (fun (p : List (List Nat) × State) a =>
    let (b, s) := deviceMsg x a.1 seq a.2 p.2
    (p.1 ++ [b], emitSession x b s)) (([], s) : List (List Nat) × State)
  { s with replies := s.replies ++ [⟨x, seq, msgs⟩] }

/-- A request (R457): executed and answered. A frozen session answers status 9, from the request that freezes it on. -/
def request (x seq n : Nat) (run : State → List (Nat × List Nat) × State) (s : State) : State :=
  numbered x n (fun s =>
    let frozenReply := reply x seq [(0x3F, [0, 9, 0, 0])]
    let s := (s.bump 0x1120 x 5).put 0x1120 x 6 (time80 s.now)
    if s.get 0x1120 x 1 = 3 then frozenReply s
    else
      let (answers, s) := run s
      match s.get 0x1120 x 1 with
      | 2 => reply x seq answers s
      | 3 => frozenReply s
      | _ => s) s

/-- The access of a session: its role, as master 280 + s. -/
def sessionAcc (s : State) (x : Nat) : Acc := ⟨roleOf (s.get 0x1120 x 3), 280 + x⟩

/-! ## Session set-up (R456, R457) -/

/-- A principal that may open a session: enabled, and not of a disabled vendor role (R506). -/
def mayOpen (s : State) (p : Nat) : Bool :=
  p < 256 && s.get 0x1110 p 4 == 1 && (s.get 0x1110 p 3 != 3 || s.aux .vendorOn == 1)

/-- HELLO (R456, R457): the lowest free slot enters HANDSHAKE with a nonce of 26 bits, and HELLO REPLY carries the session
value, the device's ephemeral key and its confirmation value. The nonce and the ephemeral secret, which the device draws, are
free values. -/
def execHello (msg : RolIn) (s : State) : Host.Outcome State Fault Refusal :=
  whenUp s fun s => rolIn 1 msg s fun s =>
    let p := numAt (rolPayload msg.bytes) 0 2
    let slots := List.range 63
    let x := slots.find? fun x => s.get 0x1120 x 1 == 0
    let waiting := slots.countP fun x => s.get 0x1120 x 1 == 1
    match x with
    | none => authFailed 64 p (dropRol s)
    | some x =>
      if (rolPayload msg.bytes).length ≠ 68 then dropRol s
      else if !mayOpen s p ∨ 16 ≤ waiting then authFailed 64 p (dropRol s)
      else if (carrierOf s (209 + x / 32)).isNone then s
      else
        let s := overAll [5, 6, 8, 9, 0x0A] (fun k s => s.put 0x1120 x k 0) s
        let (nonce, s) := s.fresh
        let (secret, s) := s.fresh
        let exchange := fun {α : Type} (f : Nat → Nat → Nat → Nat → Nat → α) =>
          f (s.get 0x1100 0 6) secret (s.get 0x1110 p 2) (s.get 0x1110 p 1) (numAt (rolPayload msg.bytes) 4 64)
        let keys := bytesOf 96 (exchange Config.sm2Material)
        let session := nonce % 2 ^ 26 * 64 + x
        let s := ((s.setAux .sesKeys x 0 (numAt keys 0 32)).setAux .sesKeys x 1 (numAt keys 32 32)).setAux .sesKeys x 2 (numAt keys 64 16)
        let s := s.setAux .sesKeys x 3 (exchange (Config.sm2Confirm false) % 2 ^ 256)
        let s := routeSession x msg (((s.put 0x1120 x 1 1).put 0x1120 x 2 p).setAux .sesNonce x 0 session)
        emitSession x (rolBody 2 session 0 (numAt msg.bytes 8 8) 0 (bytesOf 64 (Config.sm2Public secret)
          ++ bytesOf 32 (exchange (Config.sm2Confirm true))) ++ zeroTag) s

/-- CONFIRM (R457): with a right confirmation value and tag the session opens with the principal's role; else the slot
returns to FREE. -/
def execConfirm (msg : RolIn) (tag : List Nat) (s : State) : Host.Outcome State Fault Refusal :=
  let msg := { msg with bytes := msg.bytes ++ tag }
  whenUp s fun s => rolIn 3 msg s fun s =>
    let session := numAt msg.bytes 4 4
    let x := session % 64
    let p := s.get 0x1120 x 2
    if (carrierOf s (209 + x / 32)).isNone then s
    else if s.get 0x1120 x 1 ≠ 1 ∨ s.aux .sesNonce x ≠ session then dropRol s
    else if !tagHolds s x msg.bytes then authFailed x p (freeSession x (dropRol (s.bump 0x1120 x 8)))
    else if rolPayload msg.bytes ≠ bytesOf 32 (s.aux .sesKeys x 3) ∨ numAt msg.bytes 8 8 ≠ 0 then authFailed x p (freeSession x s)
    else
      let role := s.get 0x1110 p 3
      raise 3984 x p role (routeSession x msg (((s.put 0x1120 x 1 2).put 0x1120 x 3 role).setAux .sesKeys x 3 0))

/-! ## Access items (R458, R460) -/

/-- An access item of a request. -/
structure Item where
  index : Nat
  sub : Nat
  sealing : Bool
  inst : Nat
  data : List Nat
  deriving DecidableEq, Repr

/-- The items of a payload; none when it does not end with an item's last byte. -/
def parseItems : Nat → List Nat → Option (List Item)
  | _, [] => some []
  | 0, _ => none
  | n + 1, b =>
    let len := numAt b 8 2
    if b.length < 12 + (len + 3) / 4 * 4 then none
    else (parseItems n (b.drop (12 + (len + 3) / 4 * 4))).map fun l =>
      ⟨numAt b 0 2, b.getD 2 0, bit 7 (b.getD 3 0), numAt b 4 4, (b.drop 12).take len⟩ :: l

/-- SM4 in counter mode (R458): the data enciphered or deciphered; the block is the session value, the message's number, the
item's position and a block counter from 0. -/
def sealData (key session seq position : Nat) (data : List Nat) : List Nat :=
  data.mapIdx fun i b =>
    let block := session * 2 ^ 96 + seq * 2 ^ 32 + position * 2 ^ 16 + i / 16 % 2 ^ 16
    Nat.xor b (Config.sm4 key block / 2 ^ (8 * (15 - i % 16)) % 256)

/-- An item of a reply. -/
def itemOut (i : Item) (status : Nat) (data : List Nat) : List Nat :=
  bytesOf 2 i.index ++ [i.sub, if i.sealing then 0x80 else 0] ++ bytesOf 4 i.inst ++ bytesOf 2 data.length ++ bytesOf 2 status ++ pad4 data

/-- The items of a READ in order (R460), pos the position of the first: the first one whose answer does not fit ends the
reply with status 14, and no later one is executed. -/
def runReads (x : Nat) : Nat → Nat → List Item → State → List Nat × State
  | _, _, [], s => ([], s)
  | pos, used, i :: rest, s =>
    let size := 12 + (widthAt i.index i.inst i.sub + 3) / 4 * 4
    if 1384 < used + size + (if rest.isEmpty then 0 else 12) then (itemOut i 14 [], s)
    else
      let seq := s.aux .sesSeq x + 1
      let (status, b, s) := readItem (sessionAcc s x) i.index i.inst i.sub s
      let b := if i.sealing then sealData (s.aux .sesKeys x 2) (s.aux .sesNonce x) seq pos b else b
      let out := itemOut i status b
      let (l, s) := runReads x (pos + 1) (used + out.length) rest s
      (out ++ l, s)

/-- READ (R460): up to 64 items. -/
def execRead (msg : RolIn) (s : State) : Host.Outcome State Fault Refusal :=
  whenUp s fun s => inSession 0x10 msg s fun x seq => request x seq 1 fun s =>
    match parseItems 64 (rolPayload msg.bytes) with
    | none => ([(0x3F, [0, 4, 0, 0])], s)
    | some items =>
      let (payload, s) := runReads x 0 0 items s
      ([(0x11, payload)], s)

/-- Key material over ROL is written sealed only (R458). -/
def unsealedKey (i : Item) : Bool := i.index == 0x4000 && i.sub == 2 && !i.sealing

/-- The items of a WRITE in order (R451, R460), under message number seq. A session that an item closes executes no more. -/
def runWrites (x seq : Nat) (w : WriteIn) : Nat → List Item → State → List Nat × State
  | _, [], s => ([], s)
  | pos, i :: rest, s =>
    if s.get 0x1120 x 1 < 2 then ([], s)
    else
      let data := if i.sealing then sealData (s.aux .sesKeys x 2) (s.aux .sesNonce x) seq pos i.data else i.data
      let (status, s) := if unsealedKey i && !frozen s (280 + x) then (2, refuse 2 s)
        else writeItem (sessionAcc s x) i.index i.inst i.sub data w s
      let (l, s) := runWrites x seq w (pos + 1) rest s
      (itemOut i status [] ++ l, s)

/-- WRITE (R460). -/
def execWrite (msg : RolIn) (beyond : WriteIn) (s : State) : Host.Outcome State Fault Refusal :=
  whenUp s fun s => inSession 0x12 msg s fun x seq => request x seq 1 fun s =>
    match parseItems 128 (rolPayload msg.bytes) with
    | none => ([(0x3F, [0, 4, 0, 0])], s)
    | some items =>
      let (payload, s) := runWrites x seq beyond 0 items s
      ([(0x13, payload)], s)

/-! ## Block transfers (R461) -/

/-- A range of an object's bytes: its status and the bytes. -/
def readRange (acc : Acc) (raw inst sub offset length : Nat) (bytes : List Nat → List Nat) (s : State) : Nat × List Nat × State :=
  if length = 0 ∨ 65536 < length then (4, [], refuse 4 s)
  else
    let (status, b, s) := readItem acc raw inst sub s
    if status ≠ 0 then (status, [], s)
    else if b.length < offset + length then (4, [], refuse 4 s)
    else (0, ((bytes b).drop offset).take length, s)

/-- BLOCK_READ (R461): one BLOCK DATA for each 1,024 bytes, in offset order, each enciphered when the item is sealed (R458). A
refused one is answered by one without data. -/
def execBlockRead (msg : RolIn) (s : State) : Host.Outcome State Fault Refusal :=
  whenUp s fun s => inSession 0x14 msg s fun x seq => request x seq 64 fun s =>
    let b := rolPayload msg.bytes
    let offset := numAt b 12 4
    if b.length ≠ 20 then ([(0x3F, [0, 4, 0, 0])], s)
    else
      let (status, data, s) := readRange (sessionAcc s x) (numAt b 0 2) (numAt b 4 4) (b.getD 2 0) offset (numAt b 16 4) id s
      if status ≠ 0 then ([(0x15, bytesOf 4 offset ++ [0, 0] ++ bytesOf 2 status)], s)
      else ((List.range (ceilDiv data.length 1024)).map fun k =>
        let part := (data.drop (1024 * k)).take 1024
        let part := if bit 7 (b.getD 3 0) then sealData (s.aux .sesKeys x 2) (s.aux .sesNonce x) (s.aux .sesSeq x + 1 + k) 0 part else part
        (0x15, bytesOf 4 (offset + 1024 * k) ++ bytesOf 2 part.length ++ [0, 0] ++ part), s)

/-- The byte of a transfer at a place, where it has arrived. -/
def Transfer.byte (t : Transfer) (i : Nat) : Option Nat :=
  t.blocks.findSome? fun b => if b.1 ≤ i then b.2[i - b.1]? else none

/-- How many bytes of a transfer have arrived. -/
def Transfer.arrived (t : Transfer) : Nat := (List.range t.total).countP fun i => (t.byte i).isSome

/-- A transfer of the master with that number, or on that object. -/
def transferOf (s : State) (master num : Nat) : Option Transfer := s.transfers.find? fun t => t.master == master && t.num == num

/-- A block of a transfer: status, bytes received so far, and the state. With its last byte the value is written. -/
def takeBlock (acc : Acc) (num raw inst sub offset total : Nat) (data : List Nat) (w : WriteIn) (s : State) : Nat × Nat × State :=
  match Objects.locate raw inst with
  | none => let s := noObject acc s; (s.answer.status, 0, s)
  | some (i, n) =>
    if frozen s acc.master then (9, 0, refuse 9 s)
    else if 3 < num ∨ data.isEmpty = true ∨ 1024 < data.length ∨ total < offset + data.length then (4, 0, refuse 4 s)
    else
      let opened : Nat × State := match transferOf s acc.master num with
        | some t => (if t.index = i ∧ t.inst = n ∧ t.sub = sub ∧ t.total = total then 0 else 3, s)
        | none =>
          let s := access acc true i n sub s done
          if s.answer.status ≠ 0 then (s.answer.status, s)
          else if transferOpen s i n sub then (3, s)
          else (0, { s with transfers := s.transfers ++ [⟨acc.master, num, i, n, sub, total, [], s.now⟩] })
      let s := opened.2
      if opened.1 ≠ 0 then (opened.1, 0, refuse opened.1 s)
      else match transferOf s acc.master num with
        | none => (1, 0, s)
        | some t =>
          let t := { t with blocks := t.blocks ++ [(offset, data)], last := s.now }
          let rest := s.transfers.filter fun u => !(u.master == acc.master && u.num == num)
          if t.arrived < total then (0, t.arrived, done { s with transfers := rest ++ [t] })
          else
            let value := (List.range total).map fun k => (t.byte k).getD 0
            let (status, s) := writeItem acc raw inst sub value w { s with transfers := rest }
            (status, total, s)

/-- BLOCK_WRITE (R461): a sealed block is deciphered as its item, at position 0. -/
def execBlockWrite (msg : RolIn) (beyond : WriteIn) (s : State) : Host.Outcome State Fault Refusal :=
  whenUp s fun s => inSession 0x16 msg s fun x seq => request x seq 1 fun s =>
    let b := rolPayload msg.bytes
    let num := numAt b 12 2
    let n := numAt b 14 2
    if b.length ≠ 24 + n then ([(0x3F, [0, 4, 0, 0])], s)
    else
      let sealing := bit 7 (b.getD 3 0)
      let raw := numAt b 0 2
      let sub := b.getD 2 0
      let data := if sealing then sealData (s.aux .sesKeys x 2) (s.aux .sesNonce x) seq 0 (b.drop 24) else b.drop 24
      let (status, got, s) := if raw == 0x4000 && sub == 2 && !sealing then (2, 0, refuse 2 s)
        else takeBlock (sessionAcc s x) num raw (numAt b 4 4) sub (numAt b 16 4) (numAt b 20 4) data beyond s
      ([(0x17, bytesOf 2 num ++ bytesOf 2 status ++ bytesOf 4 got)], s)

/-- BLOCK_TRANSFER_TIMEOUT (R461): no block for 1 s: the transfer is abandoned and answered with status 10. -/
def execBlockTransferTimeout (slot number : Nat) (s : State) : Host.Outcome State Fault Refusal :=
  whenUp s fun s => match transferOf s (280 + slot) number with
    | none => s
    | some t =>
      if s.now < t.last + 1000000000 then s
      else
      let s := { s with transfers := s.transfers.filter fun u => !(u.master == 280 + slot && u.num == number) }
      numbered slot 1 (fun s =>
        let (m, s) := deviceMsg slot 0x17 0 (bytesOf 2 number ++ [0, 10] ++ bytesOf 4 t.arrived) s
        emitSession slot m s) s

/-! ## Subscriptions and the rest (R457, R462) -/

/-- SUBSCRIBE (R462). -/
def execSubscribe (msg : RolIn) (s : State) : Host.Outcome State Fault Refusal :=
  whenUp s fun s => inSession 0x20 msg s fun x seq => request x seq 1 fun s =>
    let b := rolPayload msg.bytes
    let num := b.getD 0 0
    let low := b.getD 2 0
    let first := numAt b 4 2
    let last := numAt b 6 2
    let rest := s.subs.filter fun u => !(u.slot == x && u.num == num)
    let bad := b.length != 8 || 15 < num || 1 < b.getD 1 0 || (b.getD 1 0 == 1 && (low == 0 || 3 < low || last < first))
    if bad then ([(0x21, [num, 0, 0, 4])], s)
    else if b.getD 1 0 = 0 then ([(0x21, [num, 0, 0, 0])], { s with subs := rest })
    else ([(0x21, [num, 0, 0, 0])], { s with subs := rest ++ [⟨x, num, low, bit 0 (b.getD 3 0), first, last⟩] })

/-- NOTIFY_ACK (R462): the NOTIFY that the echo names is released. -/
def execNotifyAck (msg : RolIn) (s : State) : Host.Outcome State Fault Refusal :=
  whenUp s fun s => inSession 0x23 msg s fun x _ s =>
    pump x { s with notifies := s.notifies.filter fun n => !(n.slot == x && n.seq == numAt msg.bytes 16 8) }

/-- KEEPALIVE (R457). -/
def execKeepalive (msg : RolIn) (s : State) : Host.Outcome State Fault Refusal :=
  whenUp s fun s => inSession 0x30 msg s fun _ _ s => s

/-- CLOSE (R457): cause 1, and no CLOSE in answer. -/
def execClose (msg : RolIn) (s : State) : Host.Outcome State Fault Refusal :=
  whenUp s fun s => inSession 0x31 msg s fun x _ s => closeSession x 1 false s

end Sys2Proof.Machine
end

