-- ==== Sys2Proof/Machine/HostPort.lean ====
section
/-!
DEFINITION. Machine/HostPort.lean: the PCIe window, the mailboxes, the DMA channels, and host requests between members (spec/14
R463 to R468, R470).
-/
namespace Sys2Proof.Machine

/-! ## Values in host memory (R449) -/

/-- A value's bytes between the order of the dictionary and that of the window: numbers are little-endian, octets and text
are as they are, a TIME80 has both its parts little-endian. -/
def hostOrder (t : Option Ty) (b : List Nat) : List Nat :=
  match t with
  | some (.octets _) | some (.text _) => b
  | some .time80 => (b.take 6).reverse ++ (b.drop 6).reverse
  | _ => b.reverse

/-- A request of a descriptor's operations 0x01 to 0x04, made here: status, bytes read, and the state. -/
def hostRun (acc : Acc) (d : DmaDesc) (data : List Nat) (w : WriteIn) (s : State) : Nat × List Nat × State :=
  let order := hostOrder (typeAt d.index d.inst d.sub)
  let write := fun (s : State) =>
    let (status, s) := writeItem acc d.index d.inst d.sub (order (data.take d.length)) w s
    (status, ([] : List Nat), s)
  match d.op with
  | 1 =>
    let (status, b, s) := readItem acc d.index d.inst d.sub s
    (status, (order b).take d.length, s)
  | 2 => write s
  | 3 => readRange acc d.index d.inst d.sub d.offset d.length order s
  | 4 =>
    let busy := match Objects.locate d.index d.inst with
      | some (i, n) => transferOpen s i n d.sub
      | none => false
    if 2 ^ 24 < d.length then (4, [], refuse 4 s) else if busy && !frozen s acc.master then (3, [], refuse 3 s) else write s
  | _ => (4, [], refuse 4 s)

/-! ## Requests to other members (R470) -/

/-- A descriptor's 64 bytes, and the descriptor that they spell (R465). -/
def descBytes (d : DmaDesc) : List Nat :=
  [d.op, d.flags] ++ leBytes 2 d.ident ++ leBytes 2 d.index ++ [d.sub, d.target] ++ leBytes 4 d.inst ++ leBytes 4 d.length
    ++ leBytes 8 d.host ++ leBytes 4 d.offset ++ [d.kind, d.port] ++ List.replicate 34 0
def dmaDesc (b : List Nat) : DmaDesc :=
  ⟨b.getD 0 0, b.getD 1 0, leAt b 2 2, leAt b 4 2, b.getD 6 0, b.getD 7 0, leAt b 8 4, leAt b 12 4, leAt b 16 8, leAt b 24 4,
    b.getD 28 0, b.getD 29 0⟩

/-- A completion's 32 bytes, which a relayed request's answer has too, with position 0 (R465, R470). -/
def doneBytes (position status n : Nat) (at' : Ns) : List Nat :=
  leBytes 2 position ++ leBytes 2 status ++ leBytes 4 n ++ leBytes 8 (stamp64 at') ++ List.replicate 16 0

/-- The tag of a message between hosts (R470; log entry 130), an operation under the domain management slot: its blocks are charged
to the slot's generation (R232, R233). None when no slot is bound, or when it cannot be used, which counts as a refusal (R237 to
R239). -/
def domainTag (body : List Nat) (s : State) : Option Nat × State :=
  let k := s.get 0x1130 0 1
  if k = 0xFFFF then (none, s)
  else
    let s := readSlot k s
    if !slotLive s k then (none, refuseKey k 2 s)
    else (some (Config.hmacSm3 (s.aux .keyMat k 0) body % 2 ^ 256), chargeKey k (slotGen s k) (ceilDiv body.length 16) s)

/-- A host request or its answer leaves in a kind 6 frame; without its tag it is not sent. -/
def sendHost (m kind seq role : Nat) (words data : List Nat) (s : State) : Bool × State :=
  let body := bytesOf 8 seq ++ [role, 0, 0, 0] ++ words ++ data
  match domainTag body s with
  | (none, s) => (false, s)
  | (some tag, s) =>
    let bytes := relayHead 0 (member s) 0 kind ++ body ++ bytesOf 32 tag
    (true, sendFrame m 3 6 0 0 0 bytes bytes.length s)

/-- A mailbox's or a channel's request to another member: 0 when it was sent and waits for its answer, 11 without a path, and 10
when its tag cannot be computed (R237). Event 3989 reports the last two. -/
def relayHost (mailbox : Bool) (unit role : Nat) (d : DmaDesc) (data : List Nat) (s : State) : Nat × State :=
  let seq := wrapAdd 64 (s.aux .relaySeq d.target) 1
  if 64 ≤ d.target ∨ (activePort s d.target).isNone then (11, raise 3989 d.target 11 1 s)
  else match sendHost d.target 1 seq role (descBytes d) data s with
    | (true, s) => (0, { s.setAux .relaySeq d.target 0 seq with hostWaits := s.hostWaits ++ [⟨d.target, seq, mailbox, unit, d, s.now⟩] })
    | (false, s) => (10, raise 3989 d.target 10 1 s)

/-! ## Mailboxes (R463, R464) -/

/-- A mailbox's word 3: busy, interrupt on completion, status. -/
def mailWord (busy irq : Bool) (status : Nat) : Nat := (if busy then 2 ^ 31 else 0) + (if irq then 2 ^ 16 else 0) + status

/-- A mailbox's access ends. -/
def mailDone (m status : Nat) (data : List Nat) (s : State) : State :=
  let irq := bit 16 (s.aux .mbox m 3)
  let s := s.setAux .mbox m 3 (mailWord false irq status)
  let s := if data.isEmpty then s else s.setAux .mboxData m 0 (ofBytes (data ++ List.replicate (128 - data.length) 0))
  if irq then s.send .msix [25] else s

/-- A write of a mailbox's word 3, with the words and the data that the host wrote before it (R463, R464). -/
def mailbox (op m w0 w1 w2 : Nat) (irq : Bool) (data : List Nat) (w : WriteIn) (s : State) : State :=
  if 4 ≤ m ∨ bit 31 (s.aux .mbox m 3) = true then s
  else
    let s := ((s.setAux .mbox m 0 w0).setAux .mbox m 1 w1).setAux .mbox m 2 w2
    let s := if op = 2 then s.setAux .mboxData m 0 (ofBytes (data.take 128 ++ List.replicate (128 - data.length) 0)) else s
    let s := s.setAux .mbox m 3 (mailWord true irq 0)
    let role := s.get 0x1140 0 1
    let d : DmaDesc := ⟨op, 0, 0, field 15 0 w0, field 23 16 w0, field 23 16 w2, w1, field 15 0 w2, 0, 0, 0, 0⟩
    if field 31 24 w0 ≠ 0 ∨ 128 < d.length ∨ (op = 1 ∧ 128 < widthAt d.index d.inst d.sub) then mailDone m 4 [] s
    else if d.target = 0xFF ∨ d.target = member s then
      let (status, b, s) := hostRun ⟨roleOf role, 256 + m⟩ d (data.take d.length) w s
      mailDone m status b s
    else match relayHost true m role d (data.take d.length) s with
      | (0, s) => s
      | (status, s) => mailDone m status [] s

/-- What a write brings beyond its value where nothing does. -/
def noWrite : WriteIn := ⟨0, [], ⟨false, 0, [], 0, false, false, false, []⟩, noFar⟩

/-- MAILBOX_READ (R464): 1 written to word 3. -/
def execMailboxRead (mailbox word0 word1 word2 : Nat) (irq : Bool) (s : State) : Host.Outcome State Fault Refusal :=
  whenUp s fun s => Machine.mailbox 1 mailbox word0 word1 word2 irq [] noWrite s

/-- MAILBOX_WRITE (R464): 2 written to word 3. -/
def execMailboxWrite (mailbox word0 word1 word2 : Nat) (irq : Bool) (data : List Nat) (beyond : WriteIn) (s : State) :
    Host.Outcome State Fault Refusal :=
  whenUp s fun s => Machine.mailbox 2 mailbox word0 word1 word2 irq data beyond s

/-! ## DMA channels (R465, R468) -/

/-- A channel's state changes (event 3991). -/
def dmaState (h new : Nat) (s : State) : State := raise 3991 h (s.get 0x1150 h 2) new (s.put 0x1150 h 2 new)

/-- The descriptor at the consumer index completes: its completion stands at the same place of the completion ring (R465). -/
def dmaComplete (h flags status n : Nat) (s : State) : State :=
  let pos := s.get 0x1150 h 9
  let s := s.send .dmaDone ([h, s.get 0x1150 h 6 + 32 * pos] ++ doneBytes pos status n s.now)
  let s := (s.put 0x1150 h 9 ((pos + 1) % s.get 0x1150 h 5)).bump 0x1150 h 0x0B
  if bit 0 flags then s.send .msix [h] else s

/-- DMA_DOORBELL (R463, R465): the new producer index. -/
def execDmaDoorbell (channel value : Nat) (s : State) : Host.Outcome State Fault Refusal :=
  whenUp s fun s => if 16 ≤ channel then s else s.setAux .dmaProd channel 0 (value % s.get 0x1150 channel 5)

/-- A running channel's next descriptor, with the operation of its command (R465, R468): fetched when the host has posted it
and none is in flight; another operation or a reserved flag completes with status 4. -/
def dmaFetch (h op : Nat) (desc : List Nat) (s : State) (body : DmaDesc → State → State) : State :=
  let d := dmaDesc desc
  if 16 ≤ h ∨ s.get 0x1150 h 2 ≠ 2 ∨ s.get 0x1150 h 9 = s.aux .dmaProd h ∨ s.aux .dmaBusy h ≠ 0 then s
  else if d.op ≠ op ∨ 4 ≤ d.flags then dmaComplete h d.flags 4 0 s
  else body d s

/-- A descriptor of operations 0x01 to 0x04. -/
def dmaAccess (h op : Nat) (desc data : List Nat) (w : WriteIn) (s : State) : State :=
  dmaFetch h op desc s fun d s =>
    let role := s.get 0x1150 h 3
    if d.target = 0xFF ∨ d.target = member s then
      let (status, b, s) := hostRun ⟨roleOf role, 256 + h⟩ d data w s
      let s := if b.isEmpty then s else s.send .dmaData ([h, d.host] ++ b)
      let n := if status ≠ 0 then 0 else if d.op = 1 ∨ d.op = 3 then b.length else d.length
      dmaComplete h d.flags status n s
    else match relayHost false h role d (data.take d.length) s with
      | (0, s) => s.setAux .dmaBusy h 0 1
      | (status, s) => dmaComplete h d.flags status 0 s

/-- DMA_READ (R465). -/
def execDmaRead (channel : Nat) (desc : List Nat) (s : State) : Host.Outcome State Fault Refusal :=
  whenUp s fun s => dmaAccess channel 1 desc [] noWrite s

/-- DMA_WRITE (R465). -/
def execDmaWrite (channel : Nat) (desc : List Nat) (data : List Nat) (beyond : WriteIn) (s : State) :
    Host.Outcome State Fault Refusal :=
  whenUp s fun s => dmaAccess channel 2 desc data beyond s

/-- DMA_BLOCK_READ (R465). -/
def execDmaBlockRead (channel : Nat) (desc : List Nat) (s : State) : Host.Outcome State Fault Refusal :=
  whenUp s fun s => dmaAccess channel 3 desc [] noWrite s

/-- DMA_BLOCK_WRITE (R465): the whole value, which takes effect at its completion. -/
def execDmaBlockWrite (channel : Nat) (desc : List Nat) (data : List Nat) (beyond : WriteIn) (s : State) :
    Host.Outcome State Fault Refusal :=
  whenUp s fun s => dmaAccess channel 4 desc data beyond s

/-- The port of a packet send exists and carries frames (R466). -/
def sendPort (s : State) (kind p : Nat) : Bool :=
  if kind = 0 then p < 32 && s.get 0x5090 p 2 == 4 else kind == 1 && p < 2 && s.get 0x50C0 p 3 == 4

/-- The sequenceId of a frame's PTP message (EtherType 0x88F7, octets 30 and 31 of the message; log entry 140), 0 for any other
frame (spec/13 R441). -/
def ptpSequence (b : List Nat) : Nat := if numAt b 12 2 = 0x88F7 then numAt b 44 2 else 0

/-- DMA_PACKET_SEND (R466): the frame takes a buffer under the channel's quota, or completes with status 12; the MAC sends it
between two scheduled frames, and the buffer returns. delay is what the port's PCS, FEC and markers take, in ps, for the time-stamp
that flag 1 asks for (spec/13 R439, R441). -/
def execDmaPacketSend (channel : Nat) (desc addresses payload : List Nat) (pick delay : Nat) (s : State) :
    Host.Outcome State Fault Refusal :=
  let bytes := addresses ++ payload
  whenUp s fun s => dmaFetch channel 0x10 desc s fun desc s =>
    let h := channel
    let pool := poolFor desc.length
    if desc.length < 60 ∨ 10240 < desc.length ∨ bytes.length ≠ desc.length ∨ 1 < desc.kind then dmaComplete h desc.flags 4 0 s
    else if !sendPort s desc.kind desc.port then dmaComplete h desc.flags 3 0 s
    else if !mayTake s (512 + h) pool then dmaComplete h desc.flags 12 0 (refuseBuffer (512 + h) pool s)
    else
      let (b, s) := takeBuffer (512 + h) pool pick s
      let s := if desc.kind = 0 then (s.bump 0x5090 desc.port 8).send .uplinkFrame ([desc.port, 0xFFFFFFFF, desc.length] ++ bytes)
        else s.send .mgmtFrame (desc.port :: bytes)
      let s := if bit 1 desc.flags && desc.kind == 0 then txEntry desc.port desc.ident (ptpSequence bytes) false delay s else s
      dmaComplete h desc.flags 0 desc.length (freeBuffer pool b s)

/-- A posted entry filled for a frame (R467): its other bytes stay as the host posted them. stamp is in units of 2^−16 ns. -/
def fillEntry (entry : List Nat) (len kind port : Nat) (stamp : Int) : List Nat :=
  let at' := fun i => entry.getD i 0
  entry.take 10 ++ leBytes 2 len ++ [kind, port, at' 14, at' 15] ++ leBytes 8 (stamp64 (stamp / 65536).toNat)
    ++ leBytes 2 (stamp % 65536).toNat ++ [setBit 0 true (at' 26)] ++ entry.drop 27

/-- DMA_RECEIVE_FRAME (R467): the next 32-byte entry that the host has posted is filled, and its buffer takes the frame; with none
posted, or a buffer too small, or a channel that is not running, the frame is dropped and counted. -/
def execDmaReceiveFrame (channel kind port : Nat) (stamp : Int) (bytes entry : List Nat) (s : State) :
    Host.Outcome State Fault Refusal :=
  whenUp s fun s =>
    let size := s.get 0x1150 channel 8
    if 16 ≤ channel then s
    else if entry.length ≠ 32 ∨ leAt entry 8 2 < bytes.length ∨ size = 0 ∨ s.get 0x1150 channel 2 ≠ 2 then s.bump 0x1150 channel 0x0C
    else
      let pos := s.aux .dmaRx channel
      let s := (s.setAux .dmaRx channel 0 ((pos + 1) % size)).send .dmaData ([channel, leAt entry 0 8] ++ bytes)
      s.send .dmaReceive ([channel, s.get 0x1150 channel 7 + 32 * pos] ++ fillEntry entry bytes.length kind port stamp)

/-- DMA_CHANNEL_ENABLE (R468). -/
def execDmaChannelEnable (acc : Acc) (channel : Nat) (s : State) : Host.Outcome State Fault Refusal :=
  whenUp s fun s => dmaEnable acc channel 1 s

/-- DMA_CHANNEL_DRAIN (R468). -/
def execDmaChannelDrain (acc : Acc) (channel : Nat) (s : State) : Host.Outcome State Fault Refusal :=
  whenUp s fun s => dmaEnable acc channel 0 s

/-- DMA_DRAIN_EXPIRY (R468): what is in flight completes with status 13, and the channel reports disabled. -/
def execDmaDrainExpiry (channel : Nat) (s : State) : Host.Outcome State Fault Refusal :=
  whenUp s fun s =>
    if 16 ≤ channel ∨ s.get 0x1150 channel 2 ≠ 1 then s
    else
      let mine := fun w : HostWait => !w.mailbox && w.unit == channel
      let s := overAll (s.hostWaits.filter mine) (fun w s => dmaComplete channel w.desc.flags 13 0 s) s
      dmaState channel 0 ({ s with hostWaits := s.hostWaits.filter fun w => !mine w }.setAux .dmaBusy channel 0 0)

/-! ## Answers and requests of other members (R469, R470) -/

/-- A host request ends with a status and the bytes that its answer brought. A draining channel with nothing else in flight
is then disabled. -/
def hostAnswered (w : HostWait) (status : Nat) (data : List Nat) (s : State) : State :=
  let s := { s with hostWaits := s.hostWaits.erase w }
  if w.mailbox then mailDone w.unit status (data.take 128) s
  else
    let s := if data.isEmpty then s else s.send .dmaData ([w.unit, w.desc.host] ++ data)
    let n := if status ≠ 0 then 0 else if w.desc.op = 1 ∨ w.desc.op = 3 then data.length else w.desc.length
    let s := (dmaComplete w.unit w.desc.flags status n s).setAux .dmaBusy w.unit 0 0
    if s.get 0x1150 w.unit 2 = 1 then dmaState w.unit 0 s else s

/-- The role that a relayed request gets (R470): the role carried, at most the ceiling of 0x1130.02; a tenant or vendor role
only under a ceiling of operator or owner. -/
def grantRole (ceiling code : Nat) : Option Role :=
  match ceiling, code with
  | 0, _ => none
  | _, 0 => some .observer
  | 1, 1 | 1, 2 => some .observer
  | 1, _ => none
  | 2, 2 => some .operator
  | _, c => if 3 < c ∧ c < 0x10 then none else some (roleOf c)

/-- A relayed request's number is new (R470): not below the member's window of 64 and not seen in it. -/
def relayFresh (s : State) (m seq : Nat) : Bool :=
  let high := s.aux .relayHigh m
  high < seq || (high < seq + 64 && !bit (high - seq) (s.aux .relaySeen m))

/-- It is noted. -/
def relayMark (m seq : Nat) (s : State) : State :=
  let high := s.aux .relayHigh m
  let seen := s.aux .relaySeen m
  if high < seq then
    (s.setAux .relayHigh m 0 seq).setAux .relaySeen m 0 (if 64 ≤ seq - high then 1 else seen * 2 ^ (seq - high) % 2 ^ 64 + 1)
  else s.setAux .relaySeen m 0 (setBit (high - seq) true seen)

/-- A message between hosts as it arrived (R469, R470): the member it came from, whether it answers, its number, the role, the
request in the form of a descriptor, an answer's status, and the data. -/
structure HostMsg where
  source : Nat
  answer : Bool
  seq : Nat
  role : Nat
  desc : DmaDesc
  status : Nat
  data : List Nat
  deriving DecidableEq, Repr

/-- The message in a relay payload of kind 1 or 2 (R469, R470; log entry 130); none when it is too short or of another kind. -/
def hostMsg (source : Nat) (b : List Nat) : Option HostMsg :=
  let kind := b.getD 20 0
  let words := if kind = 2 then 32 else 64
  if (kind ≠ 1 ∧ kind ≠ 2) ∨ b.length < 68 + words then none
  else some ⟨source, kind == 2, numAt b 24 8, b.getD 32 0, dmaDesc ((b.drop 36).take 64), leAt b 38 2,
    (b.take (b.length - 32)).drop (36 + words)⟩

/-- A relayed request is run as master 343. Key material is refused with "not supported"; a role that the ceiling does not
admit is refused as an access outside the role's rights is (spec/00 R21). -/
def runRelayed (m : HostMsg) (w : WriteIn) (s : State) : Nat × List Nat × State :=
  let d := m.desc
  if frozen s 343 then (9, [], refuse 9 s)
  else match grantRole (s.get 0x1130 0 2) m.role with
    | none => (2, [], refuseRole ⟨.observer, 343⟩ 1 d.index d.inst d.sub s)
    | some role =>
      if (d.op = 2 ∨ d.op = 4) ∧ d.index = 0x4000 ∧ d.sub = 2 then (5, [], refuse 5 s)
      else hostRun ⟨role, 343⟩ d m.data w s

/-- What a message between hosts does once its tag is right: an answer completes the local mailbox or channel, a new request is run
and answered, and a number seen before is dropped. -/
def takeHostMsg (msg : HostMsg) (beyond : WriteIn) (s : State) : State :=
  if msg.answer then
    match s.hostWaits.find? fun w => w.member == msg.source && w.seq == msg.seq with
    | none => s
    | some w => hostAnswered w msg.status msg.data s
  else if relayFresh s msg.source msg.seq then
    let (status, b, s) := runRelayed msg beyond (relayMark msg.source msg.seq s)
    let n := if status ≠ 0 then 0 else if msg.desc.op = 1 ∨ msg.desc.op = 3 then b.length else msg.desc.length
    (sendHost msg.source 2 msg.seq msg.role (doneBytes 0 status n s.now) b s).2
  else s

/-- HOST_REQUEST_RELAY (R470): a relay payload of kind 1 or 2 from a member; dropped when its tag fails. -/
def execHostRequestRelay (msg : Nat × List Nat) (beyond : WriteIn) (s : State) : Host.Outcome State Fault Refusal :=
  let (source, bytes) := msg
  whenUp s fun s => match hostMsg source bytes with
    | none => s
    | some msg =>
      let n := bytes.length - 32
      let (tag, s) := domainTag ((bytes.take n).drop 24) s
      if tag = some (numAt bytes n 32) then takeHostMsg msg beyond s else s

/-- RELAY_TIMEOUT (R469, R470): no answer within 10 ms: the client gets an ERROR with status 10, and a host request ends with
status 10. -/
def execRelayTimeout (host : Bool) (target seq session peer : Nat) (s : State) : Host.Outcome State Fault Refusal :=
  whenUp s fun s =>
    if host then
      (match s.hostWaits.find? fun w => w.member == target && w.seq == seq with
       | none => s
       | some w => if s.now < w.sent + 10000000 then s else raise 3989 target 10 1 (hostAnswered w 10 [] s))
    else
      let late := fun w : Nat × Nat × Ns => w.1 == session && w.2.1 == seq && decide (w.2.2 + 10000000 ≤ s.now)
      match s.relays.find? fun r => r.peer == peer && r.target == target && r.waits.any late with
      | none => s
      | some r =>
        let used := fun k : RelayEntry => if k = r then { k with waits := k.waits.filter fun w => !late w } else k
        raise 3989 target 10 0 (relayError r.port peer session seq 10 { s with relays := s.relays.map used })

/-! ## The window as the host reads it (R463; spec/15 R483, R490) -/

/-- The recovery registers that the boot ROM offers (spec/15 R490); no other register answers. -/
def recoveryRead (s : State) (offset : Nat) : Nat :=
  match offset with
  | 4 => 0
  | 0x3000 => s.aux .recAddr % 2 ^ 32
  | 0x3004 => s.aux .recAddr / 2 ^ 32
  | 0x3008 => s.aux .recLen
  | 0x300C => s.aux .recCause * 2 ^ 8 + s.aux .recOk
  | _ => 0xFFFFFFFF

/-- A read of BAR0 of some width, at an offset: an access that is not 4 bytes wide and aligned gives all ones. Until READY, the
window state reads 0 and every word 3 reads busy. -/
def barRead (s : State) (width offset : Nat) : Nat :=
  let up := s.phase == .running
  let m := (offset - 0x1000) / 0x100
  let o := (offset - 0x1000) % 0x100
  if width ≠ 4 ∨ offset % 4 ≠ 0 ∨ 0x10000 ≤ offset then 256 ^ width - 1
  else if s.phase = .recovery then recoveryRead s offset
  else if offset = 0 then 0x4B4A4850
  else if offset = 4 then (if up then 1 + (if s.get 0x1210 0 8 = 1 then 2 else 0) else 0)
  else if 0x1000 ≤ offset ∧ offset < 0x1400 then
    (if o < 12 then s.aux .mbox m (o / 4)
     else if o = 12 then (if up then s.aux .mbox m 3 else 2 ^ 31)
     else if 0x80 ≤ o then ofBytes ((bytesOf 128 (s.aux .mboxData m)).drop (o - 0x80) |>.take 4).reverse
     else 0)
  else if offset = 0x2100 then s.aux .ringCons
  else if offset = 0x2104 then s.aux .ringProd
  else 0

end Sys2Proof.Machine
end

