-- ==== Sys2Proof/Machine/Pass.lean ====
section
/-!
DEFINITION. Machine/Pass.lean: the grant-assignment pass at the input cut-off (spec/05 R162, R168, R169; spec/06 R206, R209 to
R215).
-/
namespace Sys2Proof.Machine

/-- The figures of a running pass: the time left, the bytes placed for each allocation, the payload of each terminal's
burst, the bytes charged to each owner, what the pass itself gave, the allocation each owner served first, whether the time
ran out in a guaranteed pass, and each owner's fixed bytes that found no time. -/
structure Pass where
  time : Nat
  placed : List (Nat × Nat)
  payload : List (Nat × Nat)
  charged : List (Nat × Nat)
  given : List (Nat × Nat)
  first : List (Nat × Nat)
  ranOut : Bool
  lost : List (Nat × Nat)
  deriving DecidableEq, Repr

/-- The value a list of pairs gives a key, 0 for an absent one. -/
def look (l : List (Nat × Nat)) (k : Nat) : Nat := ((l.find? fun p => p.1 == k).map fun p => p.2).getD 0

/-- The pairs with a key's value raised. -/
def raiseKey (l : List (Nat × Nat)) (k n : Nat) : List (Nat × Nat) :=
  l.filter (fun p => p.1 != k) ++ [(k, look l k + n)]

/-- What the pass of a lane works on. -/
structure PassOf where
  s : State
  tree : Nat
  lane : Nat
  frame : Nat
  /-- The assured and own-guarantee passes run. -/
  guard : Bool := false

/-- Lane index i = 2t + l. -/
def PassOf.i (c : PassOf) : Nat := 2 * c.tree + c.lane

/-- The terminal of an allocation. -/
def PassOf.term (c : PassOf) (a : Nat) : Nat := c.s.get 0x3400 a 2

/-- The owner of an allocation. -/
def PassOf.owner (c : PassOf) (a : Nat) : Nat := ownerOf c.s 1 a

/-- The kind of an allocation (R168). -/
def PassOf.kind (c : PassOf) (a : Nat) : Nat := c.s.get 0x3400 a 4

/-- What an allocation still wants: its demand less the bytes placed for it (R209). -/
def PassOf.want (c : PassOf) (p : Pass) (a : Nat) : Nat := c.s.get 0x3400 a 0x0A - look p.placed a

/-- The room below an owner's ceiling; the pool has no ceiling (R209). -/
def PassOf.room (c : PassOf) (p : Pass) (o : Nat) : Nat :=
  if o = 16 then 2 ^ 32 else c.s.get 0x3820 (96 * o + c.i) 2 - look p.charged o

/-- The DBRu that an allocation's first bytes bring with them (log entry 36). -/
def PassOf.report (c : PassOf) (p : Pass) (a : Nat) : Nat :=
  if c.s.get 0x3400 a 5 = 0 && !(p.placed.any fun x => x.1 == a) then 4 else 0

/-- cost(a, x) of R210 for x bytes with what they bring with them. -/
def PassOf.cost (c : PassOf) (p : Pass) (a x : Nat) : Nat :=
  let n := c.term a
  let prof := c.s.get 0x3900 n 1
  let body := bodyBits c.s c.tree c.lane prof
  let add := x + c.report p a
  match p.payload.find? fun y => y.1 == n with
  | some y => body (y.2 + add) - body y.2
  | none => leadBits c.s c.tree c.lane prof + body (8 + add) + spacing c.s c.tree c.lane c.frame

/-- The most bytes between lo and lo + 2^n - 1 that fit a time. -/
def PassOf.fits (c : PassOf) (p : Pass) (a time : Nat) : Nat → Nat → Nat
  | 0, lo => lo
  | n + 1, lo => if c.cost p a (lo + 2 ^ n) ≤ time then fits c p a time n (lo + 2 ^ n) else fits c p a time n lo

/-- The bytes that a time holds for an allocation. -/
def PassOf.holds (c : PassOf) (p : Pass) (a time : Nat) : Nat := if c.cost p a 0 ≤ time then c.fits p a time 21 0 else 0

/-- give(a, x) of R209: the bytes placed; nothing once the time has run out in a guaranteed pass (R213). A word of R210's
rounding (word) may be less than the minimum grant for an allocation that has bytes in the map already (log entry 111). -/
def PassOf.give (c : PassOf) (a x : Nat) (p : Pass) (word : Bool := false) : Nat × Pass :=
  if p.ranOut then (0, p) else
  let o := c.owner a
  let want := c.want p a
  let lim := min (min x want) (c.room p o)
  let lim := if 2 ≤ c.kind a then min lim (c.s.get 0x3A00 a 3 - look p.placed a) else lim
  let h := c.holds p a p.time
  let p := if h < lim ∧ c.guard then { p with ranOut := true } else p
  let cap := min lim h / 4 * 4
  let cap := if cap < c.s.get 0x3880 c.i 5 ∧ cap < want ∧ !(word && look p.placed a != 0) then 0 else cap
  if cap = 0 then (0, p)
  else
    let add := cap + c.report p a
    let time := p.time - c.cost p a cap
    let payload := if p.payload.any fun y => y.1 == c.term a then raiseKey p.payload (c.term a) add
      else p.payload ++ [(c.term a, 8 + add)]
    (cap, { p with
      time := time
      payload := payload
      placed := raiseKey p.placed a cap
      charged := raiseKey p.charged o cap
      given := raiseKey p.given a cap
      first := if p.first.any fun y => y.1 == o then p.first else p.first ++ [(o, a)] })

/-- An allocation can still take bytes. -/
def PassOf.isOpen (c : PassOf) (p : Pass) (a : Nat) : Bool :=
  0 < c.want p a && 0 < c.room p (c.owner a) && (c.kind a < 2 || look p.placed a < c.s.get 0x3A00 a 3)

/-- give() over a list of shares: the sum placed. -/
def PassOf.giveAll (c : PassOf) (shares : List (Nat × Nat)) (p : Pass) : Nat × Pass :=
  shares.foldl (fun r x => let g := c.give x.1 x.2 r.2; (r.1 + g.1, g.2)) (0, p)

/-- The rounding of R210: one XGEM word each, in pass order, until nothing more is placed. -/
def PassOf.words (c : PassOf) (members : List Nat) : Nat → Nat → Pass → Nat × Pass
  | 0, _, p => (0, p)
  | n + 1, budget, p =>
    let r := members.foldl (fun (r : Nat × Pass) a =>
      if budget < r.1 + 4 then r else let g := c.give a 4 r.2 true; (r.1 + g.1, g.2)) (0, p)
    if r.1 = 0 then (0, r.2)
    else let q := words c members n (budget - r.1) r.2; (r.1 + q.1, q.2)

/-- fill_bytes of R210: the bytes placed. -/
def PassOf.fillBytes (c : PassOf) (members : List Nat) (weight : Nat → Nat) : Nat → Nat → Pass → Nat × Pass
  | 0, _, p => (0, p)
  | n + 1, budget, p =>
    let live := members.filter fun a => c.isOpen p a
    let total := live.foldl (fun k a => k + weight a) 0
    let r := c.giveAll (live.map fun a => (a, budget * weight a / total)) p
    if r.1 = 0 then c.words members (budget / 4 + 1) budget r.2
    else let q := fillBytes c members weight n (budget - r.1) r.2; (r.1 + q.1, q.2)

/-- The weight of an owner in the lending pass. -/
def PassOf.ownerWeight (c : PassOf) (o : Nat) : Nat := if o = 16 then c.s.get 0x3880 c.i 3 else c.s.get 0x3810 o 2

/-- fill_time of R210. -/
def PassOf.fillTime (c : PassOf) (members : List Nat) (weight : Nat → Nat) : Nat → Pass → Pass
  | 0, p => p
  | n + 1, p =>
    let live := members.filter fun a => c.isOpen p a
    let owners := (live.map c.owner).eraseDups
    let total := owners.foldl (fun k o => k + c.ownerWeight o) 0
    let within := fun a => (live.filter fun b => c.owner b == c.owner a).foldl (fun k b => k + weight b) 0
    let time := p.time
    let r := live.foldl (fun (r : Nat × Pass) a =>
      let part := time * c.ownerWeight (c.owner a) * weight a / (total * within a)
      let g := c.give a (c.holds r.2 a part) r.2
      (r.1 + g.1, g.2)) (0, p)
    if r.1 = 0 then (c.words members (2 ^ 20) (2 ^ 32) r.2).2 else fillTime c members weight n r.2

/-- The pass order of the owners (R211). -/
def PassOf.owners (c : PassOf) : List Nat := ((List.range 16).map fun k => (c.frame + k) % 16) ++ [16]

/-- The allocations that the pass may grant (R124, R173, R197): provisioned, of a terminal in OPERATION on the lane that is
not muted. -/
def PassOf.allocations (c : PassOf) : List Nat :=
  c.s.objs.filterMap fun e =>
    let a := e.1.inst
    let n := c.s.get 0x3400 a 2
    if e.1.index == 0x3400 && e.1.sub == 1 && e.2 == 1 && a / 1024 == c.tree && c.s.aux .allocDrain a == 0 && n != 0xFFFF
      && termState c.s n == 3 && laneOf c.s n == c.lane && !isMuted c.s c.tree (n % 512) then some a else none

/-- An owner's allocations in pass order (R211): from the one after the one served first in its previous map. -/
def PassOf.inOrder (c : PassOf) (o : Nat) : List Nat :=
  let l := c.allocations.filter fun a => c.owner a == o
  let last := c.s.aux .passFirst c.i o
  l.filter (fun a => last ≤ a) ++ l.filter fun a => a < last

/-- What is staged for the map. -/
def PassOf.staged (c : PassOf) : List Grant := ((mapOf c.s.staged c.tree c.lane c.frame).map fun g => g.entries).getD []

/-- The start of the pass (R206, R209): the time left beside what is staged, and what the staged entries hold. -/
def PassOf.start (c : PassOf) : Pass :=
  let es := c.staged
  let quiet := quietAround c.s c.tree c.lane c.frame ++ beatSpans es
  let sp := spacing c.s c.tree c.lane c.frame
  let slots := if c.lane = 0 then openSlots c.s c.tree c.frame quiet else []
  let spans := quiet ++ slots ++ (burstSpans es).eraseDups
  let used := spans.foldl (fun n x => n + ((min x.closes (frameBits c.lane : Int)) - (max x.opens (0 : Int)) : Int).toNat + sp) 0
  let mine := es.filter fun e => e.kind != 0 && e.kind != 1
  let byAlloc := mine.foldl (fun l e => match allocOf c.s c.tree e.alloc with
    | some a => raiseKey l a e.bytes
    | none => l) []
  let charged := (List.range 17).map fun o => (o, chargedTo c.s ⟨c.tree, c.lane, c.frame, es⟩ o)
  let payload := mine.foldl (fun l e =>
    let n := 512 * c.tree + e.onu
    raiseKey l n (e.bytes + (if e.dbru then 4 else 0) + (if e.joined then 0 else 8))) []
  ⟨if blank c.s c.tree c.lane c.frame then 0 else frameBits c.lane - used, byAlloc, payload, charged, [], [], false, []⟩

/-- The assured and own-guarantee passes (R209). -/
def PassOf.guaranteed (c : PassOf) (p : Pass) : Pass :=
  let c : PassOf := { c with guard := true }
  let cur := fun a => c.s.get 0x3A00 a 7
  let best := fun a => c.s.get 0x3A00 a 9
  let all := c.owners.flatMap c.inOrder
  let p := (c.giveAll ((all.filter fun a => c.kind a == 1 || c.kind a == 2).map fun a => (a, c.s.get 0x3A00 a 2)) p).2
  (c.owners.take 16).foldl (fun p o =>
    let own := c.s.get 0x3820 (96 * o + c.i) 1 - look p.charged o
    let mine := c.inOrder o
    let n := (c.fillBytes (mine.filter fun a => c.kind a == 2) cur (mine.length + 64) own p)
    (c.fillBytes (mine.filter fun a => c.kind a == 3) best (mine.length + 64) (own - n.1) n.2).2) p

/-- The lending passes (R209). -/
def PassOf.lending (c : PassOf) (p : Pass) : Pass :=
  let all := c.owners.flatMap c.inOrder
  let p := c.fillTime (all.filter fun a => c.kind a == 2) (fun a => c.s.get 0x3A00 a 7) (all.length + 64) p
  c.fillTime (all.filter fun a => c.kind a == 3) (fun a => c.s.get 0x3A00 a 9) (all.length + 64) p

/-- The bytes that a tenant misses (R213, R215): what it has been charged after the guaranteed passes falls short of the lesser
of its guarantee and what it was charged and wanted at the start, fixed bytes without time among them. -/
def PassOf.missing (c : PassOf) (p0 p : Pass) (o : Nat) : Nat :=
  let lost := look p0.lost o
  let wanted := (c.inOrder o).foldl (fun n a => if c.kind a = 0 then n else n + c.want p0 a) lost
  if p.ranOut ∨ lost ≠ 0 then
    min (c.s.get 0x3820 (96 * o + c.i) 1) (look p0.charged o + (if p.ranOut then wanted else lost)) - look p.charged o else 0


/-- A share's shortfall (R213): counted, and summarised in event 1552, which quietEvents clears. -/
def shortfall (h n : Nat) (s : State) : State :=
  if n = 0 then s else raisePair 1552 h 0 n (noteHit 1552 h 1 1 ((s.bump 0x3820 h 9 n).bump 0x3820 h 8))

/-- A last frame with a request lies at least n frames before the map, or there was none (R170). -/
def PassOf.since (c : PassOf) (last n : Nat) : Bool := last == 0 || decide ((n : Int) ≤ framesTo (last - 1) c.frame)

/-- An allocation has not been asked for a DBRu within its poll interval (R170). -/
def PassOf.polled (c : PassOf) (a : Nat) : Bool := c.s.get 0x3400 a 5 == 0 && c.since (c.s.aux .dbruAt a) (c.s.get 0x3400 a 6)

/-- What the map has to hold of steps 3 to 5 of R168 beside what is staged for it: fixed allocations at their contracted bytes, a
keep-alive grant of each DARK terminal in its keep-alive period (spec/04 R147), and the PLOAMu grants that are due (R170). A
default allocation has the terminal's ONU-ID as its Alloc-ID (log entry 97). A blank frame holds nothing. -/
def PassOf.owed (c : PassOf) : List Due :=
  if blank c.s c.tree c.lane c.frame then []
  else
    let es := c.staged
    let fixed := c.allocations.filter fun a => c.kind a == 0 && !(es.any fun e => e.kind == 2 && e.alloc == c.s.get 0x3400 a 3)
    let dark := (termsIn c.s c.tree 4).filter fun n => laneOf c.s n == c.lane && c.s.aux .keepAlive n == 1
      && !(es.any fun e => e.kind == 3 && e.onu == n % 512)
    let open' := (termsIn c.s c.tree 3).filter fun n => laneOf c.s n == c.lane && !isMuted c.s c.tree (n % 512)
      && !(es.any fun e => e.ploamu && e.kind != 1 && e.onu == n % 512)
      && (c.s.aux .ploamWant n == 1 || c.since (c.s.aux .ploamuAt n) (c.s.get 0x3600 c.tree 7))
    fixed.map (fun a => ⟨c.tree, c.lane, c.frame, 2, c.term a, a, c.s.get 0x3A00 a 1, c.polled a, false⟩)
      ++ dark.map (fun n => ⟨c.tree, c.lane, c.frame, 3, n, n % 512, 0, true, true⟩)
      ++ open'.map (fun n => ⟨c.tree, c.lane, c.frame, 4, n, n % 512, 0, false, true⟩)

/-- One of them takes its time; fixed bytes that the time cannot hold are lost, as shortfall where no quiet window took the time
(R168, R215); the others count as placed and charged. -/
def PassOf.addOwed (c : PassOf) (r : List Due × Pass) (d : Due) : List Due × Pass :=
  let p := r.2
  let prof := c.s.get 0x3900 d.terminal 1
  let body := bodyBits c.s c.tree c.lane prof
  let add := d.bytes + (if d.dbru then 4 else 0)
  let mine := p.payload.find? fun y => y.1 == d.terminal
  let cost := match mine with
    | some y => body (y.2 + add) - body y.2
    | none => leadBits c.s c.tree c.lane prof + body (8 + add) + spacing c.s c.tree c.lane c.frame
  if d.kind = 2 ∧ p.time < cost then
    (if (quietAround c.s c.tree c.lane c.frame ++ beatSpans c.staged).isEmpty then
      (r.1, { p with lost := raiseKey p.lost (c.owner d.alloc) d.bytes }) else r)
  else
    let p := { p with
      time := p.time - cost
      payload := if mine.isSome then raiseKey p.payload d.terminal add else p.payload ++ [(d.terminal, 8 + add)] }
    (r.1 ++ [d], if d.kind = 2 then { p with
        placed := raiseKey p.placed d.alloc d.bytes
        charged := raiseKey p.charged (c.owner d.alloc) d.bytes } else p)

/-- The time and the figures left after steps 1 to 6 of R168, and what the map has to hold of them. -/
def PassOf.afterOwed (c : PassOf) : List Due × Pass := c.owed.foldl c.addOwed ([], c.start)

/-- The DBRu-only grants that are due: status-reported allocations that no grant asks within their poll interval (R170). -/
def PassOf.bare (c : PassOf) (given : List (Nat × Nat)) : List Due :=
  if blank c.s c.tree c.lane c.frame then []
  else
    let asked := fun a => c.staged.any fun e => e.kind != 0 && e.kind != 1 && e.dbru && e.alloc == c.s.get 0x3400 a 3
    (c.allocations.filter fun a => c.kind a != 0 && c.polled a && !asked a && !(given.any fun x => x.1 == a && x.2 != 0)).map
      fun a => ⟨c.tree, c.lane, c.frame, 6, c.term a, a, 0, true, false⟩

/-- The entry of a due grant. -/
def dueEntry (s : State) (d : Due) : MapEntry :=
  ⟨d.terminal % 512, if d.kind = 2 ∨ d.kind = 6 then s.get 0x3400 d.alloc 3 else d.alloc, d.bytes, 0, d.dbru, d.ploamu, d.kind, none, 0, 0⟩

/-- The entry of an allocation's share: its first bytes bring the DBRu that a status-reported allocation is asked for. -/
def shareEntry (s : State) (x : Nat × Nat) : MapEntry :=
  ⟨s.get 0x3400 x.1 2 % 512, s.get 0x3400 x.1 3, x.2, 0, s.get 0x3400 x.1 5 == 0, false, 6, none, 0, 0⟩

/-- Entries with those of one terminal together, which form one burst, in the order in which the terminals come first (R165,
R210). -/
def byTerminal (es : List MapEntry) : List MapEntry :=
  ((es.map fun e => e.onu).eraseDups).flatMap fun n => es.filter fun e => e.onu == n

/-- The cooperative grants staged for map M are placed after the steps before them (R168), each in the first free windows from its
place on. -/
def replaceCoop (t m : Nat) (old : List Grant) (s : State) : State :=
  overAll old (fun e s => match allocOf s t e.alloc with
    | some a => match coopBinding s a with
      | some c =>
        let s := coopDropped t [e] { s with objs := s.objs.write Objects.dflt ⟨0x3700, c, 9⟩ (s.get 0x3700 c 9 - e.bytes) }
        let (late, s) := placeCoop c a (s.get 0x3400 a 2) (1024 + e.bytes) m e.opens e.bytes 0 s
        if late = 0 then s else s.bump 0x3700 c 8 late
      | none => s
    | none => s) s

/-- The grant engine writes the map (R165, R168): the dues of steps 3 to 5 with the shares of step 7 and the DBRu-only grants,
the entries of one terminal together, about the cooperative grants of step 6, which find their places after steps 3 to 5. -/
def writeMap (t l m : Nat) (owed : List Due) (shares : List (Nat × Nat)) (bare : List Due) (s : State) : State :=
  let es := ((mapOf s.staged t l m).map fun g => g.entries).getD []
  let coop := es.filter fun e => e.kind == 5
  let s : State := if coop.isEmpty then s else { s with staged := setMap ⟨t, l, m, es.filter fun e => e.kind != 5⟩ s.staged }
  let early := owed.map (dueEntry s)
  let late := shares.map (shareEntry s) ++ bare.map (dueEntry s)
  let mine := fun e : MapEntry => early.any fun x => x.onu == e.onu
  let s := overAll (byTerminal (early ++ late.filter mine)) (stageEntry t l m) s
  let s := replaceCoop t m coop s
  overAll (byTerminal (late.filter fun e => !mine e)) (stageEntry t l m) s

/-- GRANT_ASSIGNMENT_PASS (R168, R209): the bytes the allocations of a lane get in the map of frame M are held as its plan, and
the map's entries are written to the emitter. -/
def runPass (t l m : Nat) (s : State) : State :=
  let c : PassOf := { s := s, tree := t, lane := l, frame := m }
  let (owed, p0) := c.afterOwed
  let p1 := c.guaranteed p0
  let p2 := c.lending p1
  let shares := p2.given.filter fun x => x.2 != 0
  let bare := c.bare p2.given
  let s : State := { s with
    plan := (s.plan.filter fun x => !(x.tree == t && x.lane == l && x.frame == m)) ++ shares.map (fun x => ⟨t, l, m, x.1, x.2⟩)
    dues := (s.dues.filter fun x => !(x.tree == t && x.lane == l && x.frame == m)) ++ owed ++ bare }
  let s := overAll p2.first (fun x s => s.setAux .passFirst c.i x.1 (x.2 + 1)) s
  let s := overAll (List.range 16) (fun o s => shortfall (96 * o + c.i) (c.missing p0 p1 o) s) s
  let s := overAll (c.allocations.filter fun a => !measureDropped c.s (c.term a) l m) (fun a s =>
    (if 0 < c.want p2 a then s.incAux .adWant a else s).incAux .adFrames a) s
  writeMap t l m owed shares bare (s.put 0x3880 c.i 0x0B (m % 16))

/-- INPUT_CUTOFF (R162): the inputs of the next map close, and the grant engine whose claim the emitter has accepted runs the pass
for each lane that sends maps, and for a standby lane (R194). While no engine serves the tree nothing is written (R195). -/
def execInputCutoff (tree : Nat) (s : State) : Host.Outcome State Fault Refusal :=
  whenUp s fun s =>
    if s.treeUp tree = false ∨ s.aux .engVac 0 tree = 0 then s
    else
      let m := frameAdd (frameNow s tree) 1
      overAll [0, 1] (fun l s => if mapsRun s tree l || laneState s tree l == 5 then (runPass tree l m s).setAux .mapCut tree l 1 else s) s

end Sys2Proof.Machine
end

