-- ==== Sys2Proof/Machine/Dispatch.lean ====
section
/-!
DEFINITION. Machine/Dispatch.lean: one arm per command, each one call of its meaning.
-/
namespace Sys2Proof.Machine
open Sys2Proof

/-- The effect of a command on everything but the queue. -/
def exec (i : Instr) (s : State) : Host.Outcome State Fault Refusal :=
  match i with
  | .objectWrite acc index inst sub data beyond => Sys2Proof.Machine.execObjectWrite acc index inst sub data beyond s
  | .vendorEnable acc => Sys2Proof.Machine.execVendorEnable acc s
  | .vendorDisable acc => Sys2Proof.Machine.execVendorDisable acc s
  | .powerOnReset boot => Sys2Proof.Machine.execPowerOnReset boot s
  | .startTimeout boot => Sys2Proof.Machine.execStartTimeout boot s
  | .recoveryLoad addr length image boot => Sys2Proof.Machine.execRecoveryLoad addr length image boot s
  | .avsSetPointStep up => Sys2Proof.Machine.execAvsSetPointStep up s
  | .avsAcknowledge => Sys2Proof.Machine.execAvsAcknowledge s
  | .avsNoResponse => Sys2Proof.Machine.execAvsNoResponse s
  | .avsRetry => Sys2Proof.Machine.execAvsRetry s
  | .railSample readings => Sys2Proof.Machine.execRailSample readings s
  | .railExcursion rail => Sys2Proof.Machine.execRailExcursion rail s
  | .railExcursionClear rail => Sys2Proof.Machine.execRailExcursionClear rail s
  | .brownOut rail => Sys2Proof.Machine.execBrownOut rail s
  | .railStatsClear acc rail value => Sys2Proof.Machine.execRailStatsClear acc rail value s
  | .temperatureSample sensor reading => Sys2Proof.Machine.execTemperatureSample sensor reading s
  | .referenceLost clock => Sys2Proof.Machine.execReferenceLost clock s
  | .referenceOffset clock offset => Sys2Proof.Machine.execReferenceOffset clock offset s
  | .laneReferenceHoldExpiry clock => Sys2Proof.Machine.execLaneReferenceHoldExpiry clock s
  | .referenceRestored reading => Sys2Proof.Machine.execReferenceRestored reading s
  | .islandReset island => Sys2Proof.Machine.execIslandReset island s
  | .memoryZeroingDone memory => Sys2Proof.Machine.execMemoryZeroingDone memory s
  | .frameBoundary tree runs levels => Sys2Proof.Machine.execFrameBoundary tree runs levels s
  | .mainLaneEnable acc tree => Sys2Proof.Machine.execMainLaneEnable acc tree s
  | .mainLaneDrain acc tree => Sys2Proof.Machine.execMainLaneDrain acc tree s
  | .downstreamDrainExpiry tree lane => Sys2Proof.Machine.execDownstreamDrainExpiry tree lane s
  | .downstreamDrainEnd tree lane => Sys2Proof.Machine.execDownstreamDrainEnd tree lane s
  | .coexLaneEnable acc tree => Sys2Proof.Machine.execCoexLaneEnable acc tree s
  | .coexLaneDrain acc tree => Sys2Proof.Machine.execCoexLaneDrain acc tree s
  | .modeSwitchRequest acc tree => Sys2Proof.Machine.execModeSwitchRequest acc tree s
  | .modeNoticeResend tree => Sys2Proof.Machine.execModeNoticeResend tree s
  | .modeNoticeAck terminal ack => Sys2Proof.Machine.execModeNoticeAck terminal ack s
  | .modeSwitchCancel acc tree => Sys2Proof.Machine.execModeSwitchCancel acc tree s
  | .cancelNoticeResend tree => Sys2Proof.Machine.execCancelNoticeResend tree s
  | .cancelDeadline tree => Sys2Proof.Machine.execCancelDeadline tree s
  | .modeSwitchDarkStart tree => Sys2Proof.Machine.execModeSwitchDarkStart tree s
  | .modeSwitchComplete tree => Sys2Proof.Machine.execModeSwitchComplete tree s
  | .protectionEnable acc ports => Sys2Proof.Machine.execProtectionEnable acc ports s
  | .protectionDisable acc tree => Sys2Proof.Machine.execProtectionDisable acc tree s
  | .standbyReadyLoss tree => Sys2Proof.Machine.execStandbyReadyLoss tree s
  | .workingIslandFault tree took => Sys2Proof.Machine.execWorkingIslandFault tree took s
  | .burstLossDetect tree took => Sys2Proof.Machine.execBurstLossDetect tree took s
  | .partnerSignalLoss tree took => Sys2Proof.Machine.execPartnerSignalLoss tree took s
  | .manualSwitch acc tree took => Sys2Proof.Machine.execManualSwitch acc tree took s
  | .resumeWaitExpiry tree => Sys2Proof.Machine.execResumeWaitExpiry tree s
  | .burstReceive tree frame start burst light writes poison => Sys2Proof.Machine.execBurstReceive tree frame start burst light writes poison s
  | .reassemblyTimeout tree alloc xgem => Sys2Proof.Machine.execReassemblyTimeout tree alloc xgem s
  | .coexBurstReceive tree frame start burst poison => Sys2Proof.Machine.execCoexBurstReceive tree frame start burst poison s
  | .coexStagingCommit tree writes => Sys2Proof.Machine.execCoexStagingCommit tree writes s
  | .commitFifoRead tree poison => Sys2Proof.Machine.execCommitFifoRead tree poison s
  | .upstreamWindowsClosed tree lane => Sys2Proof.Machine.execUpstreamWindowsClosed tree lane s
  | .upstreamDrainExpiry tree lane => Sys2Proof.Machine.execUpstreamDrainExpiry tree lane s
  | .signalStrengthRequest acc tree onu => Sys2Proof.Machine.execSignalStrengthRequest acc tree onu s
  | .signalStrengthRead tree power => Sys2Proof.Machine.execSignalStrengthRead tree power s
  | .signalStrengthTimeout tree => Sys2Proof.Machine.execSignalStrengthTimeout tree s
  | .terminalBurstStatsClear acc tree onu => Sys2Proof.Machine.execTerminalBurstStatsClear acc tree onu s
  | .terminalProvision acc terminal => Sys2Proof.Machine.execTerminalProvision acc terminal s
  | .terminalUnprovision acc terminal => Sys2Proof.Machine.execTerminalUnprovision acc terminal s
  | .terminalDeactivate acc terminal => Sys2Proof.Machine.execTerminalDeactivate acc terminal s
  | .terminalDrainEnd terminal => Sys2Proof.Machine.execTerminalDrainEnd terminal s
  | .releaseMuffle acc terminal => Sys2Proof.Machine.execReleaseMuffle acc terminal s
  | .serialNumberResponse tree lane serial phase => Sys2Proof.Machine.execSerialNumberResponse tree lane serial phase s
  | .rangingResponse terminal onu phase => Sys2Proof.Machine.execRangingResponse terminal onu phase s
  | .rangingNoResponse terminal => Sys2Proof.Machine.execRangingNoResponse terminal s
  | .registrationReceived terminal id => Sys2Proof.Machine.execRegistrationReceived terminal id s
  | .registrationTimeout terminal => Sys2Proof.Machine.execRegistrationTimeout terminal s
  | .capabilityReport terminal head content check => Sys2Proof.Machine.execCapabilityReport terminal head content check s
  | .capabilityTimeout terminal => Sys2Proof.Machine.execCapabilityTimeout terminal s
  | .terminalLoss terminal => Sys2Proof.Machine.execTerminalLoss terminal s
  | .keepAlivePeriodExpiry terminal => Sys2Proof.Machine.execKeepAlivePeriodExpiry terminal s
  | .rejoinBeatDue terminal => Sys2Proof.Machine.execRejoinBeatDue terminal s
  | .terminalRejoin terminal path phase => Sys2Proof.Machine.execTerminalRejoin terminal path phase s
  | .rejoinHoldExpiry terminal => Sys2Proof.Machine.execRejoinHoldExpiry terminal s
  | .restBeatPlace tree lane => Sys2Proof.Machine.execRestBeatPlace tree lane s
  | .discoveryDue tree lane => Sys2Proof.Machine.execDiscoveryDue tree lane s
  | .discoverNow acc tree => Sys2Proof.Machine.execDiscoverNow acc tree s
  | .discoveryBeatEnd tree lane light => Sys2Proof.Machine.execDiscoveryBeatEnd tree lane light s
  | .mufflingWithholdEnd tree => Sys2Proof.Machine.execMufflingWithholdEnd tree s
  | .mufflingProbeEnd tree => Sys2Proof.Machine.execMufflingProbeEnd tree s
  | .mufflingConfirmEnd tree => Sys2Proof.Machine.execMufflingConfirmEnd tree s
  | .recoveryDiscoveryBeat tree => Sys2Proof.Machine.execRecoveryDiscoveryBeat tree s
  | .unattributedWaitEnd tree => Sys2Proof.Machine.execUnattributedWaitEnd tree s
  | .mufflingStart acc tree => Sys2Proof.Machine.execMufflingStart acc tree s
  | .mufflingAbort acc tree => Sys2Proof.Machine.execMufflingAbort acc tree s
  | .mufflingDisable acc tree => Sys2Proof.Machine.execMufflingDisable acc tree s
  | .inputCutoff tree => Sys2Proof.Machine.execInputCutoff tree s
  | .mapEntryWrite tree lane frame claim unit entry => Sys2Proof.Machine.execMapEntryWrite tree lane frame claim unit entry s
  | .mapSeal tree lane frame count claim unit => Sys2Proof.Machine.execMapSeal tree lane frame count claim unit s
  | .sealDeadline tree lane => Sys2Proof.Machine.execSealDeadline tree lane s
  | .bulletinSeal tree point claim unit grants => Sys2Proof.Machine.execBulletinSeal tree point claim unit grants s
  | .flamPoint tree point => Sys2Proof.Machine.execFlamPoint tree point s
  | .muteSetChange tree onu set => Sys2Proof.Machine.execMuteSetChange tree onu set s
  | .ctiReport id report windows => Sys2Proof.Machine.execCtiReport id report windows s
  | .allocationProvision acc allocation => Sys2Proof.Machine.execAllocationProvision acc allocation s
  | .allocationDrain acc allocation => Sys2Proof.Machine.execAllocationDrain acc allocation s
  | .allocationDrainEnd allocation => Sys2Proof.Machine.execAllocationDrainEnd allocation s
  | .flamSettingWrite acc index inst sub value => Sys2Proof.Machine.execFlamSettingWrite acc index inst sub value s
  | .ownershipInForce acc record tenant => Sys2Proof.Machine.execOwnershipInForce acc record tenant s
  | .ownershipOutOfForce acc record => Sys2Proof.Machine.execOwnershipOutOfForce acc record s
  | .bindingWrite acc index inst sub value => Sys2Proof.Machine.execBindingWrite acc index inst sub value s
  | .shareWrite acc index inst sub value => Sys2Proof.Machine.execShareWrite acc index inst sub value s
  | .adaptationPeriodEnd lane => Sys2Proof.Machine.execAdaptationPeriodEnd lane s
  | .upHoldRestore terminal profile => Sys2Proof.Machine.execUpHoldRestore terminal profile s
  | .nominalWeightWrite acc allocation sub value => Sys2Proof.Machine.execNominalWeightWrite acc allocation sub value s
  | .currentProfileWrite acc terminal value => Sys2Proof.Machine.execCurrentProfileWrite acc terminal value s
  | .allowedProfilesWrite acc terminal value => Sys2Proof.Machine.execAllowedProfilesWrite acc terminal value s
  | .keyWrite acc slot len key => Sys2Proof.Machine.execKeyWrite acc slot len key s
  | .keyErase acc slot => Sys2Proof.Machine.execKeyErase acc slot s
  | .keySlotConfigWrite acc index inst sub value => Sys2Proof.Machine.execKeySlotConfigWrite acc index inst sub value s
  | .retireHoldExpiry slot => Sys2Proof.Machine.execRetireHoldExpiry slot s
  | .rekeyNow acc terminal => Sys2Proof.Machine.execRekeyNow acc terminal s
  | .keyReport terminal onu kind seq content check index wrapped => Sys2Proof.Machine.execKeyReport terminal onu kind seq content check index wrapped s
  | .keyExchangeTimeout terminal => Sys2Proof.Machine.execKeyExchangeTimeout terminal s
  | .keyExchangeRetry terminal => Sys2Proof.Machine.execKeyExchangeRetry terminal s
  | .bulkRingEnable acc ring => Sys2Proof.Machine.execBulkRingEnable acc ring s
  | .bulkRingDrain acc ring => Sys2Proof.Machine.execBulkRingDrain acc ring s
  | .bulkDrainExpiry input => Sys2Proof.Machine.execBulkDrainExpiry input s
  | .bulkDoorbell acc ring value => Sys2Proof.Machine.execBulkDoorbell acc ring value s
  | .bulkJobStart ring bytes => Sys2Proof.Machine.execBulkJobStart ring bytes s
  | .bulkJobComplete ring fault input => Sys2Proof.Machine.execBulkJobComplete ring fault input s
  | .packetIngress up port xgem bytes wait picks writes poison => Sys2Proof.Machine.execPacketIngress up port xgem bytes wait picks writes poison s
  | .packetRecirculate pipe picks writes poison => Sys2Proof.Machine.execPacketRecirculate pipe picks writes poison s
  | .fragmentHoldExpiry entry picks poison => Sys2Proof.Machine.execFragmentHoldExpiry entry picks poison s
  | .fragmentLifetimeExpiry entry => Sys2Proof.Machine.execFragmentLifetimeExpiry entry s
  | .macLearn engine => Sys2Proof.Machine.execMacLearn engine s
  | .agingVisit => Sys2Proof.Machine.execAgingVisit s
  | .coatSwap acc => Sys2Proof.Machine.execCoatSwap acc s
  | .oldCoatRelease => Sys2Proof.Machine.execOldCoatRelease s
  | .coatCopy acc => Sys2Proof.Machine.execCoatCopy acc s
  | .coatCopyDone => Sys2Proof.Machine.execCoatCopyDone s
  | .ruleWrite acc rule sub value => Sys2Proof.Machine.execRuleWrite acc rule sub value s
  | .routeAdd acc family table length pfx nextHop => Sys2Proof.Machine.execRouteAdd acc family table length pfx nextHop s
  | .routeDelete acc family table length pfx => Sys2Proof.Machine.execRouteDelete acc family table length pfx s
  | .macEntryAddUser acc domain mac dest => Sys2Proof.Machine.execMacEntryAddUser acc domain mac dest s
  | .macEntryAddStatic acc domain mac dest => Sys2Proof.Machine.execMacEntryAddStatic acc domain mac dest s
  | .macEntryDelete acc domain mac => Sys2Proof.Machine.execMacEntryDelete acc domain mac s
  | .saltWriteRebuild acc value => Sys2Proof.Machine.execSaltWriteRebuild acc value s
  | .domainEnable acc domain => Sys2Proof.Machine.execDomainEnable acc domain s
  | .domainDrain acc domain => Sys2Proof.Machine.execDomainDrain acc domain s
  | .domainDrainEnd domain => Sys2Proof.Machine.execDomainDrainEnd domain s
  | .domainFlush acc domain => Sys2Proof.Machine.execDomainFlush acc domain s
  | .bufferRequest requester pool pick => Sys2Proof.Machine.execBufferRequest requester pool pick s
  | .bufferReturn requester pointer => Sys2Proof.Machine.execBufferReturn requester pointer s
  | .packetSelect port poison bad => Sys2Proof.Machine.execPacketSelect port poison bad s
  | .shaperRefill => Sys2Proof.Machine.execShaperRefill s
  | .shaperWrite acc index inst sub value => Sys2Proof.Machine.execShaperWrite acc index inst sub value s
  | .attachmentWrite acc index inst sub value => Sys2Proof.Machine.execAttachmentWrite acc index inst sub value s
  | .meterWrite acc meter sub value => Sys2Proof.Machine.execMeterWrite acc meter sub value s
  | .meterClear acc meter value => Sys2Proof.Machine.execMeterClear acc meter value s
  | .flowMapWrite acc flow sub value => Sys2Proof.Machine.execFlowMapWrite acc flow sub value s
  | .queueEnable acc up queue => Sys2Proof.Machine.execQueueEnable acc up queue s
  | .queueDrain acc up queue => Sys2Proof.Machine.execQueueDrain acc up queue s
  | .queueDrainExpiry up queue => Sys2Proof.Machine.execQueueDrainExpiry up queue s
  | .requesterRelease acc requester value => Sys2Proof.Machine.execRequesterRelease acc requester value s
  | .poolLowClear pool => Sys2Proof.Machine.execPoolLowClear pool s
  | .laneStart lane => Sys2Proof.Machine.execLaneStart lane s
  | .lanePllLock lane => Sys2Proof.Machine.execLanePllLock lane s
  | .lanePllTimeout lane => Sys2Proof.Machine.execLanePllTimeout lane s
  | .laneLock lane => Sys2Proof.Machine.execLaneLock lane s
  | .laneSearchTimeout lane => Sys2Proof.Machine.execLaneSearchTimeout lane s
  | .laneLockLoss lane => Sys2Proof.Machine.execLaneLockLoss lane s
  | .laneRestart acc lane => Sys2Proof.Machine.execLaneRestart acc lane s
  | .equalisationWrite acc lane sub value => Sys2Proof.Machine.execEqualisationWrite acc lane sub value s
  | .quadModeWrite acc quad value => Sys2Proof.Machine.execQuadModeWrite acc quad value s
  | .uplinkPortEnable acc port => Sys2Proof.Machine.execUplinkPortEnable acc port s
  | .uplinkPortDrain acc port => Sys2Proof.Machine.execUplinkPortDrain acc port s
  | .uplinkDrainExpiry port => Sys2Proof.Machine.execUplinkDrainExpiry port s
  | .uplinkServiceHoldEnd port => Sys2Proof.Machine.execUplinkServiceHoldEnd port s
  | .uplinkServiceLoss port loss => Sys2Proof.Machine.execUplinkServiceLoss port loss s
  | .ethernetFrameReceive port addresses payload fcs corrected uncorrectable => Sys2Proof.Machine.execEthernetFrameReceive port addresses payload fcs corrected uncorrectable s
  | .mgmtPortEnable acc port => Sys2Proof.Machine.execMgmtPortEnable acc port s
  | .mgmtPortDrain acc port => Sys2Proof.Machine.execMgmtPortDrain acc port s
  | .mgmtFrameReceive port frame => Sys2Proof.Machine.execMgmtFrameReceive port frame s
  | .viothPortEnable acc port => Sys2Proof.Machine.execViothPortEnable acc port s
  | .viothPortDrain acc port => Sys2Proof.Machine.execViothPortDrain acc port s
  | .viothDrainExpiry port => Sys2Proof.Machine.execViothDrainExpiry port s
  | .markerSetReceive port sync marks counts bip skew => Sys2Proof.Machine.execMarkerSetReceive port sync marks counts bip skew s
  | .viothFrameReceive port sync blocks picks took => Sys2Proof.Machine.execViothFrameReceive port sync blocks picks took s
  | .viothFrameSend port => Sys2Proof.Machine.execViothFrameSend port s
  | .multiframeSend port => Sys2Proof.Machine.execMultiframeSend port s
  | .multiframeReceive port payload beyond => Sys2Proof.Machine.execMultiframeReceive port payload beyond s
  | .lomTimeout port => Sys2Proof.Machine.execLomTimeout port s
  | .defectClearHoldEnd port code => Sys2Proof.Machine.execDefectClearHoldEnd port code s
  | .degradeSecond port => Sys2Proof.Machine.execDegradeSecond port s
  | .signalFrameSend => Sys2Proof.Machine.execSignalFrameSend s
  | .signalFrameReceive source records took => Sys2Proof.Machine.execSignalFrameReceive source records took s
  | .primerFillSend port => Sys2Proof.Machine.execPrimerFillSend port s
  | .primerTimeExpiry port => Sys2Proof.Machine.execPrimerTimeExpiry port s
  | .pathWrite acc member sub value => Sys2Proof.Machine.execPathWrite acc member sub value s
  | .spareCommand acc port lane => Sys2Proof.Machine.execSpareCommand acc port lane s
  | .spareRetire acc port lane => Sys2Proof.Machine.execSpareRetire acc port lane s
  | .spareRestore acc port => Sys2Proof.Machine.execSpareRestore acc port s
  | .spareLaneFail port => Sys2Proof.Machine.execSpareLaneFail port s
  | .claimWrite stage inst claim unit => Sys2Proof.Machine.execClaimWrite stage inst claim unit s
  | .watchdogExpiry engine => Sys2Proof.Machine.execWatchdogExpiry engine s
  | .controlFlowMismatch engine => Sys2Proof.Machine.execControlFlowMismatch engine s
  | .outputImplausible engine => Sys2Proof.Machine.execOutputImplausible engine s
  | .memoryCheckKnell reader memory word area flips => Sys2Proof.Machine.execMemoryCheckKnell reader memory word area flips s
  | .spareClaimRaise engine => Sys2Proof.Machine.execSpareClaimRaise engine s
  | .engineTakeOut acc engine => Sys2Proof.Machine.execEngineTakeOut acc engine s
  | .engineReload acc engine => Sys2Proof.Machine.execEngineReload acc engine s
  | .engineTakeRoleBack acc engine => Sys2Proof.Machine.execEngineTakeRoleBack acc engine s
  | .engineSelfTestDone engine passed => Sys2Proof.Machine.execEngineSelfTestDone engine passed s
  | .engineRevert engine => Sys2Proof.Machine.execEngineRevert engine s
  | .unitPairMismatch unit => Sys2Proof.Machine.execUnitPairMismatch unit s
  | .pipeServiceReturn pipe => Sys2Proof.Machine.execPipeServiceReturn pipe s
  | .masterRelease acc master value => Sys2Proof.Machine.execMasterRelease acc master value s
  | .levelReportSend => Sys2Proof.Machine.execLevelReportSend s
  | .levelReportTimeout member => Sys2Proof.Machine.execLevelReportTimeout member s
  | .levelCommitSend lead => Sys2Proof.Machine.execLevelCommitSend lead s
  | .levelCommitInstant => Sys2Proof.Machine.execLevelCommitInstant s
  | .featureSwitchOn feature => Sys2Proof.Machine.execFeatureSwitchOn feature s
  | .upgradeCluster acc cluster features => Sys2Proof.Machine.execUpgradeCluster acc cluster features s
  | .upgradeStepEnd failed => Sys2Proof.Machine.execUpgradeStepEnd failed s
  | .rollBack acc => Sys2Proof.Machine.execRollBack acc s
  | .scrubStep memory flips => Sys2Proof.Machine.execScrubStep memory flips s
  | .scrubPassEnd memory => Sys2Proof.Machine.execScrubPassEnd memory s
  | .passPeriodWrite acc memory value => Sys2Proof.Machine.execPassPeriodWrite acc memory value s
  | .flipMaskArm acc memory => Sys2Proof.Machine.execFlipMaskArm acc memory s
  | .flipMaskDisarm acc memory => Sys2Proof.Machine.execFlipMaskDisarm acc memory s
  | .memoryStatsClear acc memory value => Sys2Proof.Machine.execMemoryStatsClear acc memory value s
  | .selfTestRequest acc cluster bank => Sys2Proof.Machine.execSelfTestRequest acc cluster bank s
  | .selfTestStepEnd cluster fails => Sys2Proof.Machine.execSelfTestStepEnd cluster fails s
  | .selfTestAbandon acc cluster => Sys2Proof.Machine.execSelfTestAbandon acc cluster s
  | .timeSourceReading entry offset freq => Sys2Proof.Machine.execTimeSourceReading entry offset freq s
  | .ptpMessageReceive port dest domain msg => Sys2Proof.Machine.execPtpMessageReceive port dest domain msg s
  | .ptpMessageSend port msg delay => Sys2Proof.Machine.execPtpMessageSend port msg delay s
  | .announceTimeout port domain => Sys2Proof.Machine.execAnnounceTimeout port domain s
  | .sourceUnusableTimeout entry => Sys2Proof.Machine.execSourceUnusableTimeout entry s
  | .esmcReceive port ql freq => Sys2Proof.Machine.execEsmcReceive port ql freq s
  | .esmcSend port => Sys2Proof.Machine.execEsmcSend port s
  | .hostOffsetWrite acc value => Sys2Proof.Machine.execHostOffsetWrite acc value s
  | .timeSet acc value => Sys2Proof.Machine.execTimeSet acc value s
  | .acceptSlew acc => Sys2Proof.Machine.execAcceptSlew acc s
  | .acceptStep acc => Sys2Proof.Machine.execAcceptStep acc s
  | .slewComplete => Sys2Proof.Machine.execSlewComplete s
  | .refusalClear => Sys2Proof.Machine.execRefusalClear s
  | .holdoverInSpecExpiry => Sys2Proof.Machine.execHoldoverInSpecExpiry s
  | .frefLost => Sys2Proof.Machine.execFrefLost s
  | .frefReturn => Sys2Proof.Machine.execFrefReturn s
  | .edgeCapture input falling => Sys2Proof.Machine.execEdgeCapture input falling s
  | .edgeQueueRead acc input => Sys2Proof.Machine.execEdgeQueueRead acc input s
  | .timestampQueueRead acc port => Sys2Proof.Machine.execTimestampQueueRead acc port s
  | .txTimestampEntry port ident seq oneStep delay => Sys2Proof.Machine.execTxTimestampEntry port ident seq oneStep delay s
  | .ppsPulse output => Sys2Proof.Machine.execPpsPulse output s
  | .todPairCompute => Sys2Proof.Machine.execTodPairCompute s
  | .hello msg => Sys2Proof.Machine.execHello msg s
  | .confirm msg tag => Sys2Proof.Machine.execConfirm msg tag s
  | .handshakeTimeout slot => Sys2Proof.Machine.execHandshakeTimeout slot s
  | .read msg => Sys2Proof.Machine.execRead msg s
  | .write msg beyond => Sys2Proof.Machine.execWrite msg beyond s
  | .blockRead msg => Sys2Proof.Machine.execBlockRead msg s
  | .blockWrite msg beyond => Sys2Proof.Machine.execBlockWrite msg beyond s
  | .blockTransferTimeout slot number => Sys2Proof.Machine.execBlockTransferTimeout slot number s
  | .subscribe msg => Sys2Proof.Machine.execSubscribe msg s
  | .notifyAck msg => Sys2Proof.Machine.execNotifyAck msg s
  | .notifyRetry slot seq => Sys2Proof.Machine.execNotifyRetry slot seq s
  | .keepalive msg => Sys2Proof.Machine.execKeepalive msg s
  | .close msg => Sys2Proof.Machine.execClose msg s
  | .sessionIdleTimeout slot => Sys2Proof.Machine.execSessionIdleTimeout slot s
  | .sessionCloseCommand acc slot => Sys2Proof.Machine.execSessionCloseCommand acc slot s
  | .principalChange acc principal sub value => Sys2Proof.Machine.execPrincipalChange acc principal sub value s
  | .relayForward msg answerOf => Sys2Proof.Machine.execRelayForward msg answerOf s
  | .relayTimeout host target seq session peer => Sys2Proof.Machine.execRelayTimeout host target seq session peer s
  | .hostRequestRelay msg beyond => Sys2Proof.Machine.execHostRequestRelay msg beyond s
  | .mailboxRead mailbox word0 word1 word2 irq => Sys2Proof.Machine.execMailboxRead mailbox word0 word1 word2 irq s
  | .mailboxWrite mailbox word0 word1 word2 irq data beyond => Sys2Proof.Machine.execMailboxWrite mailbox word0 word1 word2 irq data beyond s
  | .dmaDoorbell channel value => Sys2Proof.Machine.execDmaDoorbell channel value s
  | .dmaRead channel desc => Sys2Proof.Machine.execDmaRead channel desc s
  | .dmaWrite channel desc data beyond => Sys2Proof.Machine.execDmaWrite channel desc data beyond s
  | .dmaBlockRead channel desc => Sys2Proof.Machine.execDmaBlockRead channel desc s
  | .dmaBlockWrite channel desc data beyond => Sys2Proof.Machine.execDmaBlockWrite channel desc data beyond s
  | .dmaPacketSend channel desc addresses payload pick delay => Sys2Proof.Machine.execDmaPacketSend channel desc addresses payload pick delay s
  | .dmaReceiveFrame channel kind port stamp bytes entry => Sys2Proof.Machine.execDmaReceiveFrame channel kind port stamp bytes entry s
  | .dmaChannelEnable acc channel => Sys2Proof.Machine.execDmaChannelEnable acc channel s
  | .dmaChannelDrain acc channel => Sys2Proof.Machine.execDmaChannelDrain acc channel s
  | .dmaDrainExpiry channel => Sys2Proof.Machine.execDmaDrainExpiry channel s
  | .eventDispatch => Sys2Proof.Machine.execEventDispatch s
  | .eventRingConsumerWrite value => Sys2Proof.Machine.execEventRingConsumerWrite value s
  | .eventUnmask acc number => Sys2Proof.Machine.execEventUnmask acc number s
  | .eventMask acc number => Sys2Proof.Machine.execEventMask acc number s
  | .imageWrite acc slot image => Sys2Proof.Machine.execImageWrite acc slot image s
  | .imageProgramDone slot verified => Sys2Proof.Machine.execImageProgramDone slot verified s
  | .ownerKeyHashProgram acc value => Sys2Proof.Machine.execOwnerKeyHashProgram acc value s
  | .rollbackCommit acc => Sys2Proof.Machine.execRollbackCommit acc s
  | .modulePoll tree answer took => Sys2Proof.Machine.execModulePoll tree answer took s
  | .calibrationCommit acc => Sys2Proof.Machine.execCalibrationCommit acc s
  | .calibrationCommitDone done => Sys2Proof.Machine.execCalibrationCommitDone done s
  | .attestationGenerate acc => Sys2Proof.Machine.execAttestationGenerate acc s
  | .islandStop island => Sys2Proof.Machine.execIslandStop island s
  | .islandResume island => Sys2Proof.Machine.execIslandResume island s
  | .viothBlockLockLoss heard => Sys2Proof.Machine.execViothBlockLockLoss heard s
  | .viothBlockLockGain heard => Sys2Proof.Machine.execViothBlockLockGain heard s
  | .uplinkPcsAligned aligned => Sys2Proof.Machine.execUplinkPcsAligned aligned s
  | .pcieLinkChanged up lanes generation => Sys2Proof.Machine.execPcieLinkChanged up lanes generation s
  | .jtagReset boot => Sys2Proof.Machine.execJtagReset boot s

end Sys2Proof.Machine
end

