-- ==== Sys2Proof/Machine/Tick.lean ====
section
/-!
DEFINITION. Machine/Tick.lean: what the block does when no command waits.
-/
namespace Sys2Proof.Machine

/-- The events that a second without their cause clears (spec/06 R228, spec/08 R299: 1552 and 2308). -/
def quietEvents (s : State) : State :=
  let gone := s.evPending.filter fun r => (r.num == 1552 || r.num == 2308) && lastSecond s r.num r.inst 0 == 0
  overAll gone (fun r s => clear r.num r.inst s) s

/-- Nothing waits: the time base counts one nanosecond (spec/13 R428: a 1 GHz count; log entry 4), and the events that end with a
second's quiet are cleared. Whatever else falls due is a command of its own (log entry 5). -/
def idle (s : State) : State := quietEvents { s with now := s.now + 1 }

end Sys2Proof.Machine
end

