-- ==== Sys2Proof/Safety.lean ====
section
/-!
DEFINITION. Safety.lean: the terms that claims about the block are stated in: the device runs, an access or a write is admitted, a
state whose tables have their canonical form, and what two states have in common.
-/
namespace Sys2Proof.Machine

/-- The device runs: its dictionary is on line (spec/15 R483). -/
abbrev Up (s : State) : Prop := s.phase = .running

/-- An access passes the checks of R21, R392 and R506: its master is not frozen, a vendor role is enabled, the object exists, and
the role may make it. -/
def mayAccess (acc : Acc) (write : Bool) (i n b : Nat) (s : State) : Bool :=
  !frozen s acc.master && !(acc.role == .vendor && s.aux .vendorOn == 0) && Objects.has s.trees i n b && access.present s i n
    && rights s acc.role write i n b == 0

/-- A write passes the checks of R20 and R480 too: the object is not read-only, the owning function of an RWD object is disabled,
and the value keeps the stated range and orderings. -/
def mayWrite (acc : Acc) (i n b : Nat) (v : Reg) (s : State) : Bool :=
  mayAccess acc true i n b s && match Objects.row i b with
    | none => false
    | some r => r.acc != .ro && !roAt i n b && !(r.acc == .rwd && rwdBusy s i n b) && (r.valueOk v && orderOk s i n b v)

/-- The session slot that a ROL message names, and its number (R454). -/
def slotOf (m : RolIn) : Nat := numAt m.bytes 4 4 % 64
def numOf (m : RolIn) : Nat := numAt m.bytes 8 8

/-- A message of a type that its session takes and has not seen (R454, R455, R459), but for its tag: its form is right, it is for
this member, its session is open or frozen, its number is new, and an engine serves the session. -/
def sessionTakes (type : Nat) (m : RolIn) (s : State) : Bool :=
  rolForm m.bytes && m.bytes.getD 3 0 == type && (m.bytes.getD 24 0 == 0xFF || m.bytes.getD 24 0 == member s)
    && (carrierOf s (209 + slotOf m / 32)).isSome && 2 ≤ s.get 0x1120 (slotOf m) 1 && s.aux .sesNonce (slotOf m) == numAt m.bytes 4 4
    && windowCode s (slotOf m) (numOf m) == 0

/-- A message without a tag, tagged under the client-to-device key of its session (R455). -/
def signed (m : RolIn) (s : State) : RolIn :=
  { m with bytes := m.bytes ++ bytesOf 32 (rolTag (s.aux .sesKeys (slotOf m) 0) m.bytes) }

/-- The same with a tag that is wrong. -/
def missigned (m : RolIn) (s : State) : RolIn :=
  { m with bytes := m.bytes ++ bytesOf 32 ((rolTag (s.aux .sesKeys (slotOf m) 0) m.bytes + 1) % 2 ^ 256) }

/-- The state in which such a message is executed: the session's route and its numbers brought up to date. -/
def taken (m : RolIn) (s : State) : State := markSeen (slotOf m) (numOf m) (routeSession (slotOf m) m s)

/-- The same for a request, which its session counts and times. -/
def counted (m : RolIn) (s : State) : State :=
  ((taken m s).bump 0x1120 (slotOf m) 5).put 0x1120 (slotOf m) 6 (time80 s.now)

/-- The part of a message between hosts that its tag covers (spec/14 R470), and the message with a tag; kind 1 is a request, 2 an
answer. -/
def hostBody (seq role : Nat) (words data : List Nat) : List Nat := bytesOf 8 seq ++ [role, 0, 0, 0] ++ words ++ data
def hostBytes (kind : Nat) (body : List Nat) (tag : Nat) : List Nat := relayHead 0 0 0 kind ++ body ++ bytesOf 32 (tag % 2 ^ 256)

/-- The objects that a master may write and whose chapter gives the write no rule of its own (spec/01 to spec/15, the object
tables): index and subindex. -/
def plainObjects : List (Nat × Nat) :=
  [
    (0x1010, 1), (0x1040, 3), (0x1040, 4), (0x1040, 6), (0x1040, 7), (0x1100, 1), (0x1100, 5), (0x1101, 1),
    (0x1101, 2), (0x1101, 3), (0x1101, 4), (0x1101, 5), (0x1101, 6), (0x1110, 1), (0x1110, 2), (0x1130, 2),
    (0x1140, 1), (0x1140, 4), (0x1150, 3), (0x1150, 4), (0x1150, 5), (0x1150, 6), (0x1150, 7), (0x1150, 8),
    (0x1150, 0x0A), (0x1200, 2), (0x1210, 1), (0x1210, 4), (0x1210, 5), (0x1301, 3), (0x2000, 3), (0x2000, 4),
    (0x2000, 6), (0x2000, 7), (0x2002, 3), (0x2003, 2), (0x2003, 6), (0x2003, 8), (0x2003, 9), (0x2003, 0x0A),
    (0x2008, 7), (0x2008, 8), (0x2009, 1), (0x2009, 5), (0x3000, 2), (0x3000, 3), (0x3100, 1), (0x3100, 9),
    (0x3100, 0x0B), (0x3100, 0x0C), (0x3100, 0x10), (0x3100, 0x11), (0x3100, 0x12), (0x3100, 0x13), (0x3100, 0x14), (0x3100, 0x18),
    (0x3100, 0x19), (0x3100, 0x1A), (0x3200, 2), (0x3200, 3), (0x3200, 4), (0x3200, 5), (0x3200, 6), (0x3200, 0x0D)]
  ++ [
    (0x3400, 6), (0x3400, 9), (0x3600, 1), (0x3600, 2), (0x3600, 3), (0x3600, 4), (0x3600, 7), (0x3700, 2),
    (0x3700, 4), (0x3700, 5), (0x3700, 6), (0x3800, 2), (0x3800, 3), (0x3800, 4), (0x3810, 1), (0x3880, 3),
    (0x3880, 5), (0x3880, 6), (0x3880, 7), (0x3880, 8), (0x3880, 9), (0x3900, 3), (0x3A00, 8), (0x3A00, 9),
    (0x3B00, 1), (0x3B00, 2), (0x3B00, 3), (0x4100, 3), (0x4380, 3), (0x4380, 4), (0x4380, 5), (0x4380, 6),
    (0x4380, 7), (0x4380, 9), (0x4490, 1), (0x4490, 2), (0x4500, 2), (0x4500, 3), (0x4500, 4), (0x4880, 1),
    (0x4880, 2), (0x4890, 1), (0x4890, 2), (0x4900, 3), (0x4900, 4), (0x4900, 5), (0x4900, 6), (0x4900, 7),
    (0x4900, 8), (0x4900, 9), (0x4900, 0x0A), (0x4900, 0x10), (0x4A00, 1), (0x4C00, 3), (0x4C10, 1), (0x4C10, 2),
    (0x4C10, 3), (0x4C10, 4), (0x4C40, 0x12), (0x4C40, 0x13), (0x4C40, 0x14), (0x4C40, 0x15), (0x4C40, 0x16), (0x4C40, 0x1D)]
  ++ [
    (0x4C80, 0x12), (0x4C80, 0x13), (0x4C80, 0x14), (0x4C80, 0x15), (0x4C80, 0x16), (0x4C80, 0x1D), (0x4D80, 1), (0x4E00, 0x0C),
    (0x5090, 3), (0x5090, 4), (0x5090, 5), (0x5090, 6), (0x50C0, 2), (0x5100, 3), (0x5100, 4), (0x5100, 5),
    (0x5100, 8), (0x5100, 9), (0x5100, 0x0A), (0x5100, 0x1A), (0x5100, 0x1C), (0x5180, 1), (0x51C0, 1), (0x51C0, 2),
    (0x51C0, 3), (0x5400, 6), (0x5500, 1), (0x5820, 1), (0x5840, 1), (0x5840, 2), (0x5840, 3), (0x5900, 4),
    (0x5C00, 6), (0x5C00, 9), (0x5C00, 0x0B), (0x5C00, 0x0C), (0x5C00, 0x0D), (0x5C40, 1), (0x5C40, 3), (0x5C40, 4),
    (0x5C40, 5), (0x5C40, 6), (0x5C40, 7), (0x5C40, 8), (0x5C80, 1), (0x5C80, 3), (0x5C80, 4), (0x5CC0, 1),
    (0x5CC0, 2), (0x5D00, 1), (0x5D00, 2), (0x5D00, 6), (0x5D80, 3), (0x5D80, 4), (0x5D80, 6), (0x5E80, 1),
    (0x5E80, 2), (0x5E80, 3), (0x5E80, 4), (0x5E80, 5), (0x5E80, 6), (0x5E80, 7), (0x5E80, 8)]

/-- Every table has its canonical form: the keys strictly rising, and nothing listed that an unlisted entry reads as. -/
def Canonical (s : State) : Prop :=
  Store.wf Objects.dflt s.objs = true ∧ Store.wf Aux.dflt s.regs = true ∧ Store.wf (fun _ => 0) s.mem = true

/-- The event path is sound: no self-clearing event number has a pending instance (R472), and the hardware queue holds at most 8,192
records (R477). -/
def EventsSound (s : State) : Prop :=
  (s.evPending.all fun r => Objects.lasting r.num) = true ∧ s.evQueue.length ≤ 8192

/-- Two states hold the same objects but for those that o names, and the same hidden registers but for those that h names. -/
def Only (o : Nat → Nat → Nat → Prop) (h : Aux → Nat → Nat → Prop) (s t : State) : Prop :=
  (∀ i n b, ¬o i n b → t.get i n b = s.get i n b) ∧ ∀ a i j, ¬h a i j → t.aux a i j = s.aux a i j

/-- The same, for a command that may raise or clear events: these change their counts, pending instances and last entries, the
queue's losses (0x1200, 0x1210) and the registers that number and pace them (spec/14 R471 to R477). -/
def OnlyEv (o : Nat → Nat → Nat → Prop) (h : Aux → Nat → Nat → Prop) : State → State → Prop :=
  Only (fun i n b => i = 0x1200 ∨ i = 0x1210 ∨ o i n b)
    (fun a i j => a = .evSeq ∨ a = .evLostRep ∨ a = .evLast ∨ h a i j)

/-- Every word of the protected memories (spec/12) reads as before, but those that the predicate names by memory and place. -/
def OnlyWords (c : Nat → Nat → Prop) (s t : State) : Prop := ∀ m w, ¬c m w → t.word m w = s.word m w

/-- A command's next state. -/
def Runs (c : Instr) (s : State) (p : State → Prop) : Prop := ∃ t, exec c s = .next t ∧ p t

end Sys2Proof.Machine
end

