-- ==== Sys2Proof/WellFormed.lean ====
section
/-!
DEFINITION. WellFormed.lean: the ranges that a command's operands keep: the variant's largest instance numbers (spec/00 R1 to
R5 and each table's instances), roles and masters (spec/00 R21, spec/11 R391), bytes, and the 64 of a DMA descriptor (spec/14 R465). A command out of these ranges names
nothing the device has; exec leaves the state as it is, or refuses the access with "no object".
-/
namespace Sys2Proof

/-- A tenant's number is below 16 (spec/06 R199). -/
def Role.wellFormed : Role → Bool
  | .tenant n => n < 16
  | _ => true

/-- A role and a master of spec/11 R391. -/
def Acc.wellFormed (a : Acc) : Bool := a.role.wellFormed && a.master < 344

/-- Bytes. -/
def bytesOk (l : List Nat) : Bool := l.all fun b => b < 256

/-- A message has bytes, a port and an address of its kind (spec/14 R453, R469). -/
def RolIn.wellFormed (m : RolIn) : Bool := m.port < 2 && m.peer < 2 ^ 144 && m.via.all (fun k => k < 64) && bytesOk m.bytes

/-- The operands of a command are in range. -/
def Instr.wellFormed : Instr → Bool
  | .objectWrite acc _ _ _ data _ => acc.wellFormed && bytesOk data
  | .vendorEnable acc => acc.wellFormed
  | .vendorDisable acc => acc.wellFormed
  | .powerOnReset _ => true
  | .startTimeout _ => true
  | .recoveryLoad _ _ _ _ => true
  | .avsSetPointStep _ => true
  | .avsAcknowledge => true
  | .avsNoResponse => true
  | .avsRetry => true
  | .railSample _ => true
  | .railExcursion rail => rail < 10
  | .railExcursionClear rail => rail < 10
  | .brownOut rail => rail < 10
  | .railStatsClear acc rail _ => acc.wellFormed && rail < 10
  | .temperatureSample sensor _ => sensor < 10
  | .referenceLost _ => true
  | .referenceOffset _ _ => true
  | .laneReferenceHoldExpiry _ => true
  | .referenceRestored _ => true
  | .islandReset island => island < 142
  | .memoryZeroingDone memory => memory < 472
  | .frameBoundary tree _ _ => tree < 48
  | .mainLaneEnable acc tree => acc.wellFormed && tree < 48
  | .mainLaneDrain acc tree => acc.wellFormed && tree < 48
  | .downstreamDrainExpiry tree lane => tree < 48 && lane < 2
  | .downstreamDrainEnd tree lane => tree < 48 && lane < 2
  | .coexLaneEnable acc tree => acc.wellFormed && tree < 48
  | .coexLaneDrain acc tree => acc.wellFormed && tree < 48
  | .modeSwitchRequest acc tree => acc.wellFormed && tree < 48
  | .modeNoticeResend tree => tree < 48
  | .modeNoticeAck terminal _ => terminal < 24576
  | .modeSwitchCancel acc tree => acc.wellFormed && tree < 48
  | .cancelNoticeResend tree => tree < 48
  | .cancelDeadline tree => tree < 48
  | .modeSwitchDarkStart tree => tree < 48
  | .modeSwitchComplete tree => tree < 48
  | .protectionEnable acc ports => acc.wellFormed && ports.1 < 48
  | .protectionDisable acc tree => acc.wellFormed && tree < 48
  | .standbyReadyLoss tree => tree < 48
  | .workingIslandFault tree _ => tree < 48
  | .burstLossDetect tree _ => tree < 48
  | .partnerSignalLoss tree _ => tree < 48
  | .manualSwitch acc tree _ => acc.wellFormed && tree < 48
  | .resumeWaitExpiry tree => tree < 48
  | .burstReceive tree _ _ burst _ _ _ => tree < 48 && bytesOk burst.body
  | .reassemblyTimeout tree _ _ => tree < 48
  | .coexBurstReceive tree _ _ burst _ => tree < 48 && bytesOk burst.body
  | .coexStagingCommit tree _ => tree < 48
  | .commitFifoRead tree _ => tree < 48
  | .upstreamWindowsClosed tree lane => tree < 48 && lane < 2
  | .upstreamDrainExpiry tree lane => tree < 48 && lane < 2
  | .signalStrengthRequest acc tree onu => acc.wellFormed && tree < 48 && onu < 512
  | .signalStrengthRead tree _ => tree < 48
  | .signalStrengthTimeout tree => tree < 48
  | .terminalBurstStatsClear acc tree onu => acc.wellFormed && tree < 48 && onu < 512
  | .terminalProvision acc terminal => acc.wellFormed && terminal < 24576
  | .terminalUnprovision acc terminal => acc.wellFormed && terminal < 24576
  | .terminalDeactivate acc terminal => acc.wellFormed && terminal < 24576
  | .terminalDrainEnd terminal => terminal < 24576
  | .releaseMuffle acc terminal => acc.wellFormed && terminal < 24576
  | .serialNumberResponse tree lane _ _ => tree < 48 && lane < 2
  | .rangingResponse terminal onu _ => terminal < 24576 && onu < 512
  | .rangingNoResponse terminal => terminal < 24576
  | .registrationReceived terminal _ => terminal < 24576
  | .registrationTimeout terminal => terminal < 24576
  | .capabilityReport terminal head content check => terminal < 24576 && bytesOk head && bytesOk content && bytesOk check
  | .capabilityTimeout terminal => terminal < 24576
  | .terminalLoss terminal => terminal < 24576
  | .keepAlivePeriodExpiry terminal => terminal < 24576
  | .rejoinBeatDue terminal => terminal < 24576
  | .terminalRejoin terminal _ _ => terminal < 24576
  | .rejoinHoldExpiry terminal => terminal < 24576
  | .restBeatPlace tree lane => tree < 48 && lane < 2
  | .discoveryDue tree lane => tree < 48 && lane < 2
  | .discoverNow acc tree => acc.wellFormed && tree < 48
  | .discoveryBeatEnd tree lane _ => tree < 48 && lane < 2
  | .mufflingWithholdEnd tree => tree < 48
  | .mufflingProbeEnd tree => tree < 48
  | .mufflingConfirmEnd tree => tree < 48
  | .recoveryDiscoveryBeat tree => tree < 48
  | .unattributedWaitEnd tree => tree < 48
  | .mufflingStart acc tree => acc.wellFormed && tree < 48
  | .mufflingAbort acc tree => acc.wellFormed && tree < 48
  | .mufflingDisable acc tree => acc.wellFormed && tree < 48
  | .inputCutoff tree => tree < 48
  | .mapEntryWrite tree lane _ _ _ _ => tree < 48 && lane < 2
  | .mapSeal tree lane _ _ _ _ => tree < 48 && lane < 2
  | .sealDeadline tree lane => tree < 48 && lane < 2
  | .bulletinSeal tree point _ _ _ => tree < 48 && point < 4
  | .flamPoint tree point => tree < 48 && point < 4
  | .muteSetChange tree onu _ => tree < 48 && onu < 512
  | .ctiReport _ _ _ => true
  | .allocationProvision acc allocation => acc.wellFormed && allocation < 49152
  | .allocationDrain acc allocation => acc.wellFormed && allocation < 49152
  | .allocationDrainEnd allocation => allocation < 49152
  | .flamSettingWrite acc _ _ _ _ => acc.wellFormed
  | .ownershipInForce acc record tenant => acc.wellFormed && record < 1024 && tenant < 16
  | .ownershipOutOfForce acc record => acc.wellFormed && record < 1024
  | .bindingWrite acc _ _ _ _ => acc.wellFormed
  | .shareWrite acc _ _ _ _ => acc.wellFormed
  | .adaptationPeriodEnd lane => lane < 96
  | .upHoldRestore terminal _ => terminal < 24576
  | .nominalWeightWrite acc allocation _ _ => acc.wellFormed && allocation < 49152
  | .currentProfileWrite acc terminal _ => acc.wellFormed && terminal < 24576
  | .allowedProfilesWrite acc terminal _ => acc.wellFormed && terminal < 24576
  | .keyWrite acc slot _ _ => acc.wellFormed && slot < 65536
  | .keyErase acc slot => acc.wellFormed && slot < 65536
  | .keySlotConfigWrite acc _ _ _ _ => acc.wellFormed
  | .retireHoldExpiry _ => true
  | .rekeyNow acc terminal => acc.wellFormed && terminal < 24576
  | .keyReport terminal onu kind seq content check _ _ => terminal < 24576 && bytesOk onu && kind < 256 && seq < 256 && bytesOk content && bytesOk check
  | .keyExchangeTimeout terminal => terminal < 24576
  | .keyExchangeRetry terminal => terminal < 24576
  | .bulkRingEnable acc ring => acc.wellFormed && ring < 8
  | .bulkRingDrain acc ring => acc.wellFormed && ring < 8
  | .bulkDrainExpiry input => input.1 < 8 && bytesOk input.2.1 && bytesOk input.2.2
  | .bulkDoorbell acc ring _ => acc.wellFormed && ring < 8
  | .bulkJobStart ring bytes => ring < 8 && bytesOk bytes
  | .bulkJobComplete ring _ input => ring < 8 && bytesOk input.1 && bytesOk input.2
  | .packetIngress _ _ _ bytes _ _ _ _ => bytesOk bytes
  | .packetRecirculate pipe _ _ _ => pipe < 6
  | .fragmentHoldExpiry _ _ _ => true
  | .fragmentLifetimeExpiry _ => true
  | .macLearn engine => engine < 216
  | .agingVisit => true
  | .coatSwap acc => acc.wellFormed
  | .oldCoatRelease => true
  | .coatCopy acc => acc.wellFormed
  | .coatCopyDone => true
  | .ruleWrite acc rule _ _ => acc.wellFormed && rule < 131072
  | .routeAdd acc _ _ _ _ _ => acc.wellFormed
  | .routeDelete acc _ _ _ _ => acc.wellFormed
  | .macEntryAddUser acc domain _ _ => acc.wellFormed && domain < 4096
  | .macEntryAddStatic acc domain _ _ => acc.wellFormed && domain < 4096
  | .macEntryDelete acc domain _ => acc.wellFormed && domain < 4096
  | .saltWriteRebuild acc _ => acc.wellFormed
  | .domainEnable acc domain => acc.wellFormed && domain < 4096
  | .domainDrain acc domain => acc.wellFormed && domain < 4096
  | .domainDrainEnd domain => domain < 4096
  | .domainFlush acc domain => acc.wellFormed && domain < 4096
  | .bufferRequest requester pool _ => requester < 528 && pool < 4
  | .bufferReturn requester _ => requester < 528
  | .packetSelect port _ _ => port < 128
  | .shaperRefill => true
  | .shaperWrite acc _ _ _ _ => acc.wellFormed
  | .attachmentWrite acc _ _ _ _ => acc.wellFormed
  | .meterWrite acc meter _ _ => acc.wellFormed && meter < 262144
  | .meterClear acc meter _ => acc.wellFormed && meter < 262144
  | .flowMapWrite acc flow _ _ => acc.wellFormed && flow < 131072
  | .queueEnable acc _ queue => acc.wellFormed && queue < 131072
  | .queueDrain acc _ queue => acc.wellFormed && queue < 131072
  | .queueDrainExpiry _ queue => queue < 131072
  | .requesterRelease acc requester _ => acc.wellFormed && requester < 528
  | .poolLowClear pool => pool < 4
  | .laneStart lane => lane < 70
  | .lanePllLock lane => lane < 70
  | .lanePllTimeout lane => lane < 70
  | .laneLock lane => lane < 70
  | .laneSearchTimeout lane => lane < 70
  | .laneLockLoss lane => lane < 70
  | .laneRestart acc lane => acc.wellFormed && lane < 70
  | .equalisationWrite acc lane _ _ => acc.wellFormed && lane < 70
  | .quadModeWrite acc quad _ => acc.wellFormed && quad < 8
  | .uplinkPortEnable acc port => acc.wellFormed && port < 32
  | .uplinkPortDrain acc port => acc.wellFormed && port < 32
  | .uplinkDrainExpiry port => port < 32
  | .uplinkServiceHoldEnd port => port < 32
  | .uplinkServiceLoss port _ => port < 32
  | .ethernetFrameReceive port addresses payload fcs _ _ => port < 32 && bytesOk addresses && bytesOk payload && bytesOk fcs
  | .mgmtPortEnable acc port => acc.wellFormed && port < 2
  | .mgmtPortDrain acc port => acc.wellFormed && port < 2
  | .mgmtFrameReceive port _ => port < 2
  | .viothPortEnable acc port => acc.wellFormed && port < 4
  | .viothPortDrain acc port => acc.wellFormed && port < 4
  | .viothDrainExpiry port => port < 4
  | .markerSetReceive port _ _ _ _ _ => port < 4
  | .viothFrameReceive port _ _ _ _ => port < 4
  | .viothFrameSend port => port < 4
  | .multiframeSend port => port < 4
  | .multiframeReceive port payload _ => port < 4 && bytesOk payload
  | .lomTimeout port => port < 4
  | .defectClearHoldEnd port _ => port < 4
  | .degradeSecond port => port < 4
  | .signalFrameSend => true
  | .signalFrameReceive source _ _ => source < 64
  | .primerFillSend port => port < 4
  | .primerTimeExpiry port => port < 4
  | .pathWrite acc member _ _ => acc.wellFormed && member < 64
  | .spareCommand acc port lane => acc.wellFormed && port < 4 && lane < 8
  | .spareRetire acc port lane => acc.wellFormed && port < 4 && lane < 8
  | .spareRestore acc port => acc.wellFormed && port < 4
  | .spareLaneFail port => port < 4
  | .claimWrite _ _ _ _ => true
  | .watchdogExpiry engine => engine < 216
  | .controlFlowMismatch engine => engine < 216
  | .outputImplausible engine => engine < 216
  | .memoryCheckKnell _ memory _ _ _ => memory < 472
  | .spareClaimRaise engine => engine < 216
  | .engineTakeOut acc engine => acc.wellFormed && engine < 216
  | .engineReload acc engine => acc.wellFormed && engine < 216
  | .engineTakeRoleBack acc engine => acc.wellFormed && engine < 216
  | .engineSelfTestDone engine _ => engine < 216
  | .engineRevert engine => engine < 216
  | .unitPairMismatch _ => true
  | .pipeServiceReturn pipe => pipe < 6
  | .masterRelease acc master _ => acc.wellFormed && master < 344
  | .levelReportSend => true
  | .levelReportTimeout member => member < 64
  | .levelCommitSend _ => true
  | .levelCommitInstant => true
  | .featureSwitchOn feature => feature < 64
  | .upgradeCluster acc cluster _ => acc.wellFormed && cluster < 14
  | .upgradeStepEnd _ => true
  | .rollBack acc => acc.wellFormed
  | .scrubStep memory _ => memory < 472
  | .scrubPassEnd memory => memory < 472
  | .passPeriodWrite acc memory _ => acc.wellFormed && memory < 472
  | .flipMaskArm acc memory => acc.wellFormed && memory < 472
  | .flipMaskDisarm acc memory => acc.wellFormed && memory < 472
  | .memoryStatsClear acc memory _ => acc.wellFormed && memory < 472
  | .selfTestRequest acc cluster bank => acc.wellFormed && cluster < 14 && bank < 16
  | .selfTestStepEnd cluster _ => cluster < 14
  | .selfTestAbandon acc cluster => acc.wellFormed && cluster < 14
  | .timeSourceReading entry _ _ => entry < 8
  | .ptpMessageReceive port _ domain _ => port < 32 && domain < 256
  | .ptpMessageSend port _ _ => port < 32
  | .announceTimeout port domain => port < 32 && domain < 256
  | .sourceUnusableTimeout entry => entry < 8
  | .esmcReceive port _ _ => port < 32
  | .esmcSend port => port < 32
  | .hostOffsetWrite acc _ => acc.wellFormed
  | .timeSet acc _ => acc.wellFormed
  | .acceptSlew acc => acc.wellFormed
  | .acceptStep acc => acc.wellFormed
  | .slewComplete => true
  | .refusalClear => true
  | .holdoverInSpecExpiry => true
  | .frefLost => true
  | .frefReturn => true
  | .edgeCapture input _ => input < 8
  | .edgeQueueRead acc input => acc.wellFormed && input < 8
  | .timestampQueueRead acc port => acc.wellFormed && port < 32
  | .txTimestampEntry port _ _ _ _ => port < 32
  | .ppsPulse output => output < 2
  | .todPairCompute => true
  | .hello msg => msg.wellFormed
  | .confirm msg tag => msg.wellFormed && bytesOk tag
  | .handshakeTimeout slot => slot < 63
  | .read msg => msg.wellFormed
  | .write msg _ => msg.wellFormed
  | .blockRead msg => msg.wellFormed
  | .blockWrite msg _ => msg.wellFormed
  | .blockTransferTimeout slot number => slot < 63 && number < 4
  | .subscribe msg => msg.wellFormed
  | .notifyAck msg => msg.wellFormed
  | .notifyRetry slot _ => slot < 63
  | .keepalive msg => msg.wellFormed
  | .close msg => msg.wellFormed
  | .sessionIdleTimeout slot => slot < 63
  | .sessionCloseCommand acc slot => acc.wellFormed && slot < 63
  | .principalChange acc principal _ _ => acc.wellFormed && principal < 256
  | .relayForward msg _ => msg.wellFormed
  | .relayTimeout _ _ _ session _ => session < 4294967296
  | .hostRequestRelay msg _ => msg.1 < 64 && bytesOk msg.2
  | .mailboxRead mailbox word0 word1 word2 _ => mailbox < 4 && word0 < 4294967296 && word1 < 4294967296 && word2 < 4294967296
  | .mailboxWrite mailbox word0 word1 word2 _ data _ => mailbox < 4 && word0 < 4294967296 && word1 < 4294967296 && word2 < 4294967296 && bytesOk data
  | .dmaDoorbell channel _ => channel < 16
  | .dmaRead channel desc => channel < 16 && desc.length == 64 && bytesOk desc
  | .dmaWrite channel desc data _ => channel < 16 && desc.length == 64 && bytesOk desc && bytesOk data
  | .dmaBlockRead channel desc => channel < 16 && desc.length == 64 && bytesOk desc
  | .dmaBlockWrite channel desc data _ => channel < 16 && desc.length == 64 && bytesOk desc && bytesOk data
  | .dmaPacketSend channel desc addresses payload _ _ => channel < 16 && desc.length == 64 && bytesOk desc && bytesOk addresses && bytesOk payload
  | .dmaReceiveFrame channel _ _ _ bytes entry => channel < 16 && bytesOk bytes && bytesOk entry
  | .dmaChannelEnable acc channel => acc.wellFormed && channel < 16
  | .dmaChannelDrain acc channel => acc.wellFormed && channel < 16
  | .dmaDrainExpiry channel => channel < 16
  | .eventDispatch => true
  | .eventRingConsumerWrite _ => true
  | .eventUnmask acc number => acc.wellFormed && number < 4096
  | .eventMask acc number => acc.wellFormed && number < 4096
  | .imageWrite acc slot _ => acc.wellFormed && slot < 2
  | .imageProgramDone slot _ => slot < 2
  | .ownerKeyHashProgram acc _ => acc.wellFormed
  | .rollbackCommit acc => acc.wellFormed
  | .modulePoll tree _ _ => tree < 48
  | .calibrationCommit acc => acc.wellFormed
  | .calibrationCommitDone _ => true
  | .attestationGenerate acc => acc.wellFormed
  | .islandStop island => island < 142
  | .islandResume island => island < 142
  | .viothBlockLockLoss heard => heard.1 < 70
  | .viothBlockLockGain heard => heard.1 < 70
  | .uplinkPcsAligned aligned => aligned.1 < 32
  | .pcieLinkChanged _ _ _ => true
  | .jtagReset _ => true

end Sys2Proof
end

