-- ==== Sys2Proof/Certificates/Slice0/Obligations.lean ====
section
/-!
DEFINITION. Certificates/Slice0/Obligations.lean: the statements for the provers, in the spec's terms: what each command does to
the objects, the hidden registers, the memories and what the block sends, what it leaves alone, and what every step keeps.
-/
open Sys2Proof Sys2Proof.Machine

/-- The supply commands have their effect (R34, R39, R54, R56): a step asks the core regulator for 5 mV more or less, an
acknowledgement puts the set point asked for in force, silence pauses and a retry asks again; an excursion is counted and
pending until its clearing; a brown-out holds the device; a clear resets the rail's records. Each leaves everything else alone.
-/
def Obligations.SupplyCommandsComplete : Prop :=
  (∀ (s : State) (up : Bool),
    Up s →
    s.aux .avsPaused = 0 →
    s.aux .avsAsked = 0 →
    ((s.aux .avsLastStep = 0 ∨ s.aux .avsLastStep - 1 + 1000000 ≤ s.now)) →
    ((List.range 14).any fun c => testRunning s c) = false →
    let want := if up then s.get 0x1040 0 1 + 5 else s.get 0x1040 0 1 - 5
    s.get 0x1040 0 3 ≤ want →
    want ≤ s.get 0x1040 0 4 →
    Runs (.avsSetPointStep up) s fun t => t.out = s.out ++ [⟨.avs, [want]⟩] ∧ t.aux .avsAsked = want
    ∧ Only (fun _ _ _ => False) (fun a _ _ => a = .avsAsked ∨ a = .avsLastStep) s t
    ∧ t = { s with objs := t.objs, regs := t.regs, out := t.out })
  ∧ (∀ (s : State),
    Up s →
    s.aux .avsAsked ≠ 0 →
    Runs .avsAcknowledge s fun t => t.get 0x1040 0 1 = s.aux .avsAsked ∧ t.aux .avsAsked = 0 ∧ t.aux .avsPaused = 0 ∧ isPending t 3972 0 = false
    ∧ OnlyEv (fun ix k sb => ix = 0x1040 ∧ k = 0 ∧ sb = 1) (fun a _ _ => a = .avsAsked ∨ a = .avsPrev ∨ a = .avsChangedAt ∨ a = .avsPaused) s t
    ∧ t = { s with objs := t.objs, regs := t.regs, evQueue := t.evQueue, evPending := t.evPending })
  ∧ (∀ (s : State),
    Up s →
    s.aux .avsAsked ≠ 0 →
    s.aux .avsPaused = 0 →
    Runs .avsNoResponse s fun t => isPending t 3972 0 = true ∧ t.aux .avsPaused = 1
    ∧ OnlyEv (fun _ _ _ => False) (fun a _ _ => a = .avsPaused) s t
    ∧ t = { s with objs := t.objs, regs := t.regs, evQueue := t.evQueue, evPending := t.evPending })
  ∧ (∀ (s : State),
    Up s →
    s.aux .avsPaused = 1 →
    s.get 0x1040 0 3 ≤ s.aux .avsAsked →
    s.aux .avsAsked ≤ s.get 0x1040 0 4 →
    Runs .avsRetry s fun t => t.out = s.out ++ [⟨.avs, [s.aux .avsAsked]⟩] ∧ t.aux .avsPaused = 0
    ∧ Only (fun _ _ _ => False) (fun a _ _ => a = .avsPaused ∨ a = .avsLastStep) s t
    ∧ t = { s with objs := t.objs, regs := t.regs, out := t.out })
  ∧ (∀ (s : State),
    Up s →
    s.aux .avsPaused = 1 →
    ((s.aux .avsAsked < s.get 0x1040 0 3 ∨ s.get 0x1040 0 4 < s.aux .avsAsked)) →
    Runs .avsRetry s fun t => t.out = s.out ∧ t.aux .avsAsked = 0 ∧ t.aux .avsPaused = 0
    ∧ Only (fun _ _ _ => False) (fun a _ _ => a = .avsPaused ∨ a = .avsAsked) s t
    ∧ t = { s with objs := t.objs, regs := t.regs })
  ∧ (∀ (s : State) (rail : Nat),
    Up s →
    rail < 10 →
    s.aux .railLowSince rail ≠ 0 →
    railBrownOut rail ≤ s.get 0x1041 rail 1 →
    s.aux .railOut rail = 0 →
    Runs (.railExcursion rail) s fun t => t.get 0x1041 rail 4 = wrapAdd 32 (s.get 0x1041 rail 4) 1 ∧ isPending t 3971 rail = true ∧ t.aux .railOut rail = 1
    ∧ OnlyEv (fun ix k sb => ix = 0x1041 ∧ k = rail ∧ sb = 4) (fun a p _ => a = .railOut ∧ p = rail) s t
    ∧ t = { s with objs := t.objs, regs := t.regs, evQueue := t.evQueue, evPending := t.evPending })
  ∧ (∀ (s : State) (rail : Nat),
    Up s →
    rail < 10 →
    s.aux .railLowSince rail = 0 →
    Runs (.railExcursionClear rail) s fun t => isPending t 3971 rail = false
    ∧ OnlyEv (fun _ _ _ => False) (fun _ _ _ => False) s t
    ∧ t = { s with objs := t.objs, regs := t.regs, evQueue := t.evQueue, evPending := t.evPending })
  ∧ (∀ (s : State) (rail : Nat),
    Up s →
    rail < 10 →
    s.aux .railSeen rail = 1 →
    s.get 0x1041 rail 1 < railBrownOut rail →
    Runs (.brownOut rail) s fun t => t = { s with phase := .heldBrownOut, out := s.out ++ [⟨.shutOff, []⟩] })
  ∧ (∀ (s : State) (acc : Acc) (rail : Nat),
    Up s →
    mayWrite acc 0x1041 rail 5 1 s = true →
    Runs (.railStatsClear acc rail 1) s fun t => t.answer = ⟨0, 0⟩ ∧ t.get 0x1041 rail 2 = 0 ∧ t.get 0x1041 rail 3 = 0 ∧ t.get 0x1041 rail 4 = 0
    ∧ Only (fun ix k sb => ix = 0x1041 ∧ k = rail ∧ 2 ≤ sb ∧ sb ≤ 5) (fun a p _ => a = .railSeen ∧ p = rail) s t
    ∧ t = { s with objs := t.objs, regs := t.regs, answer := t.answer })

/-- The samples have their effect (R39, R42, R44, R46, R54): a rail's reading is shown, becomes its lowest or highest since the
clearing when it is the first or lies beyond that, and starts or ends the time outside the tolerance; a temperature, with its
sensor's offset, is shown in 0.01 °C, with the hottest of the ten, sets and clears the warning and critical conditions, gives a
stack's refresh rate, and at 135 °C holds the device; a lost reference shows absent, is counted and pending, without PCIE_REFCLK
the PCIe link is down; an offset beyond tolerance is shown and pending. Beside this, only what a self-test shows that such a
breach abandons (R421) and the event path change. -/
def Obligations.MonitorCommandsComplete : Prop :=
  (∀ (s : State) (readings : List Nat),
    Up s →
    Runs (.railSample readings) s fun t => (∀ x ∈ (readings.take 10).zipIdx,
    let r := x.2; let v := x.1 % 65536;
    t.get 0x1041 r 1 = v
      ∧ t.get 0x1041 r 2 = (if s.aux .railSeen r = 0 ∨ v < s.get 0x1041 r 2 then v else s.get 0x1041 r 2)
      ∧ t.get 0x1041 r 3 = (if s.aux .railSeen r = 0 ∨ s.get 0x1041 r 3 < v then v else s.get 0x1041 r 3)
      ∧ t.aux .railSeen r = 1
      ∧ t.aux .railLowSince r = (if outside v (railNominal s r) (railTolerance r) = false then 0
          else if s.aux .railLowSince r = 0 then s.now + 1 else s.aux .railLowSince r)
      ∧ (r = 0 → t.get 0x1040 0 2 = v))
    ∧ OnlyEv (fun ix k sb => ix = 0x1040 ∧ k = 0 ∧ sb = 2 ∨ ix = 0x1041 ∧ k < readings.length ∧ sb ∈ [1, 2, 3] ∨ ix = 0x5900 ∧ sb ∈ [2, 5, 6, 8, 9] ∨ ix = 0x5940 ∧ sb = 5) (fun a p _ => a ∈ [.railLowSince, .railOut, .railSeen] ∧ p < readings.length ∨ a = .vddBadAt ∨ a = .stAban) s t
    ∧ t = { s with objs := t.objs, regs := t.regs, evQueue := t.evQueue, evPending := t.evPending })
  ∧ (∀ (s : State) (sensor : Nat) (reading : Int),
    Up s →
    sensor < 10 →
    let r := reading + sensorTrim s sensor
    let flag := fun (old : Nat) (limit : Int) => if limit ≤ r then 1 else if r ≤ limit - 300 ∧ old = 1 then 0 else old
    Runs (.temperatureSample sensor reading) s fun t => t.get 0x1042 sensor 1 = ofInt 32 r ∧ t.get 0x1040 0 5 = ofInt 32 (hottest t)
    ∧ t.phase = (if 13500 ≤ r then .heldThermal else .running)
    ∧ t.out = (if 13500 ≤ r then s.out ++ [⟨.shutOff, []⟩] else s.out)
    ∧ t.aux .tempWarn sensor = flag (s.aux .tempWarn sensor) (toInt 32 (s.get 0x1040 0 6))
    ∧ t.aux .tempCrit sensor = flag (s.aux .tempCrit sensor) (toInt 32 (s.get 0x1040 0 7))
    ∧ t.get 0x1040 0 9 = (if sensor = 8 then refresh (s.get 0x1040 0 9) r else s.get 0x1040 0 9)
    ∧ t.get 0x1040 0 0x0A = (if sensor = 9 then refresh (s.get 0x1040 0 0x0A) r else s.get 0x1040 0 0x0A)
    ∧ OnlyEv (fun ix k sb => ix = 0x1040 ∧ k = 0 ∧ sb ∈ [5, 9, 0x0A] ∨ ix = 0x1042 ∧ k = sensor ∧ sb = 1) (fun a p _ => a ∈ [.tempWarn, .tempCrit] ∧ p = sensor) s t
    ∧ t = { s with objs := t.objs, regs := t.regs, evQueue := t.evQueue, evPending := t.evPending, out := t.out, phase := t.phase })
  ∧ (∀ (s : State) (clock : Nat),
    Up s →
    clock < 4 →
    s.aux .refLost clock ≠ 1 →
    Runs (.referenceLost clock) s fun t => t.get 0x1050 clock 1 = 0 ∧ t.get 0x1050 clock 3 = wrapAdd 32 (s.get 0x1050 clock 3) 1
    ∧ t.aux .refLost clock = 1 ∧ isPending t 3973 clock = true ∧ (clock = 3 → t.get 0x1140 0 2 = 0)
    ∧ OnlyEv (fun ix k sb => ix = 0x1050 ∧ k = clock ∧ sb ∈ [1, 3] ∨ ix = 0x1140 ∧ clock = 3 ∧ sb ∈ [2, 3] ∨ ix = 0x5900 ∧ sb ∈ [2, 5, 6, 8, 9] ∨ ix = 0x5940 ∧ sb = 5) (fun a p _ => a = .refLost ∧ p = clock ∨ a = .stAban) s t
    ∧ t = { s with objs := t.objs, regs := t.regs, evQueue := t.evQueue, evPending := t.evPending })
  ∧ (∀ (s : State) (clock : Nat) (offset : Int),
    Up s →
    clock < 4 →
    Runs (.referenceOffset clock offset) s fun t => t.get 0x1050 clock 1 = 1 ∧ t.get 0x1050 clock 2 = ofInt 32 offset ∧ isPending t 3974 clock = true
    ∧ OnlyEv (fun ix k sb => ix = 0x1050 ∧ k = clock ∧ sb ∈ [1, 2] ∨ ix = 0x5900 ∧ sb ∈ [2, 5, 6, 8, 9] ∨ ix = 0x5940 ∧ sb = 5) (fun a _ _ => a = .stAban) s t
    ∧ t = { s with objs := t.objs, regs := t.regs, evQueue := t.evQueue, evPending := t.evPending })

/-- The commands of the time sources have their effect (R429 to R432, R440): a reading is shown in its entry, and that of the
selected phase source joins the last sixteen and steers the frequency word; the host's offset is a reading of every host entry;
an ESMC level is kept with the frequency measured, of DNU the frequency alone (the level's code is the model's reading,
assumption log, entry 23); a lost source is unusable and not selected, and FREF's loss is pending until it returns. Beside this
only the choice of the sources, what it makes of the time base's state, word and correction, and the event path change; an
automatic acceptance (R434) is left to the statement on corrections. -/
def Obligations.TimeSourceCommandsComplete : Prop :=
  (∀ (s : State) (entry : Nat) (offset freq : Int),
    Up s →
    entry < 8 →
    (srcKind s entry = 1 ∨ srcKind s entry = 4 ∨ srcKind s entry = 5) →
    entry ≠ tb s 4 →
    Runs (.timeSourceReading entry offset freq) s fun t => t.get 0x5C10 entry 5 = ofInt 64 offset ∧ t.aux .srcFreq entry = ofInt 32 freq
    ∧ Only (fun ix k sb => ix = 0x5C10 ∧ k = entry ∧ sb = 5) (fun a p _ => a = .srcFreq ∧ p = entry) s t
    ∧ t = { s with objs := t.objs, regs := t.regs })
  ∧ (∀ (s : State) (entry : Nat) (offset freq : Int),
    Up s →
    entry < 8 →
    (srcKind s entry = 1 ∨ srcKind s entry = 4 ∨ srcKind s entry = 5) →
    entry = tb s 4 →
    timeEngine s = true →
    s.aux .slewing = 0 →
    s.aux .pend3841 = 0 →
    tb s 1 = 2 →
    let s1 := s.setAux .srcFreq entry 0 (ofInt 32 freq)
    let m := filtered { s with offsets := (s.offsets ++ [offset]).drop (s.offsets.length + 1 - 16) }
    jump s m = false →
    Runs (.timeSourceReading entry offset freq) s fun t => t.offsets = (s.offsets ++ [offset]).drop (s.offsets.length + 1 - 16) ∧ t.get 0x5C00 0 1 = 2 ∧ t.get 0x5C00 0 3 = ofInt 32 (max (-1000000) (min 1000000 (sourceWord s1 + max (-(slewCap s)) (min (slewCap s) (m * 100 / 16)))))
    ∧ OnlyEv (fun ix k sb => ix = 0x5C00 ∧ k = 0 ∧ sb = 3 ∨ ix = 0x5C10 ∧ k = entry ∧ sb = 5) (fun a p _ => a = .srcFreq ∧ p = entry ∨ a = .readings) s t
    ∧ t = { s with objs := t.objs, regs := t.regs, evQueue := t.evQueue, evPending := t.evPending, offsets := t.offsets, words := t.words })
  ∧ (∀ (s : State) (acc : Acc) (value : Nat),
    Up s →
    mayWrite acc 0x5C00 0 0x10 value s = true →
    (tb s 0x0A = 0 ∨ lanesOff s = false) →
    Runs (.hostOffsetWrite acc value) s fun t => t.answer = ⟨0, 0⟩ ∧ t.aux .hostOn = 1 ∧ (∀ e ∈ List.range 8, srcKind s e = 5 → t.get 0x5C10 e 5 = ofInt 64 (toInt 64 value))
    ∧ OnlyEv (fun ix k sb => ix = 0x5C00 ∧ k = 0 ∧ sb ∈ [1, 3, 4, 5, 7, 15, 17] ∨ ix = 0x5C10 ∧ sb ∈ [4, 5]) (fun a _ _ => a = .hostOn ∨ a ∈ [.holdAt, .lastLock, .okSince, .pend3841, .readings, .slewAt, .slewLeft, .slewing, .timeBack, .timeFrom]) s t
    ∧ t = { s with objs := t.objs, regs := t.regs, evQueue := t.evQueue, evPending := t.evPending, answer := t.answer, offsets := t.offsets, words := t.words })
  ∧ (∀ (s : State) (port ql : Nat) (freq : Int),
    Up s →
    port < 32 →
    s.get 0x5090 port 2 = 4 →
    timeEngine s = true →
    ql % 16 ≠ 15 →
    Runs (.esmcReceive port ql freq) s fun t => t.aux .esmcQl port = ql % 16 + 1 ∧ (∀ e ∈ List.range 8, srcKind s e = 2 → s.get 0x5C10 e 2 = port → t.aux .srcFreq e = ofInt 32 freq)
    ∧ OnlyEv (fun ix k sb => ix = 0x5C00 ∧ k = 0 ∧ sb ∈ [1, 3, 4, 5, 7, 15] ∨ ix = 0x5C10 ∧ sb = 4) (fun a p _ => a = .srcFreq ∨ a = .esmcQl ∧ p = port ∨ a ∈ [.holdAt, .lastLock, .pend3841, .readings, .slewLeft, .slewing]) s t
    ∧ t = { s with objs := t.objs, regs := t.regs, evQueue := t.evQueue, evPending := t.evPending, offsets := t.offsets, words := t.words })
  ∧ (∀ (s : State) (port ql : Nat) (freq : Int),
    Up s →
    port < 32 →
    s.get 0x5090 port 2 = 4 →
    timeEngine s = true →
    ql % 16 = 15 →
    Runs (.esmcReceive port ql freq) s fun t => (∀ e ∈ List.range 8, srcKind s e = 2 → s.get 0x5C10 e 2 = port → t.aux .srcFreq e = ofInt 32 freq)
    ∧ Only (fun _ _ _ => False) (fun a _ _ => a = .srcFreq) s t
    ∧ t = { s with objs := t.objs, regs := t.regs })
  ∧ (∀ (s : State) (entry : Nat),
    Up s →
    entry < 8 →
    (srcKind s entry = 1 ∨ srcKind s entry = 2 ∨ srcKind s entry = 4 ∨ srcKind s entry = 5) →
    Runs (.sourceUnusableTimeout entry) s fun t => sourceUsable t entry = false ∧ t.get 0x5C10 entry 4 = 0
    ∧ OnlyEv (fun ix k sb => ix = 0x5C00 ∧ k = 0 ∧ sb ∈ [1, 3, 4, 5, 7, 15] ∨ ix = 0x5C10 ∧ sb = 4) (fun a _ _ => a ∈ [.edgeRun, .esmcQl, .hostOn, .syncOn, .holdAt, .lastLock, .pend3841, .readings, .slewLeft, .slewing]) s t
    ∧ t = { s with objs := t.objs, regs := t.regs, evQueue := t.evQueue, evPending := t.evPending, offsets := t.offsets, words := t.words })
  ∧ (∀ (s : State),
    Up s →
    s.aux .frefLost ≠ 1 →
    Runs .frefLost s fun t => t.aux .frefLost = 1 ∧ isPending t 3848 0 = true
    ∧ OnlyEv (fun ix k sb => ix = 0x5C00 ∧ k = 0 ∧ sb ∈ [1, 3, 4, 5, 7, 15] ∨ ix = 0x5C10 ∧ sb = 4) (fun a _ _ => a ∈ [.frefLost, .holdAt, .lastLock, .pend3841, .readings, .slewLeft, .slewing]) s t
    ∧ t = { s with objs := t.objs, regs := t.regs, evQueue := t.evQueue, evPending := t.evPending, offsets := t.offsets, words := t.words })
  ∧ (∀ (s : State),
    Up s →
    s.aux .frefLost ≠ 0 →
    Runs .frefReturn s fun t => t.aux .frefLost = 0 ∧ isPending t 3848 0 = false
    ∧ OnlyEv (fun ix k sb => ix = 0x5C00 ∧ k = 0 ∧ sb ∈ [1, 3, 4, 5, 7, 15] ∨ ix = 0x5C10 ∧ sb = 4) (fun a _ _ => a ∈ [.frefLost, .holdAt, .lastLock, .pend3841, .readings, .slewLeft, .slewing]) s t
    ∧ t = { s with objs := t.objs, regs := t.regs, evQueue := t.evQueue, evPending := t.evPending, offsets := t.offsets, words := t.words })

/-- The corrections of the time base have their effect (R432 to R435, R508): an accepted correction is no longer pending and is
slewed, or steps the time base when every downstream lane is off, which takes it off the readings held; a time set beyond the
threshold is pending and shown, one within it is slewed; a slew ends when nothing of it is left, and an accepted one's end is an
event; a refused offset that has stayed within the threshold for 10 s is dropped and the time base locked and steered again;
holdover goes out of its time. Beside this only the choice of the sources, the time base's state and word, after a step the key
slots (a step back erases those of kinds 1 to 3), and the event path change. -/
def Obligations.TimeCorrectionCommandsComplete : Prop :=
  (∀ (s : State) (acc : Acc),
    Up s →
    mayWrite acc 0x5C00 0 8 1 s = true →
    s.aux .pend3841 ≠ 0 →
    Runs (.acceptSlew acc) s fun t => t.answer = ⟨0, 0⟩ ∧ t.get 0x5C00 0 7 = 0 ∧ t.aux .pend3841 = 0 ∧ isPending t 3841 0 = false ∧ t.aux .slewing = 1 + s.aux .timeFrom ∧ t.aux .slewLeft = ofInt 64 (pendingOffset s) ∧ t.aux .slewAt = s.now ∧ t.now = s.now
    ∧ OnlyEv (fun ix k sb => ix = 0x5C00 ∧ k = 0 ∧ sb ∈ [1, 3, 7, 15] ∨ ix = 0x5C00 ∧ k = 0 ∧ sb = 8) (fun a _ _ => a ∈ [.holdAt, .lastLock, .pend3841, .slewAt, .slewLeft, .slewing]) s t
    ∧ t = { s with objs := t.objs, regs := t.regs, evQueue := t.evQueue, evPending := t.evPending, answer := t.answer, words := t.words })
  ∧ (∀ (s : State) (acc : Acc),
    Up s →
    mayWrite acc 0x5C00 0 8 2 s = true →
    s.aux .pend3841 ≠ 0 →
    lanesOff s = true →
    Runs (.acceptStep acc) s fun t => t.get 0x5C00 0 7 = 0 ∧ t.aux .pend3841 = 0 ∧ t.now = ((s.now : Int) + pendingOffset s).toNat ∧ t.offsets = s.offsets.map (fun x => x - pendingOffset s)
    ∧ OnlyEv (fun ix k sb => ix = 0x5C00 ∧ k = 0 ∧ sb ∈ [1, 7, 15] ∨ ix = 0x4000 ∧ sb ∈ [4, 5, 6, 7, 10, 12, 14, 15] ∨ ix = 0x4200 ∧ sb ∈ [4, 5] ∨ ix = 0x5140 ∧ sb = 6 ∨ ix = 0x5800 ∧ sb ∈ [2, 3, 4, 5, 6, 7, 8, 9] ∨ ix = 0x5840 ∧ sb ∈ [4, 5] ∨ ix = 0x5C00 ∧ k = 0 ∧ sb = 8) (fun a _ _ => a ∈ [.holdAt, .lastLock, .pend3841, .keyAt, .keyMat, .keyNextIdx, .keyPoison, .keySoft, .keyUnacked, .kxFrag, .kxGen, .kxIndex, .kxKey, .kxKind, .kxNext, .kxSeq, .kxTries, .mirSeq, .missMask, .sesDerived]) s t
    ∧ OnlyWords (fun m _ => m = 66) s t
    ∧ t = { s with objs := t.objs, regs := t.regs, evQueue := t.evQueue, evPending := t.evPending, answer := t.answer, keyWaits := t.keyWaits, mem := t.mem, now := t.now, offsets := t.offsets, ploams := t.ploams, recent := t.recent, vframes := t.vframes })
  ∧ (∀ (s : State) (acc : Acc) (value : Nat),
    Up s →
    mayWrite acc 0x5C00 0 0x0E value s = true →
    tb s 0x0A = 0 →
    let diff := (ofTime80 value : Int) - (s.now : Int)
    jump s diff = true →
    Runs (.timeSet acc value) s fun t => t.get 0x5C00 0 1 = 5 ∧ t.get 0x5C00 0 7 = ofInt 64 diff ∧ t.aux .pend3841 = 1 ∧ t.aux .timeFrom = 1 ∧ isPending t 3841 0 = true ∧ t.get 0x5C00 0 0x11 = wrapAdd 32 (s.get 0x5C00 0 0x11) 1 ∧ t.now = s.now
    ∧ OnlyEv (fun ix k sb => ix = 0x5C00 ∧ k = 0 ∧ sb ∈ [1, 3, 4, 5, 7, 15] ∨ ix = 0x5C10 ∧ sb = 4 ∨ ix = 0x5C00 ∧ k = 0 ∧ sb = 17 ∨ ix = 0x5C00 ∧ k = 0 ∧ sb = 14) (fun a _ _ => a ∈ [.secsSet, .okSince, .timeBack, .timeFrom, .holdAt, .lastLock, .pend3841, .readings, .slewLeft, .slewing]) s t
    ∧ t = { s with objs := t.objs, regs := t.regs, evQueue := t.evQueue, evPending := t.evPending, answer := t.answer, offsets := t.offsets, words := t.words })
  ∧ (∀ (s : State) (acc : Acc) (value : Nat),
    Up s →
    mayWrite acc 0x5C00 0 0x0E value s = true →
    let diff := (ofTime80 value : Int) - (s.now : Int)
    jump s diff = false →
    Runs (.timeSet acc value) s fun t => t.answer = ⟨0, 0⟩ ∧ t.aux .slewing = (if diff = 0 then 0 else 3) ∧ t.aux .slewLeft = ofInt 64 diff ∧ t.aux .slewAt = s.now ∧ t.now = s.now
    ∧ OnlyEv (fun ix k sb => ix = 0x5C00 ∧ k = 0 ∧ sb ∈ [1, 3, 4, 5, 7, 15] ∨ ix = 0x5C10 ∧ sb = 4 ∨ ix = 0x5C00 ∧ k = 0 ∧ sb = 14) (fun a _ _ => a ∈ [.secsSet, .slewAt, .holdAt, .lastLock, .pend3841, .readings, .slewLeft, .slewing]) s t
    ∧ t = { s with objs := t.objs, regs := t.regs, evQueue := t.evQueue, evPending := t.evPending, answer := t.answer, offsets := t.offsets, words := t.words })
  ∧ (∀ (s : State),
    Up s →
    s.aux .slewing ≠ 0 →
    slewRemaining s = 0 →
    Runs .slewComplete s fun t => t.aux .slewing = 0 ∧ t.aux .slewLeft = 0 ∧ t.get 0x1200 3843 3 = (if s.aux .slewing = 3 then s.get 0x1200 3843 3 else wrapAdd 64 (s.get 0x1200 3843 3) 1)
    ∧ OnlyEv (fun ix k sb => ix = 0x5C00 ∧ k = 0 ∧ sb = 3) (fun a _ _ => a = .slewing ∨ a = .slewLeft) s t
    ∧ t = { s with objs := t.objs, regs := t.regs, evQueue := t.evQueue, evPending := t.evPending, words := t.words })
  ∧ (∀ (s : State),
    Up s →
    slewRemaining s ≠ 0 →
    Runs .slewComplete s fun t => t = s)
  ∧ (∀ (s : State),
    Up s →
    tb s 1 = 5 →
    s.aux .pend3841 = 1 →
    s.aux .timeFrom = 0 →
    s.aux .okSince ≠ 0 →
    s.aux .okSince - 1 + 10000000000 ≤ s.now →
    Runs .refusalClear s fun t => t.get 0x5C00 0 1 = 2 ∧ t.get 0x5C00 0 7 = 0 ∧ t.aux .pend3841 = 0 ∧ isPending t 3841 0 = false ∧ t.get 0x5C00 0 3 = ofInt 32 (max (-1000000) (min 1000000 (sourceWord s + max (-(slewCap s)) (min (slewCap s) (filtered s * 100 / 16)))))
    ∧ OnlyEv (fun ix k sb => ix = 0x5C00 ∧ k = 0 ∧ sb ∈ [1, 3, 7, 15]) (fun a _ _ => a = .lastLock ∨ a = .pend3841) s t
    ∧ t = { s with objs := t.objs, regs := t.regs, evQueue := t.evQueue, evPending := t.evPending, words := t.words })
  ∧ (∀ (s : State),
    Up s →
    tb s 1 = 3 →
    s.aux .holdAt + tb s 0x0D * 1000000000 < s.now →
    Runs .holdoverInSpecExpiry s fun t => t.get 0x5C00 0 1 = 4 ∧ t.get 0x5C00 0 0x0F = 165 ∧ isPending t 3847 0 = true
    ∧ OnlyEv (fun ix k sb => ix = 0x5C00 ∧ k = 0 ∧ (sb = 1 ∨ sb = 0x0F)) (fun _ _ _ => False) s t
    ∧ t = { s with objs := t.objs, regs := t.regs, evQueue := t.evQueue, evPending := t.evPending })

/-- PTP and ESMC messages have their effect (R437 to R440): an Announce is kept with what the best-master choice compares, and
what the parent on the SLAVE port announces is shown as parent, steps and class; its timeout forgets it; a Sync keeps its
arrival and makes the source usable, a Follow_Up and a one-step Sync give a reading of the PTP entries, a Delay_Req is answered
on a MASTER port, a Delay_Resp gives the mean path delay, mode 2 passes the message to the host; MASTER ports send Announce and
Sync, SLAVE and UNCALIBRATED ports Delay_Req; and an ESMC carries the selected source's level, DNU on its own port. The port
states that the best-master choice gives are the standard's (assumption log, entry 107). -/
def Obligations.PtpCommandsComplete : Prop :=
  (∀ (s : State) (port dest domain data parent cls steps utc delay : Nat),
    Up s →
    port < 32 →
    s.get 0x5090 port 2 = 4 →
    s.get 0x5C40 port 1 = 1 →
    dest = s.get 0x5C40 port 3 →
    domain = s.get 0x5C80 0 1 →
    timeEngine s = true →
    Runs (.ptpMessageReceive port dest domain (.announce data parent cls steps utc, delay)) s fun t => t.aux .announceIn port = data + 1 ∧ t.aux .annParent port = parent % 2 ^ 80 ∧ t.aux .annClass port = cls % 256 ∧ t.aux .annSteps port = steps % 65536 ∧ t.aux .annUtc port = utc % 65536 ∧ (∀ e ∈ slavePort t, t.get 0x5C80 0 5 = t.aux .annParent e ∧ t.get 0x5C80 0 6 = (t.aux .annSteps e + 1) % 65536 ∧ t.aux .gmClass = t.aux .annClass e)
    ∧ OnlyEv (fun ix k sb => ix = 0x5C00 ∧ k = 0 ∧ sb ∈ [1, 3, 4, 5, 7, 11, 15] ∨ ix = 0x5C10 ∧ sb = 4 ∨ ix = 0x5C40 ∧ sb = 2 ∨ ix = 0x5C80 ∧ k = 0 ∧ sb ∈ [5, 6]) (fun a p _ => a ∈ [.announceIn, .annParent, .annClass, .annSteps, .annUtc] ∧ p = port ∨ a ∈ [.gmClass, .syncOn, .holdAt, .lastLock, .pend3841, .readings, .slewLeft, .slewing]) s t
    ∧ t = { s with objs := t.objs, regs := t.regs, evQueue := t.evQueue, evPending := t.evPending, offsets := t.offsets, words := t.words })
  ∧ (∀ (s : State) (port dest domain delay : Nat) (origin correction freq : Int),
    Up s →
    port < 32 →
    (s.get 0x5090 port 2 = 2 ∨ s.get 0x5090 port 2 = 3 ∨ s.get 0x5090 port 2 = 4) →
    s.get 0x5C40 port 1 = 1 →
    dest = s.get 0x5C40 port 3 →
    domain = s.get 0x5C80 0 1 →
    timeEngine s = true →
    s.get 0x5C40 port 2 = 9 →
    Runs (.ptpMessageReceive port dest domain (.sync true origin correction freq, delay)) s fun t => t.aux .ptpT2 port = ofInt 64 (rxStamp s port delay - correction) ∧ t.aux .syncOn = 1
    ∧ OnlyEv (fun ix k sb => ix = 0x5C00 ∧ k = 0 ∧ sb ∈ [1, 3, 4, 5, 7, 15] ∨ ix = 0x5C10 ∧ sb = 4) (fun a p _ => a = .ptpT2 ∧ p = port ∨ a ∈ [.syncOn, .holdAt, .lastLock, .pend3841, .readings, .slewLeft, .slewing]) s t
    ∧ t = { s with objs := t.objs, regs := t.regs, evQueue := t.evQueue, evPending := t.evPending, offsets := t.offsets, words := t.words })
  ∧ (∀ (s : State) (port dest domain delay : Nat) (origin correction freq : Int),
    Up s →
    port < 32 →
    (s.get 0x5090 port 2 = 2 ∨ s.get 0x5090 port 2 = 3 ∨ s.get 0x5090 port 2 = 4) →
    s.get 0x5C40 port 1 = 1 →
    dest = s.get 0x5C40 port 3 →
    domain = s.get 0x5C80 0 1 →
    timeEngine s = true →
    s.get 0x5C40 port 2 = 9 →
    (tb s 0x0A = 0 ∨ lanesOff s = false) →
    let arrival := ofInt 64 (rxStamp s port delay - correction)
    Runs (.ptpMessageReceive port dest domain (.sync false origin correction freq, delay)) s fun t => t.aux .ptpT2 port = arrival ∧ t.aux .syncOn = 1 ∧ (∀ e ∈ List.range 8, srcKind s e = 1 → t.get 0x5C10 e 5 = ofInt 64 (origin + toInt 64 (s.get 0x5C40 port 9) - toInt 64 arrival))
    ∧ OnlyEv (fun ix k sb => ix = 0x5C00 ∧ k = 0 ∧ sb ∈ [1, 3, 4, 5, 7, 15, 17] ∨ ix = 0x5C10 ∧ sb ∈ [4, 5]) (fun a p _ => a ∈ [.ptpT1, .ptpT2] ∧ p = port ∨ a ∈ [.syncOn, .srcFreq, .holdAt, .lastLock, .okSince, .pend3841, .readings, .slewAt, .slewLeft, .slewing, .timeBack, .timeFrom]) s t
    ∧ t = { s with objs := t.objs, regs := t.regs, evQueue := t.evQueue, evPending := t.evPending, offsets := t.offsets, words := t.words })
  ∧ (∀ (s : State) (port dest domain delay : Nat) (origin correction freq : Int),
    Up s →
    port < 32 →
    (s.get 0x5090 port 2 = 2 ∨ s.get 0x5090 port 2 = 3 ∨ s.get 0x5090 port 2 = 4) →
    s.get 0x5C40 port 1 = 1 →
    dest = s.get 0x5C40 port 3 →
    domain = s.get 0x5C80 0 1 →
    timeEngine s = true →
    s.get 0x5C40 port 2 = 9 →
    (tb s 0x0A = 0 ∨ lanesOff s = false) →
    Runs (.ptpMessageReceive port dest domain (.followUp origin correction freq, delay)) s fun t => (∀ e ∈ List.range 8, srcKind s e = 1 → t.get 0x5C10 e 5 = ofInt 64 (origin + correction + toInt 64 (s.get 0x5C40 port 9) - toInt 64 (s.aux .ptpT2 port)))
    ∧ OnlyEv (fun ix k sb => ix = 0x5C00 ∧ k = 0 ∧ sb ∈ [1, 3, 7, 15, 17] ∨ ix = 0x5C10 ∧ sb = 5) (fun a p _ => a = .ptpT1 ∧ p = port ∨ a = .srcFreq ∨ a ∈ [.lastLock, .okSince, .pend3841, .readings, .slewAt, .slewLeft, .slewing, .timeBack, .timeFrom]) s t
    ∧ t = { s with objs := t.objs, regs := t.regs, evQueue := t.evQueue, evPending := t.evPending, offsets := t.offsets, words := t.words })
  ∧ (∀ (s : State) (port dest domain delay : Nat),
    Up s →
    port < 32 →
    (s.get 0x5090 port 2 = 2 ∨ s.get 0x5090 port 2 = 3 ∨ s.get 0x5090 port 2 = 4) →
    s.get 0x5C40 port 1 = 1 →
    dest = s.get 0x5C40 port 3 →
    domain = s.get 0x5C80 0 1 →
    timeEngine s = true →
    s.get 0x5C40 port 2 = 6 →
    Runs (.ptpMessageReceive port dest domain (.delayReq, delay)) s fun t => t.out = s.out ++ [⟨.ptp, [port, 9, s.get 0x5C40 port 3, s.get 0x5C80 0 1, s.get 0x5C00 0 0x0F, ofInt 64 (rxStamp s port delay)]⟩]
    ∧ Only (fun _ _ _ => False) (fun _ _ _ => False) s t
    ∧ t = { s with objs := t.objs, regs := t.regs, out := t.out })
  ∧ (∀ (s : State) (port dest domain delay : Nat) (receive correction : Int),
    Up s →
    port < 32 →
    (s.get 0x5090 port 2 = 2 ∨ s.get 0x5090 port 2 = 3 ∨ s.get 0x5090 port 2 = 4) →
    s.get 0x5C40 port 1 = 1 →
    dest = s.get 0x5C40 port 3 →
    domain = s.get 0x5C80 0 1 →
    timeEngine s = true →
    (s.get 0x5C40 port 2 = 8 ∨ s.get 0x5C40 port 2 = 9) →
    Runs (.ptpMessageReceive port dest domain (.delayResp receive correction, delay)) s fun t => t.get 0x5C40 port 9 = ofInt 64 (((toInt 64 (s.aux .ptpT2 port) - toInt 64 (s.aux .ptpT1 port)) + (receive - correction - toInt 64 (s.aux .ptpT3 port))) / 2)
    ∧ Only (fun ix k sb => ix = 0x5C40 ∧ k = port ∧ sb = 9) (fun _ _ _ => False) s t
    ∧ t = { s with objs := t.objs, regs := t.regs })
  ∧ (∀ (s : State) (port dest domain : Nat) (msg : PtpMsg) (delay : Nat),
    Up s →
    port < 32 →
    (s.get 0x5090 port 2 = 2 ∨ s.get 0x5090 port 2 = 3 ∨ s.get 0x5090 port 2 = 4) →
    s.get 0x5C40 port 1 = 2 →
    Runs (.ptpMessageReceive port dest domain (msg, delay)) s fun t => t = s.send .hostFrame [0, port, ofInt 64 (rxStampPs s port delay)])
  ∧ (∀ (s : State) (port : Nat) (msg : PtpSend) (delay : Nat),
    Up s →
    port < 32 →
    s.get 0x5C40 port 1 = 1 →
    s.get 0x5090 port 2 = 4 →
    timeEngine s = true →
    let o := fun (code : Nat) => (⟨.ptp, [port, code, s.get 0x5C40 port 3, s.get 0x5C80 0 1, s.get 0x5C00 0 0x0F, ofInt 64 (txStampPs s port delay / 1000)]⟩ : Out)
    ((msg = .delayReq ∧ (s.get 0x5C40 port 2 = 8 ∨ s.get 0x5C40 port 2 = 9)) ∨ (msg ≠ .delayReq ∧ s.get 0x5C40 port 2 = 6)) →
    Runs (.ptpMessageSend port msg delay) s fun t => t.out = s.out ++ (match msg with | .announce => [o 11] | .sync => (if s.get 0x5C40 port 4 = 1 then [o 0] else [o 0, o 8]) | .delayReq => [o 1]) ∧ t.aux .ptpT3 port = (if msg = .delayReq then ofInt 64 (txStampPs s port delay / 1000) else s.aux .ptpT3 port)
    ∧ Only (fun _ _ _ => False) (fun a p _ => a = .ptpT3 ∧ p = port) s t
    ∧ t = { s with objs := t.objs, regs := t.regs, out := t.out })
  ∧ (∀ (s : State) (port domain : Nat),
    Up s →
    domain = s.get 0x5C80 0 1 →
    port < 32 →
    s.get 0x5090 port 2 = 4 →
    s.get 0x5C40 port 1 = 1 →
    timeEngine s = true →
    Runs (.announceTimeout port domain) s fun t => t.aux .announceIn port = 0 ∧ (∀ e ∈ slavePort t, t.get 0x5C80 0 5 = t.aux .annParent e ∧ t.get 0x5C80 0 6 = (t.aux .annSteps e + 1) % 65536 ∧ t.aux .gmClass = t.aux .annClass e)
    ∧ OnlyEv (fun ix k sb => ix = 0x5C00 ∧ k = 0 ∧ sb ∈ [1, 3, 4, 5, 7, 11, 15] ∨ ix = 0x5C10 ∧ sb = 4 ∨ ix = 0x5C40 ∧ sb = 2 ∨ ix = 0x5C80 ∧ k = 0 ∧ sb ∈ [5, 6]) (fun a p _ => a = .announceIn ∧ p = port ∨ a ∈ [.gmClass, .syncOn, .holdAt, .lastLock, .pend3841, .readings, .slewLeft, .slewing]) s t
    ∧ t = { s with objs := t.objs, regs := t.regs, evQueue := t.evQueue, evPending := t.evPending, offsets := t.offsets, words := t.words })
  ∧ (∀ (s : State) (port domain : Nat),
    Up s →
    domain ≠ s.get 0x5C80 0 1 →
    Runs (.announceTimeout port domain) s fun t => t = s)
  ∧ (∀ (s : State) (port : Nat),
    Up s →
    port < 32 →
    s.get 0x5090 port 2 = 4 →
    timeEngine s = true →
    let f := s.get 0x5C00 0 5
    let ql := if f ≠ 0xFF ∧ srcKind s f = 2 then (if s.get 0x5C10 f 2 = port then 15 else s.aux .esmcQl (s.get 0x5C10 f 2) - 1) else Config.freeValue s.freeCtr % 16
    Runs (.esmcSend port) s fun t => t.out = s.out ++ [⟨.esmc, [port, ql]⟩]
    ∧ Only (fun ix k sb => ix = 0x5CC0 ∧ k = 0 ∧ sb = 3) (fun _ _ _ => False) s t
    ∧ t = { s with objs := t.objs, regs := t.regs, out := t.out, freeCtr := t.freeCtr })

/-- The stamps have their effect (R441 to R445): a captured edge and a transmit stamp enter their queues with the numbering and
the port's corrections, an edge that finds its queue full is counted, a read takes the oldest entry, a transmit queue is not
read outside mode 2, an enabled 1PPS output pulses at the whole second and its offset unless it is squelched, and every lane
that is not disabled gets its frame count and time of day, with the quality of the pairs. An edge of an input that a source
entry names is a reading too, which moves the time base's state and word. -/
def Obligations.TimeStampCommandsComplete : Prop :=
  (∀ (s : State) (input : Nat) (falling : Bool),
    Up s →
    input < 8 →
    s.get 0x5D00 input 1 ≠ 0 →
    ((if falling then s.get 0x5D00 input 2 ≠ 0 else s.get 0x5D00 input 2 ≠ 1)) →
    (s.aux .edgeAt input = 0 ∨ s.aux .edgeAt input - 1 + 5 < s.now) →
    (stampQueue s true input).length < 16 →
    (tb s 0x0A = 0 ∨ lanesOff s = false) →
    Runs (.edgeCapture input falling) s fun t => t.get 0x5D00 input 4 = (stampQueue s true input).length + 1 ∧ t.stamps = s.stamps ++ [⟨true, input, stampEntry input false 0 ((s.now * 1000 : Nat) - toInt 32 (s.get 0x5D00 input 6)) (wrapAdd 16 (s.aux .edgeCnt input) 1)⟩] ∧ t.aux .edgeCnt input = wrapAdd 16 (s.aux .edgeCnt input) 1 ∧ t.aux .edgeAt input = s.now + 1
    ∧ OnlyEv (fun ix k sb => ix = 0x5C00 ∧ k = 0 ∧ sb ∈ [1, 3, 4, 5, 7, 15, 17] ∨ ix = 0x5C10 ∧ sb ∈ [4, 5] ∨ ix = 0x5D00 ∧ k = input ∧ sb = 4) (fun a p _ => a ∈ [.edgeAt, .edgeCnt, .edgeRun] ∧ p = input ∨ a ∈ [.holdAt, .lastLock, .okSince, .pend3841, .readings, .slewAt, .slewLeft, .slewing, .timeBack, .timeFrom]) s t
    ∧ t = { s with objs := t.objs, regs := t.regs, evQueue := t.evQueue, evPending := t.evPending, offsets := t.offsets, stamps := t.stamps, words := t.words })
  ∧ (∀ (s : State) (input : Nat) (falling : Bool),
    Up s →
    input < 8 →
    s.get 0x5D00 input 1 ≠ 0 →
    ((if falling then s.get 0x5D00 input 2 ≠ 0 else s.get 0x5D00 input 2 ≠ 1)) →
    (s.aux .edgeAt input = 0 ∨ s.aux .edgeAt input - 1 + 5 < s.now) →
    16 ≤ (stampQueue s true input).length →
    (tb s 0x0A = 0 ∨ lanesOff s = false) →
    Runs (.edgeCapture input falling) s fun t => t.get 0x5D00 input 5 = wrapAdd 64 (s.get 0x5D00 input 5) 1 ∧ t.aux .edgeCnt input = wrapAdd 16 (s.aux .edgeCnt input) 1 ∧ t.aux .edgeAt input = s.now + 1
    ∧ OnlyEv (fun ix k sb => ix = 0x5C00 ∧ k = 0 ∧ sb ∈ [1, 3, 4, 5, 7, 15, 17] ∨ ix = 0x5C10 ∧ sb ∈ [4, 5] ∨ ix = 0x5D00 ∧ k = input ∧ sb = 5) (fun a p _ => a ∈ [.edgeAt, .edgeCnt, .edgeRun] ∧ p = input ∨ a ∈ [.holdAt, .lastLock, .okSince, .pend3841, .readings, .slewAt, .slewLeft, .slewing, .timeBack, .timeFrom]) s t
    ∧ t = { s with objs := t.objs, regs := t.regs, evQueue := t.evQueue, evPending := t.evPending, offsets := t.offsets, words := t.words })
  ∧ (∀ (s : State) (acc : Acc) (input : Nat),
    Up s →
    mayAccess acc false 0x5D00 input 3 s = true →
    Runs (.edgeQueueRead acc input) s fun t => t.answer = ⟨0, ((stampQueue s true input).head?.map fun x => x.entry).getD 0⟩ ∧ (stampQueue t true input).length = (stampQueue s true input).length - 1
    ∧ Only (fun ix k sb => ix = 0x5D00 ∧ k = input ∧ sb = 4) (fun _ _ _ => False) s t
    ∧ t = { s with objs := t.objs, regs := t.regs, stamps := t.stamps, answer := t.answer })
  ∧ (∀ (s : State) (acc : Acc) (port : Nat),
    Up s →
    mayAccess acc false 0x5D40 port 1 s = true →
    s.get 0x5C40 port 1 = 2 →
    Runs (.timestampQueueRead acc port) s fun t => t.answer = ⟨0, ((stampQueue s false port).head?.map fun x => x.entry).getD 0⟩ ∧ (stampQueue t false port).length = (stampQueue s false port).length - 1
    ∧ Only (fun ix k sb => ix = 0x5D40 ∧ k = port ∧ sb = 2) (fun _ _ _ => False) s t
    ∧ t = { s with objs := t.objs, regs := t.regs, stamps := t.stamps, answer := t.answer })
  ∧ (∀ (s : State) (acc : Acc) (port : Nat),
    Up s →
    mayAccess acc false 0x5D40 port 1 s = true →
    s.get 0x5C40 port 1 ≠ 2 →
    Runs (.timestampQueueRead acc port) s fun t => t = { s with answer := ⟨3, 0⟩ })
  ∧ (∀ (s : State) (port ident seq : Nat) (oneStep : Bool) (delay : Nat),
    Up s →
    port < 32 →
    s.aux .upQuad port ≠ 0 →
    (stampQueue s false port).length < 64 →
    s.get 0x5C40 port 1 ≠ 1 →
    Runs (.txTimestampEntry port ident seq oneStep delay) s fun t => t.get 0x5D40 port 2 = (stampQueue s false port).length + 1 ∧ t.get 0x5D40 port 4 = wrapAdd 64 (s.get 0x5D40 port 4) 1 ∧ t.stamps = s.stamps ++ [⟨false, port, stampEntry ident oneStep port (txStampPs s port delay) seq⟩]
    ∧ Only (fun ix k sb => ix = 0x5D40 ∧ k = port ∧ (sb = 2 ∨ sb = 4)) (fun _ _ _ => False) s t
    ∧ t = { s with objs := t.objs, regs := t.regs, stamps := t.stamps })
  ∧ (∀ (s : State) (output : Nat),
    Up s →
    output < 2 →
    ppsValue s output 1 = 1 →
    (s.get 0x5D20 output 4 = 0 ∨ (s.get 0x5C00 0 1 ≠ 0 ∧ s.get 0x5C00 0 1 ≠ 4)) →
    Runs (.ppsPulse output) s fun t => t = s.send .pps [output, ofInt 64 (ppsEdge s output), ppsValue s output 2])
  ∧ (∀ (s : State),
    Up s →
    Runs .todPairCompute s fun t => (∀ k ∈ List.range s.trees,
    (laneState s k 0 ≠ 0 → t.get 0x5D80 k 1 = (todPair s k (toInt 32 (s.get 0x5D80 k 3))).1 ∧ t.get 0x5D80 k 2 = (todPair s k (toInt 32 (s.get 0x5D80 k 3))).2)
    ∧ (laneState s k 1 ≠ 0 → t.get 0x5D80 k 7 = (todPair s k (toInt 32 (s.get 0x5D80 k 6))).1 ∧ t.get 0x5D80 k 8 = (todPair s k (toInt 32 (s.get 0x5D80 k 6))).2)
    ∧ t.get 0x5D80 k 5 = (if laneState s k 0 ≠ 0 ∨ laneState s k 1 ≠ 0 then todQuality s else s.get 0x5D80 k 5))
    ∧ Only (fun ix _ sb => ix = 0x5D80 ∧ sb ∈ [1, 2, 5, 7, 8]) (fun _ _ _ => False) s t
    ∧ t = { s with objs := t.objs, regs := t.regs })

/-- The identity commands have their effect (R481, R487 to R492, R496, R497, R500, R503): an accepted image makes its slot
writing and its read-back makes it valid with its level, rollback version and digest; the owner key hash is blown once, and only
as SM3 of the running image's owner key, the rollback fuses upward; a poll identifies a new module by the bytes of its standard
and the third silence removes it; a commit is checked and its end shows the staged set, its origin and SM3, and one commit more;
a report carries the device's identity; the PCIe link's state is shown. -/
def Obligations.IdentityCommandsComplete : Prop :=
  (∀ (s : State) (acc : Acc) (slot : Nat) (image : ImageIn),
    Up s →
    mayAccess acc true 0x1300 slot 1 s = true →
    ((clusters s).any fun c => s.get 0x5510 c 2 == slot) = false →
    upgradeUses s slot = false →
    s.get 0x1300 0 2 ≠ 3 →
    s.get 0x1300 1 2 ≠ 3 →
    slot < 2 →
    imageCause s image = 0 →
    Runs (.imageWrite acc slot image) s fun t => t.answer = ⟨0, 0⟩ ∧ t.get 0x1300 slot 2 = 3 ∧ t.get 0x1300 slot 6 = 0
    ∧ Only (fun ix k sb => ix = 0x1300 ∧ k = slot ∧ (sb = 2 ∨ sb = 6)) (fun a p _ => (a = .imgHead ∧ p = slot) ∨ (a = .slotKey ∧ p = slot)) s t
    ∧ t = { s with objs := t.objs, regs := t.regs, answer := t.answer })
  ∧ (∀ (s : State) (acc : Acc) (slot : Nat) (image : ImageIn),
    Up s →
    mayAccess acc true 0x1300 slot 1 s = true →
    ((clusters s).any fun c => s.get 0x5510 c 2 == slot) = false →
    upgradeUses s slot = false →
    s.get 0x1300 0 2 ≠ 3 →
    s.get 0x1300 1 2 ≠ 3 →
    slot < 2 →
    imageCause s image ≠ 0 →
    Runs (.imageWrite acc slot image) s fun t => t.answer = ⟨4, 0⟩ ∧ t.get 0x1300 slot 6 = imageCause s image
    ∧ Only (fun ix k sb => ix = 0x1300 ∧ k = slot ∧ sb = 6) (fun _ _ _ => False) s t
    ∧ t = { s with objs := t.objs, regs := t.regs, answer := t.answer })
  ∧ (∀ (s : State) (slot : Nat) (verified : Bool),
    Up s →
    slot < 2 →
    s.get 0x1300 slot 2 = 3 →
    Runs (.imageProgramDone slot verified) s fun t => t.get 0x1300 slot 2 = (if verified then 1 else 2) ∧ (verified = true → t.get 0x1300 slot 3 = s.aux .imgHead slot 0) ∧ (verified = true → t.get 0x1300 slot 4 = s.aux .imgHead slot 1) ∧ (verified = true → t.get 0x1300 slot 5 = s.aux .imgHead slot 2)
    ∧ Only (fun ix k sb => ix = 0x1300 ∧ k = slot ∧ 2 ≤ sb ∧ sb ≤ 5) (fun _ _ _ => False) s t
    ∧ t = { s with objs := t.objs, regs := t.regs })
  ∧ (∀ (s : State) (acc : Acc) (value : Nat),
    Up s →
    mayWrite acc 0x1320 0 2 value s = true →
    s.get 0x1320 0 1 = 0 →
    let bad := value = 0 ∨ value ≠ keyHash (s.aux .slotKey (runningSlot s))
    Runs (.ownerKeyHashProgram acc value) s fun t => t.answer = ⟨if bad then 4 else 0, 0⟩ ∧ t.get 0x1320 0 1 = (if bad then 0 else value)
    ∧ OnlyEv (fun ix k sb => ix = 0x1320 ∧ k = 0 ∧ (sb = 1 ∨ sb = 2) ∨ ix = 0x1320 ∧ k = 0 ∧ sb = 2) (fun _ _ _ => False) s t
    ∧ t = { s with objs := t.objs, regs := t.regs, evQueue := t.evQueue, evPending := t.evPending, answer := t.answer })
  ∧ (∀ (s : State) (acc : Acc),
    Up s →
    mayWrite acc 0x1320 0 4 1 s = true →
    let slot := runningSlot s
    slot ≠ 2 →
    ((clusters s).any fun c => s.get 0x5510 c 2 != slot) = false →
    s.get 0x1320 0 3 < s.get 0x1300 slot 4 →
    (s.get 0x1300 (1 - slot) 2 ≠ 1 ∨ s.get 0x1300 slot 4 ≤ s.get 0x1300 (1 - slot) 4) →
    Runs (.rollbackCommit acc) s fun t => t.answer = ⟨0, 0⟩ ∧ t.get 0x1320 0 3 = s.get 0x1300 slot 4
    ∧ OnlyEv (fun ix k sb => ix = 0x1320 ∧ k = 0 ∧ (sb = 3 ∨ sb = 4) ∨ ix = 0x1320 ∧ k = 0 ∧ sb = 4) (fun _ _ _ => False) s t
    ∧ t = { s with objs := t.objs, regs := t.regs, evQueue := t.evQueue, evPending := t.evPending, answer := t.answer })
  ∧ (∀ (s : State) (tree : Nat) (m : ModuleIn) (took : Nat),
    Up s →
    s.treeUp tree = true →
    s.get 0x5E10 tree 1 = 0 →
    modFault m = false →
    s.get 0x5E10 tree 8 = 0 →
    let std := modStandard m
    let text := fun (sff cmis : Nat) => if std = 1 then numAt m.memory sff 16 else if std = 2 then numAt m.memory cmis 16 else 0
    let other := s.aux .modSer tree ≠ 0 ∧ s.aux .modSer tree ≠ text 68 166 + 1
    Runs (.modulePoll tree (some m) took) s fun t => t.get 0x5E10 tree 1 = 1 ∧ t.get 0x5E10 tree 2 = std ∧ t.get 0x5E10 tree 3 = text 20 129 ∧ t.get 0x5E10 tree 4 = text 40 148 ∧ t.get 0x5E10 tree 5 = text 68 166
    ∧ t.get 0x5E10 tree 7 = (if other then 0 else s.get 0x5E10 tree 7)
    ∧ t.get 0x5E10 tree 6 = (if (std = 2 ∧ m.pam4 = true) ∨ t.get 0x5E10 tree 7 = 1 then 1 else 0)
    ∧ t.get 0x1200 3981 3 = wrapAdd 64 (s.get 0x1200 3981 3) 1
    ∧ OnlyEv (fun ix k sb => ix = 0x5E10 ∧ k = tree ∧ sb ∈ [1, 2, 3, 4, 5, 6, 7, 8]) (fun a p _ => a ∈ [.modMiss, .modSer, .modPam] ∧ p = tree) s t
    ∧ t = { s with objs := t.objs, regs := t.regs, evQueue := t.evQueue, evPending := t.evPending })
  ∧ (∀ (s : State) (tree : Nat) (took : Nat),
    Up s →
    s.treeUp tree = true →
    s.get 0x5E10 tree 1 = 1 →
    s.aux .modMiss tree = 2 →
    Runs (.modulePoll tree none took) s fun t => (∀ sub ∈ List.range 9, sub ≠ 0 → sub ≠ 7 → t.get 0x5E10 tree sub = 0)
    ∧ OnlyEv (fun ix k sb => ix = 0x5E10 ∧ k = tree ∧ sb ∈ [1, 2, 3, 4, 5, 6, 8]) (fun a p _ => a ∈ [.modMiss, .modPam] ∧ p = tree) s t
    ∧ t = { s with objs := t.objs, regs := t.regs, evQueue := t.evQueue, evPending := t.evPending })
  ∧ (∀ (s : State) (acc : Acc),
    Up s →
    mayWrite acc 0x1400 0 2 1 s = true →
    transferOpen s 0x1400 0 1 = false →
    s.aux .calBusy = 0 →
    let cause := calCheck s (s.aux .calStaged)
    Runs (.calibrationCommit acc) s fun t => t.get 0x1400 0 5 = cause ∧ t.answer = ⟨if cause = 0 then 0 else 4, 0⟩ ∧ t.aux .calBusy = (if cause = 0 then 1 else 0)
    ∧ Only (fun ix k sb => ix = 0x1400 ∧ k = 0 ∧ (sb = 2 ∨ sb = 5)) (fun a _ _ => a = .calBusy) s t
    ∧ t = { s with objs := t.objs, regs := t.regs, answer := t.answer })
  ∧ (∀ (s : State),
    Up s →
    s.aux .calBusy ≠ 0 →
    Runs (.calibrationCommitDone ()) s fun t => t.get 0x1400 0 3 = s.aux .calStaged ∧ t.get 0x1400 0 6 = Config.sm3 (calBytes (s.aux .calStaged)) % 2 ^ 256 ∧ t.get 0x1400 0 7 = s.aux .calStaged / 2 ^ (8 * (65536 - 4)) % 256 ∧ t.get 0x1400 0 4 = wrapAdd 32 (s.get 0x1400 0 4) 1 ∧ t.aux .calBusy = 0
    ∧ OnlyEv (fun ix k sb => ix = 0x1400 ∧ k = 0 ∧ (sb = 3 ∨ sb = 4 ∨ sb = 6 ∨ sb = 7)) (fun a _ _ => a = .calBusy) s t
    ∧ t = { s with objs := t.objs, regs := t.regs, evQueue := t.evQueue, evPending := t.evPending })
  ∧ (∀ (s : State) (acc : Acc),
    Up s →
    mayWrite acc 0x1010 0 2 1 s = true →
    Runs (.attestationGenerate acc) s fun t => t.answer = ⟨0, 0⟩ ∧ t.get 0x1010 0 3 = ofBytes (reportBytes s ++ bytesOf 64 (Config.freeValue s.freeCtr))
    ∧ Only (fun ix k sb => ix = 0x1010 ∧ k = 0 ∧ (sb = 2 ∨ sb = 3)) (fun _ _ _ => False) s t
    ∧ t = { s with objs := t.objs, regs := t.regs, freeCtr := t.freeCtr, answer := t.answer })
  ∧ (∀ (s : State) (up : Bool) (lanes generation : Nat),
    Up s →
    (s.get 0x1140 0 2 ≠ (if up then 1 else 0)) →
    Runs (.pcieLinkChanged up lanes generation) s fun t => t.get 0x1140 0 2 = (if up then 1 else 0) ∧ t.get 0x1140 0 3 = (if up then lanes % 16 * 16 + generation % 16 else 0)
    ∧ OnlyEv (fun ix k sb => ix = 0x1140 ∧ k = 0 ∧ (sb = 2 ∨ sb = 3)) (fun _ _ _ => False) s t
    ∧ t = { s with objs := t.objs, regs := t.regs, evQueue := t.evQueue, evPending := t.evPending })

/-- The island commands have their effect (R54, R56, R411, R416, R424): a reset puts an island with memories into state 2 while
they are zeroed and their scrubbers start anew, and brings one without back at once; the last memory's release brings it back; a
stop and a resumption change its state and nothing it holds but a self-test that the stop froze; and each change of a stopped,
resumed or released island is an event. A reset changes only what the island holds and what its loss ends: a cluster its
self-test, cluster 13 the sessions, the pipe the traffic, the MAC table and the key slots, a tree port its lanes, stores and
drains. -/
def Obligations.IslandCommandsComplete : Prop :=
  (∀ (s : State) (island : Nat),
    Up s →
    islandExists s island = true →
    Runs (.islandReset island) s fun t => t.get 0x1051 island 2 = (if islandMemories s island = [] then 0 else 2) ∧ (∀ m ∈ islandMemories s island, t.aux .zeroing m = 1 ∧ t.get 0x5820 m 3 = 0)
    ∧ OnlyEv (fun ix k sb => ix = 0x1051 ∧ k = island ∧ sb = 2 ∨ ix = 0x5820 ∧ memIsland k = island ∧ sb = 3 ∨ island < 14 ∧ (ix = 0x5900 ∧ k = island ∨ ix = 0x5940 ∧ k / 16 = island) ∨ island = 13 ∧ ix = 0x1120 ∨ island = 14 ∧ (ix = 0x1150 ∧ sb = 2 ∨ ix ∈ [0x4C10, 0x4B10] ∨ ix = 0x4800 ∧ sb = 9 ∨ ix ∈ [0x4880, 0x4890] ∧ sb = 3 ∨ ix = 0x4900 ∧ sb = 12 ∨ ix = 0x4C00 ∧ sb = 2 ∨ ix ∈ [0x4C40, 0x4C80] ∧ sb ∈ [17, 23, 24, 30]) ∨ 16 ≤ island ∧ island < 64 ∧ (ix ∈ [0x2000, 0x2002] ∧ k = island - 16 ∧ sb = 1 ∨ ix ∈ [0x2004, 0x2007, 0x2008] ∧ k = island - 16 ∧ sb ∈ [1, 2, 3, 14] ∨ ix = 0x3000 ∨ ix = 0x3102 ∧ sb = 1 ∨ ix = 0x3400 ∧ sb = 16 ∨ ix = 0x3600 ∧ sb ∈ [20, 21] ∨ ix = 0x3900 ∧ sb ∈ [1, 6, 7] ∨ ix = 0x5C00 ∧ sb ∈ [1, 3, 7, 15]) ∨ 14 ≤ island ∧ island < 64 ∧ (ix = 0x4000 ∧ sb ∈ [4, 5, 6, 7, 10, 12, 14, 15] ∨ ix = 0x4200 ∧ sb ∈ [4, 5] ∨ ix = 0x5140 ∧ sb = 6 ∨ ix = 0x5800 ∧ sb ∈ [2, 3, 4, 5, 6, 7, 8, 9] ∨ ix = 0x5840 ∧ sb ∈ [4, 5])) (fun a p _ => a ∈ [.scrubAllow, .scrubAt, .scrubT0, .zeroing, .lastCorr, .badWord] ∧ memIsland p = island ∨ island < 14 ∧ (a ∈ [.stFail, .stRows, .stRetire, .stAban, .stStart] ∧ p = island ∨ a ∈ [.bankCorr, .bankReq] ∧ p / 16 = island) ∨ island = 13 ∧ a ∈ [.sesAlive, .sesDrop, .sesFail0, .sesFails, .sesHigh, .sesKeys, .sesNonce, .sesPort, .sesSeen, .sesSeq, .sesVia] ∨ island = 14 ∧ (a ∈ trafficRegs ∨ a ∈ [.dmaBusy, .macEntry, .mbox]) ∨ 16 ≤ island ∧ island < 64 ∧ a ∈ [.allocSeq, .beatOut, .capTries, .changeDrain, .drainOver, .driftHold, .driftLen, .driftSum, .fifoDrop, .fifoDropB, .fifoFirst, .fifoLast, .fifoNext, .holdAt, .holdLost, .holdRun, .keepAlive, .lastLock, .lossAt, .lossRun, .pend3841, .regTries, .slewAt, .slewLeft, .slewing, .upClosed, .upLane] ∨ 14 ≤ island ∧ island < 64 ∧ a ∈ [.keyAt, .keyMat, .keyNextIdx, .keyPoison, .keySoft, .keyUnacked, .kxFrag, .kxGen, .kxIndex, .kxKey, .kxKind, .kxNext, .kxSeq, .kxTries, .mirSeq, .missMask, .sesDerived]) s t
    ∧ OnlyWords (fun m _ => m = 66 ∨ memIsland m = island) s t
    ∧ t = { s with objs := t.objs, regs := t.regs, evQueue := t.evQueue, evPending := t.evPending, backlog := t.backlog, beats := t.beats, bulletins := t.bulletins, coexStage := t.coexStage, downWait := t.downWait, dues := t.dues, fifo := t.fifo, frags := t.frags, fsFrames := t.fsFrames, held := t.held, hostWaits := t.hostWaits, jobs := t.jobs, keyWaits := t.keyWaits, learns := t.learns, mem := t.mem, muted := t.muted, notifies := t.notifies, now := t.now, offsets := t.offsets, out := t.out, pipeIn := t.pipeIn, pkts := t.pkts, plan := t.plan, ploams := t.ploams, recent := t.recent, recirc := t.recirc, relays := t.relays, replies := t.replies, rounds := t.rounds, sdus := t.sdus, sealedMaps := t.sealedMaps, staged := t.staged, subs := t.subs, transfers := t.transfers, vframes := t.vframes, words := t.words }
    ∧ ∀ m ∈ islandMemories s island, ∀ w, t.word m w = 0
    ∧ (island < 14 ∨ 64 ≤ island → ∀ m, memIsland m ≠ island → ∀ w, t.word m w = s.word m w))
  ∧ (∀ (s : State) (memory : Nat),
    Up s →
    s.aux .zeroing memory ≠ 0 →
    s.get 0x1051 (memIsland memory) 2 = 2 →
    (islandMemories s (memIsland memory)).all (fun m => m == memory || s.aux .zeroing m == 0) = true →
    Runs (.memoryZeroingDone memory) s fun t => t.aux .zeroing memory = 0 ∧ t.get 0x1051 (memIsland memory) 2 = 0
    ∧ OnlyEv (fun ix k sb => ix = 0x1051 ∧ k = memIsland memory ∧ sb = 2) (fun a p _ => a = .zeroing ∧ p = memory) s t
    ∧ t = { s with objs := t.objs, regs := t.regs, evQueue := t.evQueue, evPending := t.evPending })
  ∧ (∀ (s : State) (island : Nat),
    Up s →
    islandExists s island = true →
    s.get 0x1051 island 2 = 0 →
    Runs (.islandStop island) s fun t => t.get 0x1051 island 2 = 1 ∧ t.get 0x1200 3975 3 = wrapAdd 64 (s.get 0x1200 3975 3) 1
    ∧ OnlyEv (fun ix k sb => ix = 0x1051 ∧ k = island ∧ sb = 2) (fun _ _ _ => False) s t
    ∧ t = { s with objs := t.objs, regs := t.regs, evQueue := t.evQueue, evPending := t.evPending })
  ∧ (∀ (s : State) (island : Nat),
    Up s →
    islandExists s island = true →
    s.get 0x1051 island 2 = 1 →
    Runs (.islandResume island) s fun t => t.get 0x1051 island 2 = 0 ∧ t.get 0x1200 3975 3 = wrapAdd 64 (s.get 0x1200 3975 3) 1
    ∧ OnlyEv (fun ix k sb => ix = 0x1051 ∧ k = island ∧ sb = 2 ∨ island < 14 ∧ (ix = 0x5900 ∧ k = island ∧ sb ∈ [2, 5, 6, 8, 9] ∨ ix = 0x5940 ∧ k / 16 = island ∧ sb = 5)) (fun a p _ => a = .stAban ∧ p = island) s t
    ∧ t = { s with objs := t.objs, regs := t.regs, evQueue := t.evQueue, evPending := t.evPending })

/-- The lane commands have their effect (R337 to R339, R342): a wanted lane that is off starts with the values of its
equalisation that it applies (a forerunner lane ignores the precoding flags, CTLE, VGA and DFE, any other the peaking filter)
and its precoders anew, a PLL's lock leads to the search and its third failure is event 2816, a lock leads to LOCKED or SPARED,
a search too long is event 2817 once, a spared lane restarts on command, equalisation is written while a lane is off, and a quad
mode creates its ports. -/
def Obligations.LaneCommandsComplete : Prop :=
  (∀ (s : State) (lane : Nat),
    Up s →
    laneWanted s lane = true →
    s.get 0x5000 lane 1 = 0 →
    s.aux .laneByRef lane = 0 →
    Runs (.laneStart lane) s fun t => t.get 0x5000 lane 1 = 1 ∧ t.aux .txLevel lane = 0 ∧ t.aux .rxLevel lane = 0 ∧ (∀ sub ∈ List.range 10, 2 ≤ sub → t.aux .eqIn lane sub = appliedValue s lane sub)
    ∧ Only (fun ix k sb => ix = 0x5000 ∧ k = lane ∧ sb = 1) (fun a p _ => (a ∈ [.eqIn, .txLevel, .rxLevel, .laneTries, .laneSince, .laneByRef]) ∧ p = lane) s t
    ∧ t = { s with objs := t.objs, regs := t.regs })
  ∧ (∀ (s : State) (lane : Nat),
    Up s →
    lane < 70 →
    s.get 0x5000 lane 1 = 1 →
    Runs (.lanePllLock lane) s fun t => t.get 0x5000 lane 1 = 2 ∧ isPending t 2816 lane = false
    ∧ OnlyEv (fun ix k sb => ix = 0x5000 ∧ k = lane ∧ sb = 1) (fun a p _ => a = .lane2817 ∧ p = lane) s t
    ∧ t = { s with objs := t.objs, regs := t.regs, evQueue := t.evQueue, evPending := t.evPending })
  ∧ (∀ (s : State) (lane : Nat),
    Up s →
    lane < 70 →
    s.get 0x5000 lane 1 = 1 →
    Runs (.lanePllTimeout lane) s fun t => t.aux .laneTries lane = s.aux .laneTries lane + 1 ∧ (s.aux .laneTries lane = 2 → isPending t 2816 lane = true)
    ∧ OnlyEv (fun _ _ _ => False) (fun a p _ => a = .laneTries ∧ p = lane) s t
    ∧ t = { s with objs := t.objs, regs := t.regs, evQueue := t.evQueue, evPending := t.evPending })
  ∧ (∀ (s : State) (lane : Nat),
    Up s →
    lane < 70 →
    s.get 0x5000 lane 1 = 2 →
    Runs (.laneLock lane) s fun t => t.get 0x5000 lane 1 = (if s.aux .laneSpare lane = 1 then 4 else 3) ∧ isPending t 2817 lane = false ∧ (68 ≤ lane → s.get 0x50C0 (lane - 68) 3 = 2 → t.get 0x50C0 (lane - 68) 3 = 4)
    ∧ OnlyEv (fun ix k sb => (ix = 0x5000 ∧ k = lane ∧ (sb = 1 ∨ sb = 0x0D)) ∨ (ix = 0x50C0 ∧ 68 ≤ lane ∧ k = lane - 68 ∧ sb = 3)) (fun a p _ => a = .laneSince ∧ p = lane) s t
    ∧ t = { s with objs := t.objs, regs := t.regs, evQueue := t.evQueue, evPending := t.evPending })
  ∧ (∀ (s : State) (lane : Nat),
    Up s →
    lane < 70 →
    s.get 0x5000 lane 1 = 2 →
    s.aux .lane2817 lane = 0 →
    Runs (.laneSearchTimeout lane) s fun t => isPending t 2817 lane = true ∧ t.aux .lane2817 lane = 1
    ∧ OnlyEv (fun _ _ _ => False) (fun a p _ => a = .lane2817 ∧ p = lane) s t
    ∧ t = { s with objs := t.objs, regs := t.regs, evQueue := t.evQueue, evPending := t.evPending })
  ∧ (∀ (s : State) (acc : Acc) (lane : Nat),
    Up s →
    mayWrite acc 0x5000 lane 0x0F 1 s = true →
    s.get 0x5000 lane 1 = 4 →
    Runs (.laneRestart acc lane) s fun t => t.answer = ⟨0, 0⟩ ∧ t.get 0x5000 lane 1 = 1 ∧ (∀ sub ∈ List.range 10, 2 ≤ sub → t.aux .eqIn lane sub = appliedValue s lane sub)
    ∧ Only (fun ix k sb => ix = 0x5000 ∧ k = lane ∧ (sb = 1 ∨ sb = 0x0F) ∨ ix = 0x5000 ∧ k = lane ∧ sb = 15) (fun a p _ => (a ∈ [.eqIn, .txLevel, .rxLevel, .laneTries, .laneSince, .laneByRef]) ∧ p = lane) s t
    ∧ t = { s with objs := t.objs, regs := t.regs, answer := t.answer })
  ∧ (∀ (s : State) (acc : Acc) (lane sub value : Nat),
    Up s →
    2 ≤ sub →
    sub ≤ 9 →
    mayWrite acc 0x5000 lane sub value s = true →
    (s.get 0x5000 lane 1 = 0 ∨ (s.get 0x5000 lane 1 = 4 ∧ 32 ≤ lane)) →
    Runs (.equalisationWrite acc lane sub value) s fun t => t.answer = ⟨0, 0⟩ ∧ t.get 0x5000 lane sub = value ∧ t.get 0x5000 lane 0x0A = 3
    ∧ Only (fun ix k sb => ix = 0x5000 ∧ k = lane ∧ (sb = sub ∨ sb = 0x0A)) (fun _ _ _ => False) s t
    ∧ t = { s with objs := t.objs, regs := t.regs, answer := t.answer })
  ∧ (∀ (s : State) (acc : Acc) (quad value : Nat),
    Up s →
    mayWrite acc 0x5080 quad 1 value s = true →
    value < 4 →
    let pair := quad / 2 * 2 + (1 - quad % 2)
    quadBusy s quad = false →
    quadBusy s pair = false →
    (¬(quad % 2 = 1 ∧ s.get 0x5080 pair 1 = 4)) →
    Runs (.quadModeWrite acc quad value) s fun t => t.answer = ⟨0, 0⟩ ∧ t.get 0x5080 quad 1 = value ∧ (∀ i ∈ List.range 4, t.aux .upQuad (4 * quad + i) = ((quadPorts value).lookup i).getD 0)
    ∧ Only (fun ix k sb => ix = 0x5080 ∧ (k = quad ∨ k = pair) ∧ sb = 1) (fun a _ q => a = .upQuad ∧ q = 0) s t
    ∧ t = { s with objs := t.objs, regs := t.regs, answer := t.answer })

/-- The port commands have their effect (R342 to R347, R453): enabling starts a port's lanes, alignment starts its hold and the
hold's end its service, a loss takes it out, a drain ends when nothing waits or at its expiry with what is left counted, a
received frame is counted where its check puts it, and a management port is enabled, drained and answers for its own address. -/
def Obligations.UplinkCommandsComplete : Prop :=
  (∀ (s : State) (acc : Acc) (port : Nat),
    Up s →
    mayWrite acc 0x5090 port 1 1 s = true →
    s.get 0x5090 port 2 = 0 →
    Runs (.uplinkPortEnable acc port) s fun t => t.answer = ⟨0, 0⟩ ∧ t.get 0x5090 port 2 = 2 ∧ (∀ lane ∈ uplinkLanes s port, t.get 0x5000 lane 1 = 1 ∧ ∀ sub ∈ List.range 10, 2 ≤ sub → t.aux .eqIn lane sub = appliedValue s lane sub)
    ∧ Only (fun ix k sb => (ix = 0x5090 ∧ k = port ∧ sb = 2) ∨ (ix = 0x5000 ∧ k ∈ uplinkLanes s port ∧ sb = 1) ∨ ix = 0x5090 ∧ k = port ∧ sb = 1) (fun a p _ => (a ∈ [.eqIn, .txLevel, .rxLevel, .laneTries, .laneSince, .laneByRef]) ∧ p ∈ uplinkLanes s port) s t
    ∧ t = { s with objs := t.objs, regs := t.regs, answer := t.answer })
  ∧ (∀ (s : State) (acc : Acc) (port : Nat),
    Up s →
    mayWrite acc 0x5090 port 1 0 s = true →
    2 ≤ s.get 0x5090 port 2 →
    Runs (.uplinkPortDrain acc port) s fun t => t.answer = ⟨0, 0⟩ ∧ t.get 0x5090 port 2 = (if uplinkQueued s port = [] then 0 else 1)
    ∧ OnlyEv (fun ix k sb => ix = 0x5000 ∧ k ∈ uplinkLanes s port ∧ sb = 1 ∨ ix = 0x5090 ∧ k = port ∧ sb = 2 ∨ ix = 0x5C40 ∧ k = port ∧ sb = 2 ∨ ix = 0x5D40 ∧ k = port ∧ sb ∈ [2, 3] ∨ ix = 0x44A0 ∧ k ∈ lagsOf s port ∧ sb ∈ [2, 3, 4] ∨ ix = 0x5C00 ∧ sb ∈ [1, 3, 4, 5, 7, 15] ∨ ix = 0x5C10 ∧ sb = 4 ∨ ix = 0x5090 ∧ k = port ∧ sb = 1) (fun a p _ => a ∈ [.announceIn, .upAlign] ∧ p = port ∨ a ∈ [.blockLock, .laneSpare, .syncRun] ∧ p ∈ uplinkLanes s port ∨ a ∈ [.holdAt, .lastLock, .pend3841, .readings, .slewLeft, .slewing]) s t
    ∧ t = { s with objs := t.objs, regs := t.regs, evQueue := t.evQueue, evPending := t.evPending, offsets := t.offsets, words := t.words, answer := t.answer, stamps := t.stamps })
  ∧ (∀ (s : State) (port : Nat),
    Up s →
    port < 32 →
    s.get 0x5090 port 2 = 1 →
    Runs (.uplinkDrainExpiry port) s fun t => t.get 0x5090 port 2 = 0 ∧ uplinkQueued t port = [] ∧ t.get 0x5090 port 0x11 = (if uplinkQueued s port = [] then s.get 0x5090 port 0x11 else wrapAdd 64 (s.get 0x5090 port 0x11) (uplinkQueued s port).length)
    ∧ OnlyEv (fun ix k sb => ix = 0x5000 ∧ k ∈ uplinkLanes s port ∧ sb = 1 ∨ ix = 0x5090 ∧ k = port ∧ sb = 2 ∨ ix = 0x5C40 ∧ k = port ∧ sb = 2 ∨ ix = 0x5D40 ∧ k = port ∧ sb ∈ [2, 3] ∨ ix = 0x5090 ∧ k = port ∧ sb = 0x11 ∨ ix = 0x4C00 ∧ sb = 2 ∨ ix = 0x4C10 ∨ ix ∈ [0x4C40, 0x4C80] ∧ sb ∈ [23, 24]) (fun a p _ => a ∈ [.announceIn, .upAlign] ∧ p = port ∨ a ∈ [.blockLock, .laneSpare, .syncRun] ∧ p ∈ uplinkLanes s port ∨ a = .bufWord) s t
    ∧ t = { s with objs := t.objs, regs := t.regs, evQueue := t.evQueue, evPending := t.evPending, pkts := t.pkts, stamps := t.stamps })
  ∧ (∀ (s : State) (port corrected : Nat),
    Up s →
    port < 32 →
    s.get 0x5090 port 2 = 2 →
    (uplinkLanes s port).all (fun x => laneSt s x == 3) = true →
    (s.get 0x5090 port 5 = 0 ∨ corrected ≤ s.get 0x5090 port 5) →
    Runs (.uplinkPcsAligned (port, corrected)) s fun t => t.get 0x5090 port 2 = (if s.get 0x5090 port 4 = 0 then 4 else 3) ∧ t.aux .upAlign port = 1
    ∧ OnlyEv (fun ix k sb => ix = 0x44A0 ∧ k ∈ lagsOf s port ∧ sb ∈ [2, 3, 4] ∨ ix = 0x5C00 ∧ sb ∈ [1, 3, 4, 5, 7, 15] ∨ ix = 0x5C10 ∧ sb = 4 ∨ ix = 0x5090 ∧ k = port ∧ sb = 2 ∨ ix = 0x5C40 ∧ k = port ∧ sb = 2) (fun a p _ => a = .upAlign ∧ p = port ∨ a ∈ [.holdAt, .lastLock, .pend3841, .readings, .slewLeft, .slewing]) s t
    ∧ t = { s with objs := t.objs, regs := t.regs, evQueue := t.evQueue, evPending := t.evPending, offsets := t.offsets, words := t.words })
  ∧ (∀ (s : State) (port : Nat),
    Up s →
    port < 32 →
    s.get 0x5090 port 2 = 3 →
    Runs (.uplinkServiceHoldEnd port) s fun t => t.get 0x5090 port 2 = 4 ∧ t.get 0x1200 2819 3 = wrapAdd 64 (s.get 0x1200 2819 3) 1 ∧ (s.get 0x5C40 port 1 = 1 → t.get 0x5C40 port 2 = 4)
    ∧ OnlyEv (fun ix k sb => ix = 0x44A0 ∧ k ∈ lagsOf s port ∧ sb ∈ [2, 3, 4] ∨ ix = 0x5C00 ∧ sb ∈ [1, 3, 4, 5, 7, 15] ∨ ix = 0x5C10 ∧ sb = 4 ∨ ix = 0x5090 ∧ k = port ∧ sb = 2 ∨ ix = 0x5C40 ∧ k = port ∧ sb = 2) (fun a _ _ => a ∈ [.holdAt, .lastLock, .pend3841, .readings, .slewLeft, .slewing]) s t
    ∧ t = { s with objs := t.objs, regs := t.regs, evQueue := t.evQueue, evPending := t.evPending, offsets := t.offsets, words := t.words })
  ∧ (∀ (s : State) (port cause corrected : Nat),
    Up s →
    port < 32 →
    cause ≤ 3 →
    (s.get 0x5090 port 2 = 3 ∨ s.get 0x5090 port 2 = 4) →
    (cause = 3 → s.get 0x5090 port 5 ≠ 0 ∧ s.get 0x5090 port 5 < corrected) →
    Runs (.uplinkServiceLoss port (cause, corrected)) s fun t => t.get 0x5090 port 2 = 2 ∧ t.get 0x5090 port 0x0D = (if cause = 2 then wrapAdd 32 (s.get 0x5090 port 0x0D) 1 else s.get 0x5090 port 0x0D)
    ∧ t.aux .upAlign port = (if cause = 3 then s.aux .upAlign port else 0)
    ∧ t.out = (if cause = 1 ∨ cause = 2 then (s.send .faultSignal [port, cause]).out else s.out)
    ∧ OnlyEv (fun ix k sb => ix = 0x44A0 ∧ k ∈ lagsOf s port ∧ sb ∈ [2, 3, 4] ∨ ix = 0x5C00 ∧ sb ∈ [1, 3, 4, 5, 7, 15] ∨ ix = 0x5C10 ∧ sb = 4 ∨ ix = 0x5090 ∧ k = port ∧ sb ∈ [2, 0x0D]) (fun a p _ => a = .upAlign ∧ p = port ∨ a ∈ [.holdAt, .lastLock, .pend3841, .readings, .slewLeft, .slewing]) s t
    ∧ t = { s with objs := t.objs, regs := t.regs, evQueue := t.evQueue, evPending := t.evPending, offsets := t.offsets, words := t.words, out := t.out })
  ∧ (∀ (s : State) (port : Nat) (addresses payload fcs corrected : List Nat) (uncorrectable : Nat),
    Up s →
    port < 32 →
    s.aux .upQuad port ≠ 0 →
    (s.get 0x5090 port 2 = 1 ∨ s.get 0x5090 port 2 = 3 ∨ s.get 0x5090 port 2 = 4) →
    let bytes := addresses ++ payload ++ fcs
    let sub := if s.get 0x5090 port 2 = 1 then 0x10 else if fcsOk bytes = false then 9 else if bytes.length < 64 ∨ s.get 0x5090 port 3 < bytes.length then 0x0A else if etherType bytes = 0x8808 then 0x0C else 7
    Runs (.ethernetFrameReceive port addresses payload fcs corrected uncorrectable) s fun t => t.get 0x5090 port sub = wrapAdd 64 (s.get 0x5090 port sub) 1
    ∧ t.get 0x5090 port 0x0B = (if uncorrectable = 0 then s.get 0x5090 port 0x0B else wrapAdd 64 (s.get 0x5090 port 0x0B) uncorrectable)
    ∧ (∀ i ∈ List.range (min (s.aux .upQuad port) corrected.length), t.get 0x5000 (port + i) 0x0C = wrapAdd 64 (s.get 0x5000 (port + i) 0x0C) (corrected.getD i 0))
    ∧ Only (fun ix k sb => (ix = 0x5090 ∧ k = port ∧ (sb = sub ∨ sb = 0x0B)) ∨ (ix = 0x5000 ∧ k ∈ uplinkLanes s port ∧ sb = 0x0C)) (fun _ _ _ => False) s t
    ∧ t = { s with objs := t.objs, regs := t.regs })
  ∧ (∀ (s : State) (acc : Acc) (port : Nat),
    Up s →
    mayWrite acc 0x50C0 port 1 1 s = true →
    s.get 0x50C0 port 3 = 0 →
    Runs (.mgmtPortEnable acc port) s fun t => t.answer = ⟨0, 0⟩ ∧ t.get 0x50C0 port 3 = 2 ∧ t.get 0x5000 (68 + port) 1 = 1 ∧ (∀ sub ∈ List.range 10, 2 ≤ sub → t.aux .eqIn (68 + port) sub = appliedValue s (68 + port) sub)
    ∧ OnlyEv (fun ix k sb => (ix = 0x50C0 ∧ k = port ∧ sb = 3) ∨ (ix = 0x5000 ∧ k = 68 + port ∧ sb = 1) ∨ ix = 0x50C0 ∧ k = port ∧ sb = 1) (fun a p _ => (a ∈ [.eqIn, .txLevel, .rxLevel, .laneTries, .laneSince, .laneByRef]) ∧ p = 68 + port) s t
    ∧ t = { s with objs := t.objs, regs := t.regs, evQueue := t.evQueue, evPending := t.evPending, answer := t.answer })
  ∧ (∀ (s : State) (acc : Acc) (port : Nat),
    Up s →
    mayWrite acc 0x50C0 port 1 0 s = true →
    s.get 0x50C0 port 3 ≠ 0 →
    Runs (.mgmtPortDrain acc port) s fun t => t.answer = ⟨0, 0⟩ ∧ t.get 0x50C0 port 3 = 0 ∧ t.get 0x5000 (68 + port) 1 = 0
    ∧ OnlyEv (fun ix k sb => (ix = 0x50C0 ∧ k = port ∧ sb = 3) ∨ (ix = 0x5000 ∧ k = 68 + port ∧ sb = 1) ∨ ix = 0x50C0 ∧ k = port ∧ sb = 1) (fun a p _ => (a = .laneSpare ∨ a = .blockLock ∨ a = .syncRun) ∧ p = 68 + port) s t
    ∧ t = { s with objs := t.objs, regs := t.regs, evQueue := t.evQueue, evPending := t.evPending, answer := t.answer })
  ∧ (∀ (s : State) (port : Nat) (v6 : Bool) (address : Nat),
    Up s →
    port < 2 →
    s.get 0x50C0 port 3 = 4 →
    address ≠ 0 →
    (address = s.get 0x1101 port (if v6 then 1 else 3)) →
    Runs (.mgmtFrameReceive port (.echo v6 address)) s fun t => t = s.send .mgmtReply [port, address])
  ∧ (∀ (s : State) (port : Nat),
    Up s →
    port < 2 →
    s.get 0x50C0 port 3 = 4 →
    Runs (.mgmtFrameReceive port .other) s fun t => t = (if s.get 0x1140 0 4 = 0xFF then s.bump 0x1140 0 5 else s.send .hostFrame [1, port, s.now * 1000]))

/-- The buffer, queue and meter commands have their effect (R307, R308, R313, R323, R325, R327, R328): a request takes a free
buffer for its requester, the low alarm clears, an enabled queue starts empty, a drain ends at once when nothing waits and at
its expiry with what is left discarded and counted, a flow map that meets R313 is stored and one that does not is refused, a
meter's fields fill its buckets and its counters clear. -/
def Obligations.BufferAndQueueCommandsComplete : Prop :=
  (∀ (s : State) (requester pool pick : Nat),
    Up s →
    Objects.requesterOk s.trees requester = true →
    256 ≤ requester →
    pool < 4 →
    mayTake s requester pool = true →
    let b := pickFree s pool (s.regs.length + 1) (pick % Objects.poolSize pool)
    Runs (.bufferRequest requester pool pick) s fun t => t.answer = ⟨0, pointerOf pool b⟩ ∧ t.aux .bufWord pool b = mkOwn requester 1 0 ∧ t.get 0x4C10 requester (5 + pool) = s.get 0x4C10 requester (5 + pool) + 1 ∧ t.get 0x4C00 pool 2 = s.get 0x4C00 pool 2 - 1
    ∧ t.get 0x4C00 pool 5 = min (s.get 0x4C00 pool 5) (s.get 0x4C00 pool 2 - 1)
    ∧ t.aux .poolLow pool = (if s.get 0x4C00 pool 2 - 1 ≤ s.get 0x4C00 pool 3 ∧ s.aux .poolLow pool = 0 then 1 else s.aux .poolLow pool)
    ∧ OnlyEv (fun ix k sb => (ix = 0x4C10 ∧ k = requester ∧ sb = 5 + pool) ∨ (ix = 0x4C00 ∧ k = pool ∧ (sb = 2 ∨ sb = 5))) (fun a p q => (a = .bufWord ∧ p = pool ∧ q = b) ∨ (a = .poolLow ∧ p = pool)) s t
    ∧ t = { s with objs := t.objs, regs := t.regs, evQueue := t.evQueue, evPending := t.evPending, answer := t.answer })
  ∧ (∀ (s : State) (requester pool pick : Nat),
    Up s →
    Objects.requesterOk s.trees requester = true →
    256 ≤ requester →
    pool < 4 →
    mayTake s requester pool = false →
    Runs (.bufferRequest requester pool pick) s fun t => t.answer = ⟨12, 0⟩ ∧ t.get 0x4C10 requester 0x0E = wrapAdd 64 (s.get 0x4C10 requester 0x0E) 1 ∧ t.get 0x4C00 pool 4 = wrapAdd 64 (s.get 0x4C00 pool 4) 1
    ∧ OnlyEv (fun ix k sb => (ix = 0x4C10 ∧ k = requester ∧ sb = 0x0E) ∨ (ix = 0x4C00 ∧ k = pool ∧ sb = 4)) (fun _ _ _ => False) s t
    ∧ t = { s with objs := t.objs, regs := t.regs, evQueue := t.evQueue, evPending := t.evPending, answer := t.answer, recent := t.recent })
  ∧ (∀ (s : State) (pool : Nat),
    Up s →
    s.aux .poolLow pool = 1 →
    s.get 0x4C00 pool 3 < s.get 0x4C00 pool 2 →
    Runs (.poolLowClear pool) s fun t => t.aux .poolLow pool = 0 ∧ isPending t 2562 pool = false
    ∧ OnlyEv (fun _ _ _ => False) (fun a p _ => a = .poolLow ∧ p = pool) s t
    ∧ t = { s with objs := t.objs, regs := t.regs, evQueue := t.evQueue, evPending := t.evPending })
  ∧ (∀ (s : State) (acc : Acc) (up : Bool) (queue : Nat),
    Up s →
    mayWrite acc (qIndex up) queue 0x10 1 s = true →
    s.get (qIndex up) queue 0x11 = 0 →
    Runs (.queueEnable acc up queue) s fun t => t.answer = ⟨0, 0⟩ ∧ t.get (qIndex up) queue 0x11 = 2 ∧ t.get (qIndex up) queue 0x17 = 0 ∧ t.get (qIndex up) queue 0x18 = 0 ∧ t.get (qIndex up) queue 8 = 0 ∧ t.get (qIndex up) queue 9 = 0 ∧ t.aux .deficit 4 queue = 0
    ∧ Only (fun ix k sb => ix = qIndex up ∧ k = queue ∧ sb ∈ [8, 9, 0x11, 0x17, 0x18]) (fun a p q => a = .deficit ∧ p = 4 ∧ q = queue ∨ a = .tokFrac ∧ p = qIndex up * 2 ^ 20 + queue) s t
    ∧ t = { s with objs := t.objs, regs := t.regs, answer := t.answer })
  ∧ (∀ (s : State) (acc : Acc) (up : Bool) (queue : Nat),
    Up s →
    mayWrite acc (qIndex up) queue 0x10 0 s = true →
    s.get (qIndex up) queue 0x11 = 2 →
    Runs (.queueDrain acc up queue) s fun t => t.answer = ⟨0, 0⟩ ∧ t.get (qIndex up) queue 0x11 = (if queued s up queue = [] then 0 else 1) ∧ t.pkts = s.pkts
    ∧ OnlyEv (fun ix k sb => ix = qIndex up ∧ k = queue ∧ sb ∈ [0x11, 0x1E] ∨ ix = 0x4C00 ∧ k = 3 ∧ sb = 2 ∨ ix = 0x4C10 ∧ sb = 8) (fun a p q => a = .bufWord ∧ p = 3 ∨ a ∈ [.queueOff, .queueOpen] ∧ p = (if up then 1 else 0) ∧ q = queue) s t
    ∧ t = { s with objs := t.objs, regs := t.regs, evQueue := t.evQueue, evPending := t.evPending, answer := t.answer })
  ∧ (∀ (s : State) (up : Bool) (queue : Nat),
    Up s →
    s.get (qIndex up) queue 0x11 = 1 →
    Runs (.queueDrainExpiry up queue) s fun t => t.get (qIndex up) queue 0x11 = 0 ∧ t.pkts = s.pkts.filter (fun x => !(x.up == up && x.queue == queue)) ∧ t.get (qIndex up) queue 0x1E = wrapAdd 64 (s.get (qIndex up) queue 0x1E) (queued s up queue).length
    ∧ OnlyEv (fun ix k sb => ix = qIndex up ∧ k = queue ∧ sb ∈ [0x11, 0x17, 0x18, 0x1E] ∨ ix = 0x4C00 ∧ sb = 2 ∨ ix = 0x4C10 ∧ 5 ≤ sb ∧ sb ≤ 8) (fun a p q => a = .bufWord ∨ a ∈ [.queueOff, .queueOpen] ∧ p = (if up then 1 else 0) ∧ q = queue) s t
    ∧ t = { s with objs := t.objs, regs := t.regs, evQueue := t.evQueue, evPending := t.evPending, pkts := t.pkts })
  ∧ (∀ (s : State) (acc : Acc) (flow sub value : Nat),
    Up s →
    mayWrite acc 0x4D00 flow sub value s = true →
    flowMapFault (s.put 0x4D00 flow sub value) flow = 0 →
    Runs (.flowMapWrite acc flow sub value) s fun t => t.answer = ⟨0, 0⟩ ∧ t.get 0x4D00 flow sub = value
    ∧ Only (fun ix k sb => ix = 0x4D00 ∧ k = flow ∧ sb = sub) (fun _ _ _ => False) s t
    ∧ t = { s with objs := t.objs, regs := t.regs, answer := t.answer })
  ∧ (∀ (s : State) (acc : Acc) (flow sub value : Nat),
    Up s →
    mayWrite acc 0x4D00 flow sub value s = true →
    flowMapFault (s.put 0x4D00 flow sub value) flow = 1 →
    Runs (.flowMapWrite acc flow sub value) s fun t => t = { s with answer := ⟨4, 0⟩ })
  ∧ (∀ (s : State) (acc : Acc) (meter sub value : Nat),
    Up s →
    sub ≤ 5 →
    mayWrite acc 0x4F00 meter sub value s = true →
    let s1 := s.put 0x4F00 meter sub value
    s1.get 0x4F00 meter 2 ≤ s1.get 0x4F00 meter 4 →
    (s1.get 0x4F00 meter 1 = 0 ∨ (s1.get 0x4F00 meter 3 ≠ 0 ∧ s1.get 0x4F00 meter 5 ≠ 0)) →
    Runs (.meterWrite acc meter sub value) s fun t => t.answer = ⟨0, 0⟩ ∧ t.get 0x4F00 meter sub = value ∧ t.aux .mtrC meter = 8000000 * s1.get 0x4F00 meter 3 ∧ t.aux .mtrP meter = 8000000 * s1.get 0x4F00 meter 5 ∧ t.aux .mtrAt meter = s.now
    ∧ Only (fun ix k sb => ix = 0x4F00 ∧ k = meter ∧ sb = sub) (fun a p _ => (a = .mtrC ∨ a = .mtrP ∨ a = .mtrAt) ∧ p = meter) s t
    ∧ t = { s with objs := t.objs, regs := t.regs, answer := t.answer })
  ∧ (∀ (s : State) (acc : Acc) (meter value : Nat),
    Up s →
    mayWrite acc 0x4F00 meter 0x0E value s = true →
    Runs (.meterClear acc meter value) s fun t => t.answer = ⟨0, 0⟩ ∧ (∀ sub ∈ List.range 14, 10 ≤ sub → t.get 0x4F00 meter sub = 0)
    ∧ Only (fun ix k sb => ix = 0x4F00 ∧ k = meter ∧ 10 ≤ sb ∧ sb ≤ 14) (fun _ _ _ => False) s t
    ∧ t = { s with objs := t.objs, regs := t.regs, answer := t.answer })

/-- The scheduler and ring commands have their effect (R252 to R257, R316, R317, R319, R320): an open port sends the packet its
tree chooses and takes it off its queue (an uplink its frame, a lane its SDU to its framer; a packet with a poisoned word is
discarded, counted and raised as event 2566; a closed port, or one with nothing eligible, nothing), a rate-mode bucket gains its
rate up to its burst, a shaper's write empties its buckets and an attachment's its deficit; a ring is enabled, drained, told of
descriptors, starts its next job when its turn comes, refuses a descriptor that its checks do not pass with a completion,
completes a job with its output, counts and record, and ends the jobs left at its expiry. -/
def Obligations.SchedulerAndBulkCommandsComplete : Prop :=
  (∀ (s s' : State) (port : Nat) (x : Pkt) (path : List Nat),
    Up s →
    96 ≤ port →
    portOpen s port = true →
    nextPacket port s = some (x, s') →
    x.up = true →
    queuePath s' true x.queue = some path →
    let b := if x.dei then withDei (s'.get 0x4490 0 2) x.bytes else x.bytes
    Runs (.packetSelect port [] false) s fun t => t.pkts = s'.pkts.erase x ∧ t.out = s'.out ++ [⟨.uplinkFrame, [port - 96, x.flow, b.length] ++ b⟩] ∧ t.get 0x5090 (port - 96) 8 = wrapAdd 64 (s.get 0x5090 (port - 96) 8) 1
    ∧ OnlyEv (fun ix k sb => ix = 0x4C00 ∧ sb = 2 ∨ ix = 0x4C10 ∧ 5 ≤ sb ∧ sb ≤ 8 ∨ ix = 0x4C80 ∧ k = x.queue ∧ sb ∈ [8, 9, 10, 11, 0x11, 0x17, 0x18, 0x1E] ∨ ix = 0x4E00 ∧ k = port ∧ sb ∈ [8, 9, 10, 11] ∨ ix = 0x4E20 ∧ k = path.getD 1 0 ∧ sb ∈ [8, 9, 10, 11] ∨ ix = 0x4E60 ∧ k = path.getD 3 0 ∧ sb ∈ [8, 9, 10, 11] ∨ ix = 0x5000 ∧ k ∈ uplinkLanes s (port - 96) ∧ sb = 1 ∨ ix = 0x5090 ∧ k = port - 96 ∧ sb ∈ [2, 8] ∨ ix = 0x5C40 ∧ k = port - 96 ∧ sb = 2 ∨ ix = 0x5D40 ∧ k = port - 96 ∧ sb ∈ [2, 3]) (fun a p q => a ∈ [.deficit, .turn] ∨ a = .bufWord ∧ p = x.pool ∨ a = .bufWord ∧ p = 3 ∨ a ∈ [.queueOff, .queueOpen] ∧ q = x.queue ∨ a ∈ [.announceIn, .upAlign] ∧ p = port - 96 ∨ a ∈ [.blockLock, .laneSpare, .syncRun] ∧ p ∈ uplinkLanes s (port - 96)) s t
    ∧ t = { s with objs := t.objs, regs := t.regs, evQueue := t.evQueue, evPending := t.evPending, out := t.out, pkts := t.pkts, rounds := t.rounds, stamps := t.stamps })
  ∧ (∀ (s s' : State) (port : Nat) (x : Pkt) (path : List Nat),
    Up s →
    port < 96 →
    portOpen s port = true →
    nextPacket port s = some (x, s') →
    x.up = false →
    queuePath s' false x.queue = some path →
    s.aux .flowEff x.flow 1 = 0 →
    let tree := port / 2
    let sdu : DownSdu := ⟨workingPort s tree, port % 2, x.flow, x.bytes.take x.len, (x.bytes.take x.len).length, 0, none, 0, 0, doubleStroke s tree (port % 2), 0⟩
    Runs (.packetSelect port [] false) s fun t => t.pkts = s'.pkts.erase x ∧ t.out = (sendSdu sdu s').out ∧ t.downWait = (sendSdu sdu s').downWait ∧ t.fsFrames = (sendSdu sdu s').fsFrames
    ∧ OnlyEv (fun ix k sb => ix = 0x4C00 ∧ sb = 2 ∨ ix = 0x4C10 ∧ 5 ≤ sb ∧ sb ≤ 8 ∨ ix = 0x4C40 ∧ k = x.queue ∧ sb ∈ [8, 9, 10, 11, 0x11, 0x17, 0x18, 0x1E] ∨ ix = 0x4E00 ∧ k = port ∧ sb ∈ [8, 9, 10, 11] ∨ ix = 0x4E20 ∧ k = path.getD 1 0 ∧ sb ∈ [8, 9, 10, 11] ∨ ix = 0x4E40 ∧ k = path.getD 2 0 ∧ sb ∈ [8, 9, 10, 11] ∨ ix = 0x4E60 ∧ k = path.getD 3 0 ∧ sb ∈ [8, 9, 10, 11] ∨ ix = 0x3820 ∧ sb = 10 ∨ ix = 0x2004 ∧ k = workingPort s (port / 2) ∧ sb ∈ [2, 3]) (fun a p q => a ∈ [.deficit, .turn] ∨ a = .bufWord ∧ p = x.pool ∨ a = .bufWord ∧ p = 3 ∨ a ∈ [.queueOff, .queueOpen] ∧ q = x.queue) s t
    ∧ t = { s with objs := t.objs, regs := t.regs, evQueue := t.evQueue, evPending := t.evPending, downWait := t.downWait, fsFrames := t.fsFrames, out := t.out, pkts := t.pkts, rounds := t.rounds })
  ∧ (∀ (s s' : State) (port : Nat) (x : Pkt) (path : List Nat),
    Up s →
    portOpen s port = true →
    nextPacket port s = some (x, s') →
    (port < 96 ∧ x.up = false ∨ 96 ≤ port ∧ x.up = true) →
    queuePath s' x.up x.queue = some path →
    Runs (.packetSelect port [] true) s fun t => t.pkts = s'.pkts.erase x ∧ t.get (qIndex x.up) x.queue 0x1F = wrapAdd 64 (s.get (qIndex x.up) x.queue 0x1F) 1 ∧ t.get 0x1200 2566 3 = wrapAdd 64 (s.get 0x1200 2566 3) 1
    ∧ OnlyEv (fun ix k sb => ix = 0x4C00 ∧ sb = 2 ∨ ix = 0x4C10 ∧ 5 ≤ sb ∧ sb ≤ 8 ∨ ix = qIndex x.up ∧ k = x.queue ∧ sb ∈ [8, 9, 10, 11, 0x11, 0x17, 0x18, 0x1E, 0x1F] ∨ ix ∈ [0x4E00, 0x4E20, 0x4E40, 0x4E60] ∧ sb ∈ [8, 9, 10, 11] ∨ ix = 0x3820 ∧ sb = 10 ∨ 96 ≤ port ∧ (ix = 0x5000 ∧ k ∈ uplinkLanes s (port - 96) ∧ sb = 1 ∨ ix = 0x5090 ∧ k = port - 96 ∧ sb = 2 ∨ ix = 0x5C40 ∧ k = port - 96 ∧ sb = 2 ∨ ix = 0x5D40 ∧ k = port - 96 ∧ sb ∈ [2, 3])) (fun a p q => a ∈ [.deficit, .turn] ∨ a = .bufWord ∧ p = x.pool ∨ a = .bufWord ∧ p = 3 ∨ a ∈ [.queueOff, .queueOpen] ∧ q = x.queue ∨ 96 ≤ port ∧ (a ∈ [.announceIn, .upAlign] ∧ p = port - 96 ∨ a ∈ [.blockLock, .laneSpare, .syncRun] ∧ p ∈ uplinkLanes s (port - 96))) s t
    ∧ t = { s with objs := t.objs, regs := t.regs, evQueue := t.evQueue, evPending := t.evPending, pkts := t.pkts, rounds := t.rounds, stamps := t.stamps })
  ∧ (∀ (s : State) (port : Nat) (poison : List Poison) (bad : Bool),
    Up s →
    portOpen s port = true →
    let s0 := overAll poison schedulerPoison s
    portOpen s0 port = true →
    Runs (.packetSelect port poison bad) s fun t => exec (.packetSelect port [] bad) s0 = .next t)
  ∧ (∀ (s : State) (port : Nat) (poison : List Poison) (bad : Bool),
    Up s →
    portOpen s port = false →
    Runs (.packetSelect port poison bad) s fun t => t = s)
  ∧ (∀ (s : State) (port : Nat) (bad : Bool),
    Up s →
    portOpen s port = true →
    nextPacket port s = none →
    Runs (.packetSelect port [] bad) s fun t => t = s)
  ∧ (∀ (s : State) (index inst : Nat),
    Up s →
    Store.wf Objects.dflt s.objs = true →
    (index = 0x4E00 ∨ index = 0x4E20 ∨ index = 0x4E40 ∨ index = 0x4E60 ∨ index = 0x4C40 ∨ index = 0x4C80) →
    s.get index inst 3 = 1 →
    let rate := s.get index inst 4
    rate ≠ 0 →
    rate ≠ 0xFFFFFFFF →
    rate ≠ Objects.dflt ⟨index, inst, 4⟩ →
    let gained := toInt 32 (s.get index inst 8) + ((s.aux .tokFrac (index * 2 ^ 20 + inst) 8 + rate) / 450000 : Nat)
    Runs .shaperRefill s fun t => t.get index inst 8 = ofInt 32 (min (s.get index inst 5 : Int) gained) ∧ t.aux .tokFrac (index * 2 ^ 20 + inst) 8 = (s.aux .tokFrac (index * 2 ^ 20 + inst) 8 + rate) % 450000
    ∧ Only (fun ix _ sb => (ix = 0x4E00 ∨ ix = 0x4E20 ∨ ix = 0x4E40 ∨ ix = 0x4E60 ∨ ix = 0x4C40 ∨ ix = 0x4C80) ∧ (sb = 8 ∨ sb = 9)) (fun a _ _ => a = .tokFrac) s t
    ∧ t = { s with objs := t.objs, regs := t.regs })
  ∧ (∀ (s : State) (acc : Acc) (index inst sub value : Nat),
    Up s →
    (index = 0x4E00 ∨ index = 0x4E20 ∨ index = 0x4E40 ∨ index = 0x4E60 ∨ index = 0x4C40 ∨ index = 0x4C80) →
    4 ≤ sub →
    sub ≤ 7 →
    mayWrite acc index inst sub value s = true →
    let s1 := s.put index inst sub value
    s1.get index inst 4 ≤ s1.get index inst 6 →
    (s1.get index inst 4 = 0 ∨ s1.get index inst 5 ≠ 0) →
    (s1.get index inst 6 = 0 ∨ s1.get index inst 7 ≠ 0) →
    Runs (.shaperWrite acc index inst sub value) s fun t => t.answer = ⟨0, 0⟩ ∧ t.get index inst sub = value ∧ t.get index inst 8 = 0 ∧ t.get index inst 9 = 0
    ∧ Only (fun ix k sb => ix = index ∧ k = inst ∧ (sb = sub ∨ sb = 8 ∨ sb = 9)) (fun a p _ => a = .tokFrac ∧ p = index * 2 ^ 20 + inst) s t
    ∧ t = { s with objs := t.objs, regs := t.regs, answer := t.answer })
  ∧ (∀ (s : State) (acc : Acc) (index inst sub value : Nat),
    Up s →
    (index = 0x4E00 ∨ index = 0x4E20 ∨ index = 0x4E40 ∨ index = 0x4E60 ∨ index = 0x4C40 ∨ index = 0x4C80) →
    1 ≤ sub →
    sub ≤ 2 →
    mayWrite acc index inst sub value s = true →
    (¬(sub = 1 ∧ value ≠ 0xFF ∧ (anyObj s index 1 fun i w => i != inst && w == value && (parentOf s index i).isSome && parentOf s index i == parentOf s index inst) = true)) →
    Runs (.attachmentWrite acc index inst sub value) s fun t => t.answer = ⟨0, 0⟩ ∧ t.get index inst sub = value ∧ t.aux .deficit (levelOf index) inst = 0
    ∧ Only (fun ix k sb => ix = index ∧ k = inst ∧ sb = sub) (fun a p q => a = .deficit ∧ p = levelOf index ∧ q = inst) s t
    ∧ t = { s with objs := t.objs, regs := t.regs, answer := t.answer })
  ∧ (∀ (s : State) (acc : Acc) (ring : Nat),
    Up s →
    mayWrite acc 0x4380 ring 1 1 s = true →
    s.get 0x4380 ring 2 = 0 →
    Runs (.bulkRingEnable acc ring) s fun t => t.answer = ⟨0, 0⟩ ∧ t.get 0x4380 ring 2 = 2
    ∧ Only (fun ix k sb => ix = 0x4380 ∧ k = ring ∧ sb = 2 ∨ ix = 0x4380 ∧ k = ring ∧ sb = 1) (fun _ _ _ => False) s t
    ∧ t = { s with objs := t.objs, regs := t.regs, answer := t.answer })
  ∧ (∀ (s : State) (acc : Acc) (ring : Nat),
    Up s →
    mayWrite acc 0x4380 ring 1 0 s = true →
    s.get 0x4380 ring 2 = 2 →
    Runs (.bulkRingDrain acc ring) s fun t => t.answer = ⟨0, 0⟩ ∧ t.get 0x4380 ring 2 = (if jobOf s ring = none then 0 else 1)
    ∧ Only (fun ix k sb => ix = 0x4380 ∧ k = ring ∧ sb = 2 ∨ ix = 0x4380 ∧ k = ring ∧ sb = 1) (fun _ _ _ => False) s t
    ∧ t = { s with objs := t.objs, regs := t.regs, answer := t.answer })
  ∧ (∀ (s : State) (ring : Nat) (aad data : List Nat),
    Up s →
    s.get 0x4380 ring 2 = 1 →
    let left := s.jobs.filter fun j => j.ring == ring
    Runs (.bulkDrainExpiry (ring, aad, data)) s fun t => t.get 0x4380 ring 2 = 0 ∧ t.jobs = s.jobs.filter (fun j => j.ring != ring) ∧ t.get 0x4380 ring 0x0B = (if left = [] then s.get 0x4380 ring 0x0B else wrapAdd 64 (s.get 0x4380 ring 0x0B) left.length) ∧ t.get 0x1200 2059 3 = (if left = [] then s.get 0x1200 2059 3 else wrapAdd 64 (s.get 0x1200 2059 3) 1)
    ∧ OnlyEv (fun ix k sb => ix = 0x4380 ∧ k = ring ∧ sb ∈ [2, 0x0B] ∨ ix = 0x4000 ∧ sb ∈ [7, 10] ∨ ix = 0x4200 ∧ sb = 4 ∨ ix = 0x5800 ∧ k = 66 ∧ sb ∈ [5, 6] ∨ ix = 0x5840 ∧ sb ∈ [4, 5]) (fun a _ _ => a ∈ [.keySoft, .kxFrag, .kxGen, .kxIndex, .kxKey, .kxKind, .kxNext, .kxSeq, .kxTries, .missMask]) s t
    ∧ OnlyWords (fun m _ => m = 66) s t
    ∧ t = { s with objs := t.objs, regs := t.regs, evQueue := t.evQueue, evPending := t.evPending, jobs := t.jobs, mem := t.mem, out := t.out, ploams := t.ploams })
  ∧ (∀ (s : State) (acc : Acc) (ring value : Nat),
    Up s →
    mayWrite acc 0x4380 ring 7 value s = true →
    Runs (.bulkDoorbell acc ring value) s fun t => t.answer = ⟨0, 0⟩ ∧ t.get 0x4380 ring 7 = value
    ∧ Only (fun ix k sb => ix = 0x4380 ∧ k = ring ∧ sb = 7) (fun _ _ _ => False) s t
    ∧ t = { s with objs := t.objs, regs := t.regs, answer := t.answer })
  ∧ (∀ (s : State) (ring : Nat) (bytes : List Nat),
    Up s →
    let position := s.get 0x4380 ring 8
    ringTurn s = some ring →
    let desc := jobDesc bytes
    let next := (position + 1) % s.get 0x4380 ring 5
    let s1 := readSlot desc.slot ((s.put 0x4380 ring 8 next).setAux .bulkTurn 0 0 ((ring + 1) % 8))
    descStatus s1 ring desc = 0 →
    Runs (.bulkJobStart ring bytes) s fun t => t.jobs = s.jobs ++ [⟨ring, position, desc, slotGen s1 desc.slot, s1.get 0x4000 desc.slot 3, s1.aux .keyMat desc.slot 0⟩] ∧ t.get 0x4380 ring 8 = next ∧ t.aux .bulkTurn 0 = (ring + 1) % 8
    ∧ OnlyEv (fun ix k sb => ix = 0x4380 ∧ k = ring ∧ sb = 8 ∨ ix = 0x5800 ∧ k = 66 ∧ sb ∈ [2, 3, 4, 7, 8, 9]) (fun a _ _ => a = .bulkTurn ∨ a = .missMask) s t
    ∧ t = { s with objs := t.objs, regs := t.regs, evQueue := t.evQueue, evPending := t.evPending, jobs := t.jobs, recent := t.recent })
  ∧ (∀ (s : State) (ring : Nat) (bytes : List Nat),
    Up s →
    ringTurn s = some ring →
    let position := s.get 0x4380 ring 8
    let desc := jobDesc bytes
    let next := (position + 1) % s.get 0x4380 ring 5
    let s1 := readSlot desc.slot ((s.put 0x4380 ring 8 next).setAux .bulkTurn 0 0 ((ring + 1) % 8))
    let status := descStatus s1 ring desc
    status ≠ 0 →
    status ≠ 9 →
    Runs (.bulkJobStart ring bytes) s fun t => t.jobs = s.jobs ∧ t.get 0x4380 ring 8 = next ∧ t.get 0x4380 ring 0x0B = wrapAdd 64 (s.get 0x4380 ring 0x0B) 1 ∧ (∃ zero ∈ [[], [(⟨.zeroArea, [desc.dest, desc.length]⟩ : Out)]], t.out.take (s.out.length + zero.length + 1) = s.out ++ zero ++ [⟨.completion, [ring, s.get 0x4380 ring 6 + 32 * position] ++ completionBytes ring position status 0 s.now 0⟩])
    ∧ OnlyEv (fun ix k sb => ix = 0x4380 ∧ k = ring ∧ sb ∈ [8, 0x0B, 0x0D] ∨ ix = 0x4000 ∧ k = desc.slot ∧ sb = 0x0C ∨ ix = 0x5800 ∧ k = 66 ∧ sb ∈ [2, 3, 4, 7, 8, 9]) (fun a _ _ => a = .bulkTurn ∨ a = .missMask) s t
    ∧ t = { s with objs := t.objs, regs := t.regs, evQueue := t.evQueue, evPending := t.evPending, out := t.out, recent := t.recent })
  ∧ (∀ (s : State) (ring fault : Nat) (aad data : List Nat) (j : Job),
    Up s →
    jobOf s ring = some j →
    (fault = 5 ∨ fault = 7 ∨ fault = 0 ∧ data.length = j.desc.length ∧ aad.length = j.desc.aadLength) →
    let read := data.take j.desc.length
    let out := jobOut j aad read
    let tag := jobTag j aad (if deciphers j.desc then out else read)
    let status := if fault ≠ 0 then fault else if deciphers j.desc = true ∧ tag ≠ j.desc.tag then 1 else 0
    Runs (.bulkJobComplete ring fault (aad, data)) s fun t => t.jobs = s.jobs.erase j
    ∧ t.get 0x4380 j.ring 0x0A = (if status = 0 then wrapAdd 64 (s.get 0x4380 j.ring 0x0A) 1 else s.get 0x4380 j.ring 0x0A)
    ∧ t.get 0x4380 j.ring 0x0B = (if status = 0 then s.get 0x4380 j.ring 0x0B else wrapAdd 64 (s.get 0x4380 j.ring 0x0B) 1)
    ∧ t.get 0x4380 j.ring 0x0C = (if status = 0 then wrapAdd 64 (s.get 0x4380 j.ring 0x0C) j.desc.length else s.get 0x4380 j.ring 0x0C)
    ∧ t.out = s.out ++ (if read = [] then [] else [⟨.bulkOut, [j.ring, j.desc.dest] ++ out⟩]) ++ (if status = 0 then [] else [⟨.zeroArea, [j.desc.dest, j.desc.length]⟩])
      ++ [⟨.completion, [j.ring, s.get 0x4380 j.ring 6 + 32 * j.position] ++ completionBytes j.ring j.position status read.length s.now (if status = 0 ∧ (j.desc.op = 1 ∨ j.desc.op = 3) then tag else 0)⟩]
      ++ (if j.desc.flags = 1 then [⟨.msix, [17 + j.ring]⟩] else [])
    ∧ OnlyEv (fun ix k sb => ix = 0x4380 ∧ k = j.ring ∧ sb ∈ [2, 10, 11, 12, 13] ∨ ix = 0x4000 ∧ k = j.desc.slot ∧ sb ∈ [7, 10] ∨ ix = 0x4200 ∧ k = bindInst s j.desc.slot ∧ sb = 4 ∨ ix = 0x5800 ∧ k = 66 ∧ sb ∈ [5, 6] ∨ ix = 0x5840 ∧ sb ∈ [4, 5]) (fun a p _ => a = .keySoft ∧ p = j.desc.slot ∨ a ∈ [.kxFrag, .kxGen, .kxIndex, .kxKey, .kxKind, .kxNext, .kxSeq, .kxTries] ∧ p = bindInst s j.desc.slot ∨ a = .missMask) s t
    ∧ OnlyWords (fun m _ => m = 66) s t
    ∧ t = { s with objs := t.objs, regs := t.regs, evQueue := t.evQueue, evPending := t.evPending, jobs := t.jobs, mem := t.mem, out := t.out, ploams := t.ploams })

/-- The commands of the Vioth lanes have their effect (R46, R338, R350, R351, R370 to R372): a lost lock sends a lane back to
its search and a lane in use takes its port out with LOS; a sync header enters a lane's history, the sixteenth invalid of 64
loses block lock and the 64th valid one in a row gains it, the last lane's making the port aligning; a marker set is counted
with its errors, two in step give deskew and one out of step takes it away and makes the framer hunt; the spare lane is begun,
retired, restored and given back by its commands, and a lost lane reference stops its lanes until it returns. -/
def Obligations.ViothLaneCommandsComplete : Prop :=
  (∀ (s : State) (lane : Nat),
    Up s →
    lane < 70 →
    (s.get 0x5000 lane 1 = 3 ∨ s.get 0x5000 lane 1 = 4) →
    Runs (.laneLockLoss lane) s fun t => t.get 0x5000 lane 1 = 2 ∧ t.get 0x5000 lane 0x0E = wrapAdd 32 (s.get 0x5000 lane 0x0E) 1 ∧ (68 ≤ lane → s.get 0x50C0 (lane - 68) 3 = 4 → t.get 0x50C0 (lane - 68) 3 = 2)
    ∧ OnlyEv (fun ix k sb => ix = 0x5000 ∧ k = lane ∧ sb ∈ [1, 0x0E] ∨ ix = 0x50C0 ∧ 68 ≤ lane ∧ k = lane - 68 ∧ sb = 3 ∨ 32 ≤ lane ∧ lane < 68 ∧ (ix = 0x5000 ∧ 32 + 9 * ((lane - 32) / 9) ≤ k ∧ k < 41 + 9 * ((lane - 32) / 9) ∧ sb = 1 ∨ ix = 0x5100 ∧ k = (lane - 32) / 9 ∧ sb ∈ [2, 7, 15, 16] ∨ ix = 0x5140 ∧ sb ∈ [3, 5] ∨ ix = 0x51C0 ∧ k = 0 ∧ sb = 4 ∨ ix = 0x5580 ∧ sb ∈ [1, 3, 4, 7] ∨ ix = 0x5590 ∧ sb ∈ [1, 2] ∨ ix = 0x55C0 ∧ sb = 4)) (fun a p _ => a = .lane2817 ∧ p = lane ∨ 32 ≤ lane ∧ lane < 68 ∧ (a ∈ [.bipLast, .deskew, .framePos, .framerFail, .markOk, .primer, .primerFor, .restoring, .spareMove, .spareRx, .spareTx, .spareWant] ∧ p = (lane - 32) / 9 ∨ a ∈ [.blockLock, .cleanRun, .laneSpare, .syncRun, .syncHist] ∧ 32 + 9 * ((lane - 32) / 9) ≤ p ∧ p < 41 + 9 * ((lane - 32) / 9) ∨ a ∈ [.featMet, .lvlAbove, .lvlIn])) s t
    ∧ t = { s with objs := t.objs, regs := t.regs, evQueue := t.evQueue, evPending := t.evPending, viothIn := t.viothIn })
  ∧ (∀ (s : State) (v p hd : Nat),
    Up s →
    v < 4 →
    p < 8 →
    s.aux .blockLock (viothLane v p) = 1 →
    laneUsed s v p = true →
    portSt s v = 4 →
    hasDefect s v 1 = false →
    laneHeard s (viothLane v p) = true →
    hd ≠ 1 →
    hd ≠ 2 →
    16 ≤ popCount 64 ((2 * s.aux .syncHist (viothLane v p) + 1) % 2 ^ 64) →
    Runs (.viothBlockLockLoss (viothLane v p, [hd])) s fun t => t.aux .blockLock (viothLane v p) = 0 ∧ hasDefect t v 1 = true ∧ portSt t v = 5 ∧ framer t v = 0
    ∧ OnlyEv (fun ix k sb => ix = 0x5000 ∧ 32 + 9 * (v) ≤ k ∧ k < 41 + 9 * (v) ∧ sb = 1 ∨ ix = 0x5100 ∧ k = v ∧ sb ∈ [2, 7, 15, 16] ∨ ix = 0x5140 ∧ sb ∈ [3, 5] ∨ ix = 0x51C0 ∧ k = 0 ∧ sb = 4 ∨ ix = 0x5580 ∧ sb ∈ [1, 3, 4, 7] ∨ ix = 0x5590 ∧ sb ∈ [1, 2] ∨ ix = 0x55C0 ∧ sb = 4) (fun a p _ => a ∈ [.bipLast, .deskew, .framePos, .framerFail, .markOk, .primer, .primerFor, .restoring, .spareMove, .spareRx, .spareTx, .spareWant] ∧ p = v ∨ a ∈ [.blockLock, .cleanRun, .laneSpare, .syncRun, .syncHist] ∧ 32 + 9 * (v) ≤ p ∧ p < 41 + 9 * (v) ∨ a ∈ [.featMet, .lvlAbove, .lvlIn]) s t
    ∧ t = { s with objs := t.objs, regs := t.regs, evQueue := t.evQueue, evPending := t.evPending, viothIn := t.viothIn })
  ∧ (∀ (s : State) (v p hd : Nat),
    Up s →
    v < 4 →
    p < 9 →
    laneHeard s (viothLane v p) = true →
    s.aux .blockLock (viothLane v p) = 1 →
    let hist := (2 * s.aux .syncHist (viothLane v p) + if hd = 1 ∨ hd = 2 then 0 else 1) % 2 ^ 64
    popCount 64 hist < 16 →
    Runs (.viothBlockLockLoss (viothLane v p, [hd])) s fun t => t = s.setAux .syncHist (viothLane v p) 0 hist)
  ∧ (∀ (s : State) (v p hd : Nat),
    Up s →
    v < 4 →
    p < 9 →
    laneHeard s (viothLane v p) = true →
    s.aux .blockLock (viothLane v p) = 0 →
    let run := if hd = 1 ∨ hd = 2 then s.aux .syncRun (viothLane v p) + 1 else 0
    run < 64 →
    Runs (.viothBlockLockGain (viothLane v p, [hd])) s fun t => t = s.setAux .syncRun (viothLane v p) 0 run)
  ∧ (∀ (s : State) (v pl hd : Nat),
    Up s →
    v < 4 →
    pl < 9 →
    laneHeard s (viothLane v pl) = true →
    s.aux .blockLock (viothLane v pl) = 0 →
    (hd = 1 ∨ hd = 2) →
    63 ≤ s.aux .syncRun (viothLane v pl) →
    Runs (.viothBlockLockGain (viothLane v pl, [hd])) s fun t => t.aux .blockLock (viothLane v pl) = 1 ∧ t.aux .syncRun (viothLane v pl) = 0 ∧ portSt t v = (if portSt s v = 2 ∧ allLocked t v = true then 3 else portSt s v)
    ∧ OnlyEv (fun ix k sb => ix = 0x5100 ∧ k = v ∧ sb = 2) (fun a p _ => a ∈ [.blockLock, .syncRun, .syncHist] ∧ p = viothLane v pl) s t
    ∧ t = { s with objs := t.objs, regs := t.regs, evQueue := t.evQueue, evPending := t.evPending })
  ∧ (∀ (s : State) (v : Nat) (sync marks counts bip : List (List Nat)) (skew : List Int),
    Up s →
    v < 4 →
    let row := markerRow sync marks counts bip
    let r := takeRow v row s
    let s2 := overAll r.1 (fun e s => takeMarker v e.1 e.2 s) r.2
    (portSt s2 v = 1 ∨ 3 ≤ portSt s2 v) →
    allLocked s2 v = true →
    let lead := (((r.1.find? fun e => laneUsed s2 v e.1).map Prod.snd).getD (0, [])).2
    let count := numAt lead 4 2
    let consistent := setConsistent s2 v r.1 skew
    let inStep := consistent && (s2.aux .markCnt v == 0 || count == s2.aux .markCnt v % 65536)
    portSt s v ≠ 0 →
    Runs (.markerSetReceive v sync marks counts bip skew) s fun t => t.aux .markCnt v = (if consistent = true then count + 1 else 0)
    ∧ t.aux .markOk v = (if inStep = true then min 2 (s2.aux .markOk v + 1) else if consistent = true then 1 else 0)
    ∧ t.aux .deskew v = (if inStep = false then 0 else if 1 ≤ s2.aux .markOk v then 1 else s2.aux .deskew v)
    ∧ framer t v = (if inStep = true then framer s2 v else 0)
    ∧ (∀ p ∈ List.range 9, t.get 0x5000 (viothLane v p) 0x0B = s2.get 0x5000 (viothLane v p) 0x0B)
    ∧ OnlyEv (fun ix k sb => ix = 0x5000 ∧ 32 + 9 * (v) ≤ k ∧ k < 41 + 9 * (v) ∧ sb ∈ [1, 0x0B] ∨ ix = 0x5100 ∧ k = v ∧ sb ∈ [2, 7, 15, 16] ∨ ix = 0x5140 ∧ sb ∈ [3, 5] ∨ ix = 0x51C0 ∧ k = 0 ∧ sb = 4 ∨ ix = 0x5580 ∧ sb ∈ [1, 3, 4, 7] ∨ ix = 0x5590 ∧ sb ∈ [1, 2] ∨ ix = 0x55C0 ∧ sb = 4) (fun a p _ => a ∈ [.bipLast, .bipSec, .deskew, .farRx, .farTx, .farTxRun, .framePos, .framerFail, .markCnt, .markOk, .primer, .primerFor, .restoring, .spareMove, .spareRx, .spareTx, .spareWant] ∧ p = v ∨ a ∈ [.bipRx, .blockLock, .cleanRun, .laneSpare, .rxLevel, .syncHist, .syncRun] ∧ 32 + 9 * (v) ≤ p ∧ p < 41 + 9 * (v) ∨ a ∈ [.featMet, .lvlAbove, .lvlIn]) s t
    ∧ t = { s with objs := t.objs, regs := t.regs, evQueue := t.evQueue, evPending := t.evPending, viothIn := t.viothIn })
  ∧ (∀ (s : State) (v p : Nat) (m : Nat × List Nat),
    let x := viothLane v p
    let errs := if markerOk p m = true then markerErrors s v p m.2 else 0
    let t := takeMarker v p m s
    t.get 0x5000 x 0x0B = (if errs = 0 then s.get 0x5000 x 0x0B else wrapAdd 64 (s.get 0x5000 x 0x0B) errs) ∧ t.aux .bipSec v = s.aux .bipSec v + (if laneUsed s v p = true then errs else 0) ∧ t.aux .bipRx x = 0 ∧ bit p (t.aux .bipLast v) = !(markerOk p m && errs == 0 && m.2.getD 6 0 + m.2.getD 7 0 == 255 && s.aux .blockLock x == 1))
  ∧ (∀ (s : State) (acc : Acc) (v l : Nat),
    Up s →
    l < 8 →
    mayWrite acc 0x5100 v 0x0E l s = true →
    portSt s v = 4 →
    s.get 0x5100 v 0x0F = 0 →
    s.get 0x5100 v 3 ≠ 1 →
    s.aux .spareWant v = 0 →
    Runs (.spareCommand acc v l) s fun t => t.answer = ⟨0, 0⟩ ∧ t.get 0x5100 v 0x0F = 1 ∧ t.get 0x5100 v 0x10 = l ∧ t.aux .spareWant v = l + 1
    ∧ Only (fun ix k sb => ix = 0x5100 ∧ k = v ∧ (sb = 0x0E ∨ sb = 0x0F ∨ sb = 0x10)) (fun a p _ => a = .spareWant ∧ p = v) s t
    ∧ t = { s with objs := t.objs, regs := t.regs, answer := t.answer })
  ∧ (∀ (s : State) (acc : Acc) (v l : Nat),
    Up s →
    l < 8 →
    mayWrite acc 0x5100 v 0x0E (0x80 + l) s = true →
    s.get 0x5100 v 0x0F = 2 →
    s.get 0x5100 v 0x10 = l →
    s.get 0x5000 (viothLane v l) 1 = 4 →
    Runs (.spareRetire acc v l) s fun t => t.answer = ⟨0, 0⟩ ∧ t.get 0x5100 v 0x0F = 3 ∧ t.get 0x5000 (viothLane v l) 1 = 5
    ∧ OnlyEv (fun ix k sb => (ix = 0x5100 ∧ k = v ∧ (sb = 0x0E ∨ sb = 0x0F)) ∨ (ix = 0x5000 ∧ k = viothLane v l ∧ sb = 1)) (fun _ _ _ => False) s t
    ∧ t = { s with objs := t.objs, regs := t.regs, evQueue := t.evQueue, evPending := t.evPending, answer := t.answer })
  ∧ (∀ (s : State) (acc : Acc) (v : Nat),
    Up s →
    mayWrite acc 0x5100 v 0x0E 0xFF s = true →
    2 ≤ s.get 0x5100 v 0x0F →
    let x := viothLane v (s.get 0x5100 v 0x10)
    Runs (.spareRestore acc v) s fun t => t.answer = ⟨0, 0⟩ ∧ t.aux .restoring v = 1 ∧ t.get 0x5000 x 1 = (if s.get 0x5000 x 1 = 5 then 1 else s.get 0x5000 x 1)
    ∧ Only (fun ix k sb => (ix = 0x5000 ∧ k = x ∧ sb = 1) ∨ (ix = 0x5100 ∧ k = v ∧ sb = 0x0E)) (fun a p _ => a = .restoring ∧ p = v ∨ a ∈ [.eqIn, .txLevel, .rxLevel, .laneTries, .laneSince, .laneByRef] ∧ p = x) s t
    ∧ t = { s with objs := t.objs, regs := t.regs, answer := t.answer })
  ∧ (∀ (s : State) (v l : Nat),
    Up s →
    v < 4 →
    l < 8 →
    s.aux .spareRx v = l + 1 →
    s.get 0x5000 (viothLane v l) 1 = 4 →
    s.aux .blockLock (viothLane v l) = 1 →
    bit l (s.aux .bipLast v) = false →
    Runs (.spareLaneFail v) s fun t => t.aux .spareRx v = 0 ∧ t.aux .spareTx v = 0 ∧ t.get 0x5100 v 0x0F = 0 ∧ t.get 0x5100 v 0x10 = 0xF ∧ t.get 0x5000 (viothLane v l) 1 = 3
    ∧ OnlyEv (fun ix k sb => (ix = 0x5100 ∧ k = v ∧ (sb = 0x0F ∨ sb = 0x10)) ∨ (ix = 0x5000 ∧ k = viothLane v l ∧ sb = 1)) (fun a p _ => (a = .blockLock ∨ a = .cleanRun) ∧ p = viothLane v 8 ∨ (a = .laneSpare ∧ p = viothLane v l) ∨ a ∈ [.spareRx, .spareTx, .spareWant, .spareMove, .restoring] ∧ p = v) s t
    ∧ t = { s with objs := t.objs, regs := t.regs, evQueue := t.evQueue, evPending := t.evPending })
  ∧ (∀ (s : State) (clock : Nat),
    Up s →
    s.aux .refLost clock = 1 →
    Runs (.laneReferenceHoldExpiry clock) s fun t => (∀ x ∈ referenceLanes clock, t.get 0x5000 x 1 = 0 ∧ (s.get 0x5000 x 1 ≠ 0 → t.aux .laneByRef x = 1))
    ∧ OnlyEv (fun ix k sb => ix = 0x5000 ∧ k < 70 ∧ sb = 1 ∨ ix = 0x50C0 ∧ k < 2 ∧ sb = 3 ∨ ix = 0x5100 ∧ k < 4 ∧ sb ∈ [2, 7, 15, 16] ∨ ix = 0x5140 ∧ sb ∈ [3, 5] ∨ ix = 0x51C0 ∧ k = 0 ∧ sb = 4 ∨ ix = 0x5580 ∧ sb ∈ [1, 3, 4, 7] ∨ ix = 0x5590 ∧ sb ∈ [1, 2] ∨ ix = 0x55C0 ∧ sb = 4) (fun a _ _ => a ∈ [.bipLast, .blockLock, .cleanRun, .deskew, .framePos, .framerFail, .laneByRef, .laneSpare, .markOk, .primer, .primerFor, .restoring, .spareMove, .spareRx, .spareTx, .spareWant, .syncRun] ∨ a ∈ [.featMet, .lvlAbove, .lvlIn]) s t
    ∧ t = { s with objs := t.objs, regs := t.regs, evQueue := t.evQueue, evPending := t.evPending, viothIn := t.viothIn })
  ∧ (∀ (s : State) (clock : Nat) (offset : Int),
    Up s →
    clock < 4 →
    Runs (.referenceRestored (clock, offset)) s fun t => t.aux .refLost clock = 0 ∧ t.get 0x1050 clock 1 = 2 ∧ t.get 0x1050 clock 2 = ofInt 32 offset ∧ isPending t 3973 clock = false ∧ isPending t 3974 clock = false ∧ (∀ x ∈ referenceLanes clock, s.aux .laneByRef x = 1 → t.get 0x5000 x 1 = (if laneWanted s x = true then 1 else s.get 0x5000 x 1) ∧ t.aux .laneByRef x = 0)
    ∧ OnlyEv (fun ix k sb => ix = 0x1050 ∧ k = clock ∧ sb ∈ [1, 2] ∨ ix = 0x5000 ∧ k ∈ referenceLanes clock ∧ sb = 1) (fun a p _ => a = .refLost ∧ p = clock ∨ a ∈ [.eqIn, .txLevel, .rxLevel, .laneTries, .laneSince, .laneByRef] ∧ p ∈ referenceLanes clock) s t
    ∧ t = { s with objs := t.objs, regs := t.regs, evQueue := t.evQueue, evPending := t.evPending, early := t.early })

/-- The commands of the Vioth ports have their effect (R353, R357, R358, R360, R364, R365, R367, R369): a port is enabled, goes
down and ends its drain with what is left counted; it sends its next frame by the order of R367 or fill, in words that go to its
lanes in turn as scrambled blocks; multiframes are sent and received; LOM and DEG are declared and a defect clears; primer fill
goes to its destinations until its time ends; and a path write moves the active port. -/
def Obligations.ViothPortCommandsComplete : Prop :=
  (∀ (s : State) (acc : Acc) (v : Nat),
    Up s →
    mayWrite acc 0x5100 v 1 1 s = true →
    portSt s v = 0 →
    Runs (.viothPortEnable acc v) s fun t => t.answer = ⟨0, 0⟩ ∧ portSt t v = 2 ∧ (∀ x ∈ viothLanes s v, t.get 0x5000 x 1 = 1 ∧ ∀ sub ∈ List.range 10, 2 ≤ sub → t.aux .eqIn x sub = appliedValue s x sub)
    ∧ OnlyEv (fun ix k sb => (ix = 0x5100 ∧ k = v ∧ sb = 2) ∨ (ix = 0x5000 ∧ k ∈ viothLanes s v ∧ sb = 1) ∨ ix = 0x5100 ∧ k = v ∧ sb = 1) (fun a p _ => a ∈ [.eqIn, .txLevel, .rxLevel, .laneTries, .laneSince, .laneByRef] ∧ p ∈ viothLanes s v) s t
    ∧ t = { s with objs := t.objs, regs := t.regs, evQueue := t.evQueue, evPending := t.evPending, answer := t.answer })
  ∧ (∀ (s : State) (acc : Acc) (v : Nat),
    Up s →
    mayWrite acc 0x5100 v 1 0 s = true →
    2 ≤ portSt s v →
    Runs (.viothPortDrain acc v) s fun t => t.answer = ⟨0, 0⟩ ∧ portSt t v = 1 ∧ framer t v = framer s v ∧ t.aux .goingDn v = 1 ∧ t.aux .drainFrom v = s.now + 1
    ∧ OnlyEv (fun ix k sb => ix = 0x5100 ∧ k = v ∧ sb = 2 ∨ ix = 0x5140 ∧ sb ∈ [3, 5] ∨ ix = 0x51C0 ∧ k = 0 ∧ sb = 4 ∨ ix = 0x5580 ∧ sb ∈ [1, 3, 4, 7] ∨ ix = 0x5590 ∧ sb ∈ [1, 2] ∨ ix = 0x55C0 ∧ sb = 4 ∨ ix = 0x5100 ∧ k = v ∧ sb = 1) (fun a p _ => a ∈ [.drainFrom, .goingDn] ∧ p = v ∨ a ∈ [.featMet, .lvlAbove, .lvlIn]) s t
    ∧ t = { s with objs := t.objs, regs := t.regs, evQueue := t.evQueue, evPending := t.evPending, answer := t.answer })
  ∧ (∀ (s : State) (v : Nat),
    Up s →
    v < 4 →
    portSt s v = 1 →
    let left := s.vframes.filter fun f => f.port == v
    Runs (.viothDrainExpiry v) s fun t => portSt t v = 0 ∧ t.vframes = s.vframes.filter (fun f => f.port != v) ∧ t.get 0x5100 v 0x1B = (if left = [] then s.get 0x5100 v 0x1B else wrapAdd 64 (s.get 0x5100 v 0x1B) left.length) ∧ t.get 0x5100 v 7 = 0
    ∧ OnlyEv (fun ix k sb => ix = 0x5000 ∧ 32 + 9 * (v) ≤ k ∧ k < 41 + 9 * (v) ∧ sb = 1 ∨ ix = 0x5100 ∧ k = v ∧ sb ∈ [2, 7, 15, 16, 27] ∨ ix = 0x5140 ∧ sb ∈ [3, 5] ∨ ix = 0x51C0 ∧ k = 0 ∧ sb = 4 ∨ ix = 0x5580 ∧ sb ∈ [1, 3, 4, 7] ∨ ix = 0x5590 ∧ sb ∈ [1, 2] ∨ ix = 0x55C0 ∧ sb = 4) (fun a p _ => a ∈ [.bipLast, .bipSec, .deskew, .drainFrom, .farDn, .farRx, .farTx, .farTxRun, .framePos, .framerFail, .goingDn, .linkN, .markCnt, .markOk, .mfRdi, .mfSend, .primer, .rdiClr, .rdiRun, .reachIn, .restoring, .rowLen, .rowsTx, .spareMove, .spareRx, .spareTx, .spareWant, .timClr, .timRun, .vqBytes] ∧ p = v ∨ a ∈ [.blockLock, .laneSpare, .syncRun] ∧ 32 + 9 * (v) ≤ p ∧ p < 41 + 9 * (v) ∨ a ∈ [.featMet, .lvlAbove, .lvlIn]) s t
    ∧ t = { s with objs := t.objs, regs := t.regs, evQueue := t.evQueue, evPending := t.evPending, vframes := t.vframes, viothIn := t.viothIn })
  ∧ (∀ (s : State) (v : Nat),
    Up s →
    v < 4 →
    portSt s v ≠ 0 →
    nextFrame s v = none →
    (portSt s v = 1 → s.now + 1 < s.aux .drainFrom v + 250000) →
    Runs (.viothFrameSend v) s fun t => t.out.take (s.out.length + 1) = s.out ++ [⟨.vioth, v :: viothWire (fillFrame s v) (anyConsequent s v)⟩]
    ∧ t = overAll (wordsOf (viothWire (fillFrame s v) (anyConsequent s v))) (pushWord v) (s.send .vioth (v :: viothWire (fillFrame s v) (anyConsequent s v)))
    ∧ OnlyEv (fun ix k sb => ix = 0x5000 ∧ 32 + 9 * (v) ≤ k ∧ k < 41 + 9 * (v) ∧ sb = 1 ∨ ix = 0x5100 ∧ k = v ∧ sb ∈ [15, 16]) (fun a p _ => a ∈ [.markTx, .restoring, .rowLen, .rowWord, .rowsTx, .spareMove, .spareRx, .spareTx, .spareWant] ∧ p = v ∨ a ∈ [.bipTx, .laneSpare, .scramTx, .txLevel] ∧ 32 + 9 * (v) ≤ p ∧ p < 41 + 9 * (v)) s t
    ∧ t = { s with objs := t.objs, regs := t.regs, evQueue := t.evQueue, evPending := t.evPending, out := t.out })
  ∧ (∀ (s : State) (v : Nat),
    Up s →
    v < 4 →
    portSt s v = 1 →
    nextFrame s v = none →
    s.aux .drainFrom v + 250000 ≤ s.now + 1 →
    Runs (.viothFrameSend v) s fun t => portSt t v = 0 ∧ t.get 0x5100 v 7 = 0 ∧ t.out = s.out
    ∧ OnlyEv (fun ix k sb => ix = 0x5000 ∧ 32 + 9 * (v) ≤ k ∧ k < 41 + 9 * (v) ∧ sb = 1 ∨ ix = 0x5100 ∧ k = v ∧ sb ∈ [2, 7, 15, 16, 27] ∨ ix = 0x5140 ∧ sb ∈ [3, 5] ∨ ix = 0x51C0 ∧ k = 0 ∧ sb = 4 ∨ ix = 0x5580 ∧ sb ∈ [1, 3, 4, 7] ∨ ix = 0x5590 ∧ sb ∈ [1, 2] ∨ ix = 0x55C0 ∧ sb = 4) (fun a p _ => a ∈ [.bipLast, .bipSec, .deskew, .drainFrom, .farDn, .farRx, .farTx, .farTxRun, .framePos, .framerFail, .goingDn, .linkN, .markCnt, .markOk, .mfRdi, .mfSend, .primer, .rdiClr, .rdiRun, .reachIn, .restoring, .rowLen, .rowsTx, .spareMove, .spareRx, .spareTx, .spareWant, .timClr, .timRun, .vqBytes] ∧ p = v ∨ a ∈ [.blockLock, .laneSpare, .syncRun] ∧ 32 + 9 * (v) ≤ p ∧ p < 41 + 9 * (v) ∨ a ∈ [.featMet, .lvlAbove, .lvlIn]) s t
    ∧ t = { s with objs := t.objs, regs := t.regs, evQueue := t.evQueue, evPending := t.evPending, viothIn := t.viothIn })
  ∧ (∀ (s : State) (v : Nat) (f : VFrame),
    Up s →
    v < 4 →
    portSt s v ≠ 0 →
    nextFrame s v = some f →
    Runs (.viothFrameSend v) s fun t => t.vframes = s.vframes.erase f ∧ t.get 0x5100 v 0x12 = wrapAdd 64 (s.get 0x5100 v 0x12) 1 ∧ t.out.take (s.out.length + 1) = s.out ++ [⟨.vioth, v :: viothWire f (anyConsequent s v)⟩]
    ∧ OnlyEv (fun ix k sb => ix = 0x5000 ∧ 32 + 9 * (v) ≤ k ∧ k < 41 + 9 * (v) ∧ sb = 1 ∨ ix = 0x5100 ∧ k = v ∧ sb ∈ [15, 16] ∨ ix = 0x5100 ∧ k = v ∧ sb = 0x12) (fun a p q => a ∈ [.markTx, .restoring, .rowLen, .rowWord, .rowsTx, .spareMove, .spareRx, .spareTx, .spareWant] ∧ p = v ∨ a ∈ [.bipTx, .laneSpare, .scramTx, .txLevel] ∧ 32 + 9 * (v) ≤ p ∧ p < 41 + 9 * (v) ∨ a = .vqBytes ∧ p = v ∧ q = f.cls) s t
    ∧ t = { s with objs := t.objs, regs := t.regs, evQueue := t.evQueue, evPending := t.evPending, vframes := t.vframes, out := t.out })
  ∧ (∀ (s : State) (v w : Nat),
    let n := s.aux .rowLen v
    n < 7 →
    pushWord v w s = (s.setAux .rowWord v n w).setAux .rowLen v 0 (n + 1))
  ∧ (∀ (s : State) (v w p : Nat),
    s.aux .rowLen v = 7 →
    s.aux .rowsTx v < 16383 →
    p < 8 →
    forerunner s v = true →
    (∀ x ∈ portLanes s v, laneSt s (viothLane v x) = 3 ∧ laneFlag s (viothLane v x) 7 = false) →
    let s1 := s.setAux .rowWord v 7 w
    let payload := lineBytes (scrambleBits (s.aux .scramTx (viothLane v p)) (lineBits (bytesOf 8 (s1.aux .rowWord v p)))).1
    let t := pushWord v w s
    t.aux .rowLen v = 0 ∧ t.aux .rowsTx v = s.aux .rowsTx v + 1 ∧ t.out.length = s.out.length + 8 ∧ t.out[s.out.length + p]? = some ⟨.viothBlock, [v, p, 0, 1] ++ lineBits payload⟩)
  ∧ (∀ (s : State) (v : Nat),
    Up s →
    v < 4 →
    portSt s v ≠ 0 →
    Runs (.multiframeSend v) s fun t => t.aux .mfCount v = wrapAdd 32 (s.aux .mfCount v) 1 ∧ t.vframes.dropLast = s.vframes ∧ (t.vframes.getLast?.map fun f => (f.port, f.order, f.kind, f.payload.take 24)) = some (v, 0, 4, bytesOf 16 (s.get 0x5100 v 4) ++ [1, member s % 64, v, defectByte s v] ++ bytesOf 4 (wrapAdd 32 (s.aux .mfCount v) 1))
    ∧ Only (fun _ _ _ => False) (fun a p _ => a = .mfCount ∧ p = v) s t
    ∧ t = { s with objs := t.objs, regs := t.regs, vframes := t.vframes })
  ∧ (∀ (s : State) (v : Nat) (b : List Nat) (beyond : List (Nat × Nat × Nat)),
    Up s →
    v < 4 →
    3 ≤ portSt s v →
    framer s v = 3 →
    numAt b 16 1 = 1 →
    let differs := s.get 0x5100 v 5 ≠ 0 ∧ numAt b 0 16 ≠ s.get 0x5100 v 5
    Runs (.multiframeReceive v b beyond) s fun t => t.get 0x5100 v 0x0B = numAt b 17 1 % 64 ∧ t.get 0x5100 v 0x0C = numAt b 18 1 % 4 ∧ t.get 0x5100 v 6 = numAt b 0 16 ∧ t.aux .mfSend v = numAt b 24 8 ∧ t.aux .mfArr v = s.now ∧ t.aux .reachIn v = numAt b 48 8 ∧ t.aux .lomBack v = 1
    ∧ t.aux .farDn v = (if bit 1 (numAt b 19 1) = true then s.now + 1 else 0)
    ∧ t.aux .timRun v = (if differs then min 3 (s.aux .timRun v + 1) else 0)
    ∧ t.aux .mfRdi v = (if numAt b 19 1 / 4 % 64 ≠ 0 then min 3 (s.aux .mfRdi v + 1) else 0)
    ∧ t.aux .pathBeyond v (numAt b 17 1 % 64) = 1
    ∧ OnlyEv (fun ix k sb => ix = 0x5100 ∧ k = v ∧ sb ∈ [2, 6, 7, 11, 12, 13] ∨ ix = 0x5140 ∧ sb = 4 ∨ ix = 0x5140 ∧ sb ∈ [3, 5] ∨ ix = 0x51C0 ∧ k = 0 ∧ sb = 4 ∨ ix = 0x5580 ∧ sb ∈ [1, 3, 4, 7] ∨ ix = 0x5590 ∧ sb ∈ [1, 2] ∨ ix = 0x55C0 ∧ sb = 4) (fun a p _ => a ∈ [.farDn, .linkDel, .linkN, .lomBack, .mfArr, .mfRdi, .mfSend, .pathBeyond, .primer, .primerFor, .reachIn, .timClr, .timRun] ∧ p = v ∨ a ∈ [.featMet, .lvlAbove, .lvlIn]) s t
    ∧ t = { s with objs := t.objs, regs := t.regs, evQueue := t.evQueue, evPending := t.evPending })
  ∧ (∀ (s : State) (v : Nat),
    Up s →
    v < 4 →
    framer s v = 3 →
    portSt s v = 4 →
    hasDefect s v 3 = false →
    Runs (.lomTimeout v) s fun t => hasDefect t v 3 = true ∧ portSt t v = 5 ∧ t.aux .lomBack v = 0
    ∧ OnlyEv (fun ix k sb => ix = 0x5100 ∧ k = v ∧ sb ∈ [2, 7] ∨ ix = 0x5140 ∧ sb ∈ [3, 5] ∨ ix = 0x51C0 ∧ k = 0 ∧ sb = 4 ∨ ix = 0x5580 ∧ sb ∈ [1, 3, 4, 7] ∨ ix = 0x5590 ∧ sb ∈ [1, 2] ∨ ix = 0x55C0 ∧ sb = 4) (fun a p _ => a ∈ [.lomBack, .primer, .primerFor] ∧ p = v ∨ a ∈ [.featMet, .lvlAbove, .lvlIn]) s t
    ∧ t = { s with objs := t.objs, regs := t.regs, evQueue := t.evQueue, evPending := t.evPending })
  ∧ (∀ (s : State) (v code : Nat),
    Up s →
    v < 4 →
    ((code = 1 ∧ allLocked s v = true ∧ s.aux .deskew v = 1) ∨ (code = 2 ∧ framer s v = 3) ∨ (code = 3 ∧ s.aux .lomBack v = 1)) →
    hasDefect s v code = true →
    Runs (.defectClearHoldEnd v code) s fun t => hasDefect t v code = false ∧ portSt t v = (if s.get 0x5100 v 7 = 2 ^ (code - 1) ∧ portSt s v = 5 then 4 else portSt s v)
    ∧ OnlyEv (fun ix k sb => ix = 0x5100 ∧ k = v ∧ sb ∈ [2, 7] ∨ ix = 0x5140 ∧ sb ∈ [3, 5] ∨ ix = 0x51C0 ∧ k = 0 ∧ sb = 4 ∨ ix = 0x5580 ∧ sb ∈ [1, 3, 4, 7] ∨ ix = 0x5590 ∧ sb ∈ [1, 2] ∨ ix = 0x55C0 ∧ sb = 4) (fun a p _ => a = .primer ∧ p = v ∨ a ∈ [.featMet, .lvlAbove, .lvlIn]) s t
    ∧ t = { s with objs := t.objs, regs := t.regs, evQueue := t.evQueue, evPending := t.evPending })
  ∧ (∀ (s : State) (v : Nat),
    Up s →
    v < 4 →
    portSt s v = 4 →
    s.get 0x5100 v 9 < s.aux .bipSec v →
    hasDefect s v 6 = false →
    Runs (.degradeSecond v) s fun t => t.aux .bipSec v = 0 ∧ hasDefect t v 6 = true ∧ portSt t v = (if s.get 0x5100 v 0x0A = 1 then 5 else 4)
    ∧ OnlyEv (fun ix k sb => ix = 0x5100 ∧ k = v ∧ sb ∈ [2, 7] ∨ ix = 0x5140 ∧ sb ∈ [3, 5] ∨ ix = 0x51C0 ∧ k = 0 ∧ sb = 4 ∨ ix = 0x5580 ∧ sb ∈ [1, 3, 4, 7] ∨ ix = 0x5590 ∧ sb ∈ [1, 2] ∨ ix = 0x55C0 ∧ sb = 4) (fun a p _ => a ∈ [.bipSec, .primer, .primerFor] ∧ p = v ∨ a ∈ [.featMet, .lvlAbove, .lvlIn]) s t
    ∧ t = { s with objs := t.objs, regs := t.regs, evQueue := t.evQueue, evPending := t.evPending })
  ∧ (∀ (s : State) (v : Nat),
    Up s →
    v < 4 →
    s.aux .primer v ≠ 0 →
    anyConsequent s v = true →
    Runs (.primerFillSend v) s fun t => t.vframes.length = s.vframes.length + ((List.range 64).countP fun m => bit m (s.aux .primerFor v) && (activePort s m).isSome) ∧ t.vframes.take s.vframes.length = s.vframes
    ∧ Only (fun ix _ sb => ix = 0x5100 ∧ sb = 0x16) (fun _ _ _ => False) s t
    ∧ t = { s with objs := t.objs, regs := t.regs, vframes := t.vframes })
  ∧ (∀ (s : State) (v : Nat),
    Up s →
    Runs (.primerTimeExpiry v) s fun t => t = s.setAux .primer v 0 0)
  ∧ (∀ (s : State) (acc : Acc) (m sub value : Nat),
    Up s →
    (sub = 1 ∨ sub = 2) →
    mayWrite acc 0x5140 m sub value s = true →
    s.aux .engVac 4 0 ≠ 0 →
    Runs (.pathWrite acc m sub value) s fun t => t.answer = ⟨0, 0⟩ ∧ t.get 0x5140 m sub = value ∧ t.get 0x5140 m 3 = choosePath t m
    ∧ OnlyEv (fun ix k sb => ix = 0x5140 ∧ ((k = m ∧ sb = sub) ∨ sb = 3 ∨ sb = 5)) (fun _ _ _ => False) s t
    ∧ t = { s with objs := t.objs, regs := t.regs, evQueue := t.evQueue, evPending := t.evPending, answer := t.answer })

/-- Every frame whose fields have the widths of R353 and whose Length is at most 10,240 leaves with a header that fits by R355
(HEC, Length and Length check), and the bytes on the link give back its kind, class, source, destination, hops left, context,
colour, RDI and payload, with the payload CRC right. A payload scrambled by x^58 + x^39 + 1 descrambles to itself from the same
state, a byte string is read from its line bits, and precoded PAM4 levels and Gray pairs give their bits back. -/
def Obligations.ViothHeadersRoundTrip : Prop :=
  (∀ (f : VFrame) (rdi : Bool),
    f.kind < 16 →
    f.cls < 8 →
    f.source < 64 →
    f.dest < 64 →
    f.hops < 64 →
    f.len = f.payload.length →
    f.len ≤ 10240 →
    f.context < 2 ^ 17 →
    f.colour < 4 →
    let w := viothWire f rdi
    let head := ofBytes (w.take 16)
    headerOk head = true ∧ viothIn head (w.drop 16) = ⟨f.kind, f.cls, f.source, f.dest, f.hops, f.context, f.colour, rdi, f.payload, true⟩)
  ∧ (∀ (st : Nat) (l : List Nat),
    st < 2 ^ 58 →
    (∀ b ∈ l, b < 2) →
    descrambleBits st (scrambleBits st l).1 = (l, (scrambleBits st l).2))
  ∧ (∀ (l : List Nat),
    (∀ b ∈ l, b < 256) →
    lineBytes (lineBits l) = l)
  ∧ (∀ (p : Nat) (g : List Nat),
    p < 4 →
    (∀ x ∈ g, x < 4) →
    unprecode p (precode p g) = g)
  ∧ (∀ (a b : Nat),
    a < 2 →
    b < 2 →
    pairBits (bitPairs [a, b]) = [a, b])

/-- The rule, coat, route and domain commands have their effect (R272, R275, R278 to R281, R286, R287): a rule of the standby
slot is written with its owner's bits, a swap makes the standby coat current and the old one draining until no packet carries
it, a copy fills the standby slot, a route is added and deleted with its counts, and a domain is enabled, drained (its packets
in the pipes and their queues and its held fragments discarded and counted at the end) and flushed. -/
def Obligations.CoatAndRouteCommandsComplete : Prop :=
  (∀ (s : State) (acc : Acc) (rule sub value : Nat),
    Up s →
    mayWrite acc 0x4400 rule sub value s = true →
    slotCode s (rule / 65536) = 2 →
    (sub = 2 → field 15 0 value = 0 ∧ bit 518 value = false) →
    (sub = 3 → actionOk value = true ∧ actionOwned s (ownerOf s 8 (rule % 65536)) value = true) →
    let s1 := s.put 0x4400 rule sub value
    Runs (.ruleWrite acc rule sub value) s fun t => t.answer = ⟨0, 0⟩ ∧ t.get 0x4400 rule sub = (if sub = 1 then ruleValue s1 rule else if sub = 2 then ruleMask s1 rule else value)
    ∧ OnlyEv (fun ix k sb => ix = 0x4400 ∧ k = rule ∧ (sb = sub ∨ sb = 1 ∨ sb = 2)) (fun a p q => a = .entryPoison ∧ p = 0x4400 ∧ q = rule) s t
    ∧ t = { s with objs := t.objs, regs := t.regs, evQueue := t.evQueue, evPending := t.evPending, answer := t.answer })
  ∧ (∀ (s : State) (acc : Acc),
    Up s →
    mayWrite acc 0x4480 0 4 1 s = true →
    slotCode s (otherSlot s) = 2 →
    Runs (.coatSwap acc) s fun t => t.answer = ⟨0, 0⟩ ∧ t.get 0x4480 0 1 = wrapAdd 16 (s.get 0x4480 0 1) 1 ∧ t.get 0x4480 0 (2 + otherSlot s) = 0 ∧ t.get 0x4480 0 (2 + coatSlot s) = 1 ∧ t.get 0x4480 0 7 = wrapAdd 64 (s.get 0x4480 0 7) 1 ∧ t.get 0x4480 0 8 = time80 s.now
    ∧ OnlyEv (fun ix k sb => ix = 0x4480 ∧ k = 0 ∧ (1 ≤ sb ∧ sb ≤ 8)) (fun a _ _ => a = .swapAt) s t
    ∧ t = { s with objs := t.objs, regs := t.regs, evQueue := t.evQueue, evPending := t.evPending, answer := t.answer })
  ∧ (∀ (s : State),
    Up s →
    slotCode s (otherSlot s) = 1 →
    oldPackets s = 0 →
    Runs .oldCoatRelease s fun t => t.get 0x4480 0 (2 + otherSlot s) = 2 ∧ t.get 0x4480 0 9 = (s.now - s.aux .swapAt) % 2 ^ 32
    ∧ OnlyEv (fun ix k sb => ix = 0x4480 ∧ k = 0 ∧ (sb = 2 ∨ sb = 3 ∨ sb = 9)) (fun _ _ _ => False) s t
    ∧ t = { s with objs := t.objs, regs := t.regs, evQueue := t.evQueue, evPending := t.evPending })
  ∧ (∀ (s : State) (acc : Acc),
    Up s →
    mayWrite acc 0x4480 0 5 1 s = true →
    slotCode s (otherSlot s) = 2 →
    Store.wf Objects.dflt s.objs = true →
    Runs (.coatCopy acc) s fun t => t.answer = ⟨0, 0⟩ ∧ t.get 0x4480 0 (2 + otherSlot s) = 3 ∧ (∀ e ∈ s.objs, e.1.index = 0x4400 → e.1.inst / 65536 = coatSlot s → e.1.sub ≤ 4 → t.get 0x4400 (65536 * otherSlot s + e.1.inst % 65536) e.1.sub = e.2)
    ∧ Only (fun ix k sb => (ix = 0x4480 ∧ k = 0 ∧ (sb = 5 ∨ sb = 2 + otherSlot s)) ∨ (ix = 0x4400 ∧ k / 65536 = otherSlot s ∧ sb ≤ 5)) (fun _ _ _ => False) s t
    ∧ t = { s with objs := t.objs, regs := t.regs, answer := t.answer })
  ∧ (∀ (s : State),
    Up s →
    slotCode s (otherSlot s) = 3 →
    Runs .coatCopyDone s fun t => t = s.put 0x4480 0 (2 + otherSlot s) 2)
  ∧ (∀ (s : State) (acc : Acc) (v6 : Bool) (table len pfx hop : Nat),
    Up s →
    let family := if v6 then 6 else 4
    mayWrite acc 0x4600 0 1 (routeRecord 1 family table len pfx hop) s = true →
    table < 32 →
    len ≤ addrWidth v6 →
    pfx < 2 ^ addrWidth v6 →
    pfx % 2 ^ (addrWidth v6 - len) = 0 →
    hop < 65536 →
    let r := (⟨v6, table, len, pfx, hop⟩ : Route)
    s.routes.find? (fun x => x.same r) = none →
    s.get 0x4600 0 4 < 524288 →
    s.get 0x4600 0 3 < 1048576 →
    Runs (.routeAdd acc family table len pfx hop) s fun t => t.answer = ⟨0, 0⟩ ∧ t.routes = s.routes ++ [r] ∧ t.get 0x4600 0 2 = 0 ∧ t.get 0x4600 0 (if v6 then 4 else 3) = s.get 0x4600 0 (if v6 then 4 else 3) + 1
    ∧ OnlyEv (fun ix k sb => (ix = 0x4600 ∧ k = 0 ∧ (sb = 2 ∨ sb = 3 ∨ sb = 4)) ∨ (ix = 0x4601 ∧ k = table ∧ (sb = 1 ∨ sb = 2)) ∨ (ix = 0x4700 ∧ k = hop ∧ sb = 3)) (fun a p q => a = .entryPoison ∧ p = 0x4600 ∧ q = table) s t
    ∧ t = { s with objs := t.objs, regs := t.regs, evQueue := t.evQueue, evPending := t.evPending, routes := t.routes, answer := t.answer })
  ∧ (∀ (s : State) (acc : Acc) (v6 : Bool) (table len pfx : Nat),
    Up s →
    let family := if v6 then 6 else 4
    mayWrite acc 0x4600 0 1 (routeRecord 2 family table len pfx 0) s = true →
    table < 32 →
    len ≤ addrWidth v6 →
    pfx < 2 ^ addrWidth v6 →
    pfx % 2 ^ (addrWidth v6 - len) = 0 →
    let r := (⟨v6, table, len, pfx, 0⟩ : Route)
    (s.routes.find? (fun x => x.same r)).isSome = true →
    let old := (s.routes.find? (fun x => x.same r)).getD r
    let cnt := if v6 then 4 else 3
    Runs (.routeDelete acc family table len pfx) s fun t => t.answer = ⟨0, 0⟩ ∧ t.routes = s.routes.filter (fun x => !x.same r) ∧ t.get 0x4600 0 2 = 0 ∧ t.get 0x4600 0 cnt = s.get 0x4600 0 cnt - 1 ∧ t.get 0x4700 old.hop 3 = s.get 0x4700 old.hop 3 - 1
    ∧ OnlyEv (fun ix k sb => (ix = 0x4600 ∧ k = 0 ∧ sb ∈ [2, cnt]) ∨ (ix = 0x4601 ∧ k = old.table ∧ (sb = 1 ∨ sb = 2)) ∨ (ix = 0x4700 ∧ k = old.hop ∧ sb = 3)) (fun a p q => a = .entryPoison ∧ p = 0x4600 ∧ q = table) s t
    ∧ t = { s with objs := t.objs, regs := t.regs, evQueue := t.evQueue, evPending := t.evPending, routes := t.routes, answer := t.answer })
  ∧ (∀ (s : State) (acc : Acc) (domain : Nat),
    Up s →
    mayWrite acc 0x4900 domain 1 1 s = true →
    s.get 0x4900 domain 2 = 0 →
    Runs (.domainEnable acc domain) s fun t => t.answer = ⟨0, 0⟩ ∧ t.get 0x4900 domain 2 = 2
    ∧ Only (fun ix k sb => ix = 0x4900 ∧ k = domain ∧ sb = 2 ∨ ix = 0x4900 ∧ k = domain ∧ sb = 1) (fun _ _ _ => False) s t
    ∧ t = { s with objs := t.objs, regs := t.regs, answer := t.answer })
  ∧ (∀ (s : State) (acc : Acc) (domain : Nat),
    Up s →
    mayWrite acc 0x4900 domain 1 0 s = true →
    s.get 0x4900 domain 2 = 2 →
    Runs (.domainDrain acc domain) s fun t => t.answer = ⟨0, 0⟩ ∧ t.get 0x4900 domain 2 = (if domainWork s domain = 0 then 0 else 1)
    ∧ OnlyEv (fun ix k sb => ix = 0x4900 ∧ k = domain ∧ sb ∈ [2, 0x11] ∨ ix = 0x4480 ∧ k = 0 ∧ sb = 6 ∨ ix = 0x4500 ∧ k = 0 ∧ sb = 5 ∨ ix = 0x4800 ∧ sb = 9 ∨ ix ∈ [0x4880, 0x4890] ∧ sb = 3 ∨ ix = 0x4900 ∧ k = domain ∧ sb = 12 ∨ ix = 0x4B10 ∧ k = 0 ∧ sb ∈ [1, 2] ∨ ix = 0x4900 ∧ k = domain ∧ sb = 1) (fun a p _ => a = .macEntry ∨ a = .entryPoison ∧ p = 0x4B00) s t
    ∧ t = { s with objs := t.objs, regs := t.regs, evQueue := t.evQueue, evPending := t.evPending, answer := t.answer, held := t.held, pipeIn := t.pipeIn, recirc := t.recirc })
  ∧ (∀ (s : State) (domain : Nat),
    Up s →
    s.get 0x4900 domain 2 = 1 →
    Runs (.domainDrainEnd domain) s fun t => t.get 0x4900 domain 2 = 0 ∧ t.held = s.held.filter (fun x => x.key.domain != domain) ∧ t.recirc = s.recirc.filter (fun x => !inDomain s domain x) ∧ t.pipeIn = s.pipeIn.filter (fun x => !inDomain s domain x) ∧ t.get 0x4900 domain 0x11 = wrapAdd 64 (s.get 0x4900 domain 0x11) (domainWork s domain)
    ∧ OnlyEv (fun ix k sb => ix = 0x4900 ∧ k = domain ∧ sb ∈ [2, 0x11] ∨ ix = 0x4480 ∧ k = 0 ∧ sb = 6 ∨ ix = 0x4500 ∧ k = 0 ∧ sb = 5 ∨ ix = 0x4800 ∧ sb = 9 ∨ ix ∈ [0x4880, 0x4890] ∧ sb = 3 ∨ ix = 0x4900 ∧ k = domain ∧ sb = 12 ∨ ix = 0x4B10 ∧ k = 0 ∧ sb ∈ [1, 2]) (fun a p _ => a = .macEntry ∨ a = .entryPoison ∧ p = 0x4B00) s t
    ∧ t = { s with objs := t.objs, regs := t.regs, evQueue := t.evQueue, evPending := t.evPending, held := t.held, pipeIn := t.pipeIn, recirc := t.recirc })
  ∧ (∀ (s : State) (acc : Acc) (domain : Nat),
    Up s →
    mayWrite acc 0x4900 domain 0x0B 1 s = true →
    Store.wf Aux.dflt s.regs = true →
    Runs (.domainFlush acc domain) s fun t => t.answer = ⟨0, 0⟩ ∧ (∀ x ∈ macList s, macAt t x = (if macDomain (macAt s x) = domain ∧ macType (macAt s x) = 0 then 0 else macAt s x))
    ∧ OnlyEv (fun ix k sb => ix = 0x4800 ∧ sb = 9 ∨ ix ∈ [0x4880, 0x4890] ∧ sb = 3 ∨ ix = 0x4900 ∧ k = domain ∧ sb = 12 ∨ ix = 0x4B10 ∧ k = 0 ∧ sb ∈ [1, 2] ∨ ix = 0x4900 ∧ k = domain ∧ sb = 11) (fun a p _ => a = .macEntry ∨ a = .entryPoison ∧ p = 0x4B00) s t
    ∧ t = { s with objs := t.objs, regs := t.regs, evQueue := t.evQueue, evPending := t.evPending, answer := t.answer })

/-- The MAC and pipe commands have their effect (R261, R264, R267, R283, R285, R289 to R298): entries are added at their place
and deleted, the salt is written, a request is learned at a free place, an aging visit rejuvenates a seen entry and removes an
aged one; a packet passes its stages to the hand-off, waits in the input queue of a busy pipe or is dropped and counted when
2,048 wait there, an incomplete first pass waits for the second, and held fragments and stored decisions leave at their time. -/
def Obligations.MacAndPipeCommandsComplete : Prop :=
  (∀ (s : State) (acc : Acc) (domain mac dest : Nat) (pl : Nat × Nat),
    Up s →
    mayWrite acc 0x4B00 0 1 (entryRecord 1 domain mac dest) s = true →
    (acc.role = .operator ∨ acc.role = .owner) →
    domain < 4096 →
    mac < 2 ^ 48 →
    dest < 2 ^ 18 →
    destOk dest = true →
    macFind s domain mac = none →
    (macPlaces s domain mac).find? (fun q => !macValid (macAt s q)) = some pl →
    Runs (.macEntryAddUser acc domain mac dest) s fun t => t.answer = ⟨0, 0⟩ ∧ t.aux .macEntry pl.1 pl.2 = newEntry s 1 domain mac dest ∧ t.get 0x4B00 0 2 = 0 ∧ t.get 0x4B10 0 1 = s.get 0x4B10 0 1 + 1 ∧ t.get 0x4B10 0 3 = s.get 0x4B10 0 3 + 1
    ∧ OnlyEv (fun ix k sb => ix = 0x4B00 ∧ k = 0 ∧ sb = 2 ∨ ix = 0x4B10 ∧ k = 0 ∧ sb ∈ [1, 3]) (fun a p q => a = .macEntry ∧ p = pl.1 ∧ q = pl.2 ∨ a = .entryPoison ∧ p = 0x4B00 ∧ q = 4 * pl.1 + pl.2) s t
    ∧ t = { s with objs := t.objs, regs := t.regs, evQueue := t.evQueue, evPending := t.evPending, answer := t.answer })
  ∧ (∀ (s : State) (acc : Acc) (domain mac dest : Nat) (pl : Nat × Nat),
    Up s →
    mayWrite acc 0x4B00 0 1 (entryRecord 2 domain mac dest) s = true →
    (acc.role = .operator ∨ acc.role = .owner) →
    domain < 4096 →
    mac < 2 ^ 48 →
    dest < 2 ^ 18 →
    destOk dest = true →
    macFind s domain mac = none →
    (macPlaces s domain mac).find? (fun q => !macValid (macAt s q)) = some pl →
    Runs (.macEntryAddStatic acc domain mac dest) s fun t => t.answer = ⟨0, 0⟩ ∧ t.aux .macEntry pl.1 pl.2 = newEntry s 2 domain mac dest ∧ t.get 0x4B00 0 2 = 0 ∧ t.get 0x4B10 0 1 = s.get 0x4B10 0 1 + 1 ∧ t.get 0x4B10 0 4 = s.get 0x4B10 0 4 + 1
    ∧ OnlyEv (fun ix k sb => ix = 0x4B00 ∧ k = 0 ∧ sb = 2 ∨ ix = 0x4B10 ∧ k = 0 ∧ sb ∈ [1, 4]) (fun a p q => a = .macEntry ∧ p = pl.1 ∧ q = pl.2 ∨ a = .entryPoison ∧ p = 0x4B00 ∧ q = 4 * pl.1 + pl.2) s t
    ∧ t = { s with objs := t.objs, regs := t.regs, evQueue := t.evQueue, evPending := t.evPending, answer := t.answer })
  ∧ (∀ (s : State) (acc : Acc) (domain mac dest : Nat) (pl : Nat × Nat),
    Up s →
    mayWrite acc 0x4B00 0 1 (entryRecord 1 domain mac dest) s = true →
    (acc.role = .operator ∨ acc.role = .owner) →
    domain < 4096 →
    mac < 2 ^ 48 →
    dest < 2 ^ 18 →
    destOk dest = true →
    macFind s domain mac = some pl →
    Runs (.macEntryAddUser acc domain mac dest) s fun t => t.answer = ⟨0, 0⟩ ∧ t.aux .macEntry pl.1 pl.2 = newEntry s 1 domain mac dest ∧ t.get 0x4B00 0 2 = 0
    ∧ OnlyEv (fun ix k sb => ix = 0x4B00 ∧ k = 0 ∧ sb = 2 ∨ ix = 0x4800 ∧ k = macDest (macAt s pl) % 131072 ∧ sb = 9 ∨ ix ∈ [0x4880, 0x4890] ∧ sb = 3 ∨ ix = 0x4900 ∧ k = macDomain (macAt s pl) ∧ sb = 12 ∨ ix = 0x4B10 ∧ k = 0 ∧ 1 ≤ sb ∧ sb ≤ 5) (fun a p q => a = .macEntry ∧ p = pl.1 ∧ q = pl.2 ∨ a = .entryPoison ∧ p = 0x4B00 ∧ q = 4 * pl.1 + pl.2) s t
    ∧ t = { s with objs := t.objs, regs := t.regs, evQueue := t.evQueue, evPending := t.evPending, answer := t.answer })
  ∧ (∀ (s : State) (acc : Acc) (domain mac dest : Nat) (pl : Nat × Nat),
    Up s →
    mayWrite acc 0x4B00 0 1 (entryRecord 2 domain mac dest) s = true →
    (acc.role = .operator ∨ acc.role = .owner) →
    domain < 4096 →
    mac < 2 ^ 48 →
    dest < 2 ^ 18 →
    destOk dest = true →
    macFind s domain mac = some pl →
    Runs (.macEntryAddStatic acc domain mac dest) s fun t => t.answer = ⟨0, 0⟩ ∧ t.aux .macEntry pl.1 pl.2 = newEntry s 2 domain mac dest ∧ t.get 0x4B00 0 2 = 0
    ∧ OnlyEv (fun ix k sb => ix = 0x4B00 ∧ k = 0 ∧ sb = 2 ∨ ix = 0x4800 ∧ k = macDest (macAt s pl) % 131072 ∧ sb = 9 ∨ ix ∈ [0x4880, 0x4890] ∧ sb = 3 ∨ ix = 0x4900 ∧ k = macDomain (macAt s pl) ∧ sb = 12 ∨ ix = 0x4B10 ∧ k = 0 ∧ 1 ≤ sb ∧ sb ≤ 5) (fun a p q => a = .macEntry ∧ p = pl.1 ∧ q = pl.2 ∨ a = .entryPoison ∧ p = 0x4B00 ∧ q = 4 * pl.1 + pl.2) s t
    ∧ t = { s with objs := t.objs, regs := t.regs, evQueue := t.evQueue, evPending := t.evPending, answer := t.answer })
  ∧ (∀ (s : State) (acc : Acc) (domain mac : Nat) (pl : Nat × Nat),
    Up s →
    mayWrite acc 0x4B00 0 1 (entryRecord 3 domain mac 0) s = true →
    (acc.role = .operator ∨ acc.role = .owner) →
    domain < 4096 →
    mac < 2 ^ 48 →
    macFind s domain mac = some pl →
    Runs (.macEntryDelete acc domain mac) s fun t => t.answer = ⟨0, 0⟩ ∧ t.aux .macEntry pl.1 pl.2 = 0 ∧ t.get 0x4B00 0 2 = 0
    ∧ OnlyEv (fun ix k sb => ix = 0x4B00 ∧ k = 0 ∧ sb = 2 ∨ ix = 0x4800 ∧ k = macDest (macAt s pl) % 131072 ∧ sb = 9 ∨ ix ∈ [0x4880, 0x4890] ∧ sb = 3 ∨ ix = 0x4900 ∧ k = macDomain (macAt s pl) ∧ sb = 12 ∨ ix = 0x4B10 ∧ k = 0 ∧ 1 ≤ sb ∧ sb ≤ 5) (fun a p q => a = .macEntry ∧ p = pl.1 ∧ q = pl.2 ∨ a = .entryPoison ∧ p = 0x4B00 ∧ q = 4 * pl.1 + pl.2) s t
    ∧ t = { s with objs := t.objs, regs := t.regs, evQueue := t.evQueue, evPending := t.evPending, answer := t.answer })
  ∧ (∀ (s : State) (acc : Acc) (value : Nat),
    Up s →
    mayWrite acc 0x4B10 0 0x0A value s = true →
    Runs (.saltWriteRebuild acc value) s fun t => t.answer = ⟨0, 0⟩ ∧ t.get 0x4B10 0 0x0A = value ∧ (macList s = [] → t.regs = s.regs)
    ∧ OnlyEv (fun ix k sb => ix = 0x4B10 ∧ k = 0 ∧ 1 ≤ sb ∧ sb ≤ 10 ∨ ix = 0x4B00 ∧ k = 0 ∧ sb ∈ [3, 4] ∨ ix = 0x4800 ∧ sb = 9 ∨ ix ∈ [0x4880, 0x4890] ∧ sb = 3 ∨ ix = 0x4900 ∧ sb = 12) (fun a _ _ => a = .macEntry) s t
    ∧ t = { s with objs := t.objs, regs := t.regs, evQueue := t.evQueue, evPending := t.evPending, answer := t.answer })
  ∧ (∀ (s : State) (acc : Acc) (value : Nat) (pl : Nat × Nat),
    Up s →
    mayWrite acc 0x4B10 0 0x0A value s = true →
    Store.wf Aux.dflt s.regs = true →
    macList s = [pl] →
    let e := macAt s pl
    let new := (macPlaces (s.put 0x4B10 0 0x0A value) (macDomain e) (macAddr e)).headD (0, 0)
    Runs (.saltWriteRebuild acc value) s fun t => t.get 0x4B10 0 0x0A = value ∧ macAt t new = e ∧ (new ≠ pl → macAt t pl = 0)
    ∧ Only (fun ix k sb => ix = 0x4B10 ∧ k = 0 ∧ sb = 0x0A) (fun a p q => a = .macEntry ∧ (p = pl.1 ∧ q = pl.2 ∨ p = new.1 ∧ q = new.2)) s t
    ∧ t = { s with objs := t.objs, regs := t.regs, answer := t.answer })
  ∧ (∀ (s : State) (engine : Nat) (r : LearnReq) (rest : List LearnReq) (pl : Nat × Nat),
    Up s →
    engine < 6 →
    (carrierOf s (192 + engine)).isSome = true →
    takeLearn engine s.learns = some (r, rest) →
    s.get 0x4900 r.domain 2 = 2 →
    macFind s r.domain r.mac = none →
    limitAt s r.dest = none →
    (macPlaces s r.domain r.mac).find? (fun q => !macValid (macAt s q)) = some pl →
    Runs (.macLearn engine) s fun t => t.learns = rest ∧ t.aux .macEntry pl.1 pl.2 = newEntry s 0 r.domain r.mac r.dest ∧ t.get 0x4B10 0 1 = s.get 0x4B10 0 1 + 1 ∧ t.get 0x4900 r.domain 0x0C = s.get 0x4900 r.domain 0x0C + 1
    ∧ OnlyEv (fun ix k sb => ix = 0x4800 ∧ k = r.dest % 131072 ∧ sb = 9 ∨ ix ∈ [0x4880, 0x4890] ∧ sb = 3 ∨ ix = 0x4900 ∧ k = r.domain ∧ sb = 12 ∨ ix = 0x4B10 ∧ k = 0 ∧ sb ∈ [1, 2]) (fun a p q => a = .macEntry ∧ p = pl.1 ∧ q = pl.2 ∨ a = .entryPoison ∧ p = 0x4B00 ∧ q = 4 * pl.1 + pl.2) s t
    ∧ t = { s with objs := t.objs, regs := t.regs, evQueue := t.evQueue, evPending := t.evPending, learns := t.learns })
  ∧ (∀ (s : State) (engine : Nat),
    Up s →
    engine < 6 →
    ((carrierOf s (192 + engine)).isSome = false ∨ takeLearn engine s.learns = none) →
    Runs (.macLearn engine) s fun t => t = s)
  ∧ (∀ (s : State),
    Up s →
    Store.wf Aux.dflt s.regs = true →
    Runs .agingVisit s fun t => (∀ x ∈ macList s, (macType (macAt s x) = 0 → bit 14 (macAt s x) = true → macAge (macAt t x) = 0 ∧ bit 14 (macAt t x) = false ∧ macValid (macAt t x) = true)
    ∧ (macType (macAt s x) = 0 → bit 14 (macAt s x) = false → (if s.get 0x4900 (macDomain (macAt s x)) 0x0A ≤ macAge (macAt s x) + 1 then macAt t x = 0 else macAge (macAt t x) = (macAge (macAt s x) + 1) % 1024))
    ∧ (macType (macAt s x) ≠ 0 → macAt t x = macAt s x ∨ macAt t x = putField 15 15 0 (macAt s x)))
    ∧ OnlyEv (fun ix k sb => ix = 0x4800 ∧ sb = 9 ∨ ix ∈ [0x4880, 0x4890] ∧ sb = 3 ∨ ix = 0x4900 ∧ sb = 12 ∨ ix = 0x4B10 ∧ k = 0 ∧ sb ∈ [1, 2]) (fun a p _ => a = .macEntry ∨ a = .entryPoison ∧ p = 0x4B00) s t
    ∧ t = { s with objs := t.objs, regs := t.regs, evQueue := t.evQueue, evPending := t.evPending })
  ∧ (∀ (s : State) (up : Bool) (port xgem : Nat) (bytes : List Nat) (picks : List Nat) (f d c : Nat),
    Up s →
    up = true →
    port < s.trees →
    s.islandUp 14 = true →
    let pr := parse (s.get 0x4490 0 2) 256 bytes
    let h := flowHash (s.get 0x4490 0 1) pr
    carrierPipe s (pipeOf h) h = some c →
    pr.more = false →
    pr.malformed = false →
    pr.incomplete = false →
    pr.later = false →
    pr.first = false →
    let s1 := s.bump 0x4491 c 1
    flowOfPort s1 port xgem = some f →
    s.get 0x4800 f 4 = d →
    d < 4096 →
    s.get 0x4900 d 2 = 2 →
    s.get 0x4900 d 3 = 1 →
    let m := (⟨⟨true, port, xgem, bytes, pipeOf h, c, h, s.get 0x4480 0 1, drainingDomains s⟩, pr, f, d, false⟩ : Meet)
    let found := lookups m s1
    found.1.isSome = true →
    pipeQueue s c = [] →
    (s.recirc.any fun y => y.carrier == c) = false →
    let decided := classify m (found.1.getD (bareFate [] false 0 none)) found.2
    Runs (.packetIngress up port xgem bytes false [picks] [] []) s fun t => t = handOff m (settle decided.2 m decided.1) picks decided.2)
  ∧ (∀ (s : State) (up : Bool) (port xgem : Nat) (bytes : List Nat) (picks : List Nat) (c : Nat),
    Up s →
    (port < (if up then s.trees else 32)) →
    s.islandUp 14 = true →
    let pr := parse (s.get 0x4490 0 2) 256 bytes
    let h := flowHash (s.get 0x4490 0 1) pr
    carrierPipe s (pipeOf h) h = some c →
    pr.more = true →
    pr.malformed = false →
    pipeQueue s c = [] →
    (s.recirc.any fun y => y.carrier == c) = false →
    Runs (.packetIngress up port xgem bytes false [picks] [] []) s fun t => t.recirc = s.recirc ++ [⟨up, port, xgem, bytes, pipeOf h, c, h, s.get 0x4480 0 1, drainingDomains s⟩] ∧ t.get 0x4491 c 1 = wrapAdd 64 (s.get 0x4491 c 1) 1 ∧ t.get 0x4491 c 3 = wrapAdd 64 (s.get 0x4491 c 3) 1
    ∧ Only (fun ix k sb => ix = 0x4491 ∧ k = c ∧ (sb = 1 ∨ sb = 3)) (fun _ _ _ => False) s t
    ∧ t = { s with objs := t.objs, regs := t.regs, recirc := t.recirc })
  ∧ (∀ (s : State) (up : Bool) (port xgem : Nat) (bytes : List Nat) (ps : List (List Nat)) (ws : List (List MemWrite)) (os : List (List Poison)) (c : Nat),
    Up s →
    (port < (if up then s.trees else 32)) →
    s.islandUp 14 = true →
    let h := flowHash (s.get 0x4490 0 1) (parse (s.get 0x4490 0 2) 256 bytes)
    carrierPipe s (pipeOf h) h = some c →
    (pipeQueue s c).length < 2048 →
    Runs (.packetIngress up port xgem bytes true ps ws os) s fun t => t.pipeIn = s.pipeIn ++ [⟨up, port, xgem, bytes, pipeOf h, c, h, s.get 0x4480 0 1, drainingDomains s⟩] ∧ t.get 0x4491 c 1 = wrapAdd 64 (s.get 0x4491 c 1) 1
    ∧ Only (fun ix k sb => ix = 0x4491 ∧ k = c ∧ sb = 1) (fun _ _ _ => False) s t
    ∧ t = { s with objs := t.objs, regs := t.regs, pipeIn := t.pipeIn })
  ∧ (∀ (s : State) (up : Bool) (port xgem : Nat) (bytes : List Nat) (wait : Bool) (ps : List (List Nat)) (ws : List (List MemWrite)) (os : List (List Poison)) (c : Nat),
    Up s →
    (port < (if up then s.trees else 32)) →
    s.islandUp 14 = true →
    let h := flowHash (s.get 0x4490 0 1) (parse (s.get 0x4490 0 2) 256 bytes)
    let pipe := carrierPipe s (pipeOf h) h
    c = pipe.getD (pipeOf h) →
    (pipe = none ∨ 2048 ≤ (pipeQueue s c).length) →
    Runs (.packetIngress up port xgem bytes wait ps ws os) s fun t => t.get 0x4491 c 2 = wrapAdd 64 (s.get 0x4491 c 2) 1 ∧ t.get 0x4491 c 1 = s.get 0x4491 c 1
    ∧ OnlyEv (fun ix k sb => ix = 0x4491 ∧ k = c ∧ sb = 2) (fun _ _ _ => False) s t
    ∧ t = { s with objs := t.objs, regs := t.regs, evQueue := t.evQueue, evPending := t.evPending, recent := t.recent })
  ∧ (∀ (s : State) (pipe : Nat) (picks : List Nat) (x : InPkt),
    Up s →
    s.recirc.find? (fun y => y.carrier == pipe) = some x →
    x.coat = s.get 0x4480 0 1 →
    let s1 := { s with recirc := s.recirc.erase x }
    pipeQueue s pipe = [] →
    Runs (.packetRecirculate pipe [picks] [] []) s fun t => t = pipeStages (meetOf s1 x 0) picks s1 ∧ t.recirc = s.recirc.erase x)
  ∧ (∀ (s : State) (pipe : Nat) (ps : List (List Nat)) (ws : List (List MemWrite)) (os : List (List Poison)),
    Up s →
    (s.recirc.any fun y => y.carrier == pipe) = false →
    Runs (.packetRecirculate pipe ps ws os) s fun t => t = s)
  ∧ (∀ (s : State) (entry : Nat) (picks : List Nat) (x : HeldFrag),
    Up s →
    s.held[entry]? = some x →
    let s1 := ({ s with held := s.held.eraseIdx entry } : State).put 0x4500 0 5 (s.held.eraseIdx entry).length
    Runs (.fragmentHoldExpiry entry picks []) s fun t => t = unmatched true (meetOf s1 x.pkt x.key.domain) picks s1 ∧ t.held = s.held.eraseIdx entry ∧ t.get 0x4500 0 5 = s.held.length - 1 ∧ t.get 0x4500 0 0x0A = wrapAdd 64 (s.get 0x4500 0 0x0A) 1)
  ∧ (∀ (s : State) (entry : Nat),
    Up s →
    Runs (.fragmentLifetimeExpiry entry) s fun t => t.frags = s.frags.eraseIdx entry ∧ t.get 0x4500 0 1 = (s.frags.eraseIdx entry).length
    ∧ OnlyEv (fun ix k sb => ix = 0x4500 ∧ k = 0 ∧ sb = 1) (fun _ _ _ => False) s t
    ∧ t = { s with objs := t.objs, regs := t.regs, evQueue := t.evQueue, evPending := t.evPending, frags := t.frags })

/-- The grant commands have their effect (R162, R165, R166, R171 to R174, R191, R195): an entry that fits is staged in its map
under its terminal's profile, a beat with what it puts out of its place, and one that does not fit is refused with its cause,
causes 2 and 4 for the rest of its map; a seal by the deadline puts the staged map in force for the next frame without the
grants of draining terminals and a late one is counted; a deadline without a seal is a hold, an ONU-ID enters and leaves the
mute set, and the input cut-off of a tree that an engine serves closes the map's inputs and runs the pass, which is due a
keep-alive grant for each DARK terminal in its keep-alive period (R147). -/
def Obligations.GrantMapCommandsComplete : Prop :=
  (∀ (s : State) (tree lane frame unit : Nat) (entry : MapEntry) (es : List Grant),
    Up s →
    tree < s.trees →
    lane < 2 →
    s.aux .engVac 0 tree = 1 →
    let g := (mapOf s.staged tree lane frame).getD ⟨tree, lane, frame, []⟩
    entry.kind ≠ 1 →
    (match placeEntry s tree lane frame g.entries (withProfile s tree entry) with | .ok (l : List Grant) => l == es | .error _ => false) = true →
    Runs (.mapEntryWrite tree lane frame (stageClaim s 0 tree) unit entry) s fun t => t = { s with staged := setMap { g with entries := es } s.staged })
  ∧ (∀ (s : State) (tree lane frame unit : Nat) (entry : MapEntry) (es : List Grant),
    Up s →
    tree < s.trees →
    lane < 2 →
    s.aux .engVac 0 tree = 1 →
    entry.kind = 1 →
    let g := (mapOf s.staged tree lane frame).getD ⟨tree, lane, frame, []⟩
    (match placeEntry s tree lane frame g.entries entry with | .ok (l : List Grant) => l == es | .error _ => false) = true →
    Runs (.mapEntryWrite tree lane frame (stageClaim s 0 tree) unit entry) s fun t => t = giveWay tree lane frame ⟨entry.opens, entry.closes⟩ { s with staged := setMap { g with entries := es } s.staged })
  ∧ (∀ (s : State) (tree lane frame unit cause : Nat) (entry : MapEntry),
    Up s →
    tree < s.trees →
    lane < 2 →
    s.aux .engVac 0 tree = 1 →
    let g := (mapOf s.staged tree lane frame).getD ⟨tree, lane, frame, []⟩
    cause ≠ 2 →
    cause ≠ 4 →
    (match placeEntry s tree lane frame g.entries (withProfile s tree entry) with | .ok _ => false | .error c => c == cause) = true →
    Runs (.mapEntryWrite tree lane frame (stageClaim s 0 tree) unit entry) s fun t => t.staged = s.staged ∧ t.get 0x3600 tree 0x0B = wrapAdd 64 (s.get 0x3600 tree 0x0B) 1 ∧ t.get 0x3600 tree 0x12 = cause
    ∧ OnlyEv (fun ix k sb => ix = 0x3600 ∧ k = tree ∧ (sb = 0x0B ∨ sb = 0x12)) (fun _ _ _ => False) s t
    ∧ t = { s with objs := t.objs, regs := t.regs, evQueue := t.evQueue, evPending := t.evPending, recent := t.recent })
  ∧ (∀ (s : State) (tree lane frame unit cause : Nat) (entry : MapEntry),
    Up s →
    tree < s.trees →
    lane < 2 →
    s.aux .engVac 0 tree = 1 →
    let g := (mapOf s.staged tree lane frame).getD ⟨tree, lane, frame, []⟩
    (cause = 2 ∨ cause = 4) →
    (match placeEntry s tree lane frame g.entries (withProfile s tree entry) with | .ok _ => false | .error c => c == cause) = true →
    (s.aux .mapWhole tree lane = 0 ∨ frameAdd (s.aux .mapWhole tree lane - 1) 1 ≠ frame) →
    Runs (.mapEntryWrite tree lane frame (stageClaim s 0 tree) unit entry) s fun t => t.staged = s.staged ∧ t.get 0x3600 tree 0x0B = wrapAdd 64 (s.get 0x3600 tree 0x0B) 1 ∧ t.get 0x3600 tree 0x12 = cause ∧ t.aux .mapStop tree lane = (frame + 1) * 8 + cause
    ∧ OnlyEv (fun ix k sb => ix = 0x3600 ∧ k = tree ∧ (sb = 0x0B ∨ sb = 0x12)) (fun a p q => a ∈ [.mapStop, .mapWhole] ∧ p = tree ∧ q = lane) s t
    ∧ t = { s with objs := t.objs, regs := t.regs, evQueue := t.evQueue, evPending := t.evPending, recent := t.recent })
  ∧ (∀ (s : State) (tree lane count unit : Nat),
    Up s →
    tree < s.trees →
    lane < 2 →
    s.aux .engVac 0 tree = 1 →
    let next := frameAdd (frameNow s tree) 1
    s.aux .holdFor tree lane ≠ next + 1 →
    (s.now : Int) ≤ frameStart s tree + 117000 →
    let g := (mapOf s.staged tree lane next).getD ⟨tree, lane, next, []⟩
    g.entries.length = count →
    let g' := ({ g with entries := g.entries.filter fun e => !drains s tree e } : GrantMap)
    let role := tree / 4 * 16 + tree % 4
    (carrierOf s role = none ∨ s.aux .safePoint ((carrierOf s role).getD 0) ≠ 1) →
    s.aux .safePoint role ≠ 2 →
    Runs (.mapSeal tree lane (next % 65536) count (stageClaim s 0 tree) unit) s fun t => t.sealedMaps = setMap g' s.sealedMaps ∧ mapOf t.staged tree lane next = none
    ∧ OnlyEv (fun ix k sb => ix = 0x3400 ∧ sb ∈ [10, 12, 13] ∨ ix = 0x3820 ∧ k % 96 = 2 * tree + lane ∧ sb ∈ [5, 6, 7] ∨ ix = 0x3700 ∧ lane = 0 ∧ sb ∈ [1, 8]) (fun a p _ => a ∈ [.coopDrain, .coopPend, .dbruAt, .ploamWant, .ploamuAt] ∨ a = .roomless ∧ p = tree) s t
    ∧ t = { s with objs := t.objs, regs := t.regs, evQueue := t.evQueue, evPending := t.evPending, sealedMaps := t.sealedMaps, staged := t.staged })
  ∧ (∀ (s : State) (tree lane count unit : Nat),
    Up s →
    tree < s.trees →
    lane < 2 →
    s.aux .engVac 0 tree = 1 →
    let next := frameAdd (frameNow s tree) 1
    frameStart s tree + 117000 < (s.now : Int) →
    Runs (.mapSeal tree lane (next % 65536) count (stageClaim s 0 tree) unit) s fun t => t.get 0x3600 tree 0x0C = wrapAdd 64 (s.get 0x3600 tree 0x0C) 1 ∧ t.get 0x1200 1539 3 = wrapAdd 64 (s.get 0x1200 1539 3) 1
    ∧ OnlyEv (fun ix k sb => ix = 0x3600 ∧ k = tree ∧ sb = 0x0C) (fun _ _ _ => False) s t
    ∧ t = { s with objs := t.objs, regs := t.regs, evQueue := t.evQueue, evPending := t.evPending })
  ∧ (∀ (s : State) (tree lane : Nat),
    Up s →
    tree < s.trees →
    lane < 2 →
    mapsRun s tree lane = true →
    let next := frameAdd (frameNow s tree) 1
    mapOf s.sealedMaps tree lane next = none →
    s.aux .holdFor tree lane ≠ next + 1 →
    Runs (.sealDeadline tree lane) s fun t => t.aux .holdFor tree lane = next + 1 ∧ t.aux .holdRun tree lane = s.aux .holdRun tree lane + 1 ∧ t.aux .holdLost tree lane = s.aux .holdLost tree lane + 1
    ∧ Only (fun _ _ _ => False) (fun a p q => (a = .holdFor ∨ a = .holdRun ∨ a = .holdLost) ∧ p = tree ∧ q = lane) s t
    ∧ t = { s with objs := t.objs, regs := t.regs })
  ∧ (∀ (s : State) (tree onu : Nat) (set : Bool),
    Up s →
    tree < s.trees →
    onu < 1024 →
    Runs (.muteSetChange tree onu set) s fun t => isMuted t tree onu = set ∧ (t.muted.filter fun x => x != (tree, onu)) = (s.muted.filter fun x => x != (tree, onu)) ∧ t.get 0x3600 tree 0x15 = (t.muted.countP fun x => x.1 == tree)
    ∧ Only (fun ix k sb => ix = 0x3600 ∧ k = tree ∧ sb = 0x15) (fun _ _ _ => False) s t
    ∧ t = { s with objs := t.objs, regs := t.regs, muted := t.muted })
  ∧ (∀ (s : State) (tree : Nat),
    Up s →
    (s.treeUp tree = false ∨ s.aux .engVac 0 tree = 0) →
    Runs (.inputCutoff tree) s fun t => t = s)
  ∧ (∀ (s : State) (tree : Nat),
    Up s →
    s.treeUp tree = true →
    s.aux .engVac 0 tree ≠ 0 →
    Runs (.inputCutoff tree) s fun t => (∀ l ∈ List.range 2, mapsRun s tree l = true ∨ laneState s tree l = 5 → t.aux .mapCut tree l = 1 ∧ t.get 0x3880 (2 * tree + l) 0x0B = frameAdd (frameNow s tree) 1 % 16)
    ∧ OnlyEv (fun ix k sb => ix = 0x3600 ∧ k = tree ∧ sb ∈ [11, 18] ∨ ix = 0x3700 ∧ sb ∈ [8, 9] ∨ ix = 0x3820 ∧ k % 96 / 2 = tree ∧ sb ∈ [8, 9] ∨ ix = 0x3880 ∧ k / 2 = tree ∧ sb = 11 ∨ ix = 0x5400 ∧ sb ∈ [1, 2, 3, 4] ∨ ix = 0x5900 ∧ sb ∈ [2, 5, 6, 8, 9] ∨ ix = 0x5940 ∧ sb = 5) (fun a p _ => a ∈ [.mapCut, .mapStop, .mapWhole] ∧ p = tree ∨ a ∈ [.adFrames, .adWant, .coopPend, .passFirst] ∨ a ∈ [.engVac, .knellAt, .knellBy, .safePoint, .stAban, .unserved, .unservedN]) s t
    ∧ t = { s with objs := t.objs, regs := t.regs, evQueue := t.evQueue, evPending := t.evPending, dues := t.dues, plan := t.plan, recent := t.recent, staged := t.staged })
  ∧ (∀ (s : State) (tree l n : Nat),
    Up s →
    s.treeUp tree = true →
    l < 2 →
    mapsRun s tree l = true →
    let next := frameAdd (frameNow s tree) 1
    blank s tree l next = false →
    mapOf s.staged tree l next = none →
    n / 512 = tree →
    termState s n = 4 →
    laneOf s n = l →
    s.aux .keepAlive n = 1 →
    s.aux .engVac 0 tree ≠ 0 →
    Runs (.inputCutoff tree) s fun t => Due.mk tree l next 3 n (n % 512) 0 true true ∈ t.dues
    ∧ OnlyEv (fun ix k sb => ix = 0x3600 ∧ k = tree ∧ sb ∈ [11, 18] ∨ ix = 0x3700 ∧ sb ∈ [8, 9] ∨ ix = 0x3820 ∧ k % 96 / 2 = tree ∧ sb ∈ [8, 9] ∨ ix = 0x3880 ∧ k / 2 = tree ∧ sb = 11 ∨ ix = 0x5400 ∧ sb ∈ [1, 2, 3, 4] ∨ ix = 0x5900 ∧ sb ∈ [2, 5, 6, 8, 9] ∨ ix = 0x5940 ∧ sb = 5) (fun a p _ => a ∈ [.mapCut, .mapStop, .mapWhole] ∧ p = tree ∨ a ∈ [.adFrames, .adWant, .coopPend, .passFirst] ∨ a ∈ [.engVac, .knellAt, .knellBy, .safePoint, .stAban, .unserved, .unservedN]) s t
    ∧ t = { s with objs := t.objs, regs := t.regs, evQueue := t.evQueue, evPending := t.evPending, dues := t.dues, plan := t.plan, recent := t.recent, staged := t.staged })

/-- The level, frame and signal commands have their effect (R353 to R356, R359, R367, R398 to R401): reports go to every
reachable member and a silent member is left out, the leader commits the lowest level and it takes force at its instant, a
feature switches on; rows of blocks give the port its words again as they were sent, the framer advances over them, a bad
payload is counted and a transit frame goes on; signal frames go out on the usable ports of each partner's path and their
records are taken. -/
def Obligations.LevelAndCascadeCommandsComplete : Prop :=
  (∀ (s : State),
    Up s →
    Runs .levelReportSend s fun t => t.vframes.take s.vframes.length = s.vframes ∧ (∀ m ∈ List.range 64, m ≠ member s → bit m (s.get 0x51C0 0 4) = true → t.aux .mirSeq m 1 = wrapAdd 32 (s.aux .mirSeq m 1) 1)
    ∧ Only (fun ix _ sb => ix = 0x5140 ∧ sb = 6) (fun a _ q => a = .mirSeq ∧ q = 1) s t
    ∧ t = { s with objs := t.objs, regs := t.regs, vframes := t.vframes })
  ∧ (∀ (s : State) (m : Nat),
    Up s →
    s.aux .lvlIn m ≠ 0 →
    Runs (.levelReportTimeout m) s fun t => t.aux .lvlIn m = 0 ∧ t.get 0x5590 m 1 = 0 ∧ t.get 0x5590 m 2 = 0 ∧ t.get 0x1200 3086 3 = wrapAdd 64 (s.get 0x1200 3086 3) 1
    ∧ OnlyEv (fun ix k sb => ix = 0x5580 ∧ k = 0 ∧ sb ∈ [1, 3, 4, 7] ∨ ix = 0x55C0 ∧ sb = 4 ∨ ix = 0x5590 ∧ k = m ∧ sb ∈ [1, 2]) (fun a p _ => a = .lvlIn ∧ p = m ∨ a ∈ [.featMet, .lvlAbove]) s t
    ∧ t = { s with objs := t.objs, regs := t.regs, evQueue := t.evQueue, evPending := t.evPending })
  ∧ (∀ (s : State) (m : Nat),
    Up s →
    s.aux .lvlIn m = 0 →
    Runs (.levelReportTimeout m) s fun t => t = s)
  ∧ (∀ (s : State) (lead : Nat),
    Up s →
    leader s = member s →
    s.aux .lvlAbove ≠ 0 →
    s.aux .lvlAbove - 1 + 1000000000 ≤ s.now →
    20000000 ≤ lead →
    Runs (.levelCommitSend lead) s fun t => t.aux .lvlNew = min (lowestLevel s) (s.get 0x5580 0 5) + 1 ∧ t.aux .lvlAt = s.now + lead
    ∧ Only (fun ix _ sb => ix = 0x5140 ∧ sb = 6) (fun a _ q => (a = .mirSeq ∧ q = 2) ∨ a = .lvlNew ∨ a = .lvlAt) s t
    ∧ t = { s with objs := t.objs, regs := t.regs, vframes := t.vframes })
  ∧ (∀ (s : State),
    Up s →
    s.aux .lvlNew ≠ 0 →
    s.aux .lvlAt ≤ s.now →
    Runs .levelCommitInstant s fun t => t.aux .lvlNew = 0 ∧ t.aux .lvlAt = 0 ∧ t.get 0x5580 0 4 = (if s.aux .lvlNew - 1 ≤ lowestLevel s then s.aux .lvlNew - 1 else s.get 0x5580 0 4)
    ∧ OnlyEv (fun ix k sb => ix = 0x5580 ∧ k = 0 ∧ sb ∈ [1, 3, 4, 7] ∨ ix = 0x55C0 ∧ sb = 4) (fun a _ _ => a ∈ [.featMet, .lvlAbove, .lvlAt, .lvlNew]) s t
    ∧ t = { s with objs := t.objs, regs := t.regs, evQueue := t.evQueue, evPending := t.evPending })
  ∧ (∀ (s : State) (feature : Nat),
    Up s →
    (features s).contains feature = true →
    s.get 0x55C0 feature 4 ≠ 1 →
    s.aux .featMet feature - 1 + 1000000000 ≤ s.now →
    s.aux .featMet feature ≠ 0 →
    Runs (.featureSwitchOn feature) s fun t => t.get 0x55C0 feature 4 = 1 ∧ isPending t 3088 feature = false
    ∧ OnlyEv (fun ix k sb => ix = 0x55C0 ∧ k = feature ∧ sb = 4) (fun _ _ _ => False) s t
    ∧ t = { s with objs := t.objs, regs := t.regs, evQueue := t.evQueue, evPending := t.evPending })
  ∧ (∀ (s : State) (v took : Nat) (picks : List Nat),
    Up s →
    v < 4 →
    portSt s v ≠ 0 →
    s.aux .deskew v ≠ 0 →
    (framer s v = 0 ∨ framer s v = 1) →
    (framer s v = 0 → s.aux .framePos v = 0) →
    let ws := (portWords s v).drop (s.aux .framePos v)
    let h := ws.headD 0 * 2 ^ 64 + ws.getD 1 0
    ws.length = 2 →
    headerOk h = true →
    Runs (.viothFrameReceive v [] [] picks took) s fun t => framer t v = framer s v + 1 ∧ portSt t v = portSt s v ∧ t.aux .framePos v = s.aux .framePos v + chainWords h ∧ t.get 0x5100 v 0x15 = (if framer s v = 0 then wrapAdd 64 (s.get 0x5100 v 0x15) 1 else s.get 0x5100 v 0x15)
    ∧ Only (fun ix k sb => ix = 0x5100 ∧ k = v ∧ (sb = 2 ∨ sb = 0x15)) (fun a p _ => a = .framePos ∧ p = v) s t
    ∧ t = { s with objs := t.objs, regs := t.regs })
  ∧ (∀ (s : State) (v w took : Nat) (picks : List Nat),
    Up s →
    v < 4 →
    s.aux .deskew v ≠ 0 →
    framer s v = 3 →
    s.aux .framePos v = 0 →
    let ws := portWords s v
    let h := ws.headD 0 * 2 ^ 64 + ws.getD 1 0
    headerOk h = true →
    ws.length = chainWords h →
    let frame := viothIn h ((ws.drop 2).flatMap (bytesOf 8))
    portSt s v = 4 →
    frame.crcOk = true →
    frame.kind < 8 →
    frame.kind ≠ 2 →
    frame.kind ≠ 4 →
    frame.rdi = false →
    hasDefect s v 7 = false →
    frame.dest ≠ member s →
    2 ≤ frame.hops →
    activePort s frame.dest = some w →
    Runs (.viothFrameReceive v [] [] picks took) s fun t => t.get 0x5100 v 0x11 = wrapAdd 64 (s.get 0x5100 v 0x11) 1 ∧ t.vframes = s.vframes ++ [⟨w, if frame.kind = 3 then 1 else 2, frame.kind, frame.cls, frame.source, frame.dest, frame.hops - 1, frame.payload.length, frame.context, frame.colour, frame.payload⟩] ∧ t.aux .fwdAt v frame.dest = s.now + 1 ∧ portWords t v = []
    ∧ Only (fun ix k sb => ix = 0x5100 ∧ k = v ∧ sb = 0x11) (fun a p q => a ∈ [.rdiRun, .rdiClr, .framerFail, .framePos] ∧ p = v ∨ a = .fwdAt ∧ p = v ∧ q = frame.dest) s t
    ∧ t = { s with objs := t.objs, regs := t.regs, vframes := t.vframes, viothIn := t.viothIn })
  ∧ (∀ (s : State) (v took : Nat) (picks : List Nat),
    Up s →
    v < 4 →
    s.aux .deskew v ≠ 0 →
    framer s v = 3 →
    s.aux .framePos v = 0 →
    let ws := portWords s v
    let h := ws.headD 0 * 2 ^ 64 + ws.getD 1 0
    headerOk h = true →
    ws.length = chainWords h →
    let frame := viothIn h ((ws.drop 2).flatMap (bytesOf 8))
    portSt s v ≠ 0 →
    frame.crcOk = false →
    Runs (.viothFrameReceive v [] [] picks took) s fun t => t.get 0x5100 v 0x14 = wrapAdd 64 (s.get 0x5100 v 0x14) 1 ∧ t.get 0x5100 v 0x11 = s.get 0x5100 v 0x11 ∧ t.vframes = s.vframes ∧ portWords t v = []
    ∧ OnlyEv (fun ix k sb => ix = 0x5100 ∧ k = v ∧ sb ∈ [2, 7, 0x14] ∨ ix = 0x5140 ∧ sb ∈ [3, 5] ∨ ix = 0x51C0 ∧ k = 0 ∧ sb = 4 ∨ ix = 0x5580 ∧ sb ∈ [1, 3, 4, 7] ∨ ix = 0x5590 ∧ sb ∈ [1, 2] ∨ ix = 0x55C0 ∧ sb = 4) (fun a p _ => a ∈ [.rdiRun, .rdiClr, .framerFail, .framePos, .primer, .primerFor] ∧ p = v ∨ a ∈ [.featMet, .lvlAbove, .lvlIn]) s t
    ∧ t = { s with objs := t.objs, regs := t.regs, evQueue := t.evQueue, evPending := t.evPending, viothIn := t.viothIn })
  ∧ (∀ (s : State) (v took : Nat) (sync blocks : List (List (List Nat))) (picks : List Nat),
    Up s →
    v < 4 →
    portSt s v ≠ 0 →
    let s1 := overAll (blockRows sync blocks) (takeData v) s
    Runs (.viothFrameReceive v sync blocks picks took) s fun t => t = (if s1.aux .deskew v = 0 then s1 else framerRun v took (3 * (portWords s1 v).length + 3) picks s1))
  ∧ (∀ (s : State) (v p word : Nat),
    word < 2 ^ 64 →
    s.aux .scramRx (viothLane v p) < 2 ^ 58 →
    forerunner s v = true →
    let sent := lineBytes (scrambleBits (s.aux .scramRx (viothLane v p)) (lineBits (bytesOf 8 word))).1
    let r := readBlock v p (invertSymbols 1 (laneFlag s (viothLane v p) 6) ([0, 1] ++ lineBits sent)) s
    r.1 = (1, sent) ∧ (takeWord v p r.1.1 r.1.2 r.2).1 = word)
  ∧ (∀ (s : State),
    Up s →
    Runs .signalFrameSend s fun t => t.vframes.take s.vframes.length = s.vframes ∧ (∀ m ∈ pairMembers s, t.aux .sigSeq m = wrapAdd 32 (s.aux .sigSeq m) 1 ∧ t.vframes.countP (fun x => x.kind == 5 && x.dest == m) = s.vframes.countP (fun x => x.kind == 5 && x.dest == m) + (signalPorts s m).length)
    ∧ Only (fun ix k sb => ix = 0x5140 ∧ k ∈ pairMembers s ∧ sb = 6) (fun a p _ => a = .sigSeq ∧ p ∈ pairMembers s) s t
    ∧ t = { s with objs := t.objs, regs := t.regs, vframes := t.vframes })
  ∧ (∀ (s : State) (source took : Nat) (r : SigRecord),
    Up s →
    r.partner < s.trees →
    remotePartner s r.partner = some (source, r.sender) →
    Runs (.signalFrameReceive source [r] took) s fun t => t.aux .farSig r.partner = r.state % 256 ∧ t.aux .farClaim r.partner = r.claim % 65536 ∧ t.aux .farFrame r.partner = r.frame % 65536 ∧ t.aux .partnerOk r.partner = 1
    ∧ OnlyEv (fun ix _ sb => ix = 0x2000 ∧ sb = 1 ∨ ix = 0x2001 ∨ ix = 0x2002 ∧ sb = 1 ∨ ix = 0x2003 ∨ ix = 0x2007 ∧ sb = 14 ∨ ix = 0x2008 ∧ sb = 2 ∨ ix = 0x3000 ∨ ix = 0x3102 ∧ sb = 1 ∨ ix = 0x3200 ∧ sb ∈ [7, 8] ∨ ix = 0x3400 ∧ sb = 16 ∨ ix = 0x3600 ∧ sb ∈ [19, 20, 21] ∨ ix = 0x3900 ∧ sb ∈ [1, 6, 7] ∨ ix = 0x4000 ∧ sb ∈ [7, 10] ∨ ix = 0x4200 ∧ sb = 4 ∨ ix = 0x4C00 ∧ sb = 2 ∨ ix = 0x4C10 ∨ ix = 0x4C40 ∧ sb ∈ [17, 23, 24, 30] ∨ ix = 0x4C80 ∧ sb ∈ [17, 23, 24, 30] ∨ ix = 0x5140 ∧ sb = 6 ∨ ix = 0x5800 ∧ sb ∈ [5, 6] ∨ ix = 0x5840 ∧ sb ∈ [4, 5]) (fun a _ _ => a ∈ [.allocSeq, .arrCount, .arrSum, .beatHold, .beatOut, .bufWord, .capTries, .chgDark, .chgState, .chgTarget, .coopPend, .darkAt, .discOut, .drainTo, .driftHold, .driftLen, .driftSum, .engClaim, .engHolds, .engVac, .farClaim, .farFrame, .farSig, .heldCmd, .holdLost, .holdRun, .keepAlive, .keySoft, .kxFrag, .kxGen, .kxIndex, .kxKey, .kxKind, .kxNext, .kxSeq, .kxTries, .lossAt, .lossRun, .mapStop, .mirSeq, .mirrorOk, .missMask, .modeAt, .mufWait, .oldStroke, .partnerOk, .postAt, .queueOff, .queueOpen, .regTries, .resumeLeft, .rxRef, .sick, .silentRun, .skewAt, .swReq, .txAdv, .upClosed, .upLane]) s t
    ∧ OnlyWords (fun m _ => m = 66) s t
    ∧ t = { s with objs := t.objs, regs := t.regs, evQueue := t.evQueue, evPending := t.evPending, beats := t.beats, coexStage := t.coexStage, downWait := t.downWait, dues := t.dues, fifo := t.fifo, freeCtr := t.freeCtr, fsFrames := t.fsFrames, keyWaits := t.keyWaits, mem := t.mem, muted := t.muted, out := t.out, pkts := t.pkts, plan := t.plan, ploams := t.ploams, probes := t.probes, sdus := t.sdus, skews := t.skews, staged := t.staged, vframes := t.vframes })
  ∧ (∀ (s : State) (source took : Nat) (r : SigRecord),
    Up s →
    r.partner < s.trees →
    remotePartner s r.partner = some (source, r.sender) →
    claimHigher r.claim (stageClaim s 2 r.partner) = false →
    (r.state / 64 % 4 ≠ 1 ∨ protRole s r.partner ≠ 2) →
    (r.state % 16 = 0 ∨ protRole s r.partner ≠ 2) →
    let near := absDiff (frameNow s r.partner % 65536) (r.frame % 65536)
    Runs (.signalFrameReceive source [r] took) s fun t => t.aux .farSig r.partner = r.state % 256 ∧ t.aux .farClaim r.partner = r.claim % 65536 ∧ t.aux .farFrame r.partner = r.frame % 65536 ∧ t.aux .partnerOk r.partner = 1 ∧ t.aux .mirrorOk r.partner = (if (near ≤ 1 ∨ near = 65535) ∧ levelFits (s.get 0x5580 0 1) (s.get 0x5590 source 1) = true then 1 else 0)
    ∧ OnlyEv (fun ix k sb => ix = 0x2003 ∧ k = r.partner ∧ sb = 5) (fun a p _ => a ∈ [.farSig, .farClaim, .farFrame, .partnerOk, .mirrorOk] ∧ p = r.partner) s t
    ∧ t = { s with objs := t.objs, regs := t.regs, evQueue := t.evQueue, evPending := t.evPending })

/-- The claim and engine commands have their effect (R378, R380 to R386, R507): a claim equal to the accepted one is taken, a
higher one accepted with what a lower one had staged dropped, a lower one refused; each cause of a knell is recorded, cuts the
engine from its role and makes it reload or, the third time in an hour, retires it; an assigned spare takes its role; an engine
is taken out, reloaded, given its role back and follows its self-test; the engine of a grant role whose tree runs its maps
leaves its role and takes it back only at the tree's next seal, and a command that does not fit the engine's state is answered
busy. -/
def Obligations.ClaimAndKnellCommandsComplete : Prop :=
  (∀ (s : State) (stage inst claim unit : Nat),
    Up s →
    stageOk s stage inst = true →
    claim % 65536 = stageClaim s stage inst →
    s.aux .engVac stage inst = 1 →
    Runs (.claimWrite stage inst claim unit) s fun t => t = { s with answer := ⟨0, 0⟩ })
  ∧ (∀ (s : State) (stage inst claim unit : Nat),
    Up s →
    stageOk s stage inst = true →
    claimHigher (claim % 65536) (stageClaim s stage inst) = true →
    Runs (.claimWrite stage inst claim unit) s fun t => t.answer = ⟨0, 0⟩ ∧ stageClaim t stage inst = claim % 65536 ∧ t.aux .engVac stage inst = 1 ∧ t.aux .engHolds stage inst = unit + 1 ∧ t.staged = s.staged.filter (fun g => stage != 0 || g.tree != inst)
    ∧ Only (fun ix k sb => stage = 0 ∧ ix = 0x3600 ∧ k = inst ∧ sb = 0x13) (fun a p q => (a = .engVac ∨ a = .engHolds ∨ a = .engClaim) ∧ p = stage ∧ q = inst ∨ stage = 0 ∧ (a = .mapStop ∧ p = inst ∨ a = .coopPend)) s t
    ∧ t = { s with objs := t.objs, regs := t.regs, staged := t.staged, answer := t.answer })
  ∧ (∀ (s : State) (stage inst claim unit : Nat),
    Up s →
    stageOk s stage inst = true →
    claimHigher (claim % 65536) (stageClaim s stage inst) = false →
    (¬(claim % 65536 = stageClaim s stage inst ∧ s.aux .engVac stage inst = 1)) →
    Runs (.claimWrite stage inst claim unit) s fun t => t.answer = ⟨2, 0⟩ ∧ stageClaim t stage inst = stageClaim s stage inst
    ∧ OnlyEv (fun ix k sb => (stage = 0 ∧ ix = 0x3600 ∧ k = inst ∧ sb = 0x0D) ∨ (stage ≠ 0 ∧ ix = 0x5460 ∧ sb = 4)) (fun _ _ _ => False) s t
    ∧ t = { s with objs := t.objs, regs := t.regs, evQueue := t.evQueue, evPending := t.evPending, answer := t.answer })
  ∧ (∀ (s : State) (e : Nat),
    Up s →
    Objects.engine s.trees e = true →
    s.get 0x5400 e 2 ≠ 2 →
    s.get 0x5400 e 2 ≠ 4 →
    s.get 0x5400 e 2 ≠ 5 →
    let third := s.aux .knellAt e 2 != 0 && s.now < s.aux .knellAt e 2 - 1 + 3600000000000
    Runs (.watchdogExpiry e) s fun t => t.get 0x5400 e 1 = 0xFF ∧ t.get 0x5400 e 2 = (if third then 4 else 2) ∧ t.get 0x5400 e 3 = wrapAdd 32 (s.get 0x5400 e 3) 1 ∧ t.get 0x5400 e 4 = 1 ∧ t.aux .knellAt e 0 = s.now + 1
    ∧ OnlyEv (fun ix k sb => ix = 0x5400 ∧ (k = e ∧ sb ∈ [1, 2, 3, 4] ∨ k ∈ roleSpares (s.get 0x5400 e 1) ∧ sb = 1) ∨ ix = 0x5900 ∧ diagnostic k = s.get 0x5400 e 1 ∧ sb ∈ [2, 5, 6, 8, 9] ∨ ix = 0x5940 ∧ sb = 5 ∧ diagnostic (k / 16) = s.get 0x5400 e 1) (fun a p q => a ∈ [.knellAt, .safePoint] ∧ p = e ∨ a = .engVac ∧ (p, q) ∈ roleStages s (s.get 0x5400 e 1) ∨ a ∈ [.knellBy, .unserved] ∧ p = s.get 0x5400 e 1 ∨ a = .unservedN ∨ a = .stAban ∧ diagnostic p = s.get 0x5400 e 1) s t
    ∧ t = { s with objs := t.objs, regs := t.regs, evQueue := t.evQueue, evPending := t.evPending })
  ∧ (∀ (s : State) (e : Nat),
    Up s →
    Objects.engine s.trees e = true →
    s.get 0x5400 e 2 ≠ 2 →
    s.get 0x5400 e 2 ≠ 4 →
    s.get 0x5400 e 2 ≠ 5 →
    let third := s.aux .knellAt e 2 != 0 && s.now < s.aux .knellAt e 2 - 1 + 3600000000000
    Runs (.controlFlowMismatch e) s fun t => t.get 0x5400 e 1 = 0xFF ∧ t.get 0x5400 e 2 = (if third then 4 else 2) ∧ t.get 0x5400 e 3 = wrapAdd 32 (s.get 0x5400 e 3) 1 ∧ t.get 0x5400 e 4 = 3 ∧ t.aux .knellAt e 0 = s.now + 1
    ∧ OnlyEv (fun ix k sb => ix = 0x5400 ∧ (k = e ∧ sb ∈ [1, 2, 3, 4] ∨ k ∈ roleSpares (s.get 0x5400 e 1) ∧ sb = 1) ∨ ix = 0x5900 ∧ diagnostic k = s.get 0x5400 e 1 ∧ sb ∈ [2, 5, 6, 8, 9] ∨ ix = 0x5940 ∧ sb = 5 ∧ diagnostic (k / 16) = s.get 0x5400 e 1) (fun a p q => a ∈ [.knellAt, .safePoint] ∧ p = e ∨ a = .engVac ∧ (p, q) ∈ roleStages s (s.get 0x5400 e 1) ∨ a ∈ [.knellBy, .unserved] ∧ p = s.get 0x5400 e 1 ∨ a = .unservedN ∨ a = .stAban ∧ diagnostic p = s.get 0x5400 e 1) s t
    ∧ t = { s with objs := t.objs, regs := t.regs, evQueue := t.evQueue, evPending := t.evPending })
  ∧ (∀ (s : State) (e : Nat),
    Up s →
    Objects.engine s.trees e = true →
    s.get 0x5400 e 2 ≠ 2 →
    s.get 0x5400 e 2 ≠ 4 →
    s.get 0x5400 e 2 ≠ 5 →
    let third := s.aux .knellAt e 2 != 0 && s.now < s.aux .knellAt e 2 - 1 + 3600000000000
    Runs (.outputImplausible e) s fun t => t.get 0x5400 e 1 = 0xFF ∧ t.get 0x5400 e 2 = (if third then 4 else 2) ∧ t.get 0x5400 e 3 = wrapAdd 32 (s.get 0x5400 e 3) 1 ∧ t.get 0x5400 e 4 = 4 ∧ t.aux .knellAt e 0 = s.now + 1
    ∧ OnlyEv (fun ix k sb => ix = 0x5400 ∧ (k = e ∧ sb ∈ [1, 2, 3, 4] ∨ k ∈ roleSpares (s.get 0x5400 e 1) ∧ sb = 1) ∨ ix = 0x5900 ∧ diagnostic k = s.get 0x5400 e 1 ∧ sb ∈ [2, 5, 6, 8, 9] ∨ ix = 0x5940 ∧ sb = 5 ∧ diagnostic (k / 16) = s.get 0x5400 e 1) (fun a p q => a ∈ [.knellAt, .safePoint] ∧ p = e ∨ a = .engVac ∧ (p, q) ∈ roleStages s (s.get 0x5400 e 1) ∨ a ∈ [.knellBy, .unserved] ∧ p = s.get 0x5400 e 1 ∨ a = .unservedN ∨ a = .stAban ∧ diagnostic p = s.get 0x5400 e 1) s t
    ∧ t = { s with objs := t.objs, regs := t.regs, evQueue := t.evQueue, evPending := t.evPending })
  ∧ (∀ (s : State) (reader memory word area flips : Nat),
    Up s →
    Objects.engine s.trees reader = true →
    memory = 256 + reader →
    word < 8192 →
    let r := readWord memory word flips s
    r.1.bad = true →
    s.get 0x5400 reader 2 ≠ 2 →
    s.get 0x5400 reader 2 ≠ 4 →
    s.get 0x5400 reader 2 ≠ 5 →
    Runs (.memoryCheckKnell reader memory word area flips) s fun t => t.get 0x5400 reader 1 = 0xFF ∧ t.get 0x5400 reader 3 = wrapAdd 32 (s.get 0x5400 reader 3) 1 ∧ t.get 0x5400 reader 4 = 2
    ∧ OnlyEv (fun ix k sb => ix = 0x5400 ∧ (k = reader ∧ sb ∈ [1, 2, 3, 4] ∨ k ∈ roleSpares (s.get 0x5400 reader 1) ∧ sb = 1) ∨ ix = 0x5900 ∧ diagnostic k = s.get 0x5400 reader 1 ∧ sb ∈ [2, 5, 6, 8, 9] ∨ ix = 0x5940 ∧ sb = 5 ∧ diagnostic (k / 16) = s.get 0x5400 reader 1 ∨ ix = 0x5800 ∧ k = memory ∧ sb ∈ [2, 3, 4, 7, 8, 9]) (fun a p q => a ∈ [.knellAt, .safePoint] ∧ p = reader ∨ a = .engVac ∧ (p, q) ∈ roleStages s (s.get 0x5400 reader 1) ∨ a ∈ [.knellBy, .unserved] ∧ p = s.get 0x5400 reader 1 ∨ a = .unservedN ∨ a = .stAban ∧ diagnostic p = s.get 0x5400 reader 1) s t
    ∧ t = { s with objs := t.objs, regs := t.regs, evQueue := t.evQueue, evPending := t.evPending, recent := t.recent })
  ∧ (∀ (s : State) (reader memory word area flips : Nat),
    Up s →
    Objects.engine s.trees reader = true →
    ((memory = 256 + reader ∧ word < 8192) ∨ (memory = reader / 16 ∧ memory < 14 ∧ word < 524288)) →
    let r := readWord memory word flips s
    r.1.bad = false →
    Runs (.memoryCheckKnell reader memory word area flips) s fun t => t = r.2.2)
  ∧ (∀ (s : State) (e : Nat),
    Up s →
    Objects.engine s.trees e = true →
    s.get 0x5400 e 2 = 1 →
    s.get 0x5400 e 1 ≠ 0xFF →
    Runs (.spareClaimRaise e) s fun t => t.get 0x5400 e 1 = s.get 0x5400 e 1 ∧ t.get 0x5400 e 2 = 0 ∧ t.aux .unserved (s.get 0x5400 e 1) = 0
    ∧ OnlyEv (fun ix k sb => ix = 0x3600 ∧ sb = 19 ∨ ix = 0x5400 ∧ (k = e ∧ sb ∈ [1, 2] ∨ sb = 8) ∨ ix = 0x5840 ∧ sb ∈ [4, 5] ∨ ix = 0x4000 ∧ sb ∈ [4, 5, 6, 7, 10, 12, 14, 15] ∨ ix = 0x4200 ∧ sb ∈ [4, 5] ∨ ix = 0x5140 ∧ sb = 6 ∨ ix = 0x5800 ∧ k = 66 ∧ 2 ≤ sb ∧ sb ≤ 9 ∨ ix = 0x5840 ∧ sb ∈ [4, 5] ∨ ix = 0x5800 ∧ sb ∈ [5, 6]) (fun a _ _ => a ∈ [.badWord, .coopPend, .engClaim, .engHolds, .engVac, .knellBy, .mapStop, .unserved] ∨ a ∈ [.keyAt, .keyMat, .keyNextIdx, .keyPoison, .keySoft, .keyUnacked, .kxFrag, .kxGen, .kxIndex, .kxKey, .kxKind, .kxNext, .kxSeq, .kxTries, .mirSeq, .missMask]) s t
    ∧ OnlyWords (fun m w => m = 66 ∨ s.aux .badWord m w ≠ 0) s t
    ∧ t = { s with objs := t.objs, regs := t.regs, evQueue := t.evQueue, evPending := t.evPending, freeCtr := t.freeCtr, staged := t.staged, keyWaits := t.keyWaits, mem := t.mem, ploams := t.ploams, recent := t.recent, vframes := t.vframes })
  ∧ (∀ (s : State) (acc : Acc) (e : Nat),
    Up s →
    mayWrite acc 0x5400 e 5 1 s = true →
    s.get 0x5400 e 2 ≠ 2 →
    s.get 0x5400 e 2 ≠ 4 →
    s.get 0x5400 e 2 ≠ 5 →
    (s.get 0x5400 e 2 ≠ 0 ∨ sealTree s (s.get 0x5400 e 1) = none) →
    Runs (.engineTakeOut acc e) s fun t => t.answer = ⟨0, 0⟩ ∧ t.get 0x5400 e 1 = 0xFF ∧ t.get 0x5400 e 2 = 2 ∧ t.get 0x5400 e 4 = 6 ∧ t.get 0x5400 e 3 = wrapAdd 32 (s.get 0x5400 e 3) 1
    ∧ OnlyEv (fun ix k sb => ix = 0x5400 ∧ (k = e ∧ sb ∈ [1, 2, 3, 4] ∨ k ∈ roleSpares (s.get 0x5400 e 1) ∧ sb = 1) ∨ ix = 0x5900 ∧ diagnostic k = s.get 0x5400 e 1 ∧ sb ∈ [2, 5, 6, 8, 9] ∨ ix = 0x5940 ∧ sb = 5 ∧ diagnostic (k / 16) = s.get 0x5400 e 1) (fun a p q => a ∈ [.knellAt, .safePoint] ∧ p = e ∨ a = .engVac ∧ (p, q) ∈ roleStages s (s.get 0x5400 e 1) ∨ a ∈ [.knellBy, .unserved] ∧ p = s.get 0x5400 e 1 ∨ a = .unservedN ∨ a = .stAban ∧ diagnostic p = s.get 0x5400 e 1) s t
    ∧ t = { s with objs := t.objs, regs := t.regs, evQueue := t.evQueue, evPending := t.evPending, answer := t.answer })
  ∧ (∀ (s : State) (acc : Acc) (e : Nat),
    Up s →
    mayWrite acc 0x5400 e 5 2 s = true →
    (s.get 0x5400 e 2 = 3 ∨ s.get 0x5400 e 2 = 4 ∨ (s.get 0x5400 e 2 = 1 ∧ s.get 0x5400 e 1 = 0xFF)) →
    Runs (.engineReload acc e) s fun t => t.answer = ⟨0, 0⟩ ∧ t.get 0x5400 e 2 = 2
    ∧ Only (fun ix k sb => ix = 0x5400 ∧ k = e ∧ (sb = 2 ∨ sb = 5) ∨ ix = 0x5400 ∧ k = e ∧ sb = 5) (fun a p q => a = .knellAt ∧ p = e ∧ (q = 1 ∨ q = 2)) s t
    ∧ t = { s with objs := t.objs, regs := t.regs, answer := t.answer })
  ∧ (∀ (s : State) (acc : Acc) (e role : Nat),
    Up s →
    mayWrite acc 0x5400 e 5 3 s = true →
    s.get 0x5400 e 2 = 3 →
    homeRole e = some role →
    sealTree s e = none →
    Runs (.engineTakeRoleBack acc e) s fun t => t.get 0x5400 e 1 = role ∧ t.get 0x5400 e 2 = 0 ∧ t.aux .unserved role = 0
    ∧ OnlyEv (fun ix k sb => ix = 0x3600 ∧ sb = 19 ∨ ix = 0x5400 ∧ (k = e ∧ sb ∈ [1, 2] ∨ sb = 8) ∨ ix = 0x5840 ∧ sb ∈ [4, 5] ∨ ix = 0x5400 ∧ k ∈ roleSpares role ∧ sb ∈ [1, 2] ∨ ix = 0x4000 ∧ sb ∈ [4, 5, 6, 7, 10, 12, 14, 15] ∨ ix = 0x4200 ∧ sb ∈ [4, 5] ∨ ix = 0x5140 ∧ sb = 6 ∨ ix = 0x5800 ∧ k = 66 ∧ 2 ≤ sb ∧ sb ≤ 9 ∨ ix = 0x5840 ∧ sb ∈ [4, 5] ∨ ix = 0x5400 ∧ k = e ∧ sb = 5) (fun a _ _ => a ∈ [.badWord, .coopPend, .engClaim, .engHolds, .engVac, .knellBy, .mapStop, .unserved] ∨ a ∈ [.keyAt, .keyMat, .keyNextIdx, .keyPoison, .keySoft, .keyUnacked, .kxFrag, .kxGen, .kxIndex, .kxKey, .kxKind, .kxNext, .kxSeq, .kxTries, .mirSeq, .missMask]) s t
    ∧ OnlyWords (fun m w => m = 66 ∨ s.aux .badWord m w ≠ 0) s t
    ∧ t = { s with objs := t.objs, regs := t.regs, evQueue := t.evQueue, evPending := t.evPending, freeCtr := t.freeCtr, staged := t.staged, answer := t.answer, keyWaits := t.keyWaits, mem := t.mem, ploams := t.ploams, recent := t.recent, vframes := t.vframes })
  ∧ (∀ (s : State) (e role : Nat),
    Up s →
    Objects.engine s.trees e = true →
    s.get 0x5400 e 2 = 3 →
    homeRole e = some role →
    Runs (.engineRevert e) s fun t => t.get 0x5400 e 1 = role ∧ t.get 0x5400 e 2 = 0 ∧ t.aux .unserved role = 0
    ∧ OnlyEv (fun ix k sb => ix = 0x3600 ∧ sb = 19 ∨ ix = 0x5400 ∧ (k = e ∧ sb ∈ [1, 2] ∨ sb = 8) ∨ ix = 0x5840 ∧ sb ∈ [4, 5] ∨ ix = 0x5400 ∧ k ∈ roleSpares role ∧ sb ∈ [1, 2] ∨ ix = 0x4000 ∧ sb ∈ [4, 5, 6, 7, 10, 12, 14, 15] ∨ ix = 0x4200 ∧ sb ∈ [4, 5] ∨ ix = 0x5140 ∧ sb = 6 ∨ ix = 0x5800 ∧ k = 66 ∧ 2 ≤ sb ∧ sb ≤ 9 ∨ ix = 0x5840 ∧ sb ∈ [4, 5]) (fun a _ _ => a ∈ [.badWord, .coopPend, .engClaim, .engHolds, .engVac, .knellBy, .mapStop, .unserved] ∨ a ∈ [.keyAt, .keyMat, .keyNextIdx, .keyPoison, .keySoft, .keyUnacked, .kxFrag, .kxGen, .kxIndex, .kxKey, .kxKind, .kxNext, .kxSeq, .kxTries, .mirSeq, .missMask]) s t
    ∧ OnlyWords (fun m w => m = 66 ∨ s.aux .badWord m w ≠ 0) s t
    ∧ t = { s with objs := t.objs, regs := t.regs, evQueue := t.evQueue, evPending := t.evPending, freeCtr := t.freeCtr, staged := t.staged, keyWaits := t.keyWaits, mem := t.mem, ploams := t.ploams, recent := t.recent, vframes := t.vframes })
  ∧ (∀ (s : State) (e : Nat),
    Up s →
    Objects.engine s.trees e = true →
    s.get 0x5400 e 2 = 2 →
    Runs (.engineSelfTestDone e false) s fun t => t.get 0x5400 e 2 = 4 ∧ isPending t 3076 e = true
    ∧ OnlyEv (fun ix k sb => ix = 0x5400 ∧ k = e ∧ sb = 2 ∨ ix = 0x4000 ∧ sb ∈ [4, 5, 6, 7, 10, 12, 14, 15] ∨ ix = 0x4200 ∧ sb ∈ [4, 5] ∨ ix = 0x5140 ∧ sb = 6 ∨ ix = 0x5800 ∧ k = 66 ∧ 2 ≤ sb ∧ sb ≤ 9 ∨ ix = 0x5840 ∧ sb ∈ [4, 5]) (fun a _ _ => a ∈ [.keyAt, .keyMat, .keyNextIdx, .keyPoison, .keySoft, .keyUnacked, .kxFrag, .kxGen, .kxIndex, .kxKey, .kxKind, .kxNext, .kxSeq, .kxTries, .mirSeq, .missMask]) s t
    ∧ OnlyWords (fun m w => m = 66 ∨ s.aux .badWord m w ≠ 0) s t
    ∧ t = { s with objs := t.objs, regs := t.regs, evQueue := t.evQueue, evPending := t.evPending, keyWaits := t.keyWaits, mem := t.mem, ploams := t.ploams, recent := t.recent, vframes := t.vframes })
  ∧ (∀ (s : State) (e : Nat),
    Up s →
    Objects.engine s.trees e = true →
    s.get 0x5400 e 2 = 2 →
    ((List.range 16).find? fun n => s.aux .unserved (e / 16 * 16 + n) != 0 && s.aux .knellBy (e / 16 * 16 + n) == e + 1) = none →
    (∀ role ∈ homeRole e, roleSpares role ≠ []) →
    Runs (.engineSelfTestDone e true) s fun t => t.get 0x5400 e 2 = (if (homeRole e).isSome then 3 else 1) ∧ isPending t 3076 e = false ∧ t.get 0x5400 e 7 = s.get 0x5510 (e / 16) 1
    ∧ OnlyEv (fun ix k sb => ix = 0x5400 ∧ k = e ∧ sb ∈ [1, 2, 7] ∨ ix = 0x4000 ∧ sb ∈ [4, 5, 6, 7, 10, 12, 14, 15] ∨ ix = 0x4200 ∧ sb ∈ [4, 5] ∨ ix = 0x5140 ∧ sb = 6 ∨ ix = 0x5800 ∧ k = 66 ∧ 2 ≤ sb ∧ sb ≤ 9 ∨ ix = 0x5840 ∧ sb ∈ [4, 5]) (fun a p _ => a = .engImg ∧ p = e ∨ a = .unserved ∨ a ∈ [.keyAt, .keyMat, .keyNextIdx, .keyPoison, .keySoft, .keyUnacked, .kxFrag, .kxGen, .kxIndex, .kxKey, .kxKind, .kxNext, .kxSeq, .kxTries, .mirSeq, .missMask]) s t
    ∧ OnlyWords (fun m w => m = 66 ∨ s.aux .badWord m w ≠ 0) s t
    ∧ t = { s with objs := t.objs, regs := t.regs, evQueue := t.evQueue, evPending := t.evPending, keyWaits := t.keyWaits, mem := t.mem, ploams := t.ploams, recent := t.recent, vframes := t.vframes })
  ∧ (∀ (s : State) (acc : Acc) (e : Nat),
    Up s →
    mayWrite acc 0x5400 e 5 1 s = true →
    s.get 0x5400 e 2 = 0 →
    (sealTree s (s.get 0x5400 e 1)).isSome = true →
    Runs (.engineTakeOut acc e) s fun t => t = { (s.setAux .safePoint e 0 1).put 0x5400 e 5 0 with answer := ⟨0, 0⟩ })
  ∧ (∀ (s : State) (acc : Acc) (e : Nat),
    Up s →
    mayWrite acc 0x5400 e 5 3 s = true →
    s.get 0x5400 e 2 = 3 →
    (homeRole e).isSome = true →
    (sealTree s e).isSome = true →
    Runs (.engineTakeRoleBack acc e) s fun t => t = { (s.setAux .safePoint e 0 2).put 0x5400 e 5 0 with answer := ⟨0, 0⟩ })
  ∧ (∀ (s : State) (acc : Acc) (e : Nat),
    Up s →
    mayWrite acc 0x5400 e 5 1 s = true →
    let st := s.get 0x5400 e 2
    (st = 2 ∨ st = 4 ∨ st = 5) →
    Runs (.engineTakeOut acc e) s fun t => t = { s.put 0x5400 e 5 3 with answer := ⟨3, 0⟩ })
  ∧ (∀ (s : State) (acc : Acc) (e : Nat),
    Up s →
    mayWrite acc 0x5400 e 5 2 s = true →
    let st := s.get 0x5400 e 2
    (st ≠ 3 ∧ st ≠ 4 ∧ ¬(st = 1 ∧ s.get 0x5400 e 1 = 0xFF)) →
    Runs (.engineReload acc e) s fun t => t = { s.put 0x5400 e 5 3 with answer := ⟨3, 0⟩ })
  ∧ (∀ (s : State) (acc : Acc) (e : Nat),
    Up s →
    mayWrite acc 0x5400 e 5 3 s = true →
    (s.get 0x5400 e 2 ≠ 3 ∨ homeRole e = none) →
    Runs (.engineTakeRoleBack acc e) s fun t => t = { s.put 0x5400 e 5 3 with answer := ⟨3, 0⟩ })
  ∧ (∀ (s : State) (tree lane e : Nat) (g : GrantMap),
    Up s →
    tree < s.trees →
    lane < 2 →
    s.aux .engVac 0 tree = 1 →
    let next := frameAdd (frameNow s tree) 1
    (s.now : Int) ≤ frameStart s tree + 117000 →
    mapOf s.staged tree lane next = some g →
    let g' := ({ g with entries := g.entries.filter fun x => !drains s tree x } : GrantMap)
    let role := tree / 4 * 16 + tree % 4
    carrierOf s role = some e →
    s.aux .safePoint e = 1 →
    e ≠ role →
    s.aux .safePoint role ≠ 2 →
    Runs (.mapSeal tree lane (next % 65536) g.entries.length (stageClaim s 0 tree) 7) s fun t => t.sealedMaps = setMap g' s.sealedMaps ∧ t.get 0x5400 e 1 = 0xFF ∧ t.get 0x5400 e 4 = 6 ∧ t.aux .safePoint e = 0 ∧ t.get 0x5400 e 2 = 2
    ∧ OnlyEv (fun ix k sb => ix = 0x3400 ∧ sb ∈ [10, 12, 13] ∨ ix = 0x3820 ∧ k % 96 = 2 * tree + lane ∧ sb ∈ [5, 6, 7] ∨ ix = 0x3700 ∧ sb ∈ [1, 8] ∨ ix = 0x5400 ∧ (k = e ∧ sb ∈ [1, 2, 3, 4] ∨ k ∈ roleSpares (s.get 0x5400 e 1) ∧ sb = 1) ∨ ix = 0x5900 ∧ diagnostic k = s.get 0x5400 e 1 ∧ sb ∈ [2, 5, 6, 8, 9] ∨ ix = 0x5940 ∧ sb = 5 ∧ diagnostic (k / 16) = s.get 0x5400 e 1) (fun a p q => a ∈ [.coopDrain, .coopPend, .dbruAt, .ploamWant, .ploamuAt] ∨ a = .roomless ∧ p = tree ∨ a ∈ [.knellAt, .safePoint] ∧ p = e ∨ a = .engVac ∧ (p, q) ∈ roleStages s (s.get 0x5400 e 1) ∨ a ∈ [.knellBy, .unserved] ∧ p = s.get 0x5400 e 1 ∨ a = .unservedN ∨ a = .stAban ∧ diagnostic p = s.get 0x5400 e 1) s t
    ∧ t = { s with objs := t.objs, regs := t.regs, evQueue := t.evQueue, evPending := t.evPending, sealedMaps := t.sealedMaps, staged := t.staged })

/-- The unit and release commands have their effect (R308, R310, R311, R388, R389, R393): a mismatch takes a pipe out of service
with what it and its input queue hold and switches any other unit to its other pair, a pipe returns when its input queue and the
recirculation hold nothing of it, a released master and requester run again with what they held reclaimed, and a buffer returned
with a valid pointer is free while an invalid one freezes the requester. -/
def Obligations.UnitAndReleaseCommandsComplete : Prop :=
  (∀ (s : State) (u : Nat),
    Up s →
    u < 12 →
    s.get 0x5460 u 1 ≠ 2 →
    (u < 6 ∨ ((s.recirc.any fun x => x.carrier == u) = false ∧ (s.pipeIn.any fun x => x.carrier == u) = false)) →
    Runs (.unitPairMismatch u) s fun t => t.get 0x5460 u 1 = (if u < 6 then 2 else 1 - s.get 0x5460 u 1) ∧ t.get 0x5460 u 2 = wrapAdd 32 (s.get 0x5460 u 2) 1 ∧ t.get 0x5460 u 3 = unitGap u ∧ t.recirc = s.recirc.filter (fun x => x.carrier != u) ∧ t.pipeIn = s.pipeIn.filter (fun x => x.carrier != u)
    ∧ OnlyEv (fun ix k sb => ix = 0x5460 ∧ k = u ∧ sb ∈ [1, 2, 3] ∨ u < 6 ∧ ix = 0x4480 ∧ sb = 6) (fun a p _ => 10 ≤ u ∧ a ∈ [.engClaim, .engHolds, .engVac] ∧ p = u - 7) s t
    ∧ t = { s with objs := t.objs, regs := t.regs, evQueue := t.evQueue, evPending := t.evPending, pipeIn := t.pipeIn, recirc := t.recirc })
  ∧ (∀ (s : State) (p : Nat),
    Up s →
    p < 6 →
    s.get 0x5460 p 1 = 2 →
    ((s.pipeIn ++ s.recirc).any fun x => x.pipe == p) = false →
    Runs (.pipeServiceReturn p) s fun t => t.get 0x5460 p 1 = 0 ∧ t.get 0x1200 3078 3 = wrapAdd 64 (s.get 0x1200 3078 3) 1
    ∧ OnlyEv (fun ix k sb => ix = 0x5460 ∧ k = p ∧ sb = 1) (fun _ _ _ => False) s t
    ∧ t = { s with objs := t.objs, regs := t.regs, evQueue := t.evQueue, evPending := t.evPending })
  ∧ (∀ (s : State) (acc : Acc) (pl : Nat),
    Up s →
    mayWrite acc 0x5480 pl 5 1 s = true →
    frozen s pl = true →
    Runs (.masterRelease acc pl 1) s fun t => t.answer = ⟨0, 0⟩ ∧ frozen t pl = false ∧ isPending t 3079 pl = false ∧ (pl < 216 → s.get 0x5400 pl 2 = 5 → t.get 0x5400 pl 2 = 2)
    ∧ OnlyEv (fun ix k sb => ix = 0x5480 ∧ k = pl ∧ sb = 1 ∨ ix = 0x4C00 ∧ sb = 2 ∨ ix = 0x4C10 ∧ (sb ∈ [5, 6, 7, 8] ∨ masterOf k = some pl ∧ sb ∈ [9, 15]) ∨ ix = 0x5400 ∧ k = pl ∧ sb = 2 ∨ ix = 0x1150 ∧ k + 256 = pl ∧ sb = 2 ∨ ix = 0x4380 ∧ k + 272 = pl ∧ sb = 2 ∨ ix = 0x1120 ∧ k + 280 = pl ∧ sb = 1 ∨ ix = 0x5480 ∧ k = pl ∧ sb = 5) (fun a p _ => a = .bufWord ∨ a = .knellAt ∧ p = pl) s t
    ∧ t = { s with objs := t.objs, regs := t.regs, evQueue := t.evQueue, evPending := t.evPending, answer := t.answer })
  ∧ (∀ (s : State) (acc : Acc) (r : Nat),
    Up s →
    mayWrite acc 0x4C10 r 0x0A 1 s = true →
    s.get 0x4C10 r 9 = 1 →
    Runs (.requesterRelease acc r 1) s fun t => t.answer = ⟨0, 0⟩ ∧ t.get 0x4C10 r 9 = 0 ∧ isPending t 2560 r = false ∧ t.get 0x4C10 r 0x0F = wrapAdd 64 (s.get 0x4C10 r 0x0F) (reclaim r s).1
    ∧ OnlyEv (fun ix k sb => ix = 0x4C00 ∧ sb = 2 ∨ ix = 0x4C10 ∧ (sb ∈ [5, 6, 7, 8] ∨ k = r ∧ sb ∈ [9, 15]) ∨ ix = 0x5480 ∧ masterOf r = some k ∧ sb = 1 ∨ ix = 0x5400 ∧ masterOf r = some k ∧ sb = 2 ∨ ix = 0x1150 ∧ masterOf r = some (k + 256) ∧ sb = 2 ∨ ix = 0x4C10 ∧ k = r ∧ sb = 10) (fun a p _ => a = .bufWord ∨ a = .knellAt ∧ masterOf r = some p) s t
    ∧ t = { s with objs := t.objs, regs := t.regs, evQueue := t.evQueue, evPending := t.evPending, answer := t.answer })
  ∧ (∀ (s : State) (r ptr : Nat),
    Up s →
    Objects.requesterOk s.trees r = true →
    s.get 0x4C10 r 9 ≠ 1 →
    returnCause s r ptr = 0 →
    let pool := field 39 38 ptr
    let b := field 34 0 ptr / bufSize pool
    Runs (.bufferReturn r ptr) s fun t => t.answer = ⟨0, 0⟩ ∧ t.aux .bufWord pool b = 0
    ∧ Only (fun ix k sb => (ix = 0x4C10 ∧ k = ownTag (s.aux .bufWord pool b) ∧ sb = 5 + pool) ∨ (ix = 0x4C00 ∧ k = pool ∧ sb = 2)) (fun a p q => a = .bufWord ∧ p = pool ∧ q = b) s t
    ∧ t = { s with objs := t.objs, regs := t.regs, answer := t.answer })
  ∧ (∀ (s : State) (r ptr : Nat),
    Up s →
    Objects.requesterOk s.trees r = true →
    s.get 0x4C10 r 9 ≠ 1 →
    returnCause s r ptr ≠ 0 →
    Runs (.bufferReturn r ptr) s fun t => t.answer = ⟨9, 0⟩ ∧ t.get 0x4C10 r 9 = 1 ∧ t.get 0x4C10 r 0x0C = returnCause s r ptr ∧ t.get 0x4C10 r 0x0B = wrapAdd 64 (s.get 0x4C10 r 0x0B) 1 ∧ isPending t 2560 r = true ∧ (∀ k ∈ masterOf r, frozen t k = true)
    ∧ OnlyEv (fun ix k sb => ix = 0x4C10 ∧ k = r ∧ sb ∈ [9, 11, 12, 13] ∨ ix = 0x5480 ∧ masterOf r = some k ∧ sb ∈ [1, 2, 3, 4, 6] ∨ ix = 0x1150 ∧ masterOf r = some (k + 256) ∧ sb = 2 ∨ masterOf r ≠ none ∧ (ix = 0x5400 ∧ sb ∈ [1, 2, 3, 4] ∨ ix = 0x5900 ∧ sb ∈ [2, 5, 6, 8, 9] ∨ ix = 0x5940 ∧ sb = 5)) (fun a _ _ => masterOf r ≠ none ∧ a ∈ [.engVac, .knellAt, .knellBy, .safePoint, .stAban, .unserved, .unservedN]) s t
    ∧ t = { s with objs := t.objs, regs := t.regs, evQueue := t.evQueue, evPending := t.evPending, answer := t.answer })

/-- The protection commands have their effect (R81, R84 to R88): two trees that fit are paired, on one device or across members,
and their pair dissolved, and a pair that does not fit is refused; a standby port that is no longer fit shows it; each cause of
a switch makes the standby port the working one and the old one standby if it is healthy, unless lockout forbids it or the pair
has no standby port; a manual switch is obeyed under lockout, a working port of a pair across members hands over to its partner,
and the terminals that have not resumed at the wait's end go DARK. -/
def Obligations.ProtectionCommandsComplete : Prop :=
  (∀ (s : State) (acc : Acc) (tree pl : Nat) (far : FarPort),
    Up s →
    mayWrite acc 0x2003 tree 3 1 s = true →
    inPair s tree = false →
    s.get 0x2003 tree 2 ≠ 0xFFFF →
    s.get 0x2003 tree 2 / 256 = member s →
    s.get 0x2003 tree 2 % 256 = pl →
    pairFits s tree pl = true →
    inPair s pl = false →
    Runs (.protectionEnable acc (tree, far)) s fun t => t.answer = ⟨0, 0⟩ ∧ protRole t tree = 1 ∧ protRole t pl = 2 ∧ t.get 0x2003 pl 2 = 256 * member s + tree
    ∧ OnlyEv (fun ix k sb => ix ∈ [0x2000, 0x2002] ∧ k = pl ∧ sb = 1 ∨ ix = 0x2001 ∧ k = pl ∧ sb ∈ [1, 2, 8, 9, 11] ∨ ix = 0x2003 ∧ (k = tree ∧ sb ∈ [1, 2] ∨ k = pl ∧ sb ∈ [1, 2, 5]) ∨ ix = 0x3000 ∧ k / 512 = pl ∧ sb ∈ [1, 2, 4, 5, 6, 7, 8, 9, 15] ∨ ix = 0x3102 ∧ sb = 1 ∨ ix = 0x3400 ∧ k / 1024 = pl ∧ sb ∈ [1, 2, 3, 4, 5] ∨ ix = 0x3500 ∧ sb = 1 ∨ ix = 0x3900 ∧ k / 512 = pl ∧ sb = 1 ∨ ix = 0x4000 ∧ sb ∈ [7, 10] ∨ ix = 0x4200 ∧ sb = 4 ∨ ix = 0x5800 ∧ k = 66 ∧ sb ∈ [5, 6] ∨ ix = 0x5840 ∧ sb ∈ [4, 5] ∨ ix = 0x2003 ∧ k = tree ∧ sb = 3) (fun a p _ => a ∈ [.engClaim, .engHolds, .engVac] ∧ p = 2 ∨ a = .beatOut ∧ p / 512 = pl ∨ a ∈ [.beatHold, .chgDark, .chgStart, .chgState, .chgTarget, .discOut, .lastSwitchS, .lossHold, .modeAt, .oldHold, .oldS, .oldStroke, .sick, .silentRun, .skewAt] ∧ p = pl ∨ a ∈ [.keySoft, .kxFrag, .kxGen, .kxIndex, .kxKey, .kxKind, .kxNext, .kxSeq, .kxTries, .missMask]) s t
    ∧ OnlyWords (fun m _ => m = 66) s t
    ∧ t = { s with objs := t.objs, regs := t.regs, evQueue := t.evQueue, evPending := t.evPending, answer := t.answer, beats := t.beats, coexStage := t.coexStage, downWait := t.downWait, fsFrames := t.fsFrames, mem := t.mem, ploams := t.ploams, sdus := t.sdus, skews := t.skews })
  ∧ (∀ (s : State) (acc : Acc) (tree : Nat) (far : FarPort),
    Up s →
    mayWrite acc 0x2003 tree 3 1 s = true →
    inPair s tree = false →
    s.get 0x2003 tree 2 ≠ 0xFFFF →
    s.get 0x2003 tree 2 / 256 ≠ member s →
    s.get 0x2003 tree 2 / 256 < 64 →
    s.get 0x2003 tree 2 % 256 < 48 →
    farFits s tree far = true →
    Runs (.protectionEnable acc (tree, far)) s fun t => t.answer = ⟨0, 0⟩ ∧ protRole t tree = (if s.aux .farSig tree / 64 = 1 then 2 else 1) ∧ t.get 0x2003 tree 2 = s.get 0x2003 tree 2
    ∧ OnlyEv (fun ix k sb => ix ∈ [0x2000, 0x2002] ∧ k = tree ∧ sb = 1 ∨ ix = 0x2003 ∧ k = tree ∧ sb ∈ [1, 2, 5] ∨ ix = 0x4000 ∧ sb ∈ [7, 10] ∨ ix = 0x4200 ∧ sb = 4 ∨ ix = 0x5140 ∧ sb = 6 ∨ ix = 0x5800 ∧ k = 66 ∧ sb ∈ [5, 6] ∨ ix = 0x5840 ∧ sb ∈ [4, 5] ∨ ix = 0x2003 ∧ k = tree ∧ sb = 3) (fun a p q => a ∈ [.engClaim, .engHolds, .engVac] ∧ p = 2 ∧ q = tree ∨ a = .beatOut ∧ p / 512 = tree ∨ a ∈ [.discOut, .sick, .silentRun, .skewAt] ∧ p = tree ∨ a ∈ [.keySoft, .kxFrag, .kxGen, .kxIndex, .kxKey, .kxKind, .kxNext, .kxSeq, .kxTries, .missMask, .mirSeq]) s t
    ∧ OnlyWords (fun m _ => m = 66) s t
    ∧ t = { s with objs := t.objs, regs := t.regs, evQueue := t.evQueue, evPending := t.evPending, answer := t.answer, beats := t.beats, coexStage := t.coexStage, downWait := t.downWait, fsFrames := t.fsFrames, mem := t.mem, ploams := t.ploams, sdus := t.sdus, skews := t.skews, vframes := t.vframes })
  ∧ (∀ (s : State) (acc : Acc) (tree : Nat) (far : FarPort),
    Up s →
    mayWrite acc 0x2003 tree 3 1 s = true →
    inPair s tree = false →
    let w := s.get 0x2003 tree 2
    (w = 0xFFFF ∨ (w ≠ 0xFFFF ∧ w / 256 = member s ∧ pairFits s tree (w % 256) = false) ∨ (w ≠ 0xFFFF ∧ w / 256 ≠ member s ∧ (64 ≤ w / 256 ∨ 48 ≤ w % 256 ∨ farFits s tree far = false))) →
    Runs (.protectionEnable acc (tree, far)) s fun t => t = { s.put 0x2003 tree 3 4 with answer := ⟨4, 0⟩ })
  ∧ (∀ (s : State) (acc : Acc) (tree : Nat),
    Up s →
    mayWrite acc 0x2003 tree 3 0 s = true →
    Runs (.protectionDisable acc tree) s fun t => t.answer = ⟨0, 0⟩ ∧ protRole t tree = 0 ∧ (∀ pl ∈ localPartner s tree, protRole t pl = 0)
    ∧ OnlyEv (fun ix k sb => ix ∈ [0x2000, 0x2002] ∧ (k = tree ∨ localPartner s tree = some k) ∧ sb = 1 ∨ ix = 0x2003 ∧ (k = tree ∨ localPartner s tree = some k) ∧ sb ∈ [1, 5]) (fun a p _ => a ∈ [.resumeLeft, .swReq, .partnerOk, .mirrorOk, .sick] ∧ (p = tree ∨ localPartner s tree = some p)) s t
    ∧ t = { s with objs := t.objs, regs := t.regs, evQueue := t.evQueue, evPending := t.evPending, answer := t.answer })
  ∧ (∀ (s : State) (tree : Nat),
    Up s →
    protRole s tree = 2 →
    s.get 0x2003 tree 5 = 1 →
    standbyFit s tree = false →
    Runs (.standbyReadyLoss tree) s fun t => t.get 0x2003 tree 5 = 0 ∧ isPending t 6 tree = true
    ∧ OnlyEv (fun ix k sb => ix = 0x2003 ∧ k = tree ∧ sb = 5) (fun _ _ _ => False) s t
    ∧ t = { s with objs := t.objs, regs := t.regs, evQueue := t.evQueue, evPending := t.evPending })
  ∧ (∀ (s : State) (tree pl took : Nat),
    Up s →
    protRole s tree = 1 →
    s.islandUp (16 + tree) = false →
    lockedOut s tree = false →
    localPartner s tree = some pl →
    pl ≠ tree →
    protRole s pl = 2 →
    Runs (.workingIslandFault tree took) s fun t => protRole t tree = 0 ∧ t.aux .sick tree = 1 ∧ protRole t pl = 1 ∧ t.get 0x2003 pl 0x0C = took % 2 ^ 32 ∧ t.get 0x1200 5 3 = wrapAdd 64 (s.get 0x1200 5 3) 1
    ∧ OnlyEv (fun ix k sb => ix ∈ [0x2000, 0x2002] ∧ k ∈ [tree, pl] ∧ sb = 1 ∨ ix = 0x2001 ∧ k ∈ [tree, pl] ∧ sb ∈ [1, 2, 8, 9, 11] ∨ ix = 0x2003 ∧ k ∈ [tree, pl] ∧ sb ∈ [1, 5, 11, 12] ∨ ix = 0x2007 ∧ k ∈ [tree, pl] ∧ sb = 14 ∨ ix = 0x2008 ∧ k ∈ [tree, pl] ∧ sb = 2 ∨ ix ∈ [0x3000, 0x3900] ∧ k / 512 ∈ [tree, pl] ∨ ix = 0x3102 ∧ sb = 1 ∨ ix = 0x3200 ∧ k ∈ [tree, pl] ∧ sb ∈ [7, 8] ∨ ix ∈ [0x3400, 0x3A00] ∧ k / 1024 ∈ [tree, pl] ∨ ix = 0x3500 ∧ sb = 1 ∨ ix = 0x3600 ∧ k ∈ [tree, pl] ∧ sb ∈ [20, 21] ∨ ix = 0x4000 ∧ sb ∈ [7, 10] ∨ ix = 0x4200 ∧ sb = 4 ∨ ix = 0x4C00 ∧ sb = 2 ∨ ix = 0x4C10 ∧ sb ∈ [5, 6, 7, 8] ∨ ix ∈ [0x4C40, 0x4C80] ∧ sb ∈ [17, 23, 24, 30] ∨ ix = 0x5140 ∧ sb = 6 ∨ ix = 0x5800 ∧ k = 66 ∧ sb ∈ [5, 6] ∨ ix = 0x5840 ∧ sb ∈ [4, 5]) (fun a p _ => a ∈ [.arrCount, .arrSum, .beatHold, .chgDark, .chgStart, .chgState, .chgTarget, .discOut, .drainOver, .holdLost, .holdRun, .lastSwitchS, .lossHold, .modeAt, .mufWait, .oldHold, .oldS, .oldStroke, .postAt, .resumeLeft, .rxRef, .sick, .silentRun, .skewAt, .swReq, .txAdv, .upClosed, .upLane] ∧ p ∈ [tree, pl] ∨ a ∈ [.attempts, .beatOut, .capTries, .darkAt, .darkCause, .drainTo, .driftHold, .driftLen, .driftSum, .dsn, .fromDark, .heldCmd, .keepAlive, .lossAt, .lossRun, .ploamWant, .ploamuAt, .rangeWide, .regTries] ∧ p / 512 ∈ [tree, pl] ∨ a ∈ [.allocSeq, .dbruAt] ∧ p / 1024 ∈ [tree, pl] ∨ a ∈ [.engClaim, .engHolds, .engVac] ∧ p = 2 ∨ a ∈ [.bufWord, .keySoft, .kxFrag, .kxGen, .kxIndex, .kxKey, .kxKind, .kxNext, .kxSeq, .kxTries, .mirSeq, .missMask, .queueOff, .queueOpen]) s t
    ∧ OnlyWords (fun m _ => m = 66) s t
    ∧ t = { s with objs := t.objs, regs := t.regs, evQueue := t.evQueue, evPending := t.evPending, beats := t.beats, coexStage := t.coexStage, downWait := t.downWait, dues := t.dues, fifo := t.fifo, fsFrames := t.fsFrames, keyWaits := t.keyWaits, mem := t.mem, muted := t.muted, notices := t.notices, out := t.out, pkts := t.pkts, plan := t.plan, ploams := t.ploams, probes := t.probes, sdus := t.sdus, skews := t.skews, vframes := t.vframes })
  ∧ (∀ (s : State) (tree pl took : Nat),
    Up s →
    protRole s tree = 1 →
    s.get 0x2003 tree 9 ≤ s.aux .silentRun tree →
    termsIn s tree 3 ≠ [] →
    lockedOut s tree = false →
    localPartner s tree = some pl →
    pl ≠ tree →
    protRole s pl = 2 →
    Runs (.burstLossDetect tree took) s fun t => protRole t tree = (if healthy s tree then 2 else 0) ∧ protRole t pl = 1 ∧ t.get 0x2003 pl 0x0C = took % 2 ^ 32
    ∧ OnlyEv (fun ix k sb => ix ∈ [0x2000, 0x2002] ∧ k ∈ [tree, pl] ∧ sb = 1 ∨ ix = 0x2001 ∧ k ∈ [tree, pl] ∧ sb ∈ [1, 2, 8, 9, 11] ∨ ix = 0x2003 ∧ k ∈ [tree, pl] ∧ sb ∈ [1, 5, 11, 12] ∨ ix = 0x2007 ∧ k ∈ [tree, pl] ∧ sb = 14 ∨ ix = 0x2008 ∧ k ∈ [tree, pl] ∧ sb = 2 ∨ ix ∈ [0x3000, 0x3900] ∧ k / 512 ∈ [tree, pl] ∨ ix = 0x3102 ∧ sb = 1 ∨ ix = 0x3200 ∧ k ∈ [tree, pl] ∧ sb ∈ [7, 8] ∨ ix ∈ [0x3400, 0x3A00] ∧ k / 1024 ∈ [tree, pl] ∨ ix = 0x3500 ∧ sb = 1 ∨ ix = 0x3600 ∧ k ∈ [tree, pl] ∧ sb ∈ [20, 21] ∨ ix = 0x4000 ∧ sb ∈ [7, 10] ∨ ix = 0x4200 ∧ sb = 4 ∨ ix = 0x4C00 ∧ sb = 2 ∨ ix = 0x4C10 ∧ sb ∈ [5, 6, 7, 8] ∨ ix ∈ [0x4C40, 0x4C80] ∧ sb ∈ [17, 23, 24, 30] ∨ ix = 0x5140 ∧ sb = 6 ∨ ix = 0x5800 ∧ k = 66 ∧ sb ∈ [5, 6] ∨ ix = 0x5840 ∧ sb ∈ [4, 5]) (fun a p _ => a ∈ [.arrCount, .arrSum, .beatHold, .chgDark, .chgStart, .chgState, .chgTarget, .discOut, .drainOver, .holdLost, .holdRun, .lastSwitchS, .lossHold, .modeAt, .mufWait, .oldHold, .oldS, .oldStroke, .postAt, .resumeLeft, .rxRef, .sick, .silentRun, .skewAt, .swReq, .txAdv, .upClosed, .upLane] ∧ p ∈ [tree, pl] ∨ a ∈ [.attempts, .beatOut, .capTries, .darkAt, .darkCause, .drainTo, .driftHold, .driftLen, .driftSum, .dsn, .fromDark, .heldCmd, .keepAlive, .lossAt, .lossRun, .ploamWant, .ploamuAt, .rangeWide, .regTries] ∧ p / 512 ∈ [tree, pl] ∨ a ∈ [.allocSeq, .dbruAt] ∧ p / 1024 ∈ [tree, pl] ∨ a ∈ [.engClaim, .engHolds, .engVac] ∧ p = 2 ∨ a ∈ [.bufWord, .keySoft, .kxFrag, .kxGen, .kxIndex, .kxKey, .kxKind, .kxNext, .kxSeq, .kxTries, .mirSeq, .missMask, .queueOff, .queueOpen]) s t
    ∧ OnlyWords (fun m _ => m = 66) s t
    ∧ t = { s with objs := t.objs, regs := t.regs, evQueue := t.evQueue, evPending := t.evPending, beats := t.beats, coexStage := t.coexStage, downWait := t.downWait, dues := t.dues, fifo := t.fifo, fsFrames := t.fsFrames, keyWaits := t.keyWaits, mem := t.mem, muted := t.muted, notices := t.notices, out := t.out, pkts := t.pkts, plan := t.plan, ploams := t.ploams, probes := t.probes, sdus := t.sdus, skews := t.skews, vframes := t.vframes })
  ∧ (∀ (s : State) (tree took : Nat) (far : Nat × Nat),
    Up s →
    remotePartner s tree = some far →
    protRole s tree = 2 →
    lockedOut s tree = false →
    Runs (.partnerSignalLoss tree took) s fun t => protRole t tree = 1 ∧ t.aux .partnerOk tree = 0 ∧ t.get 0x2003 tree 0x0C = took % 2 ^ 32 ∧ t.get 0x2003 tree 0x0B = wrapAdd 32 (s.get 0x2003 tree 0x0B) 1
    ∧ OnlyEv (fun ix k sb => ix ∈ [0x2000, 0x2002] ∧ k = tree ∧ sb = 1 ∨ ix = 0x2003 ∧ k = tree ∧ sb ∈ [1, 5, 11, 12] ∨ ix = 0x2007 ∧ k = tree ∧ sb = 14 ∨ ix = 0x3600 ∧ k = tree ∧ sb = 20) (fun a p q => a ∈ [.engClaim, .engHolds, .engVac] ∧ p = 2 ∧ q = tree ∨ a ∈ [.arrCount, .arrSum, .holdLost, .holdRun, .partnerOk, .postAt, .resumeLeft, .rxRef, .silentRun, .swReq, .txAdv, .upClosed, .upLane] ∧ p = tree ∨ a ∈ [.darkAt, .driftLen, .driftSum, .keepAlive, .lossAt, .lossRun] ∧ p / 512 = tree) s t
    ∧ t = { s with objs := t.objs, regs := t.regs, evQueue := t.evQueue, evPending := t.evPending, beats := t.beats, freeCtr := t.freeCtr, out := t.out })
  ∧ (∀ (s : State) (acc : Acc) (tree pl took : Nat),
    Up s →
    mayWrite acc 0x2003 tree 7 1 s = true →
    localPartner s tree = some pl →
    pl ≠ tree →
    (protRole s tree = 1 ∨ protRole s tree = 2) →
    protRole s pl = 3 - protRole s tree →
    Runs (.manualSwitch acc tree took) s fun t => t.answer = ⟨0, 0⟩ ∧ (if protRole s tree = 1 then protRole t tree = (if healthy s tree then 2 else 0) ∧ protRole t pl = 1 else protRole t pl = (if healthy s pl then 2 else 0) ∧ protRole t tree = 1)
    ∧ OnlyEv (fun ix k sb => ix ∈ [0x2000, 0x2002] ∧ k ∈ [tree, pl] ∧ sb = 1 ∨ ix = 0x2001 ∧ k ∈ [tree, pl] ∧ sb ∈ [1, 2, 8, 9, 11] ∨ ix = 0x2003 ∧ k ∈ [tree, pl] ∧ sb ∈ [1, 5, 11, 12] ∨ ix = 0x2007 ∧ k ∈ [tree, pl] ∧ sb = 14 ∨ ix = 0x2008 ∧ k ∈ [tree, pl] ∧ sb = 2 ∨ ix ∈ [0x3000, 0x3900] ∧ k / 512 ∈ [tree, pl] ∨ ix = 0x3102 ∧ sb = 1 ∨ ix = 0x3200 ∧ k ∈ [tree, pl] ∧ sb ∈ [7, 8] ∨ ix ∈ [0x3400, 0x3A00] ∧ k / 1024 ∈ [tree, pl] ∨ ix = 0x3500 ∧ sb = 1 ∨ ix = 0x3600 ∧ k ∈ [tree, pl] ∧ sb ∈ [20, 21] ∨ ix = 0x4000 ∧ sb ∈ [7, 10] ∨ ix = 0x4200 ∧ sb = 4 ∨ ix = 0x4C00 ∧ sb = 2 ∨ ix = 0x4C10 ∧ sb ∈ [5, 6, 7, 8] ∨ ix ∈ [0x4C40, 0x4C80] ∧ sb ∈ [17, 23, 24, 30] ∨ ix = 0x5140 ∧ sb = 6 ∨ ix = 0x5800 ∧ k = 66 ∧ sb ∈ [5, 6] ∨ ix = 0x5840 ∧ sb ∈ [4, 5] ∨ ix = 0x2003 ∧ k = tree ∧ sb = 7) (fun a p _ => a ∈ [.arrCount, .arrSum, .beatHold, .chgDark, .chgStart, .chgState, .chgTarget, .discOut, .drainOver, .holdLost, .holdRun, .lastSwitchS, .lossHold, .modeAt, .mufWait, .oldHold, .oldS, .oldStroke, .postAt, .resumeLeft, .rxRef, .sick, .silentRun, .skewAt, .swReq, .txAdv, .upClosed, .upLane] ∧ p ∈ [tree, pl] ∨ a ∈ [.attempts, .beatOut, .capTries, .darkAt, .darkCause, .drainTo, .driftHold, .driftLen, .driftSum, .dsn, .fromDark, .heldCmd, .keepAlive, .lossAt, .lossRun, .ploamWant, .ploamuAt, .rangeWide, .regTries] ∧ p / 512 ∈ [tree, pl] ∨ a ∈ [.allocSeq, .dbruAt] ∧ p / 1024 ∈ [tree, pl] ∨ a ∈ [.engClaim, .engHolds, .engVac] ∧ p = 2 ∨ a ∈ [.bufWord, .keySoft, .kxFrag, .kxGen, .kxIndex, .kxKey, .kxKind, .kxNext, .kxSeq, .kxTries, .mirSeq, .missMask, .queueOff, .queueOpen]) s t
    ∧ OnlyWords (fun m _ => m = 66) s t
    ∧ t = { s with objs := t.objs, regs := t.regs, evQueue := t.evQueue, evPending := t.evPending, answer := t.answer, beats := t.beats, coexStage := t.coexStage, downWait := t.downWait, dues := t.dues, fifo := t.fifo, fsFrames := t.fsFrames, keyWaits := t.keyWaits, mem := t.mem, muted := t.muted, notices := t.notices, out := t.out, pkts := t.pkts, plan := t.plan, ploams := t.ploams, probes := t.probes, sdus := t.sdus, skews := t.skews, vframes := t.vframes })
  ∧ (∀ (s : State) (tree : Nat),
    Up s →
    s.aux .resumeLeft tree ≠ 0 →
    Runs (.resumeWaitExpiry tree) s fun t => t.aux .resumeLeft tree = 0 ∧ (∀ n ∈ termsIn s tree 3, unresumed s tree n = true → termState t n = 4)
    ∧ OnlyEv (fun ix k sb => ix = 0x3000 ∧ k / 512 = tree ∧ sb ∈ [4, 14] ∨ ix = 0x4200 ∧ k / 512 = tree ∧ sb = 4 ∨ ix = 0x5140 ∧ sb = 6 ∨ localPartner s tree ≠ none ∧ (ix ∈ [0x3000, 0x3900] ∧ localPartner s tree = some (k / 512) ∨ ix = 0x3102 ∧ sb = 1)) (fun a p _ => a = .resumeLeft ∧ p = tree ∨ a ∈ [.beatOut, .capTries, .darkAt, .darkCause, .driftHold, .driftLen, .driftSum, .keepAlive, .lossAt, .lossRun, .regTries, .kxFrag, .kxGen, .kxIndex, .kxKey, .kxKind, .kxNext, .kxSeq, .kxTries] ∧ p / 512 = tree ∨ a = .mirSeq) s t
    ∧ t = { s with objs := t.objs, regs := t.regs, evQueue := t.evQueue, evPending := t.evPending, beats := t.beats, keyWaits := t.keyWaits, vframes := t.vframes })
  ∧ (∀ (s : State) (tree took : Nat),
    Up s →
    (lockedOut s tree = true ∨ canSwitch s tree = false ∨ (protRole s tree ≠ 1 ∨ s.islandUp (16 + tree) = true)) →
    Runs (.workingIslandFault tree took) s fun t => t = s)
  ∧ (∀ (s : State) (tree took : Nat),
    Up s →
    (lockedOut s tree = true ∨ canSwitch s tree = false ∨ protRole s tree ≠ 1 ∨ s.aux .silentRun tree < s.get 0x2003 tree 9 ∨ termsIn s tree 3 = []) →
    Runs (.burstLossDetect tree took) s fun t => t = s)
  ∧ (∀ (s : State) (acc : Acc) (tree took : Nat),
    Up s →
    mayWrite acc 0x2003 tree 7 1 s = true →
    canSwitch s tree = false →
    Runs (.manualSwitch acc tree took) s fun t => t = { s.put 0x2003 tree 7 3 with answer := ⟨3, 0⟩ })
  ∧ (∀ (s : State) (acc : Acc) (tree took : Nat) (far : Nat × Nat),
    Up s →
    mayWrite acc 0x2003 tree 7 1 s = true →
    remotePartner s tree = some far →
    protRole s tree = 1 →
    canSwitch s tree = true →
    Runs (.manualSwitch acc tree took) s fun t => t.answer = ⟨0, 0⟩ ∧ protRole t tree = (if healthy s tree then 2 else 0) ∧ t.aux .swReq tree = 5 ∧ t.get 0x2003 tree 0x0B = wrapAdd 32 (s.get 0x2003 tree 0x0B) 1
    ∧ OnlyEv (fun ix k sb => ix ∈ [0x2000, 0x2002] ∧ k ∈ [tree] ∧ sb = 1 ∨ ix = 0x2001 ∧ k ∈ [tree] ∧ sb ∈ [1, 2, 8, 9, 11] ∨ ix = 0x2003 ∧ k ∈ [tree] ∧ sb ∈ [1, 5, 11, 12] ∨ ix = 0x2007 ∧ k ∈ [tree] ∧ sb = 14 ∨ ix = 0x2008 ∧ k ∈ [tree] ∧ sb = 2 ∨ ix ∈ [0x3000, 0x3900] ∧ k / 512 ∈ [tree] ∨ ix = 0x3102 ∧ sb = 1 ∨ ix = 0x3200 ∧ k ∈ [tree] ∧ sb ∈ [7, 8] ∨ ix ∈ [0x3400, 0x3A00] ∧ k / 1024 ∈ [tree] ∨ ix = 0x3500 ∧ sb = 1 ∨ ix = 0x3600 ∧ k ∈ [tree] ∧ sb ∈ [20, 21] ∨ ix = 0x4000 ∧ sb ∈ [7, 10] ∨ ix = 0x4200 ∧ sb = 4 ∨ ix = 0x4C00 ∧ sb = 2 ∨ ix = 0x4C10 ∧ sb ∈ [5, 6, 7, 8] ∨ ix ∈ [0x4C40, 0x4C80] ∧ sb ∈ [17, 23, 24, 30] ∨ ix = 0x5140 ∧ sb = 6 ∨ ix = 0x5800 ∧ k = 66 ∧ sb ∈ [5, 6] ∨ ix = 0x5840 ∧ sb ∈ [4, 5] ∨ ix = 0x2003 ∧ k = tree ∧ sb = 7) (fun a p _ => a ∈ [.arrCount, .arrSum, .beatHold, .chgDark, .chgStart, .chgState, .chgTarget, .discOut, .drainOver, .holdLost, .holdRun, .lastSwitchS, .lossHold, .modeAt, .mufWait, .oldHold, .oldS, .oldStroke, .postAt, .resumeLeft, .rxRef, .sick, .silentRun, .skewAt, .swReq, .txAdv, .upClosed, .upLane] ∧ p ∈ [tree] ∨ a ∈ [.attempts, .beatOut, .capTries, .darkAt, .darkCause, .drainTo, .driftHold, .driftLen, .driftSum, .dsn, .fromDark, .heldCmd, .keepAlive, .lossAt, .lossRun, .ploamWant, .ploamuAt, .rangeWide, .regTries] ∧ p / 512 ∈ [tree] ∨ a ∈ [.allocSeq, .dbruAt] ∧ p / 1024 ∈ [tree] ∨ a ∈ [.engClaim, .engHolds, .engVac] ∧ p = 2 ∨ a ∈ [.bufWord, .keySoft, .kxFrag, .kxGen, .kxIndex, .kxKey, .kxKind, .kxNext, .kxSeq, .kxTries, .mirSeq, .missMask, .queueOff, .queueOpen]) s t
    ∧ OnlyWords (fun m _ => m = 66) s t
    ∧ t = { s with objs := t.objs, regs := t.regs, evQueue := t.evQueue, evPending := t.evPending, answer := t.answer, beats := t.beats, coexStage := t.coexStage, downWait := t.downWait, dues := t.dues, fifo := t.fifo, fsFrames := t.fsFrames, keyWaits := t.keyWaits, mem := t.mem, muted := t.muted, notices := t.notices, out := t.out, pkts := t.pkts, plan := t.plan, ploams := t.ploams, probes := t.probes, sdus := t.sdus, skews := t.skews, vframes := t.vframes })
  ∧ (∀ (s : State) (tree took : Nat),
    Up s →
    s.aux .resumeLeft tree = 0 →
    Runs (.resumeWaitExpiry tree) s fun t => t = s)

/-- The lane commands have their effect (R57, R80, R115, R125): an enabled lane with its features waits for the frame boundary
and starts there, a running lane drains, the drain's expiry discards and counts what still waits in the framer, the boundary
after it disables the lane and its terminals pass to WAITING, and a frame boundary shows the frame number the grid has reached,
opens the next frame's map and starts the frame of a running lane. -/
def Obligations.TreeLaneCommandsComplete : Prop :=
  (∀ (s : State) (acc : Acc) (tree : Nat),
    Up s →
    mayWrite acc 0x2000 tree 2 1 s = true →
    bit 7 (s.get 0x5E01 tree 1) = true →
    laneState s tree 0 = 0 →
    Runs (.mainLaneEnable acc tree) s fun t => t.answer = ⟨0, 0⟩ ∧ t.aux .mainPend tree = 1 ∧ laneState t tree 0 = 0
    ∧ Only (fun ix k sb => ix = 0x2000 ∧ k = tree ∧ sb = 2) (fun a p q => a = .mainPend ∧ p = tree ∧ q = 0) s t
    ∧ t = { s with objs := t.objs, regs := t.regs, answer := t.answer })
  ∧ (∀ (s : State) (acc : Acc) (tree : Nat),
    Up s →
    mayWrite acc 0x2002 tree 2 1 s = true →
    bit 7 (s.get 0x5E01 tree 1) = true →
    bit 6 (s.get 0x5E01 tree 1) = true →
    laneState s tree 1 = 0 →
    Runs (.coexLaneEnable acc tree) s fun t => t.answer = ⟨0, 0⟩ ∧ t.aux .coexPend tree = 1 ∧ laneState t tree 1 = 0
    ∧ Only (fun ix k sb => ix = 0x2002 ∧ k = tree ∧ sb = 2) (fun a p q => a = .coexPend ∧ p = tree ∧ q = 0) s t
    ∧ t = { s with objs := t.objs, regs := t.regs, answer := t.answer })
  ∧ (∀ (s : State) (acc : Acc) (tree : Nat),
    Up s →
    mayWrite acc 0x2000 tree 2 0 s = true →
    laneState s tree 0 = 2 →
    let muf := s.get 0x3200 tree 7
    Runs (.mainLaneDrain acc tree) s fun t => t.answer = ⟨0, 0⟩ ∧ laneState t tree 0 = 1 ∧ t.aux .drainOver tree 0 = 0 ∧ t.aux .upLane tree 0 = 1
    ∧ OnlyEv (fun ix k sb => ix = 0x2000 ∧ k = tree ∧ sb ∈ [1, 2] ∨ ix = 0x2007 ∧ k = tree ∧ sb = 14 ∨ muf ≠ 0 ∧ muf ≠ 6 ∧ (ix = 0x2008 ∧ k = tree ∧ sb = 2 ∨ ix ∈ [0x3000, 0x3900] ∧ (k / 512 = tree ∨ localPartner s tree = some (k / 512)) ∨ ix = 0x3102 ∧ sb = 1 ∨ ix = 0x3200 ∧ k = tree ∧ sb ∈ [7, 8] ∨ ix = 0x3400 ∧ k / 1024 = tree ∧ sb = 16 ∨ ix = 0x3600 ∧ k = tree ∧ sb = 21 ∨ ix = 0x4000 ∧ sb ∈ [7, 10] ∨ ix = 0x4200 ∧ sb = 4 ∨ ix = 0x4C00 ∧ sb = 2 ∨ ix = 0x4C10 ∧ sb ∈ [5, 6, 7, 8] ∨ ix ∈ [0x4C40, 0x4C80] ∧ sb ∈ [17, 23, 24, 30] ∨ ix = 0x5140 ∧ sb = 6 ∨ ix = 0x5800 ∧ k = 66 ∧ sb ∈ [5, 6] ∨ ix = 0x5840 ∧ sb ∈ [4, 5])) (fun a p q => a ∈ [.drainOver, .upLane, .upClosed] ∧ p = tree ∧ q = 0 ∨ s.aux .chgState tree ≠ 0 ∧ a ∈ [.chgState, .beatHold, .lossHold, .changeDrain] ∧ p = tree ∨ muf ≠ 0 ∧ muf ≠ 6 ∧ (a ∈ [.beatOut, .capTries, .drainTo, .driftHold, .driftLen, .driftSum, .heldCmd, .keepAlive, .lossAt, .lossRun, .regTries] ∧ p / 512 = tree ∨ a = .allocSeq ∧ p / 1024 = tree ∨ a = .mufWait ∧ p = tree ∨ a ∈ [.bufWord, .keySoft, .kxFrag, .kxGen, .kxIndex, .kxKey, .kxKind, .kxNext, .kxSeq, .kxTries, .mirSeq, .missMask, .queueOff, .queueOpen])) s t
    ∧ OnlyWords (fun m _ => m = 66) s t
    ∧ t = { s with objs := t.objs, regs := t.regs, evQueue := t.evQueue, evPending := t.evPending, answer := t.answer, notices := t.notices, beats := t.beats, coexStage := t.coexStage, downWait := t.downWait, dues := t.dues, fifo := t.fifo, keyWaits := t.keyWaits, mem := t.mem, muted := t.muted, pkts := t.pkts, plan := t.plan, ploams := t.ploams, probes := t.probes, sdus := t.sdus, vframes := t.vframes })
  ∧ (∀ (s : State) (acc : Acc) (tree : Nat),
    Up s →
    mayWrite acc 0x2002 tree 2 0 s = true →
    laneState s tree 1 = 2 →
    Runs (.coexLaneDrain acc tree) s fun t => t.answer = ⟨0, 0⟩ ∧ laneState t tree 1 = 1 ∧ t.aux .drainOver tree 1 = 0 ∧ t.aux .upLane tree 1 = 1
    ∧ OnlyEv (fun ix k sb => (ix = 0x2002 ∧ k = tree ∧ (sb = 1 ∨ sb = 2)) ∨ (ix = 0x2007 ∧ k = tree ∧ sb = 14) ∨ ix = 0x2002 ∧ k = tree ∧ sb = 2) (fun a p q => (a = .drainOver ∨ a = .upLane ∨ a = .upClosed) ∧ p = tree ∧ q = 1) s t
    ∧ t = { s with objs := t.objs, regs := t.regs, evQueue := t.evQueue, evPending := t.evPending, answer := t.answer })
  ∧ (∀ (s : State) (tree lane : Nat),
    Up s →
    lane ≤ 1 →
    laneState s tree lane = 1 →
    s.aux .drainOver tree lane = 0 →
    Runs (.downstreamDrainExpiry tree lane) s fun t => t.aux .drainOver tree lane = 1 ∧ waitingFrames t tree lane = 0 ∧ t.get 0x2004 tree 5 = (if waitingFrames s tree lane = 0 then s.get 0x2004 tree 5 else wrapAdd 64 (s.get 0x2004 tree 5) (waitingFrames s tree lane)) ∧ t.downWait = s.downWait.filter (fun x => !(x.tree == tree && x.lane == lane))
    ∧ OnlyEv (fun ix k sb => ix = 0x2004 ∧ k = tree ∧ sb = 5 ∨ ix = 0x4000 ∧ sb ∈ [7, 10] ∨ ix = 0x4200 ∧ sb = 4 ∨ ix = 0x5800 ∧ k = 66 ∧ sb ∈ [5, 6] ∨ ix = 0x5840 ∧ sb ∈ [4, 5]) (fun a p q => a = .drainOver ∧ p = tree ∧ q = lane ∨ a ∈ [.keySoft, .kxFrag, .kxGen, .kxIndex, .kxKey, .kxKind, .kxNext, .kxSeq, .kxTries, .missMask]) s t
    ∧ OnlyWords (fun m _ => m = 66) s t
    ∧ t = { s with objs := t.objs, regs := t.regs, evQueue := t.evQueue, evPending := t.evPending, downWait := t.downWait, mem := t.mem, ploams := t.ploams })
  ∧ (∀ (s : State) (tree lane : Nat),
    Up s →
    lane ≤ 1 →
    laneState s tree lane = 1 →
    (waitingFrames s tree lane = 0 ∨ s.aux .drainOver tree lane = 1) →
    Runs (.downstreamDrainEnd tree lane) s fun t => laneState t tree lane = 0 ∧ t.aux .drainOver tree lane = 0 ∧ (∀ n ∈ termsIn s tree 3, laneOf s n = lane → termState t n = 1)
    ∧ OnlyEv (fun ix k sb => ix = (if lane = 0 then 0x2000 else 0x2002) ∧ k = tree ∧ sb = 1 ∨ ix = 0x2004 ∧ k = tree ∧ sb = 3 ∨ ix = 0x3600 ∧ k = tree ∧ sb = 20 ∨ ix ∈ [0x3000, 0x3900] ∧ (k / 512 = tree ∨ localPartner s tree = some (k / 512)) ∨ ix = 0x3102 ∧ sb = 1 ∨ ix = 0x3400 ∧ k / 1024 = tree ∧ sb = 16 ∨ ix = 0x3600 ∧ k = tree ∧ sb = 21 ∨ ix = 0x4200 ∧ k / 512 = tree ∧ sb = 4 ∨ ix = 0x5140 ∧ sb = 6 ∨ ix = 0x4000 ∧ sb ∈ [4, 5, 6, 7, 10, 12, 14, 15] ∨ ix = 0x4200 ∧ sb ∈ [4, 5] ∨ ix = 0x5140 ∧ sb = 6 ∨ ix = 0x5800 ∧ k = 66 ∧ 2 ≤ sb ∧ sb ≤ 9 ∨ ix = 0x5840 ∧ sb ∈ [4, 5] ∨ ix = 0x5C00 ∧ k = 0 ∧ sb ∈ [1, 3, 7, 15]) (fun a p q => a ∈ [.drainOver, .holdRun, .holdLost] ∧ p = tree ∧ q = lane ∨ a = .changeDrain ∧ p = tree ∨ a ∈ [.beatOut, .capTries, .driftHold, .driftLen, .driftSum, .keepAlive, .lossAt, .lossRun, .regTries, .kxFrag, .kxGen, .kxIndex, .kxKey, .kxKind, .kxNext, .kxSeq, .kxTries] ∧ p / 512 = tree ∨ a = .allocSeq ∧ p / 1024 = tree ∨ a = .mirSeq ∨ a ∈ [.keyAt, .keyMat, .keyNextIdx, .keyPoison, .keySoft, .keyUnacked, .kxFrag, .kxGen, .kxIndex, .kxKey, .kxKind, .kxNext, .kxSeq, .kxTries, .mirSeq, .missMask] ∨ a ∈ [.holdAt, .lastLock, .pend3841, .slewAt, .slewLeft, .slewing]) s t
    ∧ OnlyWords (fun m _ => m = 66) s t
    ∧ t = { s with objs := t.objs, regs := t.regs, evQueue := t.evQueue, evPending := t.evPending, bulletins := t.bulletins, dues := t.dues, fsFrames := t.fsFrames, out := t.out, plan := t.plan, sealedMaps := t.sealedMaps, staged := t.staged, beats := t.beats, keyWaits := t.keyWaits, muted := t.muted, ploams := t.ploams, vframes := t.vframes, mem := t.mem, offsets := t.offsets, recent := t.recent, words := t.words })
  ∧ (∀ (s : State) (tree : Nat) (runs : List (Nat × Nat)) (levels : List Nat),
    Up s →
    s.treeUp tree = true →
    frameNow s tree ≠ s.get 0x2000 tree 5 →
    Runs (.frameBoundary tree runs levels) s fun t => t.get 0x2000 tree 5 = frameNow s tree ∧ t.aux .mainPend tree = (if s.aux .mainPend tree = 1 then 0 else s.aux .mainPend tree) ∧ t.aux .mapBuild tree 0 = frameAdd (frameNow s tree) 1 + 1 ∧ t.aux .mapBuild tree 1 = frameAdd (frameNow s tree) 1 + 1
    ∧ OnlyEv (fun ix k sb => ix = 0x2000 ∧ k = tree ∧ sb ∈ [1, 5] ∨ ix = 0x2002 ∧ k = tree ∧ sb = 1 ∨ ix = 0x2003 ∧ k = tree ∧ sb ∈ [1, 4, 5] ∨ ix = 0x2004 ∧ k = tree ∧ sb ∈ [1, 2, 3, 4, 6] ∨ ix = 0x2007 ∧ k = tree ∧ sb = 14 ∨ ix = 0x2009 ∧ k = tree ∧ sb ∈ [2, 3] ∨ ix ∈ [0x3000, 0x3900] ∧ (k / 512 = tree ∨ localPartner s tree = some (k / 512)) ∨ ix = 0x3100 ∧ k = tree ∧ sb = 13 ∨ ix = 0x3101 ∧ k = tree ∧ sb = 1 ∨ ix = 0x3102 ∧ sb = 1 ∨ ix = 0x3200 ∧ k = tree ∧ sb ∈ [7, 8] ∨ ix = 0x3400 ∧ k / 1024 = tree ∧ sb ∈ [10, 12, 14, 16] ∨ ix = 0x3600 ∧ k = tree ∨ ix = 0x4000 ∧ sb ∈ [4, 5, 6, 7, 10, 12, 15] ∨ ix = 0x4200 ∧ sb = 4 ∨ ix = 0x4E20 ∧ sb ∈ [8, 9] ∨ ix = 0x5140 ∧ sb = 6 ∨ ix = 0x5800 ∧ k = 66 ∧ 2 ≤ sb ∧ sb ≤ 9 ∨ ix = 0x5840 ∧ sb ∈ [4, 5]) (fun a p _ => a ∈ [.arrCount, .arrSum, .coexPend, .discHeard, .discInt, .discNext, .discOut, .fcAt, .flamBytes, .found, .heldAt, .holdFor, .holdLost, .holdRun, .lastFlam, .mainPend, .mapBuild, .mapCut, .mufA, .mufClass, .mufFirst, .mufFrom, .mufLit, .mufO, .mufObs, .mufProbed, .mufThr, .mufWait, .recAt, .recBeats, .recEmpty, .recHeard, .rxRef, .sick, .silentRun, .skewAt, .upClosed, .upLane] ∧ p = tree ∨ a ∈ [.allocSeq, .beatOut, .capSeq, .capTries, .chkpt, .coopPend, .driftHold, .driftLen, .driftSum, .flowEff, .keepAlive, .keyMat, .keyNextIdx, .keyPoison, .keySoft, .keyUnacked, .kxFrag, .kxGen, .kxIndex, .kxKey, .kxKind, .kxNext, .kxSeq, .kxTries, .lossAt, .lossRun, .mirSeq, .missMask, .ploamSeq, .ploamWant, .regTries]) s t
    ∧ OnlyWords (fun m _ => m = 66) s t
    ∧ t = { s with objs := t.objs, regs := t.regs, evQueue := t.evQueue, evPending := t.evPending, beats := t.beats, bulletins := t.bulletins, downWait := t.downWait, dues := t.dues, energy := t.energy, fsFrames := t.fsFrames, keyWaits := t.keyWaits, mem := t.mem, muted := t.muted, noDelims := t.noDelims, notices := t.notices, out := t.out, plan := t.plan, ploams := t.ploams, probes := t.probes, quiets := t.quiets, recent := t.recent, sealedMaps := t.sealedMaps, sentMaps := t.sentMaps, skews := t.skews, staged := t.staged, vframes := t.vframes })
  ∧ (∀ (s : State) (tree : Nat) (runs : List (Nat × Nat)) (levels : List Nat),
    Up s →
    let n := frameNow s tree
    s.treeUp tree = true →
    n ≠ s.get 0x2000 tree 5 →
    s.aux .mainPend tree = 0 →
    laneSends s tree 0 n = true →
    Runs (.frameBoundary tree runs levels) s fun t => t.get 0x2000 tree 5 = n ∧ t.get 0x2004 tree 1 = wrapAdd 64 (s.get 0x2004 tree 1) 1 ∧ (fsFrame t tree 0).map (fun x => x.frame) = some n
    ∧ OnlyEv (fun ix k sb => ix = 0x2000 ∧ k = tree ∧ sb ∈ [1, 5] ∨ ix = 0x2002 ∧ k = tree ∧ sb = 1 ∨ ix = 0x2003 ∧ k = tree ∧ sb ∈ [1, 4, 5] ∨ ix = 0x2004 ∧ k = tree ∧ sb ∈ [1, 2, 3, 4, 6] ∨ ix = 0x2007 ∧ k = tree ∧ sb = 14 ∨ ix = 0x2009 ∧ k = tree ∧ sb ∈ [2, 3] ∨ ix ∈ [0x3000, 0x3900] ∧ (k / 512 = tree ∨ localPartner s tree = some (k / 512)) ∨ ix = 0x3100 ∧ k = tree ∧ sb = 13 ∨ ix = 0x3101 ∧ k = tree ∧ sb = 1 ∨ ix = 0x3102 ∧ sb = 1 ∨ ix = 0x3200 ∧ k = tree ∧ sb ∈ [7, 8] ∨ ix = 0x3400 ∧ k / 1024 = tree ∧ sb ∈ [10, 12, 14, 16] ∨ ix = 0x3600 ∧ k = tree ∨ ix = 0x4000 ∧ sb ∈ [4, 5, 6, 7, 10, 12, 15] ∨ ix = 0x4200 ∧ sb = 4 ∨ ix = 0x4E20 ∧ sb ∈ [8, 9] ∨ ix = 0x5140 ∧ sb = 6 ∨ ix = 0x5800 ∧ k = 66 ∧ 2 ≤ sb ∧ sb ≤ 9 ∨ ix = 0x5840 ∧ sb ∈ [4, 5]) (fun a p _ => a ∈ [.arrCount, .arrSum, .coexPend, .discHeard, .discInt, .discNext, .discOut, .fcAt, .flamBytes, .found, .heldAt, .holdFor, .holdLost, .holdRun, .lastFlam, .mainPend, .mapBuild, .mapCut, .mufA, .mufClass, .mufFirst, .mufFrom, .mufLit, .mufO, .mufObs, .mufProbed, .mufThr, .mufWait, .recAt, .recBeats, .recEmpty, .recHeard, .rxRef, .sick, .silentRun, .skewAt, .upClosed, .upLane] ∧ p = tree ∨ a ∈ [.allocSeq, .beatOut, .capSeq, .capTries, .chkpt, .coopPend, .driftHold, .driftLen, .driftSum, .flowEff, .keepAlive, .keyMat, .keyNextIdx, .keyPoison, .keySoft, .keyUnacked, .kxFrag, .kxGen, .kxIndex, .kxKey, .kxKind, .kxNext, .kxSeq, .kxTries, .lossAt, .lossRun, .mirSeq, .missMask, .ploamSeq, .ploamWant, .regTries]) s t
    ∧ OnlyWords (fun m _ => m = 66) s t
    ∧ t = { s with objs := t.objs, regs := t.regs, evQueue := t.evQueue, evPending := t.evPending, beats := t.beats, bulletins := t.bulletins, downWait := t.downWait, dues := t.dues, energy := t.energy, fsFrames := t.fsFrames, keyWaits := t.keyWaits, mem := t.mem, muted := t.muted, noDelims := t.noDelims, notices := t.notices, out := t.out, plan := t.plan, ploams := t.ploams, probes := t.probes, quiets := t.quiets, recent := t.recent, sealedMaps := t.sealedMaps, sentMaps := t.sentMaps, skews := t.skews, staged := t.staged, vframes := t.vframes })
  ∧ (∀ (s : State) (tree : Nat) (runs : List (Nat × Nat)) (levels : List Nat),
    Up s →
    (s.treeUp tree = false ∨ frameNow s tree = s.get 0x2000 tree 5) →
    Runs (.frameBoundary tree runs levels) s fun t => t = s)

/-- The commands of a mode change have their effect (R72 to R78, R90): a request that meets every condition sets the switch
frame S and announces, unacknowledged notices fall due again, an acknowledgement with the sequence number of a notice is counted
once and one with that of an Assign_Alloc-ID shows its allocation assigned, a cancel returns the lane to running and tells the
terminals that were told, frame S makes the lane dark and frame S + D completes the change in the target mode with the next
generation. -/
def Obligations.ModeChangeCommandsComplete : Prop :=
  (∀ (s : State) (acc : Acc) (tree : Nat),
    Up s →
    mayWrite acc 0x2001 tree 7 1 s = true →
    s.aux .chgState tree = 0 →
    laneState s tree 0 = 2 →
    (¬(s.get 0x2001 tree 3 = 0 ∧ s.get 0x2001 tree 4 = 1)) →
    (¬(s.get 0x2001 tree 3 = s.get 0x2001 tree 1 ∧ s.get 0x2001 tree 4 = s.get 0x2001 tree 2)) →
    (s.get 0x2001 tree 3 = 1 → bit 0 (s.get 0x5E10 tree 6) = true ∧ (mainTerminals s tree).countP (fun n => !capableOf s (s.get 0x2001 tree 4) n) = 0) →
    ceilDiv (mainTerminals s tree).length 8 + 16 ≤ s.get 0x2001 tree 5 →
    Runs (.modeSwitchRequest acc tree) s fun t => t.answer = ⟨0, 0⟩ ∧ laneState t tree 0 = 3 ∧ t.get 0x2001 tree 8 = frameAdd (frameNow s tree) (s.get 0x2001 tree 5) ∧ t.get 0x2001 tree 9 = 0 ∧ t.aux .chgState tree = 1 ∧ t.aux .chgTarget tree = 2 * s.get 0x2001 tree 3 + s.get 0x2001 tree 4 ∧ t.aux .chgDark tree = s.get 0x2001 tree 6
    ∧ OnlyEv (fun ix k sb => ix = 0x2000 ∧ k = tree ∧ sb = 1 ∨ ix = 0x2001 ∧ k = tree ∧ sb ∈ [7, 8, 9] ∨ ix = 0x2001 ∧ localPartner s tree = some k ∧ sb ∈ [1, 2, 8, 9, 11]) (fun a p _ => a ∈ [.chgState, .chgStart, .chgTarget, .chgDark, .beatHold, .lossHold, .oldS, .oldHold] ∧ p = tree ∨ a ∈ [.chgState, .chgStart, .chgTarget, .chgDark, .beatHold, .lossHold, .lastSwitchS, .modeAt, .oldStroke, .oldS, .oldHold] ∧ localPartner s tree = some p) s t
    ∧ t = { s with objs := t.objs, regs := t.regs, evQueue := t.evQueue, evPending := t.evPending, answer := t.answer })
  ∧ (∀ (s : State) (tree : Nat) (x : Notice),
    Up s →
    s.aux .chgState tree = 1 →
    9 < framesTo (frameNow s tree) (switchFrame s tree) →
    x ∈ s.notices →
    x.tree = tree →
    x.acked = false →
    x.sent ≠ 0 →
    8 ≤ framesTo (x.sent - 1) (frameAdd (frameNow s tree) 1) →
    Runs (.modeNoticeResend tree) s fun t => { x with due := true } ∈ t.notices ∧ t.notices.length = s.notices.length ∧ t = { s with notices := t.notices })
  ∧ (∀ (s : State) (tree : Nat) (x : Notice),
    Up s →
    s.aux .chgState tree = 2 →
    1 < framesTo (frameNow s tree) (switchFrame s tree) →
    x ∈ s.notices →
    x.tree = tree →
    x.acked = false →
    x.sent ≠ 0 →
    8 ≤ framesTo (x.sent - 1) (frameAdd (frameNow s tree) 1) →
    Runs (.cancelNoticeResend tree) s fun t => { x with due := true } ∈ t.notices ∧ t.notices.length = s.notices.length ∧ t = { s with notices := t.notices })
  ∧ (∀ (s : State) (terminal seq : Nat) (cancel : Bool) (x : Notice),
    Up s →
    let tree := terminal / 512
    (s.aux .chgState tree = (if cancel then 2 else 1)) →
    laneState s tree 0 ≠ 4 →
    x ∈ s.notices →
    (x.tree = tree ∧ x.onu = terminal % 512 ∧ x.sent ≠ 0 ∧ x.acked = false ∧ x.seq = seq) →
    Runs (.modeNoticeAck terminal (cancel, seq)) s fun t => { x with acked := true, due := false } ∈ t.notices ∧ t.get 0x2001 tree 9 = (if cancel then s.get 0x2001 tree 9 else s.get 0x2001 tree 9 + 1)
    ∧ Only (fun ix k sb => ix = 0x2001 ∧ k = tree ∧ sb = 9 ∨ ix = 0x2001 ∧ localPartner s tree = some k ∧ sb ∈ [1, 2, 8, 9, 11] ∨ ix = 0x3400 ∧ s.get 0x3400 k 2 = terminal ∧ sb = 16) (fun a p _ => a = .allocSeq ∧ s.get 0x3400 p 2 = terminal ∨ a ∈ [.chgState, .chgStart, .chgTarget, .chgDark, .beatHold, .lossHold, .lastSwitchS, .modeAt, .oldStroke, .oldS, .oldHold] ∧ localPartner s tree = some p) s t
    ∧ t = { s with objs := t.objs, regs := t.regs, notices := t.notices })
  ∧ (∀ (s : State) (terminal seq : Nat) (cancel : Bool),
    Up s →
    termState s terminal = 3 →
    (s.notices.any fun x => x.tree == terminal / 512 && x.onu == terminal % 512 && x.seq == seq) = false →
    seq ≠ 0 →
    Runs (.modeNoticeAck terminal (cancel, seq)) s fun t => (∀ al ∈ allocsOf s terminal, s.aux .allocSeq al = seq → t.get 0x3400 al 0x10 = 1)
    ∧ Only (fun ix k sb => ix = 0x3400 ∧ s.get 0x3400 k 2 = terminal ∧ sb = 16) (fun a p _ => a = .allocSeq ∧ s.get 0x3400 p 2 = terminal) s t
    ∧ t = { s with objs := t.objs, regs := t.regs })
  ∧ (∀ (s : State) (terminal seq : Nat) (cancel : Bool),
    Up s →
    termState s terminal ≠ 3 →
    (s.notices.any fun x => x.tree == terminal / 512 && x.onu == terminal % 512 && x.seq == seq) = false →
    Runs (.modeNoticeAck terminal (cancel, seq)) s fun t => t = s)
  ∧ (∀ (s : State) (acc : Acc) (tree : Nat),
    Up s →
    mayWrite acc 0x2001 tree 7 0 s = true →
    s.aux .chgState tree = 1 →
    let told := s.notices.filter fun x => x.tree == tree && x.sent != 0
    ((ceilDiv told.length 8 + 16 : Nat) : Int) ≤ framesTo (frameNow s tree) (switchFrame s tree) →
    Runs (.modeSwitchCancel acc tree) s fun t => t.answer = ⟨0, 0⟩ ∧ laneState t tree 0 = 2 ∧ t.aux .chgState tree = 2 ∧ t.notices = (s.notices.filter fun x => x.tree != tree) ++ told.map (fun x => { x with sent := 0, due := true, acked := false, seq := 0 })
    ∧ OnlyEv (fun ix k sb => ix = 0x2000 ∧ k = tree ∧ sb = 1 ∨ ix = 0x2001 ∧ k = tree ∧ sb = 7 ∨ ix = 0x2001 ∧ localPartner s tree = some k ∧ sb ∈ [1, 2, 8, 9, 11]) (fun a p _ => a ∈ [.chgState, .chgStart, .beatHold, .lossHold, .lastSwitchS] ∧ p = tree ∨ a ∈ [.chgState, .chgStart, .chgTarget, .chgDark, .beatHold, .lossHold, .lastSwitchS, .modeAt, .oldStroke, .oldS, .oldHold] ∧ localPartner s tree = some p) s t
    ∧ t = { s with objs := t.objs, regs := t.regs, evQueue := t.evQueue, evPending := t.evPending, answer := t.answer, notices := t.notices, ploams := t.ploams })
  ∧ (∀ (s : State) (tree : Nat),
    Up s →
    s.aux .chgState tree = 2 →
    framesTo (frameNow s tree) (switchFrame s tree) ≤ 0 →
    Runs (.cancelDeadline tree) s fun t => t.aux .chgState tree = 0 ∧ t.notices = s.notices.filter (fun x => x.tree != tree) ∧ laneState t tree 0 = laneState s tree 0 ∧ (unacked s tree = 0 → t.evQueue = s.evQueue)
    ∧ OnlyEv (fun ix k sb => ix = 0x2001 ∧ localPartner s tree = some k ∧ sb ∈ [1, 2, 8, 9, 11]) (fun a p _ => a = .chgState ∧ p = tree ∨ a ∈ [.chgState, .chgStart, .chgTarget, .chgDark, .beatHold, .lossHold, .lastSwitchS, .modeAt, .oldStroke, .oldS, .oldHold] ∧ localPartner s tree = some p) s t
    ∧ t = { s with objs := t.objs, regs := t.regs, evQueue := t.evQueue, evPending := t.evPending, notices := t.notices, ploams := t.ploams })
  ∧ (∀ (s : State) (tree : Nat),
    Up s →
    s.aux .chgState tree = 1 →
    laneState s tree 0 = 3 →
    framesTo (frameNow s tree) (switchFrame s tree) ≤ 0 →
    Runs (.modeSwitchDarkStart tree) s fun t => laneState t tree 0 = 4 ∧ t.aux .lastSwitchS tree = switchFrame s tree + 1 ∧ t.aux .chgState tree = 1 ∧ t.notices = s.notices
    ∧ OnlyEv (fun ix k sb => ix = 0x2000 ∧ k = tree ∧ sb = 1 ∨ ix = 0x2001 ∧ localPartner s tree = some k ∧ sb ∈ [1, 2, 8, 9, 11]) (fun a p _ => a = .lastSwitchS ∧ p = tree ∨ a ∈ [.chgState, .chgStart, .chgTarget, .chgDark, .beatHold, .lossHold, .lastSwitchS, .modeAt, .oldStroke, .oldS, .oldHold] ∧ localPartner s tree = some p) s t
    ∧ t = { s with objs := t.objs, regs := t.regs, evQueue := t.evQueue, evPending := t.evPending })
  ∧ (∀ (s : State) (tree : Nat),
    Up s →
    s.aux .chgState tree = 1 →
    laneState s tree 0 = 4 →
    framesTo (frameNow s tree) (newModeFrame s tree) ≤ 0 →
    Runs (.modeSwitchComplete tree) s fun t => laneState t tree 0 = 2 ∧ t.get 0x2001 tree 1 = s.aux .chgTarget tree / 2 ∧ t.get 0x2001 tree 2 = s.aux .chgTarget tree % 2 ∧ t.get 0x2001 tree 0x0B = wrapAdd 16 (s.get 0x2001 tree 0x0B) 1 ∧ t.aux .chgState tree = 0 ∧ t.notices = s.notices.filter (fun x => x.tree != tree)
    ∧ OnlyEv (fun ix k sb => ix = 0x2000 ∧ k = tree ∧ sb = 1 ∨ ix = 0x2001 ∧ k = tree ∧ sb ∈ [1, 2, 11] ∨ ix = 0x2001 ∧ localPartner s tree = some k ∧ sb ∈ [1, 2, 8, 9, 11]) (fun a p _ => a ∈ [.oldStroke, .modeAt, .chgState, .missMask] ∧ p = tree ∨ a ∈ [.chgState, .chgStart, .chgTarget, .chgDark, .beatHold, .lossHold, .lastSwitchS, .modeAt, .oldStroke, .oldS, .oldHold] ∧ localPartner s tree = some p ∨ a = .missMask ∧ localPartner s tree = some p) s t
    ∧ t = { s with objs := t.objs, regs := t.regs, evQueue := t.evQueue, evPending := t.evPending, notices := t.notices, ploams := t.ploams })

/-- The burst commands have their effect (R83, R94 to R98, R106 to R108, R118): a burst whose delimiter is accepted in its
window is counted and its phase recorded for its terminal, one whose header is wrong is counted and delivers nothing, a missing
one is counted and goes to the grant engine as "no report" for each of its allocations, a standby port only measures skew, on
the main lane; a signal-strength request is accepted for a terminal in operation and ends with the module's value or a failure;
a terminal's burst counts clear. -/
def Obligations.BurstCommandsComplete : Prop :=
  (∀ (s : State) (tree frame start light : Nat) (b : BurstIn) (hit : DelimIn) (writes : List MemWrite) (poison : List Poison) (g : Grant) (r : List Grant),
    Up s →
    s.treeUp tree = true →
    laneState s tree 0 ≠ 5 →
    s.aux .upLane tree 0 ≠ 0 →
    s.aux .upClosed tree 0 ≠ 1 →
    burstEntries s tree 0 frame start = g :: r →
    foundAt s tree 0 frame g.profile b = some hit →
    let o := 1024 * tree + g.onu
    let n := 512 * tree + g.onu
    let fec := s.get (profileIndex 0) (1024 * tree + g.profile) 7 == 1
    headerRight g.onu fec b = true →
    Runs (.burstReceive tree frame start b light writes poison) s fun t => t.get 0x2007 tree 1 = wrapAdd 64 (s.get 0x2007 tree 1) 1 ∧ t.get 0x2007 tree 2 = wrapAdd 64 (s.get 0x2007 tree 2) 1 ∧ t.get 0x2010 o 1 = wrapAdd 64 (s.get 0x2010 o 1) 1 ∧ t.get 0x2010 o 3 = ofInt 32 hit.pos ∧ t.get 0x2010 o 4 = wrapAdd 64 (s.get 0x2010 o 4) hit.errors ∧ t.get 0x2010 o 5 = (if fec then wrapAdd 64 (s.get 0x2010 o 5) b.corrected else s.get 0x2010 o 5) ∧ t.aux .lossRun n = 0 ∧ t.aux .burstSeq tree = wrapAdd 32 (s.aux .burstSeq tree) 1
    ∧ OnlyEv (fun ix k sb => ix = 0x2007 ∧ k = tree ∧ sb ∈ [1, 2, 5, 6, 7, 8, 9, 11, 12] ∨ ix = 0x2008 ∧ k = tree ∧ sb ∈ [1, 2, 3, 4, 5] ∨ ix = 0x3700 ∧ sb ∈ [10, 11] ∨ ix = 0x4000 ∧ sb ∈ [4, 5, 6, 7, 10, 12, 13, 14, 15] ∨ ix = 0x4100 ∧ sb ∈ [5, 6, 7] ∨ ix = 0x4200 ∧ sb ∈ [4, 5] ∨ ix = 0x4300 ∧ sb = 4 ∨ ix = 0x5800 ∧ k = 66 ∧ 2 ≤ sb ∧ sb ≤ 9 ∨ ix = 0x2010 ∧ k = o ∧ sb ∈ [1, 3, 4, 5, 6] ∨ ix = 0x200A ∧ k = tree ∧ sb = 3 ∨ ix = 0x3400 ∧ k / 1024 = tree ∧ sb ∈ [10, 11, 15] ∨ ix = 0x3101 ∧ k = tree ∧ sb = 7 ∨ ix ∈ [0x3000, 0x3900] ∧ (k / 512 = tree ∨ localPartner s tree = some (k / 512)) ∨ ix = 0x3102 ∧ sb = 1 ∨ ix = 0x3400 ∧ k / 1024 = tree ∧ sb = 16 ∨ ix = 0x3600 ∧ k = tree ∧ sb = 21 ∨ ix = 0x4200 ∧ k / 512 = tree ∧ sb = 4 ∨ ix = 0x5140 ∧ sb = 6 ∨ ix = 0x5800 ∧ sb ∈ [5, 6] ∨ ix = 0x5840 ∧ sb ∈ [4, 5]) (fun a p _ => a ∈ [.adGranted, .adUsed, .monFrame, .monGrant, .monIdle] ∧ p / 1024 = tree ∨ a ∈ [.fifoDrop, .fifoDropB, .fifoFirst, .fifoLast, .fifoNext, .trailerBad] ∧ p = tree ∨ a ∈ [.keyAt, .keyMat, .keyNextIdx, .keySoft, .keyUnacked, .kxFrag, .kxGen, .kxIndex, .kxKey, .kxKind, .kxNext, .kxSeq, .kxTries, .missMask] ∨ a ∈ [.adBits, .adErr, .adHdr, .adUnc, .lastPhaseAt] ∧ p = n ∨ a ∈ [.arrCount, .arrSum, .burstSeq, .found, .sigTrig] ∧ p = tree ∨ a = .noRep ∧ p / 1024 = tree ∨ a ∈ [.coopPend, .keyPoison] ∨ a ∈ [.beatOut, .capTries, .driftHold, .driftLen, .driftSum, .keepAlive, .lossAt, .lossRun, .regTries, .kxFrag, .kxGen, .kxIndex, .kxKey, .kxKind, .kxNext, .kxSeq, .kxTries] ∧ p / 512 = tree ∨ a = .allocSeq ∧ p / 1024 = tree ∨ a = .mirSeq) s t
    ∧ OnlyWords (fun m w => m = 66 ∨ ∃ x ∈ writes, x.mem = m ∧ w ∈ writePlaces s m x.word) s t
    ∧ t = { s with objs := t.objs, regs := t.regs, evQueue := t.evQueue, evPending := t.evPending, beats := t.beats, coexStage := t.coexStage, fifo := t.fifo, keyWaits := t.keyWaits, mem := t.mem, muted := t.muted, out := t.out, ploams := t.ploams, recent := t.recent, sdus := t.sdus, staged := t.staged, vframes := t.vframes })
  ∧ (∀ (s : State) (tree frame start light : Nat) (b : BurstIn) (hit : DelimIn) (writes : List MemWrite) (poison : List Poison) (g : Grant) (r : List Grant),
    Up s →
    s.treeUp tree = true →
    laneState s tree 0 ≠ 5 →
    s.aux .upLane tree 0 ≠ 0 →
    s.aux .upClosed tree 0 ≠ 1 →
    burstEntries s tree 0 frame start = g :: r →
    foundAt s tree 0 frame g.profile b = some hit →
    let o := 1024 * tree + g.onu
    let n := 512 * tree + g.onu
    let fec := s.get (profileIndex 0) (1024 * tree + g.profile) 7 == 1
    headerRight g.onu fec b = false →
    Runs (.burstReceive tree frame start b light writes poison) s fun t => t.get 0x2007 tree 1 = wrapAdd 64 (s.get 0x2007 tree 1) 1 ∧ t.get 0x2007 tree 2 = wrapAdd 64 (s.get 0x2007 tree 2) 1 ∧ t.get 0x2010 o 1 = wrapAdd 64 (s.get 0x2010 o 1) 1 ∧ t.get 0x2010 o 3 = ofInt 32 hit.pos ∧ t.get 0x2010 o 4 = wrapAdd 64 (s.get 0x2010 o 4) hit.errors ∧ t.get 0x2010 o 5 = (if fec then wrapAdd 64 (s.get 0x2010 o 5) b.corrected else s.get 0x2010 o 5) ∧ t.aux .lossRun n = 0 ∧ t.aux .burstSeq tree = wrapAdd 32 (s.aux .burstSeq tree) 1 ∧ t.get 0x2007 tree 4 = wrapAdd 64 (s.get 0x2007 tree 4) 1 ∧ t.get 0x2010 o 7 = wrapAdd 64 (s.get 0x2010 o 7) 1 ∧ t.sdus = s.sdus ∧ t.fifo = s.fifo
    ∧ OnlyEv (fun ix k sb => ix = 0x2007 ∧ k = tree ∧ sb ∈ [1, 2, 4] ∨ ix = 0x2010 ∧ k = o ∧ sb ∈ [1, 3, 4, 5, 6, 7] ∨ ix = 0x200A ∧ k = tree ∧ sb = 3 ∨ ix = 0x3400 ∧ k / 1024 = tree ∧ sb ∈ [10, 11, 15] ∨ ix = 0x3101 ∧ k = tree ∧ sb = 7 ∨ ix ∈ [0x3000, 0x3900] ∧ (k / 512 = tree ∨ localPartner s tree = some (k / 512)) ∨ ix = 0x3102 ∧ sb = 1 ∨ ix = 0x3400 ∧ k / 1024 = tree ∧ sb = 16 ∨ ix = 0x3600 ∧ k = tree ∧ sb = 21 ∨ ix = 0x4200 ∧ k / 512 = tree ∧ sb = 4 ∨ ix = 0x5140 ∧ sb = 6 ∨ ix = 0x5800 ∧ sb ∈ [5, 6] ∨ ix = 0x5840 ∧ sb ∈ [4, 5]) (fun a p _ => a ∈ [.adBits, .adErr, .adHdr, .adUnc, .lastPhaseAt] ∧ p = n ∨ a ∈ [.arrCount, .arrSum, .burstSeq, .found, .sigTrig] ∧ p = tree ∨ a = .noRep ∧ p / 1024 = tree ∨ a ∈ [.coopPend, .keyPoison] ∨ a ∈ [.beatOut, .capTries, .driftHold, .driftLen, .driftSum, .keepAlive, .lossAt, .lossRun, .regTries, .kxFrag, .kxGen, .kxIndex, .kxKey, .kxKind, .kxNext, .kxSeq, .kxTries] ∧ p / 512 = tree ∨ a = .allocSeq ∧ p / 1024 = tree ∨ a = .mirSeq) s t
    ∧ OnlyWords (fun m w => m = 66 ∨ ∃ x ∈ writes, x.mem = m ∧ w ∈ writePlaces s m x.word) s t
    ∧ t = { s with objs := t.objs, regs := t.regs, evQueue := t.evQueue, evPending := t.evPending, beats := t.beats, keyWaits := t.keyWaits, mem := t.mem, muted := t.muted, out := t.out, ploams := t.ploams, vframes := t.vframes })
  ∧ (∀ (s : State) (tree frame start light : Nat) (b : BurstIn) (writes : List MemWrite) (poison : List Poison) (g : Grant) (r : List Grant),
    Up s →
    s.treeUp tree = true →
    laneState s tree 0 ≠ 5 →
    s.aux .upLane tree 0 ≠ 0 →
    s.aux .upClosed tree 0 ≠ 1 →
    burstEntries s tree 0 frame start = g :: r →
    foundAt s tree 0 frame g.profile b = none →
    let o := 1024 * tree + g.onu
    let n := 512 * tree + g.onu
    Runs (.burstReceive tree frame start b light writes poison) s fun t => t.get 0x2007 tree 1 = wrapAdd 64 (s.get 0x2007 tree 1) 1 ∧ t.get 0x2007 tree 3 = wrapAdd 64 (s.get 0x2007 tree 3) 1 ∧ t.get 0x2010 o 2 = wrapAdd 64 (s.get 0x2010 o 2) 1 ∧ t.get 0x2009 tree 4 = (if s.get 0x2009 tree 1 < light then wrapAdd 64 (s.get 0x2009 tree 4) 1 else s.get 0x2009 tree 4) ∧ (∀ e ∈ g :: r, ∀ al ∈ allocOf s tree e.alloc, ((g :: r).countP fun y => allocOf s tree y.alloc == some al) = 1 → t.get 0x3400 al 0x0F = wrapAdd 64 (s.get 0x3400 al 0x0F) 1)
    ∧ OnlyEv (fun ix k sb => ix = 0x2007 ∧ k = tree ∧ sb ∈ [1, 3] ∨ ix = 0x2010 ∧ k = o ∧ sb = 2 ∨ ix = 0x2009 ∧ k = tree ∧ sb = 4 ∨ ix = 0x3400 ∧ k / 1024 = tree ∧ sb ∈ [10, 15] ∨ ix = 0x5800 ∧ sb ∈ [5, 6] ∨ ix = 0x5840 ∧ sb ∈ [4, 5]) (fun a p _ => a ∈ [.lossAt, .lossRun] ∧ p = n ∨ a ∈ [.burstSeq, .sigTrig] ∧ p = tree ∨ a = .noRep ∧ p / 1024 = tree ∨ a ∈ [.coopPend, .keyPoison]) s t
    ∧ OnlyWords (fun m w => m = 66 ∨ ∃ x ∈ writes, x.mem = m ∧ w ∈ writePlaces s m x.word) s t
    ∧ t = { s with objs := t.objs, regs := t.regs, evQueue := t.evQueue, evPending := t.evPending, mem := t.mem, noDelims := t.noDelims, out := t.out })
  ∧ (∀ (s : State) (tree frame start light : Nat) (b : BurstIn) (writes : List MemWrite) (poison : List Poison) (hit : DelimIn),
    Up s →
    s.treeUp tree = true →
    laneState s tree 0 = 5 →
    let s1 := overAll poison copyPoison (writeWords writes s)
    standbyHit s1 tree b = some hit →
    Runs (.burstReceive tree frame start b light writes poison) s fun t => t = { s1 with skews := s1.skews ++ [⟨tree, s.now, hit.pos⟩] })
  ∧ (∀ (s : State) (tree frame start light : Nat) (b : BurstIn) (writes : List MemWrite) (poison : List Poison),
    Up s →
    let s1 := overAll poison copyPoison (writeWords writes s)
    (s.treeUp tree = false ∨ (laneState s1 tree 0 = 5 ∧ standbyHit s1 tree b = none) ∨ (laneState s1 tree 0 ≠ 5 ∧ (s1.aux .upLane tree 0 = 0 ∨ s1.aux .upClosed tree 0 = 1 ∨ burstEntries s1 tree 0 frame start = []))) →
    Runs (.burstReceive tree frame start b light writes poison) s fun t => t = (if s.treeUp tree = false then s else s1))
  ∧ (∀ (s : State) (tree frame start : Nat) (b : BurstIn) (hit : DelimIn) (poison : List Poison) (g : Grant) (r : List Grant),
    Up s →
    s.treeUp tree = true →
    laneState s tree 1 ≠ 5 →
    s.aux .upLane tree 1 ≠ 0 →
    s.aux .upClosed tree 1 ≠ 1 →
    burstEntries s tree 1 frame start = g :: r →
    foundAt s tree 1 frame g.profile b = some hit →
    let o := 1024 * tree + g.onu
    let n := 512 * tree + g.onu
    let fec := s.get (profileIndex 1) (1024 * tree + g.profile) 7 == 1
    headerRight g.onu fec b = true →
    Runs (.coexBurstReceive tree frame start b poison) s fun t => t.get 0x2007 tree 1 = wrapAdd 64 (s.get 0x2007 tree 1) 1 ∧ t.get 0x2007 tree 2 = wrapAdd 64 (s.get 0x2007 tree 2) 1 ∧ t.get 0x2010 o 1 = wrapAdd 64 (s.get 0x2010 o 1) 1 ∧ t.get 0x2010 o 3 = ofInt 32 hit.pos ∧ t.get 0x2010 o 4 = wrapAdd 64 (s.get 0x2010 o 4) hit.errors ∧ t.get 0x2010 o 5 = (if fec then wrapAdd 64 (s.get 0x2010 o 5) b.corrected else s.get 0x2010 o 5) ∧ t.aux .lossRun n = 0 ∧ t.aux .burstSeq tree = wrapAdd 32 (s.aux .burstSeq tree) 1
    ∧ OnlyEv (fun ix k sb => ix = 0x2007 ∧ k = tree ∧ sb ∈ [1, 2, 5, 6, 7, 8, 9, 11, 12] ∨ ix = 0x2008 ∧ k = tree ∧ sb ∈ [1, 2, 3, 4, 5] ∨ ix = 0x3700 ∧ sb ∈ [10, 11] ∨ ix = 0x4000 ∧ sb ∈ [4, 5, 6, 7, 10, 12, 13, 14, 15] ∨ ix = 0x4100 ∧ sb ∈ [5, 6, 7] ∨ ix = 0x4200 ∧ sb ∈ [4, 5] ∨ ix = 0x4300 ∧ sb = 4 ∨ ix = 0x5800 ∧ k = 66 ∧ 2 ≤ sb ∧ sb ≤ 9 ∨ ix = 0x2010 ∧ k = o ∧ sb ∈ [1, 3, 4, 5, 6] ∨ ix = 0x200A ∧ k = tree ∧ sb = 3 ∨ ix = 0x3400 ∧ k / 1024 = tree ∧ sb ∈ [10, 11, 15] ∨ ix = 0x3101 ∧ k = tree ∧ sb = 7 ∨ ix ∈ [0x3000, 0x3900] ∧ (k / 512 = tree ∨ localPartner s tree = some (k / 512)) ∨ ix = 0x3102 ∧ sb = 1 ∨ ix = 0x3400 ∧ k / 1024 = tree ∧ sb = 16 ∨ ix = 0x3600 ∧ k = tree ∧ sb = 21 ∨ ix = 0x4200 ∧ k / 512 = tree ∧ sb = 4 ∨ ix = 0x5140 ∧ sb = 6 ∨ ix = 0x5800 ∧ sb ∈ [5, 6] ∨ ix = 0x5840 ∧ sb ∈ [4, 5]) (fun a p _ => a ∈ [.adGranted, .adUsed, .monFrame, .monGrant, .monIdle] ∧ p / 1024 = tree ∨ a ∈ [.fifoDrop, .fifoDropB, .fifoFirst, .fifoLast, .fifoNext, .trailerBad] ∧ p = tree ∨ a ∈ [.keyAt, .keyMat, .keyNextIdx, .keySoft, .keyUnacked, .kxFrag, .kxGen, .kxIndex, .kxKey, .kxKind, .kxNext, .kxSeq, .kxTries, .missMask] ∨ a ∈ [.adBits, .adErr, .adHdr, .adUnc, .lastPhaseAt] ∧ p = n ∨ a ∈ [.arrCount, .arrSum, .burstSeq, .found, .sigTrig] ∧ p = tree ∨ a = .noRep ∧ p / 1024 = tree ∨ a ∈ [.coopPend, .keyPoison] ∨ a ∈ [.beatOut, .capTries, .driftHold, .driftLen, .driftSum, .keepAlive, .lossAt, .lossRun, .regTries, .kxFrag, .kxGen, .kxIndex, .kxKey, .kxKind, .kxNext, .kxSeq, .kxTries] ∧ p / 512 = tree ∨ a = .allocSeq ∧ p / 1024 = tree ∨ a = .mirSeq) s t
    ∧ OnlyWords (fun m _ => m = 66) s t
    ∧ t = { s with objs := t.objs, regs := t.regs, evQueue := t.evQueue, evPending := t.evPending, beats := t.beats, coexStage := t.coexStage, fifo := t.fifo, keyWaits := t.keyWaits, mem := t.mem, muted := t.muted, out := t.out, ploams := t.ploams, recent := t.recent, sdus := t.sdus, staged := t.staged, vframes := t.vframes })
  ∧ (∀ (s : State) (tree frame start : Nat) (b : BurstIn) (hit : DelimIn) (poison : List Poison) (g : Grant) (r : List Grant),
    Up s →
    s.treeUp tree = true →
    laneState s tree 1 ≠ 5 →
    s.aux .upLane tree 1 ≠ 0 →
    s.aux .upClosed tree 1 ≠ 1 →
    burstEntries s tree 1 frame start = g :: r →
    foundAt s tree 1 frame g.profile b = some hit →
    let o := 1024 * tree + g.onu
    let n := 512 * tree + g.onu
    let fec := s.get (profileIndex 1) (1024 * tree + g.profile) 7 == 1
    headerRight g.onu fec b = false →
    Runs (.coexBurstReceive tree frame start b poison) s fun t => t.get 0x2007 tree 1 = wrapAdd 64 (s.get 0x2007 tree 1) 1 ∧ t.get 0x2007 tree 2 = wrapAdd 64 (s.get 0x2007 tree 2) 1 ∧ t.get 0x2010 o 1 = wrapAdd 64 (s.get 0x2010 o 1) 1 ∧ t.get 0x2010 o 3 = ofInt 32 hit.pos ∧ t.get 0x2010 o 4 = wrapAdd 64 (s.get 0x2010 o 4) hit.errors ∧ t.get 0x2010 o 5 = (if fec then wrapAdd 64 (s.get 0x2010 o 5) b.corrected else s.get 0x2010 o 5) ∧ t.aux .lossRun n = 0 ∧ t.aux .burstSeq tree = wrapAdd 32 (s.aux .burstSeq tree) 1 ∧ t.get 0x2007 tree 4 = wrapAdd 64 (s.get 0x2007 tree 4) 1 ∧ t.get 0x2010 o 7 = wrapAdd 64 (s.get 0x2010 o 7) 1 ∧ t.sdus = s.sdus ∧ t.fifo = s.fifo
    ∧ OnlyEv (fun ix k sb => ix = 0x2007 ∧ k = tree ∧ sb ∈ [1, 2, 4] ∨ ix = 0x2010 ∧ k = o ∧ sb ∈ [1, 3, 4, 5, 6, 7] ∨ ix = 0x200A ∧ k = tree ∧ sb = 3 ∨ ix = 0x3400 ∧ k / 1024 = tree ∧ sb ∈ [10, 11, 15] ∨ ix = 0x3101 ∧ k = tree ∧ sb = 7 ∨ ix ∈ [0x3000, 0x3900] ∧ (k / 512 = tree ∨ localPartner s tree = some (k / 512)) ∨ ix = 0x3102 ∧ sb = 1 ∨ ix = 0x3400 ∧ k / 1024 = tree ∧ sb = 16 ∨ ix = 0x3600 ∧ k = tree ∧ sb = 21 ∨ ix = 0x4200 ∧ k / 512 = tree ∧ sb = 4 ∨ ix = 0x5140 ∧ sb = 6 ∨ ix = 0x5800 ∧ sb ∈ [5, 6] ∨ ix = 0x5840 ∧ sb ∈ [4, 5]) (fun a p _ => a ∈ [.adBits, .adErr, .adHdr, .adUnc, .lastPhaseAt] ∧ p = n ∨ a ∈ [.arrCount, .arrSum, .burstSeq, .found, .sigTrig] ∧ p = tree ∨ a = .noRep ∧ p / 1024 = tree ∨ a ∈ [.coopPend, .keyPoison] ∨ a ∈ [.beatOut, .capTries, .driftHold, .driftLen, .driftSum, .keepAlive, .lossAt, .lossRun, .regTries, .kxFrag, .kxGen, .kxIndex, .kxKey, .kxKind, .kxNext, .kxSeq, .kxTries] ∧ p / 512 = tree ∨ a = .allocSeq ∧ p / 1024 = tree ∨ a = .mirSeq) s t
    ∧ OnlyWords (fun m _ => m = 66) s t
    ∧ t = { s with objs := t.objs, regs := t.regs, evQueue := t.evQueue, evPending := t.evPending, beats := t.beats, keyWaits := t.keyWaits, mem := t.mem, muted := t.muted, out := t.out, ploams := t.ploams, vframes := t.vframes })
  ∧ (∀ (s : State) (tree frame start : Nat) (b : BurstIn) (poison : List Poison) (g : Grant) (r : List Grant),
    Up s →
    s.treeUp tree = true →
    laneState s tree 1 ≠ 5 →
    s.aux .upLane tree 1 ≠ 0 →
    s.aux .upClosed tree 1 ≠ 1 →
    burstEntries s tree 1 frame start = g :: r →
    foundAt s tree 1 frame g.profile b = none →
    let o := 1024 * tree + g.onu
    let n := 512 * tree + g.onu
    Runs (.coexBurstReceive tree frame start b poison) s fun t => t.get 0x2007 tree 1 = wrapAdd 64 (s.get 0x2007 tree 1) 1 ∧ t.get 0x2007 tree 3 = wrapAdd 64 (s.get 0x2007 tree 3) 1 ∧ t.get 0x2010 o 2 = wrapAdd 64 (s.get 0x2010 o 2) 1
    ∧ OnlyEv (fun ix k sb => ix = 0x2007 ∧ k = tree ∧ sb ∈ [1, 3] ∨ ix = 0x2010 ∧ k = o ∧ sb = 2 ∨ ix = 0x3400 ∧ k / 1024 = tree ∧ sb ∈ [10, 15]) (fun a p _ => a ∈ [.lossAt, .lossRun] ∧ p = n ∨ a = .burstSeq ∧ p = tree ∨ a = .noRep ∧ p / 1024 = tree ∨ a ∈ [.coopPend, .keyPoison]) s t
    ∧ t = { s with objs := t.objs, regs := t.regs, evQueue := t.evQueue, evPending := t.evPending, out := t.out })
  ∧ (∀ (s : State) (tree frame start : Nat) (b : BurstIn) (poison : List Poison),
    Up s →
    s.treeUp tree = true →
    laneState s tree 1 = 5 →
    Runs (.coexBurstReceive tree frame start b poison) s fun t => t = overAll poison copyPoison s)
  ∧ (∀ (s : State) (acc : Acc) (tree onu : Nat),
    Up s →
    mayWrite acc 0x200A tree 1 onu s = true →
    s.get 0x200A tree 4 ≠ 2 →
    onu < 512 →
    termState s (512 * tree + onu) = 3 →
    laneOf s (512 * tree + onu) = 0 →
    Runs (.signalStrengthRequest acc tree onu) s fun t => t.answer = ⟨0, 0⟩ ∧ t.aux .sigOnu tree = onu ∧ t.get 0x200A tree 4 = 2
    ∧ Only (fun ix k sb => ix = 0x200A ∧ k = tree ∧ (sb = 1 ∨ sb = 4)) (fun a p q => (a = .sigOnu ∨ a = .sigFrame ∨ a = .sigTrig) ∧ p = tree ∧ q = 0) s t
    ∧ t = { s with objs := t.objs, regs := t.regs, answer := t.answer })
  ∧ (∀ (s : State) (tree : Nat) (power : Option Nat),
    Up s →
    s.get 0x200A tree 4 = 2 →
    s.aux .sigTrig tree ≠ 0 →
    Runs (.signalStrengthRead tree power) s fun t => t.get 0x200A tree 2 = (if s.get 0x5E10 tree 2 = 0 ∨ s.get 0x5E10 tree 2 = 3 then 0xFFFF else match power with | some v => v % 65536 | none => 0xFFFF) ∧ t.get 0x200A tree 4 = (if t.get 0x200A tree 2 = 0xFFFF then 3 else 1) ∧ t.aux .sigTrig tree = 0
    ∧ OnlyEv (fun ix k sb => ix = 0x200A ∧ k = tree ∧ (sb = 2 ∨ sb = 4)) (fun a p q => a = .sigTrig ∧ p = tree ∧ q = 0) s t
    ∧ t = { s with objs := t.objs, regs := t.regs, evQueue := t.evQueue, evPending := t.evPending })
  ∧ (∀ (s : State) (tree : Nat),
    Up s →
    s.get 0x200A tree 4 = 2 →
    s.aux .sigTrig tree = 0 →
    Runs (.signalStrengthTimeout tree) s fun t => t.get 0x200A tree 2 = 0xFFFF ∧ t.get 0x200A tree 4 = 3 ∧ t.get 0x1200 22 3 = wrapAdd 64 (s.get 0x1200 22 3) 1
    ∧ OnlyEv (fun ix k sb => ix = 0x200A ∧ k = tree ∧ (sb = 2 ∨ sb = 4)) (fun a p q => a = .sigTrig ∧ p = tree ∧ q = 0) s t
    ∧ t = { s with objs := t.objs, regs := t.regs, evQueue := t.evQueue, evPending := t.evPending })
  ∧ (∀ (s : State) (acc : Acc) (tree onu : Nat),
    Up s →
    let o := 1024 * tree + onu
    mayWrite acc 0x2010 o 8 1 s = true →
    Runs (.terminalBurstStatsClear acc tree onu) s fun t => t.answer = ⟨0, 0⟩ ∧ (∀ b ∈ List.range 8, b ≠ 0 → t.get 0x2010 o b = 0)
    ∧ Only (fun ix k sb => ix = 0x2010 ∧ k = o ∧ (1 ≤ sb ∧ sb ≤ 8)) (fun _ _ _ => False) s t
    ∧ t = { s with objs := t.objs, regs := t.regs, answer := t.answer })

/-- The commands of the upstream stores have their effect (R102, R108 to R115): an SDU that timed out is discarded and counted,
a staged coexistence frame is committed behind the records of the filling bank, or dropped and counted when there is no room and
the draining bank is not empty, a read brings the next word of the draining bank with its tag or an empty word that is counted,
a poisoned read drops the rest of its record, and a drained upstream is disabled, its rest discarded and counted at the limit.
-/
def Obligations.UpstreamStoreCommandsComplete : Prop :=
  (∀ (s : State) (tree alloc xgem : Nat) (o : OpenSdu),
    Up s →
    openSdu s tree alloc xgem = some o →
    Runs (.reassemblyTimeout tree alloc xgem) s fun t => t.sdus = s.sdus.filter (fun x => !(x.tree == tree && x.alloc == alloc && x.xgem == xgem)) ∧ t.get 0x2007 tree 0x0A = (if o.dropped then s.get 0x2007 tree 0x0A else wrapAdd 64 (s.get 0x2007 tree 0x0A) 1)
    ∧ OnlyEv (fun ix k sb => ix = 0x2007 ∧ k = tree ∧ (sb = 0x0A ∨ sb = 0x0E)) (fun a p _ => (a = .upLane ∨ a = .upClosed) ∧ p = tree) s t
    ∧ t = { s with objs := t.objs, regs := t.regs, evQueue := t.evQueue, evPending := t.evPending, sdus := t.sdus, recent := t.recent })
  ∧ (∀ (s : State) (tree : Nat) (r : Record) (writes : List MemWrite),
    Up s →
    s.coexStage.find? (fun x => x.tree == tree) = some r →
    s.aux .fifoDrop tree = 0 →
    let fill := fillBank s tree
    recordWords r.bytes.length + 1 + s.aux .fifoNext tree fill ≤ 8192 →
    Runs (.coexStagingCommit tree writes) s fun t => t.coexStage = s.coexStage.erase r ∧ t.fifo = s.fifo ++ [{ r with bank := fill, first := s.aux .fifoNext tree fill }] ∧ t.get 0x2007 tree 5 = wrapAdd 64 (s.get 0x2007 tree 5) 1 ∧ t.get 0x2008 tree 2 = s.get 0x2008 tree 2 + r.words ∧ t.get 0x2008 tree 1 = (if bankUnread s tree (1 - fill) then fill else 1 - fill)
    ∧ OnlyEv (fun ix k sb => ix = 0x2007 ∧ k = tree ∧ sb ∈ [5, 14] ∨ ix = 0x2008 ∧ k = tree ∧ sb ∈ [1, 2] ∨ ix = 0x5800 ∧ sb ∈ [5, 6] ∨ ix = 0x5840 ∧ sb ∈ [4, 5]) (fun a p _ => a ∈ [.fifoNext, .upLane, .upClosed] ∧ p = tree) s t
    ∧ OnlyWords (fun m w => ∃ x ∈ writes, x.mem = m ∧ w ∈ writePlaces s m x.word) s t
    ∧ t = { s with objs := t.objs, regs := t.regs, evQueue := t.evQueue, evPending := t.evPending, coexStage := t.coexStage, fifo := t.fifo, mem := t.mem })
  ∧ (∀ (s : State) (tree : Nat) (r : Record) (writes : List MemWrite),
    Up s →
    s.coexStage.find? (fun x => x.tree == tree) = some r →
    let fill := fillBank s tree
    (s.aux .fifoDrop tree ≠ 0 ∨ 8192 < recordWords r.bytes.length + 1 + s.aux .fifoNext tree fill) →
    bankUnread s tree (1 - fill) = true →
    Runs (.coexStagingCommit tree writes) s fun t => t.coexStage = s.coexStage.erase r ∧ t.fifo = s.fifo ∧ t.get 0x2008 tree 3 = wrapAdd 64 (s.get 0x2008 tree 3) 1 ∧ t.get 0x2008 tree 4 = wrapAdd 64 (s.get 0x2008 tree 4) r.bytes.length ∧ t.aux .fifoDrop tree = s.aux .fifoDrop tree + 1
    ∧ OnlyEv (fun ix k sb => ix = 0x2007 ∧ k = tree ∧ sb = 14 ∨ ix = 0x2008 ∧ k = tree ∧ sb ∈ [3, 4] ∨ ix = 0x5800 ∧ sb ∈ [5, 6] ∨ ix = 0x5840 ∧ sb ∈ [4, 5]) (fun a p _ => a ∈ [.fifoDrop, .fifoDropB, .fifoFirst, .fifoLast, .upLane, .upClosed] ∧ p = tree) s t
    ∧ OnlyWords (fun m w => ∃ x ∈ writes, x.mem = m ∧ w ∈ writePlaces s m x.word) s t
    ∧ t = { s with objs := t.objs, regs := t.regs, evQueue := t.evQueue, evPending := t.evPending, coexStage := t.coexStage, mem := t.mem })
  ∧ (∀ (s : State) (tree : Nat) (writes : List MemWrite),
    Up s →
    s.coexStage.find? (fun x => x.tree == tree) = none →
    Runs (.coexStagingCommit tree writes) s fun t => t = s)
  ∧ (∀ (s : State) (tree : Nat) (r : Record),
    Up s →
    s.treeUp tree = true →
    s.fifo.find? (fun r => r.tree == tree && r.bank == drainBank s tree) = some r →
    Runs (.commitFifoRead tree false) s fun t => t.out = s.out ++ [⟨.fifoWord, [tree, (nextWord r false).1, (nextWord r false).2]⟩] ∧ t.get 0x2008 tree 2 = s.get 0x2008 tree 2 - 1 ∧ t.fifo = (if r.words - r.read - 1 = 0 then s.fifo.erase r else s.fifo.map fun x => if x = r then { r with read := r.read + 1 } else x)
    ∧ Only (fun ix k sb => (ix = 0x2008 ∧ k = tree ∧ sb = 2) ∨ (ix = 0x2007 ∧ k = tree ∧ sb = 14)) (fun a p _ => (a = .upLane ∨ a = .upClosed) ∧ p = tree) s t
    ∧ t = { s with objs := t.objs, regs := t.regs, fifo := t.fifo, out := t.out })
  ∧ (∀ (s : State) (tree : Nat) (r : Record),
    Up s →
    s.treeUp tree = true →
    s.fifo.find? (fun r => r.tree == tree && r.bank == drainBank s tree) = some r →
    Runs (.commitFifoRead tree true) s fun t => t.out = s.out ++ [⟨.fifoWord, [tree, (nextWord r true).1, (nextWord r true).2]⟩] ∧ t.fifo = s.fifo.erase r ∧ t.get 0x2008 tree 2 = s.get 0x2008 tree 2 - (r.words - r.read - 1) - 1 ∧ t.get 0x2008 tree 9 = wrapAdd 64 (s.get 0x2008 tree 9) 1
    ∧ OnlyEv (fun ix k sb => ix = 0x2008 ∧ k = tree ∧ sb ∈ [2, 9] ∨ ix = 0x2007 ∧ k = tree ∧ sb = 14) (fun a p _ => (a = .upLane ∨ a = .upClosed) ∧ p = tree) s t
    ∧ t = { s with objs := t.objs, regs := t.regs, evQueue := t.evQueue, evPending := t.evPending, fifo := t.fifo, out := t.out })
  ∧ (∀ (s : State) (tree : Nat),
    Up s →
    s.treeUp tree = true →
    s.fifo.any (fun r => r.tree == tree) = false →
    Runs (.commitFifoRead tree false) s fun t => t.out = s.out ++ [⟨.fifoWord, [tree, 0, 0]⟩] ∧ t.get 0x2008 tree 6 = wrapAdd 64 (s.get 0x2008 tree 6) 1 ∧ t.fifo = s.fifo
    ∧ Only (fun ix k sb => (ix = 0x2008 ∧ k = tree ∧ sb = 6) ∨ (ix = 0x2007 ∧ k = tree ∧ sb = 14)) (fun a p _ => (a = .upLane ∨ a = .upClosed) ∧ p = tree) s t
    ∧ t = { s with objs := t.objs, regs := t.regs, out := t.out })
  ∧ (∀ (s : State) (tree lane : Nat),
    Up s →
    s.aux .upLane tree lane = 1 →
    laneState s tree lane = 0 →
    lane < 2 →
    laneLeft s tree lane = false →
    Runs (.upstreamWindowsClosed tree lane) s fun t => t.aux .upLane tree lane = 0 ∧ t.aux .upClosed tree lane = 0 ∧ t.get 0x2007 tree 14 = (if lane = 0 then s.aux .upLane tree 1 else s.aux .upLane tree 0)
    ∧ Only (fun ix k sb => ix = 0x2007 ∧ k = tree ∧ sb = 14) (fun a p q => (a = .upLane ∨ a = .upClosed) ∧ p = tree ∧ q = lane) s t
    ∧ t = { s with objs := t.objs, regs := t.regs })
  ∧ (∀ (s : State) (tree lane : Nat),
    Up s →
    s.aux .upLane tree lane = 1 →
    laneState s tree lane = 0 →
    lane < 2 →
    laneLeft s tree lane = true →
    Runs (.upstreamWindowsClosed tree lane) s fun t => t = s.setAux .upClosed tree lane 1)
  ∧ (∀ (s : State) (tree lane : Nat),
    Up s →
    s.aux .upLane tree lane = 1 →
    s.aux .upClosed tree lane = 1 →
    lane < 2 →
    Runs (.upstreamDrainExpiry tree lane) s fun t => t.aux .upLane tree lane = 0 ∧ laneLeft t tree lane = false ∧ t.get 0x2007 tree 0x0D = wrapAdd 64 (s.get 0x2007 tree 0x0D) (discardLane tree lane s).1
    ∧ OnlyEv (fun ix k sb => ix = 0x2007 ∧ k = tree ∧ sb ∈ [13, 14] ∨ ix = 0x2008 ∧ k = tree ∧ sb = 2) (fun a p q => a ∈ [.upLane, .upClosed] ∧ p = tree ∧ q = lane) s t
    ∧ t = { s with objs := t.objs, regs := t.regs, evQueue := t.evQueue, evPending := t.evPending, coexStage := t.coexStage, fifo := t.fifo, sdus := t.sdus })

/-- The commands on a terminal's state have their effect (R123, R124, R128, R144, R146 to R149): provisioning takes a VACANT
terminal to WAITING, up to the limit of terminals held, a deactivation or unprovisioning drains it and ends in WAITING or VACANT
with its cause, a muffled one is released to WAITING with its event cleared, loss takes it DARK with keep-alive grants, a burst
returns it to OPERATION and corrects its delay at or above the drift threshold, and the rejoin hold's end deactivates it. -/
def Obligations.TerminalStateCommandsComplete : Prop :=
  (∀ (s : State) (acc : Acc) (n : Nat),
    Up s →
    mayWrite acc 0x3000 n 1 1 s = true →
    termState s n = 0 →
    s.get 0x3000 n 2 ≠ 0 →
    s.get 0x3102 0 1 < 16384 →
    Runs (.terminalProvision acc n) s fun t => t.answer = ⟨0, 0⟩ ∧ termState t n = 1 ∧ t.get 0x3000 n 5 = 0xFFFF ∧ t.get 0x3000 n 2 = s.get 0x3000 n 2
    ∧ OnlyEv (fun ix k sb => ix = 0x3000 ∧ k = n ∧ sb ∈ [1, 4, 5, 14] ∨ ix = 0x3102 ∧ sb = 1 ∨ ix = 0x3400 ∧ s.get 0x3400 k 2 = n ∧ sb = 16 ∨ ix = 0x3600 ∧ k = n / 512 ∧ sb = 21 ∨ ix = 0x4200 ∧ k = n ∧ sb = 4 ∨ localPartner s (n / 512) ≠ none ∧ (ix ∈ [0x3000, 0x3900] ∧ k % 512 = n % 512 ∧ localPartner s (n / 512) = some (k / 512) ∨ ix = 0x3102 ∧ sb = 1) ∨ ix = 0x5140 ∧ sb = 6) (fun a p _ => a ∈ [.beatOut, .capTries, .driftHold, .driftLen, .driftSum, .keepAlive, .lossAt, .lossRun, .regTries, .kxFrag, .kxGen, .kxIndex, .kxKey, .kxKind, .kxNext, .kxSeq, .kxTries] ∧ p = n ∨ a = .allocSeq ∧ s.get 0x3400 p 2 = n ∨ a = .mirSeq) s t
    ∧ t = { s with objs := t.objs, regs := t.regs, evQueue := t.evQueue, evPending := t.evPending, answer := t.answer, beats := t.beats, keyWaits := t.keyWaits, muted := t.muted, vframes := t.vframes })
  ∧ (∀ (s : State) (acc : Acc) (n : Nat),
    Up s →
    mayWrite acc 0x3000 n 1 0 s = true →
    (termState s n ≠ 0 ∧ termState s n ≠ 5 ∧ termState s n ≠ 7) →
    terminalWork s n = true →
    Runs (.terminalUnprovision acc n) s fun t => t.answer = ⟨0, 0⟩ ∧ termState t n = 7 ∧ t.aux .drainTo n = 2
    ∧ OnlyEv (fun ix k sb => ix = 0x3000 ∧ k = n ∧ sb ∈ [1, 4, 5, 6, 7, 8, 9, 10, 13, 14, 16, 17] ∨ ix = 0x3102 ∧ sb = 1 ∨ ix = 0x3400 ∧ s.get 0x3400 k 2 = n ∧ sb = 16 ∨ localPartner s (n / 512) ≠ none ∧ (ix ∈ [0x3000, 0x3900] ∧ k % 512 = n % 512 ∧ localPartner s (n / 512) = some (k / 512) ∨ ix = 0x3102 ∧ sb = 1) ∨ ix = 0x5140 ∧ sb = 6 ∨ ix = 0x2008 ∧ k = n / 512 ∧ sb = 2 ∨ ix = 0x4000 ∧ sb ∈ [7, 10] ∨ ix = 0x4200 ∧ sb = 4 ∨ ix = 0x4C00 ∧ sb = 2 ∨ ix = 0x4C10 ∧ sb ∈ [5, 6, 7, 8] ∨ ix ∈ [0x4C40, 0x4C80] ∧ sb ∈ [17, 23, 24, 30] ∨ ix = 0x5800 ∧ k = 66 ∧ sb ∈ [5, 6] ∨ ix = 0x5840 ∧ sb ∈ [4, 5]) (fun a p _ => a ∈ [.drainTo, .beatOut, .capTries, .driftHold, .driftLen, .driftSum, .keepAlive, .lossAt, .lossRun, .regTries] ∧ p = n ∨ a = .allocSeq ∧ s.get 0x3400 p 2 = n ∨ a ∈ [.bufWord, .keySoft, .kxFrag, .kxGen, .kxIndex, .kxKey, .kxKind, .kxNext, .kxSeq, .kxTries, .mirSeq, .missMask, .queueOff, .queueOpen]) s t
    ∧ OnlyWords (fun m _ => m = 66) s t
    ∧ t = { s with objs := t.objs, regs := t.regs, evQueue := t.evQueue, evPending := t.evPending, answer := t.answer, beats := t.beats, coexStage := t.coexStage, downWait := t.downWait, dues := t.dues, fifo := t.fifo, keyWaits := t.keyWaits, mem := t.mem, pkts := t.pkts, plan := t.plan, ploams := t.ploams, sdus := t.sdus, vframes := t.vframes })
  ∧ (∀ (s : State) (acc : Acc) (n : Nat),
    Up s →
    mayWrite acc 0x3000 n 1 0 s = true →
    (termState s n ≠ 0 ∧ termState s n ≠ 5 ∧ termState s n ≠ 7) →
    terminalWork s n = false →
    Runs (.terminalUnprovision acc n) s fun t => t.answer = ⟨0, 0⟩ ∧ termState t n = 0 ∧ t.get 0x3000 n 0x10 = 9 ∧ t.get 0x3000 n 6 = 0
    ∧ OnlyEv (fun ix k sb => ix = 0x3000 ∧ k = n ∧ sb ∈ [1, 4, 5, 6, 7, 8, 9, 10, 13, 14, 16, 17] ∨ ix = 0x3102 ∧ sb = 1 ∨ ix = 0x3400 ∧ s.get 0x3400 k 2 = n ∧ sb = 16 ∨ localPartner s (n / 512) ≠ none ∧ (ix ∈ [0x3000, 0x3900] ∧ k % 512 = n % 512 ∧ localPartner s (n / 512) = some (k / 512) ∨ ix = 0x3102 ∧ sb = 1) ∨ ix = 0x5140 ∧ sb = 6 ∨ ix = 0x2008 ∧ k = n / 512 ∧ sb = 2 ∨ ix = 0x4000 ∧ sb ∈ [7, 10] ∨ ix = 0x4200 ∧ sb = 4 ∨ ix = 0x4C00 ∧ sb = 2 ∨ ix = 0x4C10 ∧ sb ∈ [5, 6, 7, 8] ∨ ix ∈ [0x4C40, 0x4C80] ∧ sb ∈ [17, 23, 24, 30] ∨ ix = 0x5800 ∧ k = 66 ∧ sb ∈ [5, 6] ∨ ix = 0x5840 ∧ sb ∈ [4, 5]) (fun a p _ => a ∈ [.drainTo, .beatOut, .capTries, .driftHold, .driftLen, .driftSum, .keepAlive, .lossAt, .lossRun, .regTries] ∧ p = n ∨ a = .allocSeq ∧ s.get 0x3400 p 2 = n ∨ a ∈ [.bufWord, .keySoft, .kxFrag, .kxGen, .kxIndex, .kxKey, .kxKind, .kxNext, .kxSeq, .kxTries, .mirSeq, .missMask, .queueOff, .queueOpen]) s t
    ∧ OnlyWords (fun m _ => m = 66) s t
    ∧ t = { s with objs := t.objs, regs := t.regs, evQueue := t.evQueue, evPending := t.evPending, answer := t.answer, beats := t.beats, coexStage := t.coexStage, downWait := t.downWait, dues := t.dues, fifo := t.fifo, keyWaits := t.keyWaits, mem := t.mem, pkts := t.pkts, plan := t.plan, ploams := t.ploams, sdus := t.sdus, vframes := t.vframes })
  ∧ (∀ (s : State) (acc : Acc) (n : Nat),
    Up s →
    mayWrite acc 0x3000 n 0x0B 1 s = true →
    (termState s n ≠ 0 ∧ termState s n ≠ 5 ∧ termState s n ≠ 7) →
    Runs (.terminalDeactivate acc n) s fun t => t.answer = ⟨0, 0⟩ ∧ termState t n = (if terminalWork s n then 7 else 1) ∧ (terminalWork s n = false → t.get 0x3000 n 0x10 = 1)
    ∧ OnlyEv (fun ix k sb => ix = 0x3000 ∧ k = n ∧ sb ∈ [1, 4, 5, 6, 7, 8, 9, 10, 13, 14, 16, 17] ∨ ix = 0x3102 ∧ sb = 1 ∨ ix = 0x3400 ∧ s.get 0x3400 k 2 = n ∧ sb = 16 ∨ localPartner s (n / 512) ≠ none ∧ (ix ∈ [0x3000, 0x3900] ∧ k % 512 = n % 512 ∧ localPartner s (n / 512) = some (k / 512) ∨ ix = 0x3102 ∧ sb = 1) ∨ ix = 0x5140 ∧ sb = 6 ∨ ix = 0x2008 ∧ k = n / 512 ∧ sb = 2 ∨ ix = 0x4000 ∧ sb ∈ [7, 10] ∨ ix = 0x4200 ∧ sb = 4 ∨ ix = 0x4C00 ∧ sb = 2 ∨ ix = 0x4C10 ∧ sb ∈ [5, 6, 7, 8] ∨ ix ∈ [0x4C40, 0x4C80] ∧ sb ∈ [17, 23, 24, 30] ∨ ix = 0x5800 ∧ k = 66 ∧ sb ∈ [5, 6] ∨ ix = 0x5840 ∧ sb ∈ [4, 5]) (fun a p _ => a ∈ [.drainTo, .beatOut, .capTries, .driftHold, .driftLen, .driftSum, .keepAlive, .lossAt, .lossRun, .regTries] ∧ p = n ∨ a = .allocSeq ∧ s.get 0x3400 p 2 = n ∨ a ∈ [.bufWord, .keySoft, .kxFrag, .kxGen, .kxIndex, .kxKey, .kxKind, .kxNext, .kxSeq, .kxTries, .mirSeq, .missMask, .queueOff, .queueOpen]) s t
    ∧ OnlyWords (fun m _ => m = 66) s t
    ∧ t = { s with objs := t.objs, regs := t.regs, evQueue := t.evQueue, evPending := t.evPending, answer := t.answer, beats := t.beats, coexStage := t.coexStage, downWait := t.downWait, dues := t.dues, fifo := t.fifo, keyWaits := t.keyWaits, mem := t.mem, pkts := t.pkts, plan := t.plan, ploams := t.ploams, sdus := t.sdus, vframes := t.vframes })
  ∧ (∀ (s : State) (acc : Acc) (n : Nat),
    Up s →
    mayWrite acc 0x3000 n 0x0B 1 s = true →
    termState s n = 5 →
    Runs (.terminalDeactivate acc n) s fun t => t.answer = ⟨0, 0⟩ ∧ termState t n = 5 ∧ t.aux .heldCmd n = 1
    ∧ Only (fun ix k sb => ix = 0x3000 ∧ k = n ∧ sb = 0x0B) (fun a p q => a = .heldCmd ∧ p = n ∧ q = 0) s t
    ∧ t = { s with objs := t.objs, regs := t.regs, answer := t.answer })
  ∧ (∀ (s : State) (n : Nat),
    Up s →
    termState s n = 7 →
    Runs (.terminalDrainEnd n) s fun t => termState t n = (if s.aux .drainTo n = 2 then 0 else 1) ∧ t.get 0x3000 n 0x10 = (if s.aux .drainTo n = 2 then 9 else 1) ∧ t.aux .drainTo n = 0 ∧ terminalWork { t with sentMaps := [] } n = false
    ∧ OnlyEv (fun ix k sb => ix = 0x3000 ∧ k = n ∧ sb ∈ [1, 4, 5, 6, 7, 8, 9, 10, 13, 14, 16, 17] ∨ ix = 0x3102 ∧ sb = 1 ∨ ix = 0x3400 ∧ s.get 0x3400 k 2 = n ∧ sb = 16 ∨ localPartner s (n / 512) ≠ none ∧ (ix ∈ [0x3000, 0x3900] ∧ k % 512 = n % 512 ∧ localPartner s (n / 512) = some (k / 512) ∨ ix = 0x3102 ∧ sb = 1) ∨ ix = 0x5140 ∧ sb = 6 ∨ ix = 0x2008 ∧ k = n / 512 ∧ sb = 2 ∨ ix = 0x4000 ∧ sb ∈ [7, 10] ∨ ix = 0x4200 ∧ sb = 4 ∨ ix = 0x4C00 ∧ sb = 2 ∨ ix = 0x4C10 ∧ sb ∈ [5, 6, 7, 8] ∨ ix ∈ [0x4C40, 0x4C80] ∧ sb ∈ [17, 23, 24, 30] ∨ ix = 0x5800 ∧ k = 66 ∧ sb ∈ [5, 6] ∨ ix = 0x5840 ∧ sb ∈ [4, 5]) (fun a p _ => a ∈ [.drainTo, .beatOut, .capTries, .driftHold, .driftLen, .driftSum, .keepAlive, .lossAt, .lossRun, .regTries] ∧ p = n ∨ a = .allocSeq ∧ s.get 0x3400 p 2 = n ∨ a ∈ [.bufWord, .keySoft, .kxFrag, .kxGen, .kxIndex, .kxKey, .kxKind, .kxNext, .kxSeq, .kxTries, .mirSeq, .missMask, .queueOff, .queueOpen]) s t
    ∧ OnlyWords (fun m _ => m = 66) s t
    ∧ t = { s with objs := t.objs, regs := t.regs, evQueue := t.evQueue, evPending := t.evPending, beats := t.beats, coexStage := t.coexStage, downWait := t.downWait, dues := t.dues, fifo := t.fifo, keyWaits := t.keyWaits, mem := t.mem, pkts := t.pkts, plan := t.plan, ploams := t.ploams, sdus := t.sdus, vframes := t.vframes })
  ∧ (∀ (s : State) (acc : Acc) (n : Nat),
    Up s →
    mayWrite acc 0x3000 n 0x0C 1 s = true →
    (acc.role = .operator ∨ acc.role = .owner) →
    termState s n = 6 →
    Runs (.releaseMuffle acc n) s fun t => t.answer = ⟨0, 0⟩ ∧ termState t n = 1 ∧ t.get 0x3000 n 0x0A = 0 ∧ isPending t 1041 n = false ∧ t.get 0x1200 1044 3 = wrapAdd 64 (s.get 0x1200 1044 3) 1 ∧ t.ploams = s.ploams ++ [⟨n / 512, laneOf s n, 1023, .enable, [n % 512, s.get 0x3000 n 2], true⟩]
    ∧ OnlyEv (fun ix k sb => ix = 0x3000 ∧ k = n ∧ sb ∈ [4, 5, 10, 14] ∨ ix = 0x3102 ∧ sb = 1 ∨ ix = 0x3400 ∧ s.get 0x3400 k 2 = n ∧ sb = 16 ∨ ix = 0x3600 ∧ k = n / 512 ∧ sb = 21 ∨ ix = 0x4200 ∧ k = n ∧ sb = 4 ∨ localPartner s (n / 512) ≠ none ∧ (ix ∈ [0x3000, 0x3900] ∧ k % 512 = n % 512 ∧ localPartner s (n / 512) = some (k / 512) ∨ ix = 0x3102 ∧ sb = 1) ∨ ix = 0x5140 ∧ sb = 6) (fun a p _ => a ∈ [.beatOut, .capTries, .driftHold, .driftLen, .driftSum, .keepAlive, .lossAt, .lossRun, .regTries, .kxFrag, .kxGen, .kxIndex, .kxKey, .kxKind, .kxNext, .kxSeq, .kxTries] ∧ p = n ∨ a = .allocSeq ∧ s.get 0x3400 p 2 = n ∨ a = .mirSeq) s t
    ∧ t = { s with objs := t.objs, regs := t.regs, evQueue := t.evQueue, evPending := t.evPending, answer := t.answer, ploams := t.ploams, beats := t.beats, keyWaits := t.keyWaits, muted := t.muted, vframes := t.vframes })
  ∧ (∀ (s : State) (n : Nat),
    Up s →
    termState s n = 3 →
    s.get 0x3100 (n / 512) 0x13 ≤ s.aux .lossRun n →
    Runs (.terminalLoss n) s fun t => termState t n = 4 ∧ t.aux .keepAlive n = 1 ∧ t.aux .darkAt n = s.now + 1 ∧ isPending t 1030 n = true
    ∧ OnlyEv (fun ix k sb => ix = 0x3000 ∧ k = n ∧ sb ∈ [4, 5, 14] ∨ ix = 0x3102 ∧ sb = 1 ∨ ix = 0x3400 ∧ s.get 0x3400 k 2 = n ∧ sb = 16 ∨ ix = 0x3600 ∧ k = n / 512 ∧ sb = 21 ∨ ix = 0x4200 ∧ k = n ∧ sb = 4 ∨ localPartner s (n / 512) ≠ none ∧ (ix ∈ [0x3000, 0x3900] ∧ k % 512 = n % 512 ∧ localPartner s (n / 512) = some (k / 512) ∨ ix = 0x3102 ∧ sb = 1) ∨ ix = 0x5140 ∧ sb = 6) (fun a p _ => a ∈ [.beatOut, .capTries, .driftHold, .driftLen, .driftSum, .keepAlive, .lossAt, .lossRun, .regTries, .kxFrag, .kxGen, .kxIndex, .kxKey, .kxKind, .kxNext, .kxSeq, .kxTries] ∧ p = n ∨ a = .allocSeq ∧ s.get 0x3400 p 2 = n ∨ a = .mirSeq ∨ a ∈ [.darkAt, .darkCause] ∧ p = n) s t
    ∧ t = { s with objs := t.objs, regs := t.regs, evQueue := t.evQueue, evPending := t.evPending, beats := t.beats, keyWaits := t.keyWaits, muted := t.muted, vframes := t.vframes })
  ∧ (∀ (s : State) (n : Nat),
    Up s →
    termState s n = 4 →
    Runs (.keepAlivePeriodExpiry n) s fun t => t = s.setAux .keepAlive n 0 0)
  ∧ (∀ (s : State) (n : Nat),
    Up s →
    termState s n = 4 →
    s.aux .keepAlive n = 0 →
    let lane := laneOf s n
    (s.beats.any fun b => b.tree == n / 512 && b.lane == lane && b.kind == 2 && b.terminal == n) = false →
    Runs (.rejoinBeatDue n) s fun t => t = { s with beats := s.beats ++ [⟨n / 512, lane, 2, n, false, s.now, false, 0⟩] })
  ∧ (∀ (s : State) (n path : Nat) (phase : Int),
    Up s →
    termState s n = 4 →
    (path = 0 ∨ s.aux .beatOut n ≠ 0) →
    phase.natAbs < s.get 0x3100 (n / 512) 0x18 →
    Runs (.terminalRejoin n path phase) s fun t => termState t n = 3 ∧ t.get 0x3000 n 6 = s.get 0x3000 n 6 ∧ t.get 0x1200 1031 3 = wrapAdd 64 (s.get 0x1200 1031 3) 1 ∧ isPending t 1030 n = false
    ∧ OnlyEv (fun ix k sb => ix = 0x3000 ∧ k = n ∧ sb ∈ [4, 5, 14] ∨ ix = 0x3102 ∧ sb = 1 ∨ ix = 0x3400 ∧ s.get 0x3400 k 2 = n ∧ sb = 16 ∨ ix = 0x3600 ∧ k = n / 512 ∧ sb = 21 ∨ ix = 0x4200 ∧ k = n ∧ sb = 4 ∨ localPartner s (n / 512) ≠ none ∧ (ix ∈ [0x3000, 0x3900] ∧ k % 512 = n % 512 ∧ localPartner s (n / 512) = some (k / 512) ∨ ix = 0x3102 ∧ sb = 1) ∨ ix = 0x5140 ∧ sb = 6 ∨ ix = 0x3900 ∧ k = n ∧ sb ∈ [1, 6, 7]) (fun a p _ => a ∈ [.beatOut, .capTries, .driftHold, .driftLen, .driftSum, .keepAlive, .lossAt, .lossRun, .regTries, .kxFrag, .kxGen, .kxIndex, .kxKey, .kxKind, .kxNext, .kxSeq, .kxTries] ∧ p = n ∨ a = .allocSeq ∧ s.get 0x3400 p 2 = n ∨ a = .mirSeq ∨ path ≠ 0 ∧ a = .lastPhaseAt ∧ p = n) s t
    ∧ t = { s with objs := t.objs, regs := t.regs, evQueue := t.evQueue, evPending := t.evPending, ploams := t.ploams, beats := t.beats, keyWaits := t.keyWaits, muted := t.muted, vframes := t.vframes })
  ∧ (∀ (s : State) (n : Nat),
    Up s →
    termState s n = 4 →
    Runs (.rejoinHoldExpiry n) s fun t => termState t n = 1 ∧ t.get 0x3000 n 0x10 = 4 ∧ t.get 0x1200 1032 3 = wrapAdd 64 (s.get 0x1200 1032 3) 1
    ∧ OnlyEv (fun ix k sb => ix = 0x3000 ∧ k = n ∧ sb ∈ [4, 5, 14, 16] ∨ ix = 0x3102 ∧ sb = 1 ∨ ix = 0x3400 ∧ s.get 0x3400 k 2 = n ∧ sb = 16 ∨ ix = 0x3600 ∧ k = n / 512 ∧ sb = 21 ∨ ix = 0x4200 ∧ k = n ∧ sb = 4 ∨ localPartner s (n / 512) ≠ none ∧ (ix ∈ [0x3000, 0x3900] ∧ k % 512 = n % 512 ∧ localPartner s (n / 512) = some (k / 512) ∨ ix = 0x3102 ∧ sb = 1) ∨ ix = 0x5140 ∧ sb = 6) (fun a p _ => a ∈ [.beatOut, .capTries, .driftHold, .driftLen, .driftSum, .keepAlive, .lossAt, .lossRun, .regTries, .kxFrag, .kxGen, .kxIndex, .kxKey, .kxKind, .kxNext, .kxSeq, .kxTries] ∧ p = n ∨ a = .allocSeq ∧ s.get 0x3400 p 2 = n ∨ a = .mirSeq) s t
    ∧ t = { s with objs := t.objs, regs := t.regs, evQueue := t.evQueue, evPending := t.evPending, ploams := t.ploams, beats := t.beats, keyWaits := t.keyWaits, muted := t.muted, vframes := t.vframes })
  ∧ (∀ (s : State) (n path : Nat) (phase : Int),
    Up s →
    termState s n = 4 →
    (path = 0 ∨ s.aux .beatOut n ≠ 0) →
    s.get 0x3100 (n / 512) 0x18 ≤ phase.natAbs →
    let corr := laneCorrection (laneOf s n) phase
    corr ≠ 0 →
    let eqd := (s.get 0x3000 n 6 : Int) - corr
    0 ≤ eqd →
    eqd ≤ (teqd s (n / 512) : Int) →
    Runs (.terminalRejoin n path phase) s fun t => termState t n = 3 ∧ t.get 0x3000 n 6 = eqd.toNat ∧ t.get 0x3000 n 8 = ((s.get 0x3000 n 8 : Int) + corr).toNat ∧ t.get 0x3000 n 0x0D = ofInt 32 (toInt 32 (s.get 0x3000 n 0x0D) + corr) ∧ t.get 0x1200 1031 3 = wrapAdd 64 (s.get 0x1200 1031 3) 1
    ∧ OnlyEv (fun ix k sb => ix = 0x3000 ∧ k = n ∧ sb ∈ [4, 6, 7, 8, 13, 14] ∨ ix = 0x3102 ∧ sb = 1 ∨ ix = 0x3400 ∧ s.get 0x3400 k 2 = n ∧ sb = 16 ∨ ix = 0x3600 ∧ k = n / 512 ∧ sb = 21 ∨ ix = 0x4200 ∧ k = n ∧ sb = 4 ∨ localPartner s (n / 512) ≠ none ∧ (ix ∈ [0x3000, 0x3900] ∧ k % 512 = n % 512 ∧ localPartner s (n / 512) = some (k / 512) ∨ ix = 0x3102 ∧ sb = 1) ∨ ix = 0x5140 ∧ sb = 6 ∨ ix = 0x3900 ∧ k = n ∧ sb ∈ [1, 6, 7]) (fun a p _ => a ∈ [.beatOut, .capTries, .driftHold, .driftLen, .driftSum, .keepAlive, .lossAt, .lossRun, .regTries, .kxFrag, .kxGen, .kxIndex, .kxKey, .kxKind, .kxNext, .kxSeq, .kxTries] ∧ p = n ∨ a = .allocSeq ∧ s.get 0x3400 p 2 = n ∨ a = .mirSeq ∨ path ≠ 0 ∧ a = .lastPhaseAt ∧ p = n) s t
    ∧ t = { s with objs := t.objs, regs := t.regs, evQueue := t.evQueue, evPending := t.evPending, ploams := t.ploams, beats := t.beats, keyWaits := t.keyWaits, muted := t.muted, vframes := t.vframes })
  ∧ (∀ (s : State) (n path : Nat) (phase : Int),
    Up s →
    termState s n = 4 →
    (path = 0 ∨ s.aux .beatOut n ≠ 0) →
    s.get 0x3100 (n / 512) 0x18 ≤ phase.natAbs →
    let corr := laneCorrection (laneOf s n) phase
    corr ≠ 0 →
    let eqd := (s.get 0x3000 n 6 : Int) - corr
    (eqd < 0 ∨ (teqd s (n / 512) : Int) < eqd) →
    Runs (.terminalRejoin n path phase) s fun t => termState t n = 1 ∧ t.get 0x3000 n 0x10 = 5 ∧ t.get 0x1200 1034 3 = wrapAdd 64 (s.get 0x1200 1034 3) 1
    ∧ OnlyEv (fun ix k sb => ix = 0x3000 ∧ k = n ∧ sb ∈ [4, 5, 14, 16] ∨ ix = 0x3102 ∧ sb = 1 ∨ ix = 0x3400 ∧ s.get 0x3400 k 2 = n ∧ sb = 16 ∨ ix = 0x3600 ∧ k = n / 512 ∧ sb = 21 ∨ ix = 0x4200 ∧ k = n ∧ sb = 4 ∨ localPartner s (n / 512) ≠ none ∧ (ix ∈ [0x3000, 0x3900] ∧ k % 512 = n % 512 ∧ localPartner s (n / 512) = some (k / 512) ∨ ix = 0x3102 ∧ sb = 1) ∨ ix = 0x5140 ∧ sb = 6) (fun a p _ => a ∈ [.beatOut, .capTries, .driftHold, .driftLen, .driftSum, .keepAlive, .lossAt, .lossRun, .regTries, .kxFrag, .kxGen, .kxIndex, .kxKey, .kxKind, .kxNext, .kxSeq, .kxTries] ∧ p = n ∨ a = .allocSeq ∧ s.get 0x3400 p 2 = n ∨ a = .mirSeq ∨ path ≠ 0 ∧ a = .lastPhaseAt ∧ p = n) s t
    ∧ t = { s with objs := t.objs, regs := t.regs, evQueue := t.evQueue, evPending := t.evPending, ploams := t.ploams, beats := t.beats, keyWaits := t.keyWaits, muted := t.muted, vframes := t.vframes })
  ∧ (∀ (s : State) (acc : Acc) (n : Nat),
    Up s →
    mayWrite acc 0x3000 n 1 1 s = true →
    16384 ≤ s.get 0x3102 0 1 →
    Runs (.terminalProvision acc n) s fun t => t = { s with answer := ⟨6, 0⟩ })
  ∧ (∀ (s : State) (acc : Acc) (n : Nat),
    Up s →
    mayWrite acc 0x3000 n 1 1 s = true →
    s.get 0x3102 0 1 < 16384 →
    termState s n ≠ 7 →
    (termState s n ≠ 0 ∨ s.get 0x3000 n 2 = 0) →
    Runs (.terminalProvision acc n) s fun t => t = { s.bump 0x3101 (n / 512) 9 with answer := ⟨0, 0⟩ })
  ∧ (∀ (s : State) (n : Nat),
    Up s →
    termState s n ≠ 4 →
    Runs (.rejoinHoldExpiry n) s fun t => t = s)

/-- The activation commands have their effect (R123, R126 to R132, R135, R139): a serial number on record is assigned its ONU-ID
and a ranging beat, an unknown one is counted or admitted to the lowest free slot, a ranging response sets the delay and enters
OPERATION, missing responses are retried and then end in WAITING, a registration is compared, and capabilities are recorded from
the report that carries the request's sequence number and passes its integrity check, each request being repeated up to its
limit; an event that the state does not list is counted and changes nothing else. -/
def Obligations.ActivationCommandsComplete : Prop :=
  (∀ (s : State) (tree lane serial n : Nat) (phase : Int),
    Up s →
    s.aux .discOut tree lane ≠ 0 →
    serialHolder s tree serial = some n →
    termState s n = 1 →
    Runs (.serialNumberResponse tree lane serial phase) s fun t => termState t n = 2 ∧ t.get 0x3000 n 5 = n % 512 ∧ t.get 0x3000 n 0x0F = lane ∧ t.aux .dsn n = ((teqd s (n / 512) : Int) + phase).toNat ∧ t.ploams = s.ploams ++ [⟨n / 512, lane, 1023, .assignOnuId, [n % 512, s.get 0x3000 n 2], false⟩]
    ∧ OnlyEv (fun ix k sb => ix = 0x3101 ∧ k = tree ∧ sb = 2 ∨ ix = 0x3000 ∧ k = n ∧ sb ∈ [4, 5, 14, 15] ∨ ix = 0x3102 ∧ sb = 1 ∨ ix = 0x3400 ∧ s.get 0x3400 k 2 = n ∧ sb = 16 ∨ ix = 0x3600 ∧ k = n / 512 ∧ sb = 21 ∨ ix = 0x4200 ∧ k = n ∧ sb = 4 ∨ localPartner s (n / 512) ≠ none ∧ (ix ∈ [0x3000, 0x3900] ∧ k % 512 = n % 512 ∧ localPartner s (n / 512) = some (k / 512) ∨ ix = 0x3102 ∧ sb = 1) ∨ ix = 0x5140 ∧ sb = 6) (fun a p q => a ∈ [.beatOut, .capTries, .driftHold, .driftLen, .driftSum, .keepAlive, .lossAt, .lossRun, .regTries, .kxFrag, .kxGen, .kxIndex, .kxKey, .kxKind, .kxNext, .kxSeq, .kxTries] ∧ p = n ∨ a = .allocSeq ∧ s.get 0x3400 p 2 = n ∨ a = .mirSeq ∨ a ∈ [.attempts, .fromDark, .dsn, .rangeWide] ∧ p = n ∨ a = .discHeard ∧ p = tree ∧ q = lane ∨ a = .recHeard ∧ p = tree) s t
    ∧ t = { s with objs := t.objs, regs := t.regs, evQueue := t.evQueue, evPending := t.evPending, ploams := t.ploams, beats := t.beats, keyWaits := t.keyWaits, muted := t.muted, vframes := t.vframes })
  ∧ (∀ (s : State) (tree lane serial k : Nat) (phase : Int),
    Up s →
    s.aux .discOut tree lane ≠ 0 →
    serialHolder s tree serial = none →
    s.get 0x3100 tree 1 ≠ 0 →
    freeTerminal s tree = some k →
    s.get 0x3102 0 1 < 16384 →
    let n := 512 * tree + k
    Runs (.serialNumberResponse tree lane serial phase) s fun t => termState t n = 2 ∧ t.get 0x3000 n 1 = 1 ∧ t.get 0x3000 n 2 = serial ∧ t.get 0x3000 n 0x0F = lane
    ∧ OnlyEv (fun ix k sb => ix = 0x3101 ∧ k = tree ∧ sb = 2 ∨ ix = 0x3000 ∧ k = n ∧ sb ∈ [1, 2, 4, 5, 14, 15] ∨ ix = 0x3102 ∧ sb = 1 ∨ ix = 0x3400 ∧ s.get 0x3400 k 2 = n ∧ sb = 16 ∨ ix = 0x3600 ∧ k = n / 512 ∧ sb = 21 ∨ ix = 0x4200 ∧ k = n ∧ sb = 4 ∨ localPartner s (n / 512) ≠ none ∧ (ix ∈ [0x3000, 0x3900] ∧ k % 512 = n % 512 ∧ localPartner s (n / 512) = some (k / 512) ∨ ix = 0x3102 ∧ sb = 1) ∨ ix = 0x5140 ∧ sb = 6) (fun a p q => a ∈ [.beatOut, .capTries, .driftHold, .driftLen, .driftSum, .keepAlive, .lossAt, .lossRun, .regTries, .kxFrag, .kxGen, .kxIndex, .kxKey, .kxKind, .kxNext, .kxSeq, .kxTries] ∧ p = n ∨ a = .allocSeq ∧ s.get 0x3400 p 2 = n ∨ a = .mirSeq ∨ a ∈ [.attempts, .fromDark, .dsn, .rangeWide] ∧ p = n ∨ a = .discHeard ∧ p = tree ∧ q = lane ∨ a = .recHeard ∧ p = tree) s t
    ∧ t = { s with objs := t.objs, regs := t.regs, evQueue := t.evQueue, evPending := t.evPending, ploams := t.ploams, beats := t.beats, keyWaits := t.keyWaits, muted := t.muted, vframes := t.vframes })
  ∧ (∀ (s : State) (tree lane serial : Nat) (phase : Int),
    Up s →
    s.aux .discOut tree lane ≠ 0 →
    serialHolder s tree serial = none →
    s.get 0x3100 tree 1 = 0 →
    Runs (.serialNumberResponse tree lane serial phase) s fun t => t.get 0x3101 tree 2 = wrapAdd 64 (s.get 0x3101 tree 2) 1 ∧ t.get 0x3101 tree 3 = wrapAdd 64 (s.get 0x3101 tree 3) 1
    ∧ OnlyEv (fun ix k sb => ix = 0x3101 ∧ k = tree ∧ (sb = 2 ∨ sb = 3)) (fun a p q => (a = .recHeard ∧ p = tree ∧ lane = 0) ∨ a = .discHeard ∧ p = tree ∧ q = lane ∨ (a = .unkSeen ∧ p = tree ∧ q = serial)) s t
    ∧ t = { s with objs := t.objs, regs := t.regs, evQueue := t.evQueue, evPending := t.evPending })
  ∧ (∀ (s : State) (n : Nat) (phase : Int),
    Up s →
    termState s n = 2 →
    s.aux .beatOut n ≠ 0 →
    Runs (.rangingResponse n (n % 512) phase) s fun t => termState t n = 3 ∧ t.get 0x3000 n 6 = (-phase).toNat ∧ t.get 0x3000 n 8 = ((teqd s (n / 512) : Int) + phase).toNat ∧ t.get 0x3000 n 0x0D = 0 ∧ t.aux .capTries n = 1 ∧ t.aux .beatOut n = 0
    ∧ OnlyEv (fun ix k sb => ix = 0x3000 ∧ k = n ∧ sb ∈ [4, 6, 7, 8, 13, 14] ∨ ix = 0x3102 ∧ sb = 1 ∨ ix = 0x3400 ∧ s.get 0x3400 k 2 = n ∧ sb = 16 ∨ ix = 0x3600 ∧ k = n / 512 ∧ sb = 21 ∨ ix = 0x4200 ∧ k = n ∧ sb = 4 ∨ localPartner s (n / 512) ≠ none ∧ (ix ∈ [0x3000, 0x3900] ∧ k % 512 = n % 512 ∧ localPartner s (n / 512) = some (k / 512) ∨ ix = 0x3102 ∧ sb = 1) ∨ ix = 0x5140 ∧ sb = 6 ∨ ix = 0x3900 ∧ k = n ∧ sb ∈ [1, 6, 7]) (fun a p _ => a ∈ [.beatOut, .capTries, .driftHold, .driftLen, .driftSum, .keepAlive, .lossAt, .lossRun, .regTries, .kxFrag, .kxGen, .kxIndex, .kxKey, .kxKind, .kxNext, .kxSeq, .kxTries] ∧ p = n ∨ a = .allocSeq ∧ s.get 0x3400 p 2 = n ∨ a = .mirSeq ∨ a ∈ [.capSeq, .fromDark, .lastPhaseAt] ∧ p = n) s t
    ∧ t = { s with objs := t.objs, regs := t.regs, evQueue := t.evQueue, evPending := t.evPending, ploams := t.ploams, beats := t.beats, keyWaits := t.keyWaits, muted := t.muted, vframes := t.vframes })
  ∧ (∀ (s : State) (n : Nat),
    Up s →
    termState s n = 2 →
    s.aux .beatOut n ≠ 0 →
    s.aux .attempts n + 1 < s.get 0x3100 (n / 512) 0x14 →
    Runs (.rangingNoResponse n) s fun t => termState t n = 2 ∧ t.aux .attempts n = s.aux .attempts n + 1 ∧ t.aux .beatOut n = 0 ∧ t.aux .rangeWide n = 1
    ∧ Only (fun _ _ _ => False) (fun a p q => (a = .attempts ∨ a = .beatOut ∨ a = .rangeWide) ∧ p = n ∧ q = 0) s t
    ∧ t = { s with objs := t.objs, regs := t.regs, beats := t.beats })
  ∧ (∀ (s : State) (n : Nat),
    Up s →
    termState s n = 2 →
    s.aux .beatOut n ≠ 0 →
    s.get 0x3100 (n / 512) 0x14 ≤ s.aux .attempts n + 1 →
    Runs (.rangingNoResponse n) s fun t => termState t n = 1 ∧ t.get 0x3000 n 0x10 = 2 ∧ t.get 0x3101 (n / 512) 5 = wrapAdd 64 (s.get 0x3101 (n / 512) 5) 1
    ∧ OnlyEv (fun ix k sb => ix = 0x3000 ∧ k = n ∧ sb ∈ [4, 5, 14, 16] ∨ ix = 0x3102 ∧ sb = 1 ∨ ix = 0x3400 ∧ s.get 0x3400 k 2 = n ∧ sb = 16 ∨ ix = 0x3600 ∧ k = n / 512 ∧ sb = 21 ∨ ix = 0x4200 ∧ k = n ∧ sb = 4 ∨ localPartner s (n / 512) ≠ none ∧ (ix ∈ [0x3000, 0x3900] ∧ k % 512 = n % 512 ∧ localPartner s (n / 512) = some (k / 512) ∨ ix = 0x3102 ∧ sb = 1) ∨ ix = 0x5140 ∧ sb = 6 ∨ ix = 0x3101 ∧ k = n / 512 ∧ sb = 5) (fun a p _ => a ∈ [.beatOut, .capTries, .driftHold, .driftLen, .driftSum, .keepAlive, .lossAt, .lossRun, .regTries, .kxFrag, .kxGen, .kxIndex, .kxKey, .kxKind, .kxNext, .kxSeq, .kxTries] ∧ p = n ∨ a = .allocSeq ∧ s.get 0x3400 p 2 = n ∨ a = .mirSeq ∨ a = .attempts ∧ p = n) s t
    ∧ t = { s with objs := t.objs, regs := t.regs, evQueue := t.evQueue, evPending := t.evPending, ploams := t.ploams, beats := t.beats, keyWaits := t.keyWaits, muted := t.muted, vframes := t.vframes })
  ∧ (∀ (s : State) (n reg : Nat),
    Up s →
    termState s n = 3 →
    (s.get 0x3000 n 3 = 0 ∨ s.get 0x3000 n 3 = reg) →
    Runs (.registrationReceived n reg) s fun t => t = s.setAux .regTries n 0 0)
  ∧ (∀ (s : State) (n reg : Nat),
    Up s →
    termState s n = 3 →
    s.get 0x3000 n 3 ≠ 0 →
    s.get 0x3000 n 3 ≠ reg →
    Runs (.registrationReceived n reg) s fun t => termState t n = 1 ∧ t.get 0x3000 n 0x10 = 3 ∧ t.get 0x1200 1029 3 = wrapAdd 64 (s.get 0x1200 1029 3) 1
    ∧ OnlyEv (fun ix k sb => ix = 0x3000 ∧ k = n ∧ sb ∈ [4, 5, 14, 16] ∨ ix = 0x3102 ∧ sb = 1 ∨ ix = 0x3400 ∧ s.get 0x3400 k 2 = n ∧ sb = 16 ∨ ix = 0x3600 ∧ k = n / 512 ∧ sb = 21 ∨ ix = 0x4200 ∧ k = n ∧ sb = 4 ∨ localPartner s (n / 512) ≠ none ∧ (ix ∈ [0x3000, 0x3900] ∧ k % 512 = n % 512 ∧ localPartner s (n / 512) = some (k / 512) ∨ ix = 0x3102 ∧ sb = 1) ∨ ix = 0x5140 ∧ sb = 6) (fun a p _ => a ∈ [.beatOut, .capTries, .driftHold, .driftLen, .driftSum, .keepAlive, .lossAt, .lossRun, .regTries, .kxFrag, .kxGen, .kxIndex, .kxKey, .kxKind, .kxNext, .kxSeq, .kxTries] ∧ p = n ∨ a = .allocSeq ∧ s.get 0x3400 p 2 = n ∨ a = .mirSeq) s t
    ∧ t = { s with objs := t.objs, regs := t.regs, evQueue := t.evQueue, evPending := t.evPending, ploams := t.ploams, beats := t.beats, keyWaits := t.keyWaits, muted := t.muted, vframes := t.vframes })
  ∧ (∀ (s : State) (n : Nat),
    Up s →
    s.aux .regTries n ≠ 0 →
    s.aux .regTries n < 3 →
    Runs (.registrationTimeout n) s fun t => t = { s.setAux .regTries n 0 (s.aux .regTries n + 1) with ploams := s.ploams ++ [⟨n / 512, laneOf s n, n % 512, .requestRegistration, [], false⟩] })
  ∧ (∀ (s : State) (n : Nat),
    Up s →
    3 ≤ s.aux .regTries n →
    termState s n = 3 →
    Runs (.registrationTimeout n) s fun t => termState t n = 1 ∧ t.get 0x3000 n 0x10 = 3 ∧ t.aux .regTries n = 0
    ∧ OnlyEv (fun ix k sb => ix = 0x3000 ∧ k = n ∧ sb ∈ [4, 5, 14, 16] ∨ ix = 0x3102 ∧ sb = 1 ∨ ix = 0x3400 ∧ s.get 0x3400 k 2 = n ∧ sb = 16 ∨ ix = 0x3600 ∧ k = n / 512 ∧ sb = 21 ∨ ix = 0x4200 ∧ k = n ∧ sb = 4 ∨ localPartner s (n / 512) ≠ none ∧ (ix ∈ [0x3000, 0x3900] ∧ k % 512 = n % 512 ∧ localPartner s (n / 512) = some (k / 512) ∨ ix = 0x3102 ∧ sb = 1) ∨ ix = 0x5140 ∧ sb = 6) (fun a p _ => a ∈ [.beatOut, .capTries, .driftHold, .driftLen, .driftSum, .keepAlive, .lossAt, .lossRun, .regTries, .kxFrag, .kxGen, .kxIndex, .kxKey, .kxKind, .kxNext, .kxSeq, .kxTries] ∧ p = n ∨ a = .allocSeq ∧ s.get 0x3400 p 2 = n ∨ a = .mirSeq) s t
    ∧ t = { s with objs := t.objs, regs := t.regs, evQueue := t.evQueue, evPending := t.evPending, ploams := t.ploams, beats := t.beats, keyWaits := t.keyWaits, muted := t.muted, vframes := t.vframes })
  ∧ (∀ (s : State) (n : Nat) (content : List Nat),
    Up s →
    s.aux .capTries n ≠ 0 →
    s.aux .capSeq n ≠ 0 →
    content.length = 36 →
    let head := bytesOf 2 (n % 512) ++ [0xE3, s.aux .capSeq n]
    let check := bytesOf 8 (Config.ploamMic (integrityKey s (n / 512) (n % 512)) (head ++ content))
    Runs (.capabilityReport n head content check) s fun t => t.get 0x3000 n 9 = capabilitiesOf (content.getD 0 0) (content.getD 1 0) ∧ t.aux .capTries n = 0
    ∧ OnlyEv (fun ix k sb => ix = 0x3000 ∧ k = n ∧ sb = 9 ∨ ix = 0x4200 ∧ k = n ∧ sb = 4 ∨ localPartner s (n / 512) ≠ none ∧ (ix ∈ [0x3000, 0x3900] ∧ k % 512 = n % 512 ∧ localPartner s (n / 512) = some (k / 512) ∨ ix = 0x3102 ∧ sb = 1) ∨ ix = 0x5140 ∧ sb = 6) (fun a p _ => a ∈ [.capTries, .kxFrag, .kxGen, .kxIndex, .kxKey, .kxKind, .kxNext, .kxSeq, .kxTries] ∧ p = n ∨ a = .mirSeq) s t
    ∧ t = { s with objs := t.objs, regs := t.regs, evQueue := t.evQueue, evPending := t.evPending, ploams := t.ploams, vframes := t.vframes })
  ∧ (∀ (s : State) (n : Nat) (head content check : List Nat),
    Up s →
    let bytes := head ++ content ++ check
    (bytes.getD 2 0 ≠ 0xE3 ∨ bytes.length ≠ 48 ∨ s.aux .capTries n = 0 ∨ s.aux .capSeq n = 0 ∨ bytes.getD 3 0 ≠ s.aux .capSeq n) →
    Runs (.capabilityReport n head content check) s fun t => t = s)
  ∧ (∀ (s : State) (n : Nat),
    Up s →
    s.aux .capTries n ≠ 0 →
    s.aux .capTries n < s.get 0x3100 (n / 512) 0x1A →
    Runs (.capabilityTimeout n) s fun t => t = { s.setAux .capTries n 0 (s.aux .capTries n + 1) with ploams := s.ploams ++ [⟨n / 512, laneOf s n, n % 512, .capabilityRequest, [], false⟩] })
  ∧ (∀ (s : State) (n : Nat),
    Up s →
    s.aux .capTries n ≠ 0 →
    s.get 0x3100 (n / 512) 0x1A ≤ s.aux .capTries n →
    Runs (.capabilityTimeout n) s fun t => t.get 0x3000 n 9 = 0 ∧ t.aux .capTries n = 0 ∧ t.get 0x1200 1045 3 = wrapAdd 64 (s.get 0x1200 1045 3) 1
    ∧ OnlyEv (fun ix k sb => ix = 0x3000 ∧ k = n ∧ sb = 9 ∨ localPartner s (n / 512) ≠ none ∧ (ix ∈ [0x3000, 0x3900] ∧ k % 512 = n % 512 ∧ localPartner s (n / 512) = some (k / 512) ∨ ix = 0x3102 ∧ sb = 1) ∨ ix = 0x5140 ∧ sb = 6) (fun a p _ => a = .capTries ∧ p = n ∨ a = .mirSeq) s t
    ∧ t = { s with objs := t.objs, regs := t.regs, evQueue := t.evQueue, evPending := t.evPending, vframes := t.vframes })
  ∧ (∀ (s : State) (n onu : Nat) (phase : Int),
    Up s →
    (termState s n ≠ 2 ∨ s.aux .beatOut n = 0 ∨ onu ≠ n % 512) →
    Runs (.rangingResponse n onu phase) s fun t => t = s.bump 0x3101 (n / 512) 9)
  ∧ (∀ (s : State) (n : Nat),
    Up s →
    (termState s n ≠ 2 ∨ s.aux .beatOut n = 0) →
    Runs (.rangingNoResponse n) s fun t => t = s.bump 0x3101 (n / 512) 9)
  ∧ (∀ (s : State) (n reg : Nat),
    Up s →
    termState s n ≠ 3 →
    Runs (.registrationReceived n reg) s fun t => t = s.bump 0x3101 (n / 512) 9)

/-- The commands of the rest beats have their effect (R137, R138, R140, R191): a due beat is staged in the first map it can
shape when its window fits the budget, with what it puts out of its place, and is otherwise deferred and counted once, discovery
falls due on a running lane when its interval has passed and on request, and after a discovery beat the interval is quartered,
when the beat was active, or doubled within its bounds, and runs from the opening of the beat's window. -/
def Obligations.RestBeatCommandsComplete : Prop :=
  (∀ (s : State) (tree lane : Nat) (b : Beat),
    Up s →
    s.beats.filter (fun b => b.tree == tree && b.lane == lane && b.kind != 3 && beatFree s b) = [b] →
    b.deferred = false →
    let m := nextBuild s tree lane
    (beatsHeld s tree lane m = true ∨ beatEntry s b m = none ∨ ∃ e ∈ beatEntry s b m, s.get 0x3100 tree 0x0A * frameBits lane < (beatTime s tree lane (upstreamAt s tree m (mainBits lane e.opens)) + beatStaged s tree lane + (e.closes - e.opens)) * 125) →
    Runs (.restBeatPlace tree lane) s fun t => t.get 0x3101 tree 6 = wrapAdd 64 (s.get 0x3101 tree 6) 1 ∧ t.beats = (s.beats.map fun x => if x = b then { b with deferred := true } else x)
    ∧ Only (fun ix k sb => ix = 0x3101 ∧ k = tree ∧ sb = 6) (fun _ _ _ => False) s t
    ∧ t = { s with objs := t.objs, regs := t.regs, beats := t.beats })
  ∧ (∀ (s : State) (tree lane : Nat) (b : Beat) (e : MapEntry),
    Up s →
    s.beats.filter (fun b => b.tree == tree && b.lane == lane && b.kind != 3 && beatFree s b) = [b] →
    let m := nextBuild s tree lane
    beatsHeld s tree lane m = false →
    beatEntry s b m = some e →
    (beatTime s tree lane (upstreamAt s tree m (mainBits lane e.opens)) + beatStaged s tree lane + (e.closes - e.opens)) * 125 ≤ s.get 0x3100 tree 0x0A * frameBits lane →
    let s1 := stageEntry tree lane m e s
    ((mapOf s1.staged tree lane m).map fun g => g.entries.length).getD 0 ≠ ((mapOf s.staged tree lane m).map fun g => g.entries.length).getD 0 →
    Runs (.restBeatPlace tree lane) s fun t => t.staged = s1.staged ∧ t.beats = (s1.beats.map fun x => if x = b then { b with placed := m + 1 } else x)
    ∧ OnlyEv (fun ix k sb => ix = 0x3600 ∧ k = tree ∧ sb ∈ [11, 18] ∨ ix = 0x5400 ∧ sb ∈ [1, 2, 3, 4] ∨ ix = 0x5900 ∧ sb ∈ [2, 5, 6, 8, 9] ∨ ix = 0x5940 ∧ sb = 5) (fun a p _ => a ∈ [.mapStop, .mapWhole] ∧ p = tree ∨ a = .coopPend ∨ a ∈ [.engVac, .knellAt, .knellBy, .safePoint, .stAban, .unserved, .unservedN]) s t
    ∧ t = { s with objs := t.objs, regs := t.regs, evQueue := t.evQueue, evPending := t.evPending, beats := t.beats, recent := t.recent, staged := t.staged })
  ∧ (∀ (s : State) (tree lane : Nat),
    Up s →
    s.beats.filter (fun b => b.tree == tree && b.lane == lane && b.kind != 3 && beatFree s b) = [] →
    Runs (.restBeatPlace tree lane) s fun t => t = s)
  ∧ (∀ (s : State) (tree lane : Nat),
    Up s →
    tree < s.trees →
    lane < 2 →
    (s.beats.any fun b => b.tree == tree && b.lane == lane && b.kind == 0 && b.terminal == 0xFFFF) = false →
    s.aux .discOut tree lane ≠ 1 →
    s.aux .discNext tree lane ≤ s.now + 1 →
    2 ≤ laneState s tree lane →
    Runs (.discoveryDue tree lane) s fun t => t = { s with beats := s.beats ++ [⟨tree, lane, 0, 0xFFFF, false, s.now, false, 0⟩] })
  ∧ (∀ (s : State) (acc : Acc) (tree : Nat),
    Up s →
    mayWrite acc 0x3100 tree 0x0E 1 s = true →
    2 ≤ laneState s tree 0 →
    laneState s tree 1 < 2 →
    (s.beats.any fun b => b.tree == tree && b.lane == 0 && b.kind == 0 && b.terminal == 0xFFFF) = false →
    Runs (.discoverNow acc tree) s fun t => t.answer = ⟨0, 0⟩ ∧ t.beats = s.beats ++ [⟨tree, 0, 0, 0xFFFF, false, s.now, false, 0⟩] ∧ discInterval t tree 0 = discInterval s tree 0
    ∧ Only (fun ix k sb => ix = 0x3100 ∧ k = tree ∧ sb = 0x0E) (fun _ _ _ => False) s t
    ∧ t = { s with objs := t.objs, regs := t.regs, beats := t.beats, answer := t.answer })
  ∧ (∀ (s : State) (tree lane : Nat) (light : Bool),
    Up s →
    s.aux .discOut tree lane = 1 →
    lane < 2 →
    s.get 0x3100 tree 0x0B ≠ 0 →
    let active := s.aux .discHeard tree lane == 1 || light
    let next := if active then max (s.get 0x3100 tree 0x0B) (discInterval s tree lane / 4) else min (s.get 0x3100 tree 0x0C) (discInterval s tree lane * 2)
    Runs (.discoveryBeatEnd tree lane light) s fun t => discInterval t tree lane = next ∧ t.aux .discOut tree lane = 0 ∧ t.aux .discNext tree lane = (discStart s tree lane).toNat + next * 1000000 + 1
    ∧ OnlyEv (fun ix k sb => lane = 0 ∧ ix = 0x3100 ∧ k = tree ∧ sb = 0x0D) (fun a p q => a ∈ [.discOut, .discNext] ∧ p = tree ∧ q = lane ∨ (a = .discInt ∧ p = tree ∧ lane = 1)) s t
    ∧ t = { s with objs := t.objs, regs := t.regs, evQueue := t.evQueue, evPending := t.evPending })
  ∧ (∀ (s : State) (tree lane : Nat) (light : Bool),
    Up s →
    s.aux .discOut tree lane ≠ 1 →
    Runs (.discoveryBeatEnd tree lane light) s fun t => t = s.setAux .discOut tree lane 0)
  ∧ (∀ (s : State) (tree lane : Nat),
    Up s →
    (s.trees ≤ tree ∨ 2 ≤ lane ∨ laneState s tree lane < 2 ∨ s.aux .discOut tree lane = 1 ∨ s.now + 1 < s.aux .discNext tree lane) →
    Runs (.discoveryDue tree lane) s fun t => t = s)

/-- The commands of the muffling sequence have their effect (R151 to R159): a start detects at once and turns to the first
candidate, or is answered busy while a sequence runs, the withholding and disabling steps end with the candidate muffled when
nothing was lit and with the next candidate when something was, a clean confirmation starts recovery discovery, its beats run up
to their bound, a lit confirmation ends the sequence, an abort or a disable ends the sequence and frees every probed terminal,
and the wait after an exhausted order ends. -/
def Obligations.MufflingCommandsComplete : Prop :=
  (∀ (s : State) (acc : Acc) (tree : Nat),
    Up s →
    mayWrite acc 0x3200 tree 9 1 s = true →
    (s.get 0x3200 tree 7 = 0 ∨ s.get 0x3200 tree 7 = 6) →
    suspects s tree = [] →
    Runs (.mufflingStart acc tree) s fun t => t.answer = ⟨0, 0⟩ ∧ t.get 0x3200 tree 7 = 6 ∧ t.get 0x1200 1040 3 = wrapAdd 64 (s.get 0x1200 1040 3) 1 ∧ isPending t 1040 tree = false ∧ t.get 0x3200 tree 8 = 0xFFFF
    ∧ OnlyEv (fun ix k sb => ix = 0x3000 ∧ k / 512 = tree ∧ sb = 10 ∨ ix = 0x3200 ∧ k = tree ∧ sb ∈ [7, 8, 9]) (fun a p _ => a ∈ [.mufClass, .mufA, .mufO, .mufThr, .mufProbed, .mufFirst, .mufFrom, .mufObs, .mufLit, .mufWait] ∧ p = tree) s t
    ∧ t = { s with objs := t.objs, regs := t.regs, evQueue := t.evQueue, evPending := t.evPending, answer := t.answer, probes := t.probes })
  ∧ (∀ (s : State) (acc : Acc) (tree : Nat),
    Up s →
    mayWrite acc 0x3200 tree 9 1 s = true →
    (s.get 0x3200 tree 7 = 0 ∨ s.get 0x3200 tree 7 = 6) →
    suspects s tree ≠ [] →
    Runs (.mufflingStart acc tree) s fun t => t.answer = ⟨0, 0⟩ ∧ (t.get 0x3200 tree 7 = 2 ∨ t.get 0x3200 tree 7 = 3) ∧ t.get 0x3200 tree 8 ∈ suspects s tree ∧ isPending t 1040 tree = true
    ∧ OnlyEv (fun ix k sb => ix = 0x3200 ∧ k = tree ∧ sb ∈ [7, 8, 9] ∨ ix = 0x3000 ∧ k / 512 = tree ∧ sb ∈ [4, 10, 14] ∨ ix = 0x4200 ∧ k / 512 = tree ∧ sb = 4 ∨ ix = 0x3600 ∧ k = tree ∧ sb = 21 ∨ localPartner s tree ≠ none ∧ (ix ∈ [0x3000, 0x3900] ∧ localPartner s tree = some (k / 512) ∨ ix = 0x3102 ∧ sb = 1) ∨ ix = 0x5140 ∧ sb = 6) (fun a p _ => a ∈ [.mufClass, .mufA, .mufO, .mufThr, .mufProbed, .mufFirst, .mufFrom, .mufObs, .mufLit, .mufWait] ∧ p = tree ∨ a ∈ [.beatOut, .capTries, .driftHold, .driftLen, .driftSum, .keepAlive, .lossAt, .lossRun, .regTries, .kxFrag, .kxGen, .kxIndex, .kxKey, .kxKind, .kxNext, .kxSeq, .kxTries] ∧ p / 512 = tree ∨ a = .mirSeq) s t
    ∧ t = { s with objs := t.objs, regs := t.regs, evQueue := t.evQueue, evPending := t.evPending, answer := t.answer, beats := t.beats, keyWaits := t.keyWaits, muted := t.muted, ploams := t.ploams, probes := t.probes, vframes := t.vframes })
  ∧ (∀ (s : State) (tree v : Nat),
    Up s →
    s.get 0x3200 tree 7 = 2 →
    observed s tree = true →
    s.get 0x3200 tree 8 = v →
    let n := 512 * tree + v
    s.aux .mufLit tree = 0 →
    termState s n = 3 →
    s.aux .heldCmd n = 0 →
    Runs (.mufflingWithholdEnd tree) s fun t => termState t n = 6 ∧ t.get 0x3000 n 0x0A = 3 ∧ t.get 0x3000 n 0x10 = 8 ∧ t.get 0x3200 tree 7 = 4 ∧ t.get 0x3200 tree 8 = 0xFFFF ∧ t.get 0x3200 tree 0x0B = wrapAdd 32 (s.get 0x3200 tree 0x0B) 1 ∧ isPending t 1041 n = true ∧ t.ploams = s.ploams ++ [⟨n / 512, laneOf s n, 1023, .disable, [n % 512, s.get 0x3000 n 2], true⟩]
    ∧ OnlyEv (fun ix k sb => ix = 0x3000 ∧ k = n ∧ sb ∈ [4, 10, 14, 16] ∨ ix = 0x3102 ∧ sb = 1 ∨ ix = 0x3400 ∧ s.get 0x3400 k 2 = n ∧ sb = 16 ∨ ix = 0x3600 ∧ k = n / 512 ∧ sb = 21 ∨ ix = 0x4200 ∧ k = n ∧ sb = 4 ∨ localPartner s (n / 512) ≠ none ∧ (ix ∈ [0x3000, 0x3900] ∧ k % 512 = n % 512 ∧ localPartner s (n / 512) = some (k / 512) ∨ ix = 0x3102 ∧ sb = 1) ∨ ix = 0x5140 ∧ sb = 6 ∨ ix = 0x3200 ∧ k = tree ∧ sb ∈ [7, 8, 11, 12]) (fun a p _ => a ∈ [.beatOut, .capTries, .driftHold, .driftLen, .driftSum, .keepAlive, .lossAt, .lossRun, .regTries, .kxFrag, .kxGen, .kxIndex, .kxKey, .kxKind, .kxNext, .kxSeq, .kxTries] ∧ p = n ∨ a = .allocSeq ∧ s.get 0x3400 p 2 = n ∨ a = .mirSeq ∨ a ∈ [.mufFrom, .mufObs, .mufLit] ∧ p = tree) s t
    ∧ t = { s with objs := t.objs, regs := t.regs, evQueue := t.evQueue, evPending := t.evPending, ploams := t.ploams, beats := t.beats, keyWaits := t.keyWaits, muted := t.muted, vframes := t.vframes })
  ∧ (∀ (s : State) (tree c j : Nat) (rest : List Nat),
    Up s →
    s.get 0x3200 tree 7 = 2 →
    observed s tree = true →
    s.get 0x3200 tree 8 = c →
    s.aux .mufLit tree = 1 →
    (probeOf s tree).withhold = j :: rest →
    j ≠ c →
    Runs (.mufflingWithholdEnd tree) s fun t => t.get 0x3200 tree 7 = 2 ∧ t.get 0x3200 tree 8 = j ∧ isMuted t tree j = true ∧ isMuted t tree c = false ∧ t.get 0x3000 (512 * tree + c) 0x0A = 4 ∧ t.get 0x3000 (512 * tree + j) 0x0A = 1 ∧ (probeOf t tree).withhold = rest
    ∧ Only (fun ix k sb => (ix = 0x3000 ∧ (k = 512 * tree + j ∨ k = 512 * tree + c) ∧ sb = 0x0A) ∨ (ix = 0x3200 ∧ k = tree ∧ (sb = 7 ∨ sb = 8)) ∨ (ix = 0x3600 ∧ k = tree ∧ sb = 0x15)) (fun a p q => (a = .mufFrom ∨ a = .mufObs ∨ a = .mufLit) ∧ p = tree ∧ q = 0) s t
    ∧ t = { s with objs := t.objs, regs := t.regs, muted := t.muted, probes := t.probes })
  ∧ (∀ (s : State) (tree v : Nat),
    Up s →
    s.get 0x3200 tree 7 = 3 →
    observed s tree = true →
    s.get 0x3200 tree 8 = v →
    let n := 512 * tree + v
    s.aux .mufLit tree = 0 →
    s.aux .heldCmd n = 0 →
    Runs (.mufflingProbeEnd tree) s fun t => termState t n = 6 ∧ t.get 0x3000 n 0x0A = 3 ∧ t.get 0x3000 n 0x10 = 8 ∧ t.get 0x3200 tree 7 = 4 ∧ isPending t 1041 n = true
    ∧ OnlyEv (fun ix k sb => ix = 0x3000 ∧ k = n ∧ sb ∈ [4, 10, 14, 16] ∨ ix = 0x3102 ∧ sb = 1 ∨ ix = 0x3400 ∧ s.get 0x3400 k 2 = n ∧ sb = 16 ∨ ix = 0x3600 ∧ k = n / 512 ∧ sb = 21 ∨ ix = 0x4200 ∧ k = n ∧ sb = 4 ∨ localPartner s (n / 512) ≠ none ∧ (ix ∈ [0x3000, 0x3900] ∧ k % 512 = n % 512 ∧ localPartner s (n / 512) = some (k / 512) ∨ ix = 0x3102 ∧ sb = 1) ∨ ix = 0x5140 ∧ sb = 6 ∨ ix = 0x3200 ∧ k = tree ∧ sb ∈ [7, 8, 11, 12]) (fun a p _ => a ∈ [.beatOut, .capTries, .driftHold, .driftLen, .driftSum, .keepAlive, .lossAt, .lossRun, .regTries, .kxFrag, .kxGen, .kxIndex, .kxKey, .kxKind, .kxNext, .kxSeq, .kxTries] ∧ p = n ∨ a = .allocSeq ∧ s.get 0x3400 p 2 = n ∨ a = .mirSeq ∨ a ∈ [.mufFrom, .mufObs, .mufLit] ∧ p = tree) s t
    ∧ t = { s with objs := t.objs, regs := t.regs, evQueue := t.evQueue, evPending := t.evPending, beats := t.beats, keyWaits := t.keyWaits, muted := t.muted, vframes := t.vframes })
  ∧ (∀ (s : State) (tree v : Nat),
    Up s →
    s.get 0x3200 tree 7 = 3 →
    observed s tree = true →
    s.get 0x3200 tree 8 = v →
    let n := 512 * tree + v
    v < 512 →
    s.aux .mufLit tree = 1 →
    termState s n = 5 →
    s.aux .heldCmd n = 0 →
    (probeOf s tree).order = [] →
    Runs (.mufflingProbeEnd tree) s fun t => termState t n = 1 ∧ t.get 0x3000 n 0x10 = 7 ∧ t.get 0x3000 n 0x0A = 4 ∧ t.get 0x3200 tree 7 = 6 ∧ t.get 0x1200 1042 3 = wrapAdd 64 (s.get 0x1200 1042 3) 1
    ∧ OnlyEv (fun ix k sb => ix = 0x3000 ∧ k = n ∧ sb ∈ [4, 5, 10, 14, 16] ∨ ix = 0x3102 ∧ sb = 1 ∨ ix = 0x3400 ∧ s.get 0x3400 k 2 = n ∧ sb = 16 ∨ ix = 0x3600 ∧ k = n / 512 ∧ sb = 21 ∨ ix = 0x4200 ∧ k = n ∧ sb = 4 ∨ localPartner s (n / 512) ≠ none ∧ (ix ∈ [0x3000, 0x3900] ∧ k % 512 = n % 512 ∧ localPartner s (n / 512) = some (k / 512) ∨ ix = 0x3102 ∧ sb = 1) ∨ ix = 0x5140 ∧ sb = 6 ∨ ix = 0x3200 ∧ k = tree ∧ sb ∈ [7, 8]) (fun a p _ => a ∈ [.beatOut, .capTries, .driftHold, .driftLen, .driftSum, .keepAlive, .lossAt, .lossRun, .regTries, .kxFrag, .kxGen, .kxIndex, .kxKey, .kxKind, .kxNext, .kxSeq, .kxTries] ∧ p = n ∨ a = .allocSeq ∧ s.get 0x3400 p 2 = n ∨ a = .mirSeq ∨ a = .mufWait ∧ p = tree) s t
    ∧ t = { s with objs := t.objs, regs := t.regs, evQueue := t.evQueue, evPending := t.evPending, ploams := t.ploams, probes := t.probes, beats := t.beats, keyWaits := t.keyWaits, muted := t.muted, vframes := t.vframes })
  ∧ (∀ (s : State) (tree : Nat),
    Up s →
    s.get 0x3200 tree 7 = 4 →
    observed s tree = true →
    s.aux .mufLit tree = 0 →
    Runs (.mufflingConfirmEnd tree) s fun t => t.get 0x3200 tree 7 = 5 ∧ t.aux .recBeats tree = 0 ∧ t.aux .recEmpty tree = 0 ∧ t.aux .recHeard tree = 0
    ∧ Only (fun ix k sb => ix = 0x3200 ∧ k = tree ∧ sb = 7) (fun a p q => a ∈ [.recBeats, .recEmpty, .recHeard, .recAt] ∧ p = tree ∧ q = 0) s t
    ∧ t = { s with objs := t.objs, regs := t.regs })
  ∧ (∀ (s : State) (tree : Nat),
    Up s →
    s.get 0x3200 tree 7 = 5 →
    adaptUp s tree = true →
    let last := s.aux .recAt tree
    (last = 0 ∨ 4 ≤ framesTo (last - 1) (nextBuild s tree 0)) →
    (s.beats.any fun b => b.tree == tree && b.kind == 3 && !beatFree s b) = false →
    (16 ≤ s.aux .recBeats tree ∨ (s.aux .recBeats tree ≠ 0 ∧ s.aux .recHeard tree ≠ 1 ∧ 1 ≤ s.aux .recEmpty tree)) →
    Runs (.recoveryDiscoveryBeat tree) s fun t => t.get 0x3200 tree 7 = 0 ∧ t.get 0x3200 tree 8 = 0xFFFF ∧ isPending t 1040 tree = false
    ∧ OnlyEv (fun ix k sb => ix = 0x3200 ∧ k = tree ∧ sb ∈ [7, 8]) (fun a p _ => a = .mufWait ∧ p = tree) s t
    ∧ t = { s with objs := t.objs, regs := t.regs, evQueue := t.evQueue, evPending := t.evPending, beats := t.beats, probes := t.probes })
  ∧ (∀ (s : State) (tree : Nat),
    Up s →
    s.get 0x3200 tree 7 = 5 →
    adaptUp s tree = true →
    let last := s.aux .recAt tree
    (last = 0 ∨ 4 ≤ framesTo (last - 1) (nextBuild s tree 0)) →
    (s.beats.any fun b => b.tree == tree && b.kind == 3) = false →
    s.aux .recBeats tree < 16 →
    (s.aux .recBeats tree = 0 ∨ s.aux .recHeard tree = 1 ∨ s.aux .recEmpty tree = 0) →
    beatsHeld s tree 0 (nextBuild s tree 0) = true →
    Runs (.recoveryDiscoveryBeat tree) s fun t => t.get 0x3101 tree 6 = wrapAdd 64 (s.get 0x3101 tree 6) 1 ∧ t.beats = (s.beats ++ [⟨tree, 0, 3, 0xFFFF, false, s.now, true, 0⟩])
    ∧ Only (fun ix k sb => ix = 0x3101 ∧ k = tree ∧ sb = 6) (fun _ _ _ => False) s t
    ∧ t = { s with objs := t.objs, regs := t.regs, beats := t.beats })
  ∧ (∀ (s : State) (tree : Nat) (e : MapEntry),
    Up s →
    s.get 0x3200 tree 7 = 5 →
    adaptUp s tree = true →
    let last := s.aux .recAt tree
    (last = 0 ∨ 4 ≤ framesTo (last - 1) (nextBuild s tree 0)) →
    (s.beats.any fun b => b.tree == tree && b.kind == 3) = false →
    s.aux .recBeats tree < 16 →
    (s.aux .recBeats tree = 0 ∨ s.aux .recHeard tree = 1 ∨ s.aux .recEmpty tree = 0) →
    let m := nextBuild s tree 0
    let b := (⟨tree, 0, 3, 0xFFFF, false, s.now, false, 0⟩ : Beat)
    let s0 := ({ s with beats := s.beats ++ [b] } : State)
    beatsHeld s0 tree 0 m = false →
    beatEntry s0 b m = some e →
    let s1 := stageEntry tree 0 m e s0
    ((mapOf s1.staged tree 0 m).map fun g => g.entries.length).getD 0 ≠ ((mapOf s.staged tree 0 m).map fun g => g.entries.length).getD 0 →
    Runs (.recoveryDiscoveryBeat tree) s fun t => t.staged = s1.staged ∧ t.beats = (s1.beats.map fun x => if x = b then { b with placed := m + 1 } else x)
    ∧ OnlyEv (fun ix k sb => ix = 0x3600 ∧ k = tree ∧ sb ∈ [11, 18] ∨ ix = 0x5400 ∧ sb ∈ [1, 2, 3, 4] ∨ ix = 0x5900 ∧ sb ∈ [2, 5, 6, 8, 9] ∨ ix = 0x5940 ∧ sb = 5) (fun a p _ => a ∈ [.mapStop, .mapWhole] ∧ p = tree ∨ a = .coopPend ∨ a ∈ [.engVac, .knellAt, .knellBy, .safePoint, .stAban, .unserved, .unservedN]) s t
    ∧ t = { s with objs := t.objs, regs := t.regs, evQueue := t.evQueue, evPending := t.evPending, beats := t.beats, recent := t.recent, staged := t.staged })
  ∧ (∀ (s : State) (tree : Nat),
    Up s →
    s.get 0x3200 tree 7 = 4 →
    observed s tree = true →
    s.aux .mufLit tree = 1 →
    Runs (.mufflingConfirmEnd tree) s fun t => t.get 0x3200 tree 7 = 0 ∧ t.get 0x3200 tree 8 = 0xFFFF ∧ isPending t 1040 tree = false ∧ t.energy = s.energy
    ∧ OnlyEv (fun ix k sb => ix = 0x3200 ∧ k = tree ∧ sb ∈ [7, 8]) (fun a p _ => a = .mufWait ∧ p = tree) s t
    ∧ t = { s with objs := t.objs, regs := t.regs, evQueue := t.evQueue, evPending := t.evPending, probes := t.probes })
  ∧ (∀ (s : State) (tree : Nat),
    Up s →
    s.get 0x3200 tree 7 = 6 →
    Runs (.unattributedWaitEnd tree) s fun t => t.get 0x3200 tree 7 = 0 ∧ t.get 0x3200 tree 8 = 0xFFFF ∧ t.energy = s.energy
    ∧ OnlyEv (fun ix k sb => ix = 0x3200 ∧ k = tree ∧ (sb = 7 ∨ sb = 8)) (fun a p _ => a = .mufWait ∧ p = tree) s t
    ∧ t = { s with objs := t.objs, regs := t.regs, evQueue := t.evQueue, evPending := t.evPending, probes := t.probes })
  ∧ (∀ (s : State) (acc : Acc) (tree : Nat),
    Up s →
    mayWrite acc 0x3200 tree 0x0A 1 s = true →
    s.get 0x3200 tree 7 ≠ 0 →
    s.get 0x3200 tree 7 ≠ 6 →
    Runs (.mufflingAbort acc tree) s fun t => t.answer = ⟨0, 0⟩ ∧ t.get 0x3200 tree 7 = 0 ∧ t.get 0x1200 1043 3 = wrapAdd 64 (s.get 0x1200 1043 3) 1 ∧ (∀ n ∈ termsIn s tree 5, s.aux .heldCmd n = 0 → termState t n = 1)
    ∧ OnlyEv (fun ix k sb => ix = 0x2008 ∧ k = tree ∧ sb = 2 ∨ ix ∈ [0x3000, 0x3900] ∧ (k / 512 = tree ∨ localPartner s tree = some (k / 512)) ∨ ix = 0x3102 ∧ sb = 1 ∨ ix = 0x3200 ∧ k = tree ∧ sb ∈ [7, 8] ∨ ix = 0x3400 ∧ k / 1024 = tree ∧ sb = 16 ∨ ix = 0x3600 ∧ k = tree ∧ sb = 21 ∨ ix = 0x4000 ∧ sb ∈ [7, 10] ∨ ix = 0x4200 ∧ sb = 4 ∨ ix = 0x4C00 ∧ sb = 2 ∨ ix = 0x4C10 ∧ sb ∈ [5, 6, 7, 8] ∨ ix ∈ [0x4C40, 0x4C80] ∧ sb ∈ [17, 23, 24, 30] ∨ ix = 0x5140 ∧ sb = 6 ∨ ix = 0x5800 ∧ k = 66 ∧ sb ∈ [5, 6] ∨ ix = 0x5840 ∧ sb ∈ [4, 5] ∨ ix = 0x3200 ∧ k = tree ∧ sb = 10) (fun a p _ => a ∈ [.beatOut, .capTries, .drainTo, .driftHold, .driftLen, .driftSum, .heldCmd, .keepAlive, .lossAt, .lossRun, .regTries] ∧ p / 512 = tree ∨ a = .allocSeq ∧ p / 1024 = tree ∨ a = .mufWait ∧ p = tree ∨ a ∈ [.bufWord, .keySoft, .kxFrag, .kxGen, .kxIndex, .kxKey, .kxKind, .kxNext, .kxSeq, .kxTries, .mirSeq, .missMask, .queueOff, .queueOpen]) s t
    ∧ OnlyWords (fun m _ => m = 66) s t
    ∧ t = { s with objs := t.objs, regs := t.regs, evQueue := t.evQueue, evPending := t.evPending, answer := t.answer, beats := t.beats, coexStage := t.coexStage, downWait := t.downWait, dues := t.dues, fifo := t.fifo, keyWaits := t.keyWaits, mem := t.mem, muted := t.muted, pkts := t.pkts, plan := t.plan, ploams := t.ploams, probes := t.probes, sdus := t.sdus, vframes := t.vframes })
  ∧ (∀ (s : State) (acc : Acc) (tree : Nat),
    Up s →
    mayWrite acc 0x3200 tree 1 0 s = true →
    s.get 0x3200 tree 7 ≠ 6 →
    Runs (.mufflingDisable acc tree) s fun t => t.answer = ⟨0, 0⟩ ∧ t.get 0x3200 tree 1 = 0 ∧ t.get 0x3200 tree 7 = 0
    ∧ OnlyEv (fun ix k sb => ix = 0x3200 ∧ k = tree ∧ sb = 1 ∨ ix = 0x2008 ∧ k = tree ∧ sb = 2 ∨ ix ∈ [0x3000, 0x3900] ∧ (k / 512 = tree ∨ localPartner s tree = some (k / 512)) ∨ ix = 0x3102 ∧ sb = 1 ∨ ix = 0x3200 ∧ k = tree ∧ sb ∈ [7, 8] ∨ ix = 0x3400 ∧ k / 1024 = tree ∧ sb = 16 ∨ ix = 0x3600 ∧ k = tree ∧ sb = 21 ∨ ix = 0x4000 ∧ sb ∈ [7, 10] ∨ ix = 0x4200 ∧ sb = 4 ∨ ix = 0x4C00 ∧ sb = 2 ∨ ix = 0x4C10 ∧ sb ∈ [5, 6, 7, 8] ∨ ix ∈ [0x4C40, 0x4C80] ∧ sb ∈ [17, 23, 24, 30] ∨ ix = 0x5140 ∧ sb = 6 ∨ ix = 0x5800 ∧ k = 66 ∧ sb ∈ [5, 6] ∨ ix = 0x5840 ∧ sb ∈ [4, 5]) (fun a p _ => a ∈ [.beatOut, .capTries, .drainTo, .driftHold, .driftLen, .driftSum, .heldCmd, .keepAlive, .lossAt, .lossRun, .regTries] ∧ p / 512 = tree ∨ a = .allocSeq ∧ p / 1024 = tree ∨ a = .mufWait ∧ p = tree ∨ a ∈ [.bufWord, .keySoft, .kxFrag, .kxGen, .kxIndex, .kxKey, .kxKind, .kxNext, .kxSeq, .kxTries, .mirSeq, .missMask, .queueOff, .queueOpen]) s t
    ∧ OnlyWords (fun m _ => m = 66) s t
    ∧ t = { s with objs := t.objs, regs := t.regs, evQueue := t.evQueue, evPending := t.evPending, answer := t.answer, beats := t.beats, coexStage := t.coexStage, downWait := t.downWait, dues := t.dues, fifo := t.fifo, keyWaits := t.keyWaits, mem := t.mem, muted := t.muted, pkts := t.pkts, plan := t.plan, ploams := t.ploams, probes := t.probes, sdus := t.sdus, vframes := t.vframes })
  ∧ (∀ (s : State) (acc : Acc) (tree : Nat),
    Up s →
    mayWrite acc 0x3200 tree 9 1 s = true →
    s.get 0x3200 tree 7 ≠ 0 →
    s.get 0x3200 tree 7 ≠ 6 →
    Runs (.mufflingStart acc tree) s fun t => t = { s.put 0x3200 tree 9 3 with answer := ⟨3, 0⟩ })
  ∧ (∀ (s : State) (acc : Acc) (tree : Nat),
    Up s →
    mayWrite acc 0x3200 tree 0x0A 1 s = true →
    (s.get 0x3200 tree 7 = 0 ∨ s.get 0x3200 tree 7 = 6) →
    Runs (.mufflingAbort acc tree) s fun t => t = { s.put 0x3200 tree 10 0 with answer := ⟨0, 0⟩ })
  ∧ (∀ (s : State) (tree : Nat),
    Up s →
    s.get 0x3200 tree 7 = 2 →
    observed s tree = true →
    s.aux .mufLit tree ≠ 1 →
    let n := 512 * tree + s.get 0x3200 tree 8
    termState s n ≠ 3 →
    (probeOf s tree).withhold = [] →
    (probeOf s tree).order = [] →
    Runs (.mufflingWithholdEnd tree) s fun t => t.get 0x3101 tree 9 = wrapAdd 64 (s.get 0x3101 tree 9) 1 ∧ termState t n = termState s n ∧ t.get 0x3000 n 0x0A = 0 ∧ t.get 0x3200 tree 7 = 6
    ∧ OnlyEv (fun ix k sb => ix = 0x3000 ∧ k = n ∧ sb = 10 ∨ ix = 0x3101 ∧ k = tree ∧ sb = 9 ∨ ix = 0x3200 ∧ k = tree ∧ sb ∈ [7, 8] ∨ ix = 0x3600 ∧ k = tree ∧ sb = 21) (fun a p _ => a = .mufWait ∧ p = tree) s t
    ∧ t = { s with objs := t.objs, regs := t.regs, evQueue := t.evQueue, evPending := t.evPending, muted := t.muted, probes := t.probes })

/-- The commands of the bulletins and reports have their effect (R171, R173, R181, R184, R185, R188): a bulletin sealed by its
deadline under the accepted claim waits for its flam point in start order, without the grants of a draining terminal; there it
is sent and counted, refused with event 1541 when a grant fails, or counted as missing when none is sealed or no broadcast slot
can be used, and nothing is sent on a tree that is down, without flam operation or into a blank frame; a CTI report is counted
at the binding it names and its windows forecast, or as discarded. -/
def Obligations.BulletinAndReportCommandsComplete : Prop :=
  (∀ (s : State) (tree point unit : Nat) (l : List FlamGrant),
    Up s →
    tree < s.trees →
    point ≤ 3 →
    s.aux .engVac 0 tree = 1 →
    ((s.now : Int) - frameStart s tree ≤ (if point = 0 then (123000 : Int) else 31250 * point - 2000)) →
    Runs (.bulletinSeal tree point (stageClaim s 0 tree) unit (some l)) s fun t => t = { s with bulletins := s.bulletins.filter (fun b => b.1 != 4 * tree + point) ++ [(4 * tree + point, sortBy (fun a b => a.start ≤ b.start) (l.filter fun g => !drainsOnu s tree g.onu))] })
  ∧ (∀ (s : State) (tree point : Nat),
    Up s →
    s.treeUp tree = true →
    (1 ≤ point ∧ point ≤ 3) →
    mapsRun s tree 0 = true →
    (templateFor s tree (flamTarget s tree point).1).2 ≠ 0 →
    blank s tree 0 (flamTarget s tree point).1 = false →
    (s.bulletins.find? (fun b => b.1 == 4 * tree + point) = none ∨ broadcastSlot s tree (doubleStroke s tree 0) = none) →
    Runs (.flamPoint tree point) s fun t => t.get 0x3600 tree 0x10 = wrapAdd 64 (s.get 0x3600 tree 0x10) 1 ∧ t.bulletins = s.bulletins.filter (fun b => b.1 != 4 * tree + point)
    ∧ Only (fun ix k sb => ix = 0x3600 ∧ k = tree ∧ sb = 0x10) (fun _ _ _ => False) s t
    ∧ t = { s with objs := t.objs, regs := t.regs, bulletins := t.bulletins })
  ∧ (∀ (s : State) (tree point b cause : Nat) (l : List FlamGrant),
    Up s →
    s.treeUp tree = true →
    (1 ≤ point ∧ point ≤ 3) →
    mapsRun s tree 0 = true →
    (templateFor s tree (flamTarget s tree point).1).2 ≠ 0 →
    blank s tree 0 (flamTarget s tree point).1 = false →
    s.bulletins.find? (fun b => b.1 == 4 * tree + point) = some (4 * tree + point, l) →
    broadcastSlot s tree (doubleStroke s tree 0) = some b →
    flamCause s tree point (flamSlot s tree point) [] (l.filter fun g => !isMuted s tree g.onu) = cause →
    cause ≠ 0 →
    Runs (.flamPoint tree point) s fun t => t.get 0x3600 tree 0x0F = wrapAdd 64 (s.get 0x3600 tree 0x0F) 1 ∧ t.get 0x1200 1541 3 = wrapAdd 64 (s.get 0x1200 1541 3) 1 ∧ (∀ b ∈ t.bulletins, b.1 ≠ 4 * tree + point)
    ∧ OnlyEv (fun ix k sb => ix = 0x3600 ∧ k = tree ∧ sb = 0x0F) (fun _ _ _ => False) s t
    ∧ t = { s with objs := t.objs, regs := t.regs, evQueue := t.evQueue, evPending := t.evPending, bulletins := t.bulletins })
  ∧ (∀ (s : State) (tree point b : Nat) (l : List FlamGrant),
    Up s →
    s.treeUp tree = true →
    (1 ≤ point ∧ point ≤ 3) →
    mapsRun s tree 0 = true →
    (templateFor s tree (flamTarget s tree point).1).2 ≠ 0 →
    blank s tree 0 (flamTarget s tree point).1 = false →
    s.bulletins.find? (fun b => b.1 == 4 * tree + point) = some (4 * tree + point, l) →
    broadcastSlot s tree (doubleStroke s tree 0) = some b →
    flamCause s tree point (flamSlot s tree point) [] (l.filter fun g => !isMuted s tree g.onu) = 0 →
    slotLive (readSlot b s) b = true →
    Runs (.flamPoint tree point) s fun t => t.get 0x3600 tree 0x0E = wrapAdd 64 (s.get 0x3600 tree 0x0E) 1 ∧ t.out.length ≥ s.out.length + 1 ∧ (∀ b ∈ t.bulletins, b.1 ≠ 4 * tree + point)
    ∧ OnlyEv (fun ix k sb => ix = 0x3400 ∧ k / 1024 = tree ∧ sb ∈ [10, 12, 14] ∨ ix = 0x3600 ∧ k = tree ∧ sb = 0x0E ∨ ix = 0x4000 ∧ k = b ∧ sb ∈ [7, 10] ∨ ix = 0x4200 ∧ k = bindInst s b ∧ sb = 4 ∨ ix = 0x5800 ∧ k = 66 ∧ 2 ≤ sb ∧ sb ≤ 9 ∨ ix = 0x5840 ∧ sb ∈ [4, 5]) (fun a p _ => a = .flamBytes ∧ p = tree ∨ a = .lastFlam ∧ p / 1024 = tree ∨ a = .keySoft ∧ p = b ∨ a ∈ [.kxFrag, .kxGen, .kxIndex, .kxKey, .kxKind, .kxNext, .kxSeq, .kxTries] ∧ p = bindInst s b ∨ a = .missMask) s t
    ∧ OnlyWords (fun m _ => m = 66) s t
    ∧ t = { s with objs := t.objs, regs := t.regs, evQueue := t.evQueue, evPending := t.evPending, bulletins := t.bulletins, fsFrames := t.fsFrames, mem := t.mem, out := t.out, ploams := t.ploams, recent := t.recent, sentMaps := t.sentMaps })
  ∧ (∀ (s : State) (tree point b : Nat) (l : List FlamGrant),
    Up s →
    s.treeUp tree = true →
    (1 ≤ point ∧ point ≤ 3) →
    mapsRun s tree 0 = true →
    (templateFor s tree (flamTarget s tree point).1).2 ≠ 0 →
    blank s tree 0 (flamTarget s tree point).1 = false →
    s.bulletins.find? (fun b => b.1 == 4 * tree + point) = some (4 * tree + point, l) →
    broadcastSlot s tree (doubleStroke s tree 0) = some b →
    flamCause s tree point (flamSlot s tree point) [] (l.filter fun g => !isMuted s tree g.onu) = 0 →
    slotLive (readSlot b s) b = false →
    Runs (.flamPoint tree point) s fun t => t.get 0x3600 tree 0x10 = wrapAdd 64 (s.get 0x3600 tree 0x10) 1 ∧ t.out = s.out ∧ (∀ b ∈ t.bulletins, b.1 ≠ 4 * tree + point)
    ∧ OnlyEv (fun ix k sb => ix = 0x3600 ∧ k = tree ∧ sb = 0x10 ∨ ix = 0x5800 ∧ k = 66 ∧ sb ∈ [2, 3, 4, 7, 8, 9]) (fun a _ _ => a = .missMask) s t
    ∧ t = { s with objs := t.objs, regs := t.regs, evQueue := t.evQueue, evPending := t.evPending, bulletins := t.bulletins, recent := t.recent })
  ∧ (∀ (s : State) (tree point : Nat),
    Up s →
    s.treeUp tree = true →
    (1 ≤ point ∧ point ≤ 3) →
    (mapsRun s tree 0 = false ∨ (templateFor s tree (flamTarget s tree point).1).2 = 0 ∨ blank s tree 0 (flamTarget s tree point).1 = true) →
    Runs (.flamPoint tree point) s fun t => t = { s with bulletins := s.bulletins.filter fun b => b.1 != 4 * tree + point })
  ∧ (∀ (s : State) (tree point claim unit : Nat) (grants : Option (List FlamGrant)),
    Up s →
    (s.trees ≤ tree ∨ 3 < point) →
    Runs (.bulletinSeal tree point claim unit grants) s fun t => t = s)
  ∧ (∀ (s : State) (tree point : Nat),
    Up s →
    (s.treeUp tree = false ∨ point = 0 ∨ 3 < point) →
    Runs (.flamPoint tree point) s fun t => t = s)
  ∧ (∀ (s : State) (id : Nat) (report : Bool) (windows : List Forecast),
    Up s →
    (report = false ∨ bindingFor s id = none) →
    Runs (.ctiReport id report windows) s fun t => t = s.put 0x3701 0 1 (wrapAdd 64 (s.get 0x3701 0 1) 1))
  ∧ (∀ (s : State) (id c : Nat) (windows : List Forecast),
    Up s →
    bindingFor s id = some c →
    Runs (.ctiReport id true windows) s fun t => t.get 0x3700 c 7 = wrapAdd 64 (s.get 0x3700 c 7) 1
    ∧ OnlyEv (fun ix k sb => ix = 0x3600 ∧ k = (s.get 0x3700 c 3 / 1024) ∧ sb ∈ [11, 18] ∨ ix = 0x3700 ∧ k = c ∧ sb ∈ [7, 8, 9] ∨ ix = 0x5400 ∧ sb ∈ [1, 2, 3, 4] ∨ ix = 0x5900 ∧ sb ∈ [2, 5, 6, 8, 9] ∨ ix = 0x5940 ∧ sb = 5) (fun a p _ => a ∈ [.mapStop, .mapWhole] ∧ p = (s.get 0x3700 c 3 / 1024) ∨ a = .coopPend ∨ a ∈ [.engVac, .knellAt, .knellBy, .safePoint, .stAban, .unserved, .unservedN]) s t
    ∧ t = { s with objs := t.objs, regs := t.regs, evQueue := t.evQueue, evPending := t.evPending, recent := t.recent, staged := t.staged })
  ∧ (∀ (s : State) (id c : Nat) (windows : List Forecast),
    Up s →
    bindingFor s id = some c →
    (s.get 0x3700 c 3 = 0xFFFFFFFF ∨ s.get 0x3400 (s.get 0x3700 c 3) 2 = 0xFFFF ∨ windows = []) →
    Runs (.ctiReport id true windows) s fun t => t = s.put 0x3700 c 7 (wrapAdd 64 (s.get 0x3700 c 7) 1))

/-- The allocation commands have their effect (R93, R121, R183, R197, R208, R394, R397): a provisioning that fits is counted,
announced to a terminal in OPERATION and mirrored, at the device's limit it is refused and counted, one whose contract does not
fit is refused, a drain waits for the work in flight or ends at once, discards what is left and frees the place, and a flam
setting or a profile is stored when the capacity test allows it and refused otherwise. -/
def Obligations.AllocationCommandsComplete : Prop :=
  (∀ (s : State) (acc : Acc) (al : Nat),
    Up s →
    mayWrite acc 0x3400 al 1 1 s = true →
    s.get 0x3400 al 1 = 0 →
    s.aux .allocDrain al ≠ 1 →
    contractFits (s.put 0x3400 al 1 1) al = true →
    s.get 0x3500 0 1 < 32768 →
    Runs (.allocationProvision acc al) s fun t => t.answer = ⟨0, 0⟩ ∧ t.get 0x3400 al 1 = 1 ∧ (s.get 0x2003 (al / 1024) 1 ≠ 1 ∨ localPartner s (al / 1024) = none → t.get 0x3500 0 1 = s.get 0x3500 0 1 + 1) ∧ (s.get 0x3400 al 2 ≠ 0xFFFF → termState s (s.get 0x3400 al 2) = 3 → t.ploams = s.ploams ++ [⟨s.get 0x3400 al 2 / 512, laneOf s (s.get 0x3400 al 2), s.get 0x3400 al 2 % 512, .assignAllocId, [s.get 0x3400 al 3, al], false⟩] ∧ t.get 0x3400 al 0x10 = 0)
    ∧ Only (fun ix k sb => ix = 0x3400 ∧ k = al ∧ sb ∈ [1, 16] ∨ ix = 0x3500 ∧ k = 0 ∧ sb = 1 ∨ s.get 0x2003 (al / 1024) 1 = 1 ∧ (ix = 0x3400 ∧ k % 1024 = al % 1024 ∧ localPartner s (al / 1024) = some (k / 1024) ∧ sb ∈ [1, 2, 3, 4, 5] ∨ ix = 0x5140 ∧ sb = 6)) (fun a _ _ => a = .mirSeq) s t
    ∧ t = { s with objs := t.objs, regs := t.regs, answer := t.answer, ploams := t.ploams, vframes := t.vframes })
  ∧ (∀ (s : State) (acc : Acc) (al pt : Nat),
    Up s →
    mayWrite acc 0x3400 al 1 1 s = true →
    s.get 0x3400 al 1 = 0 →
    s.aux .allocDrain al ≠ 1 →
    contractFits (s.put 0x3400 al 1 1) al = true →
    s.get 0x3500 0 1 < 32768 →
    s.get 0x2003 (al / 1024) 1 = 1 →
    localPartner s (al / 1024) = some pt →
    pt ≠ al / 1024 →
    Runs (.allocationProvision acc al) s fun t => t.answer = ⟨0, 0⟩ ∧ t.get 0x3400 al 1 = 1 ∧ t.get 0x3500 0 1 = s.get 0x3500 0 1 + 1 + 1 - s.get 0x3400 (1024 * pt + al % 1024) 1 ∧ t.get 0x3400 (1024 * pt + al % 1024) 1 = 1 ∧ t.get 0x3400 (1024 * pt + al % 1024) 3 = s.get 0x3400 al 3
    ∧ Only (fun ix k sb => ix = 0x3400 ∧ k = al ∧ sb ∈ [1, 16] ∨ ix = 0x3500 ∧ k = 0 ∧ sb = 1 ∨ s.get 0x2003 (al / 1024) 1 = 1 ∧ (ix = 0x3400 ∧ k % 1024 = al % 1024 ∧ localPartner s (al / 1024) = some (k / 1024) ∧ sb ∈ [1, 2, 3, 4, 5] ∨ ix = 0x5140 ∧ sb = 6)) (fun a _ _ => a = .mirSeq) s t
    ∧ t = { s with objs := t.objs, regs := t.regs, answer := t.answer, ploams := t.ploams, vframes := t.vframes })
  ∧ (∀ (s : State) (acc : Acc) (al : Nat),
    Up s →
    mayWrite acc 0x3400 al 1 1 s = true →
    s.get 0x3400 al 1 = 0 →
    s.aux .allocDrain al ≠ 1 →
    32768 ≤ s.get 0x3500 0 1 →
    Runs (.allocationProvision acc al) s fun t => t.answer = ⟨6, 0⟩ ∧ t.get 0x3400 al 1 = 0 ∧ t.get 0x3500 0 2 = wrapAdd 64 (s.get 0x3500 0 2) 1 ∧ t.get 0x3500 0 1 = s.get 0x3500 0 1
    ∧ OnlyEv (fun ix k sb => ix = 0x3500 ∧ k = 0 ∧ sb = 2) (fun _ _ _ => False) s t
    ∧ t = { s with objs := t.objs, regs := t.regs, evQueue := t.evQueue, evPending := t.evPending, answer := t.answer })
  ∧ (∀ (s : State) (acc : Acc) (al : Nat),
    Up s →
    mayWrite acc 0x3400 al 1 1 s = true →
    s.get 0x3400 al 1 = 0 →
    s.aux .allocDrain al ≠ 1 →
    s.get 0x3500 0 1 < 32768 →
    contractFits (s.put 0x3400 al 1 1) al = false →
    Runs (.allocationProvision acc al) s fun t => t = { s with answer := ⟨4, 0⟩ })
  ∧ (∀ (s : State) (acc : Acc) (al : Nat),
    Up s →
    mayWrite acc 0x3400 al 1 1 s = true →
    (s.aux .allocDrain al = 1 ∨ s.get 0x3400 al 1 = 1) →
    Runs (.allocationProvision acc al) s fun t => t = { s with answer := if s.aux .allocDrain al = 1 then ⟨3, 0⟩ else ⟨0, 0⟩ })
  ∧ (∀ (s : State) (acc : Acc) (al : Nat),
    Up s →
    mayWrite acc 0x3400 al 1 0 s = true →
    (s.aux .allocDrain al = 1 ∨ s.get 0x3400 al 1 ≠ 1) →
    Runs (.allocationDrain acc al) s fun t => t = { s with answer := ⟨0, 0⟩ })
  ∧ (∀ (s : State) (acc : Acc) (al : Nat),
    Up s →
    mayWrite acc 0x3400 al 1 0 s = true →
    s.get 0x3400 al 1 = 1 →
    s.aux .allocDrain al ≠ 1 →
    Runs (.allocationDrain acc al) s fun t => t.answer = ⟨0, 0⟩ ∧ t.plan = s.plan.filter (fun x => x.alloc != al) ∧ t.dues = s.dues.filter (fun x => !((x.kind == 2 || x.kind == 6) && x.alloc == al)) ∧ (allocWork s al = true → t.get 0x3400 al 1 = 1 ∧ t.aux .allocDrain al = 1) ∧ (allocWork s al = false → t.get 0x3400 al 1 = 0 ∧ t.aux .allocDrain al = 0 ∧ (s.get 0x2003 (al / 1024) 1 ≠ 1 ∨ localPartner s (al / 1024) = none → t.get 0x3500 0 1 = s.get 0x3500 0 1 - 1))
    ∧ OnlyEv (fun ix k sb => ix = 0x3000 ∧ k = s.get 0x3400 al 2 ∧ sb = 17 ∨ ix = 0x3400 ∧ k = al ∧ sb ∈ [1, 16] ∨ ix = 0x3500 ∧ k = 0 ∧ sb = 1 ∨ s.get 0x2003 (al / 1024) 1 = 1 ∧ (ix = 0x3400 ∧ k % 1024 = al % 1024 ∧ localPartner s (al / 1024) = some (k / 1024) ∧ sb ∈ [1, 2, 3, 4, 5] ∨ ix = 0x5140 ∧ sb = 6) ∨ ix = 0x2008 ∧ sb = 2 ∨ ix = 0x4000 ∧ sb ∈ [7, 10] ∨ ix = 0x4200 ∧ sb = 4 ∨ ix = 0x4C00 ∧ sb = 2 ∨ ix = 0x4C10 ∧ sb ∈ [5, 6, 7, 8] ∨ ix ∈ [0x4C40, 0x4C80] ∧ sb ∈ [17, 23, 24, 30] ∨ ix = 0x5800 ∧ k = 66 ∧ sb ∈ [5, 6] ∨ ix = 0x5840 ∧ sb ∈ [4, 5]) (fun a p _ => a ∈ [.allocDrain, .allocSeq] ∧ p = al ∨ a ∈ [.bufWord, .keySoft, .kxFrag, .kxGen, .kxIndex, .kxKey, .kxKind, .kxNext, .kxSeq, .kxTries, .mirSeq, .missMask, .queueOff, .queueOpen]) s t
    ∧ OnlyWords (fun m _ => m = 66) s t
    ∧ t = { s with objs := t.objs, regs := t.regs, evQueue := t.evQueue, evPending := t.evPending, answer := t.answer, dues := t.dues, plan := t.plan, coexStage := t.coexStage, downWait := t.downWait, fifo := t.fifo, mem := t.mem, pkts := t.pkts, ploams := t.ploams, sdus := t.sdus, vframes := t.vframes })
  ∧ (∀ (s : State) (al : Nat),
    Up s →
    s.aux .allocDrain al = 1 →
    Runs (.allocationDrainEnd al) s fun t => t.get 0x3400 al 1 = 0 ∧ t.aux .allocDrain al = 0 ∧ (s.get 0x2003 (al / 1024) 1 ≠ 1 ∨ localPartner s (al / 1024) = none → t.get 0x3500 0 1 = s.get 0x3500 0 1 - 1) ∧ (∀ r ∈ t.fifo, r.marker = true ∨ flowAlloc s r.flow ≠ al) ∧ (∀ x ∈ t.sdus, flowAlloc s x.flow ≠ al) ∧ (∀ x ∈ t.downWait, flowAlloc s x.flow ≠ al) ∧ (∀ x ∈ t.pkts, x.up = true ∨ flowAlloc s x.flow ≠ al)
    ∧ OnlyEv (fun ix k sb => ix = 0x3000 ∧ k = s.get 0x3400 al 2 ∧ sb = 17 ∨ ix = 0x3400 ∧ k = al ∧ sb ∈ [1, 16] ∨ ix = 0x3500 ∧ k = 0 ∧ sb = 1 ∨ s.get 0x2003 (al / 1024) 1 = 1 ∧ (ix = 0x3400 ∧ k % 1024 = al % 1024 ∧ localPartner s (al / 1024) = some (k / 1024) ∧ sb ∈ [1, 2, 3, 4, 5] ∨ ix = 0x5140 ∧ sb = 6) ∨ ix = 0x2008 ∧ sb = 2 ∨ ix = 0x4000 ∧ sb ∈ [7, 10] ∨ ix = 0x4200 ∧ sb = 4 ∨ ix = 0x4C00 ∧ sb = 2 ∨ ix = 0x4C10 ∧ sb ∈ [5, 6, 7, 8] ∨ ix ∈ [0x4C40, 0x4C80] ∧ sb ∈ [17, 23, 24, 30] ∨ ix = 0x5800 ∧ k = 66 ∧ sb ∈ [5, 6] ∨ ix = 0x5840 ∧ sb ∈ [4, 5]) (fun a p _ => a ∈ [.allocDrain, .allocSeq] ∧ p = al ∨ a ∈ [.bufWord, .keySoft, .kxFrag, .kxGen, .kxIndex, .kxKey, .kxKind, .kxNext, .kxSeq, .kxTries, .mirSeq, .missMask, .queueOff, .queueOpen]) s t
    ∧ OnlyWords (fun m _ => m = 66) s t
    ∧ t = { s with objs := t.objs, regs := t.regs, evQueue := t.evQueue, evPending := t.evPending, coexStage := t.coexStage, downWait := t.downWait, fifo := t.fifo, mem := t.mem, pkts := t.pkts, ploams := t.ploams, sdus := t.sdus, vframes := t.vframes })
  ∧ (∀ (s : State) (al : Nat),
    Up s →
    s.aux .allocDrain al ≠ 1 →
    Runs (.allocationDrainEnd al) s fun t => t = s)
  ∧ (∀ (s : State) (acc : Acc) (al sub v : Nat),
    Up s →
    (sub = 7 ∨ sub = 8) →
    mayWrite acc 0x3400 al sub v s = true →
    ((sub = 7 ∧ v = 0) ∨ (sub = 8 ∧ v ≤ s.get 0x3400 al 8) ∨ flamFits (s.put 0x3400 al sub v) (al / 1024) = true) →
    Runs (.flamSettingWrite acc 0x3400 al sub v) s fun t => t = { s.put 0x3400 al sub v with answer := ⟨0, 0⟩ })
  ∧ (∀ (s : State) (acc : Acc) (al sub v : Nat),
    Up s →
    mayWrite acc 0x3400 al sub v s = true →
    ((sub = 7 ∧ v = 1) ∨ (sub = 8 ∧ s.get 0x3400 al 8 < v)) →
    flamFits (s.put 0x3400 al sub v) (al / 1024) = false →
    Runs (.flamSettingWrite acc 0x3400 al sub v) s fun t => t = { s with answer := ⟨4, 0⟩ })
  ∧ (∀ (s : State) (acc : Acc) (tree sub v : Nat),
    Up s →
    (sub = 5 ∨ sub = 6) →
    mayWrite acc 0x3600 tree sub v s = true →
    let s1 := s.put 0x3600 tree sub v
    s1.get 0x3600 tree 5 + s1.get 0x3600 tree 6 ≤ 48600 →
    (sub = 5 ∨ s.get 0x3600 tree 6 ≤ v ∨ flamFits s1 tree = true) →
    Runs (.flamSettingWrite acc 0x3600 tree sub v) s fun t => t.answer = ⟨0, 0⟩ ∧ t.get 0x3600 tree sub = v ∧ t.templates.getLast? = some ⟨tree, frameAdd (frameNow s tree) 3, s1.get 0x3600 tree 5, s1.get 0x3600 tree 6⟩
    ∧ Only (fun ix k sb => ix = 0x3600 ∧ k = tree ∧ sb = sub) (fun _ _ _ => False) s t
    ∧ t = { s with objs := t.objs, regs := t.regs, templates := t.templates, answer := t.answer })
  ∧ (∀ (s : State) (acc : Acc) (tree sub v : Nat),
    Up s →
    (sub = 5 ∨ sub = 6) →
    mayWrite acc 0x3600 tree sub v s = true →
    let s1 := s.put 0x3600 tree sub v
    (48600 < s1.get 0x3600 tree 5 + s1.get 0x3600 tree 6 ∨ sub = 6 ∧ v < s.get 0x3600 tree 6 ∧ flamFits s1 tree = false) →
    Runs (.flamSettingWrite acc 0x3600 tree sub v) s fun t => t = { s with answer := ⟨4, 0⟩ })
  ∧ (∀ (s : State) (acc : Acc) (index inst sub v : Nat),
    Up s →
    (index = 0x2005 ∨ index = 0x2006) →
    (1 ≤ sub ∧ sub ≤ 7) →
    mayWrite acc index inst sub v s = true →
    (profileInUse s (inst / 1024) (if index = 0x2005 then 0 else 1) (inst % 1024) = false) →
    (index = 0x2006 ∨ flamFits s (inst / 1024) = false ∨ flamFits (s.put index inst sub v) (inst / 1024) = true) →
    Runs (.flamSettingWrite acc index inst sub v) s fun t => t = { s.put index inst sub v with answer := ⟨0, 0⟩ })
  ∧ (∀ (s : State) (acc : Acc) (index inst sub v : Nat),
    Up s →
    (index = 0x2005 ∨ index = 0x2006) →
    (1 ≤ sub ∧ sub ≤ 7) →
    mayWrite acc index inst sub v s = true →
    (profileInUse s (inst / 1024) (if index = 0x2005 then 0 else 1) (inst % 1024) = true) →
    Runs (.flamSettingWrite acc index inst sub v) s fun t => t = { s with answer := ⟨3, 0⟩ })

/-- The policy's host commands and its adaptation have their effect (R200 to R202, R205, R207, R208, R216 to R218, R221 to R223,
R225): a record goes in force and out of force with event 1554 when nothing of it is in use, overlaps or breaks an admission
rule, a binding within one owner is stored, a share or contract that keeps the admission rules is stored (a downstream share
resets its shaper), a weight is clamped to its bounds, an allowed profile is taken, an allowed mask moves the terminal to an
allowed profile, what does not fit is refused with nothing changed, and at a period's end weights step by their use, a terminal
with errors steps down or is counted at its floor, and one without errors steps up after its up-hold. -/
def Obligations.OwnershipAndShareCommandsComplete : Prop :=
  (∀ (s : State) (acc : Acc) (r v : Nat),
    Up s →
    mayWrite acc 0x3800 r 1 v s = true →
    s.get 0x3800 r 4 < kindCount (s.get 0x3800 r 2) →
    recordOverlaps s r = false →
    s.get 0x3800 r 1 ≠ v →
    (s.get 0x3800 r 1 = 0xFF ∨ recordInUse s r = 0) →
    movesAdmissible r (s.put 0x3800 r 1 v) = true →
    v ≠ 0xFF →
    Runs (.ownershipInForce acc r v) s fun t => t.answer = ⟨0, 0⟩ ∧ t.get 0x3800 r 1 = v ∧ t.get 0x1200 1554 3 = wrapAdd 64 (s.get 0x1200 1554 3) 1
    ∧ OnlyEv (fun ix k sb => ix = 0x3800 ∧ k = r ∧ sb = 1) (fun _ _ _ => False) s t
    ∧ t = { s with objs := t.objs, regs := t.regs, evQueue := t.evQueue, evPending := t.evPending, answer := t.answer })
  ∧ (∀ (s : State) (acc : Acc) (r : Nat),
    Up s →
    mayWrite acc 0x3800 r 1 0xFF s = true →
    s.get 0x3800 r 1 ≠ 0xFF →
    recordInUse s r = 0 →
    movesAdmissible r (s.put 0x3800 r 1 0xFF) = true →
    Runs (.ownershipOutOfForce acc r) s fun t => t.answer = ⟨0, 0⟩ ∧ t.get 0x3800 r 1 = 0xFF ∧ t.get 0x1200 1554 3 = wrapAdd 64 (s.get 0x1200 1554 3) 1
    ∧ OnlyEv (fun ix k sb => ix = 0x3800 ∧ k = r ∧ sb = 1) (fun _ _ _ => False) s t
    ∧ t = { s with objs := t.objs, regs := t.regs, evQueue := t.evQueue, evPending := t.evPending, answer := t.answer })
  ∧ (∀ (s : State) (acc : Acc) (r v : Nat),
    Up s →
    mayWrite acc 0x3800 r 1 v s = true →
    s.get 0x3800 r 1 ≠ v →
    (s.get 0x3800 r 1 = 0xFF ∨ recordInUse s r = 0) →
    (v ≠ 0xFF ∧ (kindCount (s.get 0x3800 r 2) ≤ s.get 0x3800 r 4 ∨ recordOverlaps s r = true) ∨ movesAdmissible r (s.put 0x3800 r 1 v) = false) →
    Runs (.ownershipInForce acc r v) s fun t => t = { s with answer := ⟨4, 0⟩ })
  ∧ (∀ (s : State) (acc : Acc) (r : Nat),
    Up s →
    mayWrite acc 0x3800 r 1 0xFF s = true →
    s.get 0x3800 r 1 ≠ 0xFF →
    recordInUse s r ≠ 0 →
    Runs (.ownershipOutOfForce acc r) s fun t => t = { s with answer := ⟨3, 0⟩ })
  ∧ (∀ (s : State) (acc : Acc) (index inst sub v : Nat),
    Up s →
    ((index = 0x3700 ∧ sub = 3) ∨ (index = 0x4800 ∧ sub = 3)) →
    mayWrite acc index inst sub v s = true →
    bindingFits s index inst sub v = true →
    Runs (.bindingWrite acc index inst sub v) s fun t => t = { s.put index inst sub v with answer := ⟨0, 0⟩ })
  ∧ (∀ (s : State) (acc : Acc) (al v : Nat),
    Up s →
    mayWrite acc 0x3400 al 2 v s = true →
    bindingFits s 0x3400 al 2 v = true →
    (∀ i ∈ allocLane (s.put 0x3400 al 2 v) al, admissible (s.put 0x3400 al 2 v) i = true) →
    Runs (.bindingWrite acc 0x3400 al 2 v) s fun t => t.answer = ⟨0, 0⟩ ∧ t.get 0x3400 al 2 = v
    ∧ Only (fun ix k sb => ix = 0x3400 ∧ k = al ∧ sb = 2 ∨ s.get 0x2003 (al / 1024) 1 = 1 ∧ (ix = 0x3400 ∧ k % 1024 = al % 1024 ∧ localPartner s (al / 1024) = some (k / 1024) ∧ sb ∈ [1, 2, 3, 4, 5] ∨ ix = 0x3500 ∧ k = 0 ∧ sb = 1 ∨ ix = 0x5140 ∧ sb = 6)) (fun a _ _ => a = .mirSeq) s t
    ∧ t = { s with objs := t.objs, regs := t.regs, answer := t.answer, vframes := t.vframes })
  ∧ (∀ (s : State) (acc : Acc) (index inst sub v : Nat),
    Up s →
    ((index = 0x3400 ∧ sub = 2) ∨ (index = 0x3700 ∧ sub = 3) ∨ (index = 0x4800 ∧ sub = 3)) →
    mayWrite acc index inst sub v s = true →
    bindingFits s index inst sub v = false →
    acc.role ∉ (List.range 256).map .tenant →
    Runs (.bindingWrite acc index inst sub v) s fun t => t = { s with answer := ⟨4, 0⟩ })
  ∧ (∀ (s : State) (acc : Acc) (al v i : Nat),
    Up s →
    mayWrite acc 0x3400 al 2 v s = true →
    bindingFits s 0x3400 al 2 v = true →
    allocLane (s.put 0x3400 al 2 v) al = some i →
    admissible (s.put 0x3400 al 2 v) i = false →
    Runs (.bindingWrite acc 0x3400 al 2 v) s fun t => t = { s with answer := ⟨4, 0⟩ })
  ∧ (∀ (s : State) (acc : Acc) (index inst sub v : Nat),
    Up s →
    mayWrite acc index inst sub v s = true →
    (admissible (s.put index inst sub v) (if index = 0x3820 then inst % 96 else inst) = true) →
    (index = 0x3820 ∧ 1 ≤ sub ∧ sub ≤ 2 ∨ index = 0x3880 ∧ 1 ≤ sub ∧ sub ≤ 2) →
    Runs (.shareWrite acc index inst sub v) s fun t => t = { s.put index inst sub v with answer := ⟨0, 0⟩ })
  ∧ (∀ (s : State) (acc : Acc) (inst sub v : Nat),
    Up s →
    (3 ≤ sub ∧ sub ≤ 4) →
    mayWrite acc 0x3820 inst sub v s = true →
    admissible (s.put 0x3820 inst sub v) (inst % 96) = true →
    Runs (.shareWrite acc 0x3820 inst sub v) s fun t => t.answer = ⟨0, 0⟩ ∧ t.get 0x3820 inst sub = v ∧ t.get 0x4E20 (17 * (inst % 96) + inst / 96) 8 = 0 ∧ t.get 0x4E20 (17 * (inst % 96) + inst / 96) 9 = 0
    ∧ Only (fun ix k sb => ix = 0x3820 ∧ k = inst ∧ sb = sub ∨ ix = 0x4E20 ∧ k = 17 * (inst % 96) + inst / 96 ∧ sb ∈ [8, 9]) (fun a p _ => a = .tokFrac ∧ p = 0x4E20 * 2 ^ 20 + 17 * (inst % 96) + inst / 96) s t
    ∧ t = { s with objs := t.objs, regs := t.regs, answer := t.answer })
  ∧ (∀ (s : State) (acc : Acc) (index inst sub v : Nat),
    Up s →
    (index = 0x3820 ∧ 1 ≤ sub ∧ sub ≤ 4 ∨ index = 0x3880 ∧ 1 ≤ sub ∧ sub ≤ 2) →
    mayWrite acc index inst sub v s = true →
    (admissible (s.put index inst sub v) (if index = 0x3820 then inst % 96 else inst) = false) →
    Runs (.shareWrite acc index inst sub v) s fun t => t = { s with answer := ⟨4, 0⟩ })
  ∧ (∀ (s : State) (acc : Acc) (al sub v : Nat),
    Up s →
    (1 ≤ sub ∧ sub ≤ 3) →
    mayWrite acc 0x3A00 al sub v s = true →
    (contractFits (s.put 0x3A00 al sub v) al = false ∨ ∃ i ∈ allocLane s al, admissible (s.put 0x3A00 al sub v) i = false) →
    Runs (.shareWrite acc 0x3A00 al sub v) s fun t => t = { s with answer := ⟨4, 0⟩ })
  ∧ (∀ (s : State) (acc : Acc) (al sub v : Nat),
    Up s →
    (1 ≤ sub ∧ sub ≤ 3) →
    mayWrite acc 0x3A00 al sub v s = true →
    contractFits (s.put 0x3A00 al sub v) al = true →
    (∀ i ∈ allocLane s al, admissible (s.put 0x3A00 al sub v) i = true) →
    Runs (.shareWrite acc 0x3A00 al sub v) s fun t => t = { s.put 0x3A00 al sub v with answer := ⟨0, 0⟩ })
  ∧ (∀ (s : State) (acc : Acc) (al sub v : Nat),
    Up s →
    (4 ≤ sub ∧ sub ≤ 6) →
    mayWrite acc 0x3A00 al sub v s = true →
    let s1 := s.put 0x3A00 al sub v
    (1 ≤ s1.get 0x3A00 al 5 ∧ s1.get 0x3A00 al 5 ≤ s1.get 0x3A00 al 4 ∧ s1.get 0x3A00 al 4 ≤ s1.get 0x3A00 al 6 ∧ s1.get 0x3A00 al 6 ≤ 1000) →
    Runs (.nominalWeightWrite acc al sub v) s fun t => t.answer = ⟨0, 0⟩ ∧ t.get 0x3A00 al sub = v ∧ t.get 0x3A00 al 7 = (if sub = 4 then v else min (s1.get 0x3A00 al 6) (max (s1.get 0x3A00 al 5) (s.get 0x3A00 al 7))) ∧ t.get 0x3A00 al 0x0C = (if t.get 0x3A00 al 7 = s.get 0x3A00 al 7 then s.get 0x3A00 al 0x0C else wrapAdd 32 (s.get 0x3A00 al 0x0C) 1)
    ∧ OnlyEv (fun ix k sb => ix = 0x3A00 ∧ k = al ∧ (sb = sub ∨ sb = 7 ∨ sb = 12)) (fun _ _ _ => False) s t
    ∧ t = { s with objs := t.objs, regs := t.regs, evQueue := t.evQueue, evPending := t.evPending, answer := t.answer })
  ∧ (∀ (s : State) (acc : Acc) (n v : Nat),
    Up s →
    mayWrite acc 0x3900 n 1 v s = true →
    adapts s n = false →
    bit v (s.get 0x3900 n 2) = true →
    Runs (.currentProfileWrite acc n v) s fun t => t.answer = ⟨0, 0⟩ ∧ t.get 0x3900 n 1 = v ∧ t.get 0x3900 n 6 = (if v = s.get 0x3900 n 1 then s.get 0x3900 n 6 else wrapAdd 32 (s.get 0x3900 n 6) 1)
    ∧ OnlyEv (fun ix k sb => ix = 0x3900 ∧ k = n ∧ v ≠ s.get 0x3900 n 1 ∧ (sb = 1 ∨ sb = 6 ∨ sb = 7)) (fun _ _ _ => False) s t
    ∧ t = { s with objs := t.objs, regs := t.regs, evQueue := t.evQueue, evPending := t.evPending, answer := t.answer })
  ∧ (∀ (s : State) (acc : Acc) (n v : Nat),
    Up s →
    mayWrite acc 0x3900 n 1 v s = true →
    (adapts s n = true ∨ bit v (s.get 0x3900 n 2) = false) →
    Runs (.currentProfileWrite acc n v) s fun t => t = { s with answer := if adapts s n then ⟨3, 0⟩ else ⟨4, 0⟩ })
  ∧ (∀ (s : State) (acc : Acc) (n v : Nat),
    Up s →
    mayWrite acc 0x3900 n 2 v s = true →
    v ≠ 0 →
    (bit (s.get 0x3900 n 1) v = true ∨ laneOf s n ≠ 0) →
    v < 16 →
    Runs (.allowedProfilesWrite acc n v) s fun t => t = { s.put 0x3900 n 2 v with answer := ⟨0, 0⟩ })
  ∧ (∀ (s : State) (acc : Acc) (n v pf : Nat),
    Up s →
    mayWrite acc 0x3900 n 2 v s = true →
    v ≠ 0 →
    bit (s.get 0x3900 n 1) v = false →
    laneOf s n = 0 →
    let s1 := s.put 0x3900 n 2 v
    (nextProfile s1 n false).or (nextProfile s1 n true) = some pf →
    v < 16 →
    Runs (.allowedProfilesWrite acc n v) s fun t => t.answer = ⟨0, 0⟩ ∧ t.get 0x3900 n 2 = v ∧ t.get 0x3900 n 1 = pf ∧ bit pf v = true
    ∧ OnlyEv (fun ix k sb => ix = 0x3900 ∧ k = n ∧ (sb = 1 ∨ sb = 2 ∨ sb = 6 ∨ sb = 7)) (fun _ _ _ => False) s t
    ∧ t = { s with objs := t.objs, regs := t.regs, evQueue := t.evQueue, evPending := t.evPending, answer := t.answer })
  ∧ (∀ (s : State) (n pf : Nat),
    Up s →
    Runs (.upHoldRestore n pf) s fun t => t = s.setAux .upHoldX n pf 0)
  ∧ (∀ (s : State) (i al : Nat),
    Up s →
    i < 2 * s.trees →
    s.get 0x5400 (16 * (i / 8) + 10) 2 = 0 →
    allocLane s al = some i →
    Runs (.adaptationPeriodEnd i) s fun t => t.aux .adFrames al = 0 ∧ t.aux .adUsed al = 0 ∧ t.aux .adGranted al = 0 ∧ t.aux .adWant al = 0
    ∧ OnlyEv (fun ix k sb => ix = 0x3880 ∧ k = i ∧ sb = 10 ∨ ix = 0x3900 ∧ k / 512 = i / 2 ∧ laneOf s k = i % 2 ∧ sb ∈ [1, 4, 5, 6, 7, 8] ∨ ix = 0x3A00 ∧ allocLane s k = some i ∧ sb ∈ [7, 10, 11, 12]) (fun a p _ => a = .adaptLast ∧ p = i ∨ a ∈ [.upHoldX, .upRun, .adBits, .adErr, .adUnc, .adHdr] ∧ p / 512 = i / 2 ∧ laneOf s p = i % 2 ∨ a ∈ [.adFrames, .adUsed, .adGranted, .adWant] ∧ allocLane s p = some i) s t
    ∧ t = { s with objs := t.objs, regs := t.regs, evQueue := t.evQueue, evPending := t.evPending })
  ∧ (∀ (s : State) (i al : Nat),
    Up s →
    i < 2 * s.trees →
    s.get 0x5400 (16 * (i / 8) + 10) 2 = 0 →
    (measured s i).filter (fun n => adapts s n && s.get 0x3000 n 4 == 3) = [] →
    1 ≤ s.get 0x3880 i 9 →
    ((s.objs.filterMap fun e => if e.1.index == 0x3400 && e.1.sub == 1 && e.2 == 1 then some e.1.inst else none).filter (fun a => allocLane s a == some i && s.get 0x3400 a 4 == 2 && s.get 0x3A00 a 8 == 1 && s.get 0x3880 i 6 == 1) = [al]) →
    Runs (.adaptationPeriodEnd i) s fun t => t.get 0x3A00 al 7 = (weightStep s al).1 ∧ t.get 0x3A00 al 0x0A = (weightStep s al).2.1 ∧ t.get 0x3A00 al 0x0B = (weightStep s al).2.2
    ∧ OnlyEv (fun ix k sb => ix = 0x3880 ∧ k = i ∧ sb = 10 ∨ ix = 0x3900 ∧ k / 512 = i / 2 ∧ laneOf s k = i % 2 ∧ sb ∈ [1, 4, 5, 6, 7, 8] ∨ ix = 0x3A00 ∧ allocLane s k = some i ∧ sb ∈ [7, 10, 11, 12]) (fun a p _ => a = .adaptLast ∧ p = i ∨ a ∈ [.upHoldX, .upRun, .adBits, .adErr, .adUnc, .adHdr] ∧ p / 512 = i / 2 ∧ laneOf s p = i % 2 ∨ a ∈ [.adFrames, .adUsed, .adGranted, .adWant] ∧ allocLane s p = some i) s t
    ∧ t = { s with objs := t.objs, regs := t.regs, evQueue := t.evQueue, evPending := t.evPending })
  ∧ (∀ (s : State) (i n q1 : Nat),
    Up s →
    i < 2 * s.trees →
    s.get 0x5400 (16 * (i / 8) + 10) 2 = 0 →
    (measured s i).filter (fun n => adapts s n && s.get 0x3000 n 4 == 3) = [n] →
    ((s.objs.filterMap fun e => if e.1.index == 0x3400 && e.1.sub == 1 && e.2 == 1 then some e.1.inst else none).filter (fun a => allocLane s a == some i && s.get 0x3400 a 4 == 2 && s.get 0x3A00 a 8 == 1 && s.get 0x3880 i 6 == 1) = []) →
    let pf := s.get 0x3900 n 1
    let bits := s.aux .adBits n
    let rate := s.aux .adErr n * 1000000000 / max 1 bits
    (0 < s.aux .adUnc n ∨ 2 ≤ s.aux .adHdr n ∨ (1000000 ≤ bits ∧ s.get 0x3B00 (4 * (n / 512) + pf) 2 < rate)) →
    nextProfile s n false = some q1 →
    Runs (.adaptationPeriodEnd i) s fun t => t.get 0x3900 n 1 = q1 ∧ t.get 0x3900 n 5 = 0 ∧ t.aux .upHoldX n pf = min 3 (s.aux .upHoldX n pf + 1) ∧ t.get 0x3900 n 6 = wrapAdd 32 (s.get 0x3900 n 6) 1 ∧ t.aux .adUnc n = 0 ∧ t.get 0x3900 n 4 = (if 1000000 ≤ bits then min rate (2 ^ 32 - 1) else s.get 0x3900 n 4)
    ∧ OnlyEv (fun ix k sb => ix = 0x3880 ∧ k = i ∧ sb = 10 ∨ ix = 0x3900 ∧ k / 512 = i / 2 ∧ laneOf s k = i % 2 ∧ sb ∈ [1, 4, 5, 6, 7, 8] ∨ ix = 0x3A00 ∧ allocLane s k = some i ∧ sb ∈ [7, 10, 11, 12]) (fun a p _ => a = .adaptLast ∧ p = i ∨ a ∈ [.upHoldX, .upRun, .adBits, .adErr, .adUnc, .adHdr] ∧ p / 512 = i / 2 ∧ laneOf s p = i % 2 ∨ a ∈ [.adFrames, .adUsed, .adGranted, .adWant] ∧ allocLane s p = some i) s t
    ∧ t = { s with objs := t.objs, regs := t.regs, evQueue := t.evQueue, evPending := t.evPending })
  ∧ (∀ (s : State) (i n : Nat),
    Up s →
    i < 2 * s.trees →
    s.get 0x5400 (16 * (i / 8) + 10) 2 = 0 →
    (measured s i).filter (fun n => adapts s n && s.get 0x3000 n 4 == 3) = [n] →
    ((s.objs.filterMap fun e => if e.1.index == 0x3400 && e.1.sub == 1 && e.2 == 1 then some e.1.inst else none).filter (fun a => allocLane s a == some i && s.get 0x3400 a 4 == 2 && s.get 0x3A00 a 8 == 1 && s.get 0x3880 i 6 == 1) = []) →
    let pf := s.get 0x3900 n 1
    let bits := s.aux .adBits n
    let rate := s.aux .adErr n * 1000000000 / max 1 bits
    (0 < s.aux .adUnc n ∨ 2 ≤ s.aux .adHdr n ∨ (1000000 ≤ bits ∧ s.get 0x3B00 (4 * (n / 512) + pf) 2 < rate)) →
    nextProfile s n false = none →
    Runs (.adaptationPeriodEnd i) s fun t => t.get 0x3900 n 1 = pf ∧ t.get 0x3900 n 8 = wrapAdd 32 (s.get 0x3900 n 8) 1 ∧ isPending t 1558 n = true
    ∧ OnlyEv (fun ix k sb => ix = 0x3880 ∧ k = i ∧ sb = 10 ∨ ix = 0x3900 ∧ k / 512 = i / 2 ∧ laneOf s k = i % 2 ∧ sb ∈ [1, 4, 5, 6, 7, 8] ∨ ix = 0x3A00 ∧ allocLane s k = some i ∧ sb ∈ [7, 10, 11, 12]) (fun a p _ => a = .adaptLast ∧ p = i ∨ a ∈ [.upHoldX, .upRun, .adBits, .adErr, .adUnc, .adHdr] ∧ p / 512 = i / 2 ∧ laneOf s p = i % 2 ∨ a ∈ [.adFrames, .adUsed, .adGranted, .adWant] ∧ allocLane s p = some i) s t
    ∧ t = { s with objs := t.objs, regs := t.regs, evQueue := t.evQueue, evPending := t.evPending })
  ∧ (∀ (s : State) (i n q1 : Nat),
    Up s →
    i < 2 * s.trees →
    s.get 0x5400 (16 * (i / 8) + 10) 2 = 0 →
    (measured s i).filter (fun n => adapts s n && s.get 0x3000 n 4 == 3) = [n] →
    ((s.objs.filterMap fun e => if e.1.index == 0x3400 && e.1.sub == 1 && e.2 == 1 then some e.1.inst else none).filter (fun a => allocLane s a == some i && s.get 0x3400 a 4 == 2 && s.get 0x3A00 a 8 == 1 && s.get 0x3880 i 6 == 1) = []) →
    let pf := s.get 0x3900 n 1
    let bits := s.aux .adBits n
    let rate := s.aux .adErr n * 1000000000 / max 1 bits
    s.aux .adUnc n = 0 →
    s.aux .adHdr n = 0 →
    1000000 ≤ bits →
    rate ≤ s.get 0x3B00 (4 * (n / 512) + pf) 2 →
    nextProfile s n true = some q1 →
    rate ≤ s.get 0x3B00 (4 * (n / 512) + q1) 1 →
    let hold := s.get 0x3B00 (4 * (n / 512) + q1) 3 * 2 ^ s.aux .upHoldX n q1
    Runs (.adaptationPeriodEnd i) s fun t => (hold ≤ s.aux .upRun n + 1 → 1 ≤ s.get 0x3880 i 9 → t.get 0x3900 n 1 = q1 ∧ t.get 0x3900 n 5 = 0 ∧ t.aux .upRun n = 0) ∧ (s.aux .upRun n + 1 < hold → t.get 0x3900 n 1 = pf ∧ t.aux .upRun n = min 65535 (s.aux .upRun n + 1) ∧ t.get 0x3900 n 5 = min 255 (min 65535 (s.aux .upRun n + 1))) ∧ isPending t 1558 n = false
    ∧ OnlyEv (fun ix k sb => ix = 0x3880 ∧ k = i ∧ sb = 10 ∨ ix = 0x3900 ∧ k / 512 = i / 2 ∧ laneOf s k = i % 2 ∧ sb ∈ [1, 4, 5, 6, 7, 8] ∨ ix = 0x3A00 ∧ allocLane s k = some i ∧ sb ∈ [7, 10, 11, 12]) (fun a p _ => a = .adaptLast ∧ p = i ∨ a ∈ [.upHoldX, .upRun, .adBits, .adErr, .adUnc, .adHdr] ∧ p / 512 = i / 2 ∧ laneOf s p = i % 2 ∨ a ∈ [.adFrames, .adUsed, .adGranted, .adWant] ∧ allocLane s p = some i) s t
    ∧ t = { s with objs := t.objs, regs := t.regs, evQueue := t.evQueue, evPending := t.evPending })
  ∧ (∀ (s : State) (i : Nat),
    Up s →
    (2 * s.trees ≤ i ∨ s.get 0x5400 (16 * (i / 8) + 10) 2 ≠ 0) →
    Runs (.adaptationPeriodEnd i) s fun t => t = s)

/-- The key-slot commands have their effect (R230, R231, R234, R238, R246): key material written to an EMPTY slot through a
served port becomes current with the next generation, in a bound slot of a tree it is pending until a frame boundary, with its
port unserved it waits for the claim, and a write of the wrong kind, length or of a RETIRING slot is refused; a RETIRING slot's
hold ends with its previous half erased and a held key written, an erase empties every half and keeps the binding, and a kind, a
length or a binding that fits is stored, one that does not fit refused. -/
def Obligations.KeySlotCommandsComplete : Prop :=
  (∀ (s : State) (acc : Acc) (slot len key : Nat),
    Up s →
    mayAccess acc true 0x4000 slot 2 s = true →
    kindWriter acc.role (slotKind s slot) = true →
    len = s.get 0x4000 slot 3 →
    (slotState s slot = 0 ∨ slotState s slot = 1 ∧ (3 < slotKind s slot ∨ bindCode s slot = 0)) →
    portServed s 12 = true →
    (∀ w ∈ s.keyWaits, (portServed s w.port = false ∨ slotState s w.slot = 3) ∧ w.slot ≠ slot) →
    Runs (.keyWrite acc slot len key) s fun t => t.answer = ⟨0, 0⟩ ∧ slotState t slot = 1 ∧ t.aux .keyMat slot 0 = keyHalf len key ∧ slotGen t slot = (slotGen s slot + 1) % 65536 ∧ t.get 0x4000 slot 5 = (if slotState s slot = 0 then 1 else if slotKind s slot ≤ 3 then 3 - s.get 0x4000 slot 5 else s.get 0x4000 slot 5) ∧ (slotTree s slot = none → t.get 0x4000 slot 7 = 0) ∧ t.keyWaits = s.keyWaits
    ∧ OnlyEv (fun ix k sb => ix = 0x4000 ∧ k = slot ∧ sb ∈ [4, 5, 6, 7, 10, 14, 15] ∨ slotTree s slot ≠ none ∧ (ix = 0x4000 ∧ sb ∈ [7, 10, 12] ∨ ix = 0x4200 ∧ sb = 4 ∨ ix = 0x5140 ∧ sb = 6) ∨ ix = 0x5800 ∧ k = 66 ∧ 2 ≤ sb ∧ sb ≤ 9 ∨ ix = 0x5840 ∧ sb ∈ [4, 5]) (fun a p _ => a ∈ [.keyAt, .keyMat, .keyNextIdx, .keyPoison, .keySoft, .keyUnacked] ∧ p = slot ∨ a = .sesDerived ∧ p = bindInst s slot ∨ a = .missMask ∨ slotTree s slot ≠ none ∧ a ∈ [.keySoft, .kxFrag, .kxGen, .kxIndex, .kxKey, .kxKind, .kxNext, .kxSeq, .kxTries, .mirSeq]) s t
    ∧ OnlyWords (fun m _ => m = 66) s t
    ∧ t = { s with objs := t.objs, regs := t.regs, evQueue := t.evQueue, evPending := t.evPending, answer := t.answer, mem := t.mem, ploams := t.ploams, recent := t.recent, vframes := t.vframes, keyWaits := t.keyWaits })
  ∧ (∀ (s : State) (acc : Acc) (slot len key : Nat),
    Up s →
    mayAccess acc true 0x4000 slot 2 s = true →
    kindWriter acc.role (slotKind s slot) = true →
    len = s.get 0x4000 slot 3 →
    slotState s slot ≠ 3 →
    portServed s 12 = false →
    (∀ w ∈ s.keyWaits, portServed s w.port = false ∨ slotState s w.slot = 3) →
    Runs (.keyWrite acc slot len key) s fun t => t = { s with keyWaits := s.keyWaits ++ [⟨12, slot, len, key, none⟩], answer := ⟨0, 0⟩ })
  ∧ (∀ (s : State) (acc : Acc) (slot len key : Nat),
    Up s →
    mayAccess acc true 0x4000 slot 2 s = true →
    kindWriter acc.role (slotKind s slot) = true →
    len = s.get 0x4000 slot 3 →
    (slotState s slot = 1 ∧ slotKind s slot = 3 ∧ bindCode s slot ≠ 0 ∨ slotState s slot = 2) →
    portServed s 12 = true →
    (∀ w ∈ s.keyWaits, (portServed s w.port = false ∨ slotState s w.slot = 3) ∧ w.slot ≠ slot) →
    Runs (.keyWrite acc slot len key) s fun t => t.answer = ⟨0, 0⟩ ∧ slotState t slot = 2 ∧ t.aux .keyMat slot 1 = keyHalf len key ∧ t.aux .keyMat slot 0 = s.aux .keyMat slot 0 ∧ slotGen t slot = slotGen s slot ∧ t.aux .keyAt slot = s.now + 1 ∧ t.keyWaits = s.keyWaits
    ∧ OnlyEv (fun ix k sb => ix = 0x4000 ∧ k = slot ∧ sb ∈ [4, 5, 6, 7, 10, 14, 15] ∨ slotTree s slot ≠ none ∧ (ix = 0x4000 ∧ sb ∈ [7, 10, 12] ∨ ix = 0x4200 ∧ sb = 4 ∨ ix = 0x5140 ∧ sb = 6) ∨ ix = 0x5800 ∧ k = 66 ∧ 2 ≤ sb ∧ sb ≤ 9 ∨ ix = 0x5840 ∧ sb ∈ [4, 5]) (fun a p _ => a ∈ [.keyAt, .keyMat, .keyNextIdx, .keyPoison, .keySoft, .keyUnacked] ∧ p = slot ∨ a = .sesDerived ∧ p = bindInst s slot ∨ a = .missMask ∨ slotTree s slot ≠ none ∧ a ∈ [.keySoft, .kxFrag, .kxGen, .kxIndex, .kxKey, .kxKind, .kxNext, .kxSeq, .kxTries, .mirSeq]) s t
    ∧ OnlyWords (fun m _ => m = 66) s t
    ∧ t = { s with objs := t.objs, regs := t.regs, evQueue := t.evQueue, evPending := t.evPending, answer := t.answer, mem := t.mem, ploams := t.ploams, recent := t.recent, vframes := t.vframes, keyWaits := t.keyWaits })
  ∧ (∀ (s : State) (acc : Acc) (slot len key : Nat),
    Up s →
    mayAccess acc true 0x4000 slot 2 s = true →
    acc.role ≠ .operator →
    (kindWriter acc.role (slotKind s slot) = false ∨ len ≠ s.get 0x4000 slot 3 ∨ slotState s slot = 3) →
    Runs (.keyWrite acc slot len key) s fun t => t = { s with answer := if kindWriter acc.role (slotKind s slot) = false then ⟨2, 0⟩ else if len ≠ s.get 0x4000 slot 3 then ⟨4, 0⟩ else ⟨3, 0⟩ })
  ∧ (∀ (s : State) (acc : Acc) (slot : Nat),
    Up s →
    mayWrite acc 0x4000 slot 0x0B 1 s = true →
    (¬(bindCode s slot = 3 ∧ terminalIdle s (bindInst s slot) = false)) →
    slotState s slot ≠ 0 →
    (∀ w ∈ s.keyWaits, portServed s w.port = false ∨ (slotState s w.slot = 3 ∧ w.slot ≠ slot)) →
    Runs (.keyErase acc slot) s fun t => t.answer = ⟨0, 0⟩ ∧ slotState t slot = 0 ∧ t.aux .keyMat slot 0 = 0 ∧ t.aux .keyMat slot 1 = 0 ∧ slotGen t slot = (slotGen s slot + 1) % 65536 ∧ t.get 0x4000 slot 7 = 0 ∧ t.get 0x4000 slot 0x0E = s.get 0x4000 slot 0x0E
    ∧ OnlyEv (fun ix k sb => ix = 0x4000 ∧ k = slot ∧ sb ∈ [4, 5, 6, 7, 10, 15] ∨ ix = 0x4200 ∧ k = bindInst s slot ∧ sb = 4 ∨ ix = 0x5800 ∧ k = 66 ∧ sb ∈ [5, 6] ∨ ix = 0x5840 ∧ sb ∈ [4, 5] ∨ ix = 0x4000 ∧ k = slot ∧ sb = 11) (fun a p _ => a ∈ [.keyMat, .keyNextIdx, .keyPoison, .keySoft] ∧ p = slot ∨ a = .sesDerived ∧ p = bindInst s slot ∨ a = .missMask ∨ a ∈ [.kxFrag, .kxGen, .kxIndex, .kxKey, .kxKind, .kxNext, .kxSeq, .kxTries] ∧ p = bindInst s slot) s t
    ∧ OnlyWords (fun m _ => m = 66) s t
    ∧ t = { s with objs := t.objs, regs := t.regs, evQueue := t.evQueue, evPending := t.evPending, answer := t.answer, mem := t.mem, ploams := t.ploams })
  ∧ (∀ (s : State) (acc : Acc) (slot : Nat),
    Up s →
    mayWrite acc 0x4000 slot 0x0B 1 s = true →
    bindCode s slot = 3 →
    terminalIdle s (bindInst s slot) = false →
    Runs (.keyErase acc slot) s fun t => t = { s.put 0x4000 slot 0x0B 3 with answer := ⟨3, 0⟩ })
  ∧ (∀ (s : State) (acc : Acc) (slot : Nat),
    Up s →
    mayWrite acc 0x4000 slot 0x0B 1 s = true →
    (¬(bindCode s slot = 3 ∧ terminalIdle s (bindInst s slot) = false)) →
    slotState s slot = 0 →
    Runs (.keyErase acc slot) s fun t => t.answer = ⟨0, 0⟩ ∧ isPending t 2058 slot = false ∧ t.aux .keyPoison slot = 0
    ∧ OnlyEv (fun ix k sb => ix = 0x5800 ∧ k = 66 ∧ sb ∈ [5, 6] ∨ ix = 0x5840 ∧ sb ∈ [4, 5] ∨ ix = 0x4000 ∧ k = slot ∧ sb = 11) (fun a p _ => a = .keyPoison ∧ p = slot) s t
    ∧ OnlyWords (fun m _ => m = 66) s t
    ∧ t = { s with objs := t.objs, regs := t.regs, evQueue := t.evQueue, evPending := t.evPending, answer := t.answer, mem := t.mem })
  ∧ (∀ (s : State) (slot : Nat),
    Up s →
    slotState s slot = 3 →
    (∀ w ∈ s.keyWaits, portServed s w.port = false ∨ (slotState s w.slot = 3 ∧ w.slot ≠ slot)) →
    Runs (.retireHoldExpiry slot) s fun t => slotState t slot = 1 ∧ t.aux .keyMat slot 1 = 0 ∧ t.aux .keyNextIdx slot = 0 ∧ t.aux .keyMat slot 0 = s.aux .keyMat slot 0
    ∧ OnlyEv (fun ix k sb => ix = 0x4000 ∧ k = slot ∧ sb = 4 ∨ ix = 0x5800 ∧ k = 66 ∧ sb ∈ [5, 6] ∨ ix = 0x5840 ∧ sb ∈ [4, 5]) (fun a p _ => a ∈ [.keyMat, .keyNextIdx, .keyPoison] ∧ p = slot) s t
    ∧ OnlyWords (fun m _ => m = 66) s t
    ∧ t = { s with objs := t.objs, regs := t.regs, evQueue := t.evQueue, evPending := t.evPending, mem := t.mem })
  ∧ (∀ (s : State) (slot : Nat),
    Up s →
    slotState s slot ≠ 3 →
    Runs (.retireHoldExpiry slot) s fun t => t = s)
  ∧ (∀ (s : State) (slot : Nat) (w : KeyWait),
    Up s →
    slotState s slot = 3 →
    s.keyWaits = [w] →
    w.slot = slot →
    portServed s w.port = true →
    Runs (.retireHoldExpiry slot) s fun t => t.keyWaits = [] ∧ (slotKind s slot ≤ 3 → bindCode s slot ≠ 0 → slotState t slot = 2 ∧ t.aux .keyMat slot 1 = keyHalf (s.get 0x4000 slot 3) w.key) ∧ (3 < slotKind s slot → slotState t slot = 1 ∧ t.aux .keyMat slot 0 = keyHalf (s.get 0x4000 slot 3) w.key)
    ∧ OnlyEv (fun ix k sb => ix = 0x4000 ∧ k = slot ∧ sb ∈ [4, 5, 6, 7, 10, 14, 15] ∨ slotTree s slot ≠ none ∧ (ix = 0x4000 ∧ sb ∈ [7, 10, 12] ∨ ix = 0x4200 ∧ sb = 4 ∨ ix = 0x5140 ∧ sb = 6) ∨ ix = 0x5800 ∧ k = 66 ∧ 2 ≤ sb ∧ sb ≤ 9 ∨ ix = 0x5840 ∧ sb ∈ [4, 5] ∨ ix = 0x4200 ∧ sb ∈ [4, 5]) (fun a p _ => a ∈ [.keyAt, .keyMat, .keyNextIdx, .keyPoison, .keySoft, .keyUnacked] ∧ p = slot ∨ a = .sesDerived ∧ p = bindInst s slot ∨ a = .missMask ∨ slotTree s slot ≠ none ∧ a ∈ [.keySoft, .kxFrag, .kxGen, .kxIndex, .kxKey, .kxKind, .kxNext, .kxSeq, .kxTries, .mirSeq] ∨ a ∈ [.kxFrag, .kxGen, .kxIndex, .kxKey, .kxKind, .kxNext, .kxSeq, .kxTries] ∧ some p = w.terminal) s t
    ∧ OnlyWords (fun m _ => m = 66) s t
    ∧ t = { s with objs := t.objs, regs := t.regs, evQueue := t.evQueue, evPending := t.evPending, keyWaits := t.keyWaits, mem := t.mem, ploams := t.ploams, recent := t.recent, vframes := t.vframes })
  ∧ (∀ (s : State) (acc : Acc) (slot v : Nat),
    Up s →
    mayWrite acc 0x4000 slot 1 v s = true →
    (v = 3 ∨ v = 7 → ownerOf s 6 slot = 16) →
    Runs (.keySlotConfigWrite acc 0x4000 slot 1 v) s fun t => t.answer = ⟨0, 0⟩ ∧ slotKind t slot = v ∧ t.get 0x4000 slot 3 = (if v = 1 ∨ v = 4 ∨ v = 6 then 16 else if v = 2 ∨ v = 7 then 32 else s.get 0x4000 slot 3)
    ∧ OnlyEv (fun ix k sb => ix = 0x4000 ∧ k = slot ∧ sb ∈ [1, 3] ∨ ix = 0x5800 ∧ k = 66 ∧ sb ∈ [5, 6] ∨ ix = 0x5840 ∧ sb ∈ [4, 5]) (fun a p _ => a = .keyPoison ∧ p = slot) s t
    ∧ OnlyWords (fun m _ => m = 66) s t
    ∧ t = { s with objs := t.objs, regs := t.regs, evQueue := t.evQueue, evPending := t.evPending, answer := t.answer, mem := t.mem })
  ∧ (∀ (s : State) (acc : Acc) (slot v : Nat),
    Up s →
    mayWrite acc 0x4000 slot 3 v s = true →
    Runs (.keySlotConfigWrite acc 0x4000 slot 3 v) s fun t => t.answer = ⟨0, 0⟩ ∧ t.get 0x4000 slot 3 = v
    ∧ OnlyEv (fun ix k sb => ix = 0x4000 ∧ k = slot ∧ sb = 3 ∨ ix = 0x5800 ∧ k = 66 ∧ sb ∈ [5, 6] ∨ ix = 0x5840 ∧ sb ∈ [4, 5]) (fun a p _ => a = .keyPoison ∧ p = slot) s t
    ∧ OnlyWords (fun m _ => m = 66) s t
    ∧ t = { s with objs := t.objs, regs := t.regs, evQueue := t.evQueue, evPending := t.evPending, answer := t.answer, mem := t.mem })
  ∧ (∀ (s : State) (acc : Acc) (slot v : Nat),
    Up s →
    mayWrite acc 0x4000 slot 1 v s = true →
    (v = 3 ∨ v = 7) →
    ownerOf s 6 slot ≠ 16 →
    Runs (.keySlotConfigWrite acc 0x4000 slot 1 v) s fun t => t = { s with answer := ⟨4, 0⟩ })
  ∧ (∀ (s : State) (acc : Acc) (n sub v : Nat),
    Up s →
    (sub = 1 ∨ sub = 2) →
    mayWrite acc 0x4200 n sub v s = true →
    v ≠ 0xFFFF →
    ownerOf s 6 v = ownerOf s 0 n →
    (slotKind s v = sub ∧ s.get 0x4000 v 3 = 16 * sub) →
    bindCode s v = 0 →
    s.get 0x4200 n sub = 0xFFFF →
    Runs (.keySlotConfigWrite acc 0x4200 n sub v) s fun t => t.answer = ⟨0, 0⟩ ∧ t.get 0x4200 n sub = v ∧ t.get 0x4000 v 0x0E = sub * 2 ^ 24 + n
    ∧ Only (fun ix k sb => (ix = 0x4200 ∧ k = n ∧ sb = sub) ∨ (ix = 0x4000 ∧ k = v ∧ sb = 0x0E)) (fun _ _ _ => False) s t
    ∧ t = { s with objs := t.objs, regs := t.regs, answer := t.answer })
  ∧ (∀ (s : State) (acc : Acc) (n sub v : Nat),
    Up s →
    (1 ≤ sub ∧ sub ≤ 3) →
    mayWrite acc 0x4200 n sub v s = true →
    v ≠ 0xFFFF →
    ownerOf s 6 v = ownerOf s 0 n →
    (slotKind s v ≠ (if sub = 3 then 4 else sub) ∨ s.get 0x4000 v 3 ≠ (if sub = 2 then 32 else 16) ∨ (bindCode s v ≠ 0 ∧ s.get 0x4000 v 0x0E ≠ sub * 2 ^ 24 + n)) →
    Runs (.keySlotConfigWrite acc 0x4200 n sub v) s fun t => t = { s with answer := ⟨4, 0⟩ })
  ∧ (∀ (s : State) (acc : Acc) (n v : Nat),
    Up s →
    mayWrite acc 0x4200 n 3 v s = true →
    v ≠ 0xFFFF →
    ownerOf s 6 v = ownerOf s 0 n →
    (slotKind s v = 4 ∧ s.get 0x4000 v 3 = 16) →
    bindCode s v = 0 →
    s.get 0x4200 n 3 = 0xFFFF →
    Runs (.keySlotConfigWrite acc 0x4200 n 3 v) s fun t => t.answer = ⟨0, 0⟩ ∧ t.get 0x4200 n 3 = v ∧ t.get 0x4000 v 0x0E = 3 * 2 ^ 24 + n ∧ t.aux .sesDerived n = (if slotState s v ≠ 0 then 1 else 0)
    ∧ Only (fun ix k sb => (ix = 0x4200 ∧ k = n ∧ sb = 3) ∨ (ix = 0x4000 ∧ k = v ∧ sb = 0x0E)) (fun a p _ => a = .sesDerived ∧ p = n) s t
    ∧ t = { s with objs := t.objs, regs := t.regs, answer := t.answer })
  ∧ (∀ (s : State) (acc : Acc) (n sub : Nat),
    Up s →
    (sub = 1 ∨ sub = 2) →
    mayWrite acc 0x4200 n sub 0xFFFF s = true →
    let old := s.get 0x4200 n sub
    old ≠ 0xFFFF →
    s.get 0x4000 old 0x0E = sub * 2 ^ 24 + n →
    Runs (.keySlotConfigWrite acc 0x4200 n sub 0xFFFF) s fun t => t.answer = ⟨0, 0⟩ ∧ t.get 0x4200 n sub = 0xFFFF ∧ t.get 0x4000 old 0x0E = 0
    ∧ Only (fun ix k sb => (ix = 0x4200 ∧ k = n ∧ sb = sub) ∨ (ix = 0x4000 ∧ k = old ∧ sb = 0x0E)) (fun _ _ _ => False) s t
    ∧ t = { s with objs := t.objs, regs := t.regs, answer := t.answer })
  ∧ (∀ (s : State) (acc : Acc) (tree sub v : Nat),
    Up s →
    (sub = 1 ∨ sub = 2) →
    mayWrite acc 0x4100 tree sub v s = true →
    v ≠ 0xFFFF →
    (slotKind s v = 3 ∧ s.get 0x4000 v 3 = 16 * sub) →
    ownerOf s 6 v = 16 →
    bindCode s v = 0 →
    s.get 0x4100 tree sub = 0xFFFF →
    Runs (.keySlotConfigWrite acc 0x4100 tree sub v) s fun t => t.answer = ⟨0, 0⟩ ∧ t.get 0x4100 tree sub = v ∧ t.get 0x4000 v 0x0E = (3 + sub) * 2 ^ 24 + tree
    ∧ OnlyEv (fun ix k sb => (ix = 0x4100 ∧ k = tree ∧ sb = sub) ∨ (ix = 0x4000 ∧ k = v ∧ sb = 0x0E)) (fun a _ _ => a = .missMask) s t
    ∧ t = { s with objs := t.objs, regs := t.regs, evQueue := t.evQueue, evPending := t.evPending, answer := t.answer })
  ∧ (∀ (s : State) (acc : Acc) (index inst v : Nat),
    Up s →
    ((index = 0x5590 ∧ mayWrite acc 0x5590 inst 3 v s = true) ∨ (index = 0x1130 ∧ inst = 0 ∧ mayWrite acc 0x1130 0 1 v s = true)) →
    let sub := if index = 0x5590 then 3 else 1
    v ≠ 0xFFFF →
    (slotKind s v = 7 ∧ s.get 0x4000 v 3 = 32) →
    ownerOf s 6 v = 16 →
    bindCode s v = 0 →
    s.get index inst sub = 0xFFFF →
    Runs (.keySlotConfigWrite acc index inst sub v) s fun t => t.answer = ⟨0, 0⟩ ∧ t.get index inst sub = v ∧ t.get 0x4000 v 0x0E = (if index = 0x5590 then 7 else 8) * 2 ^ 24 + inst
    ∧ Only (fun ix k sb => (ix = index ∧ k = inst ∧ sb = sub) ∨ (ix = 0x4000 ∧ k = v ∧ sb = 0x0E)) (fun _ _ _ => False) s t
    ∧ t = { s with objs := t.objs, regs := t.regs, answer := t.answer })

/-- The key-exchange commands have their effect (R246 to R250): a rekey starts an exchange for the slot of the mode in force and
sends its request, or is answered busy while one runs, a report that matches its request is opened and written through the
cluster's port, which ends the exchange, or held while the slot is RETIRING or the port unserved, a single fragment is kept, a
report that does not match is ignored, a timeout resends up to three attempts and then reports the failure, and a retry sends
the request again. -/
def Obligations.KeyExchangeCommandsComplete : Prop :=
  (∀ (s : State) (acc : Acc) (n slot : Nat),
    Up s →
    mayWrite acc 0x4200 n 7 1 s = true →
    s.aux .kxKind n = 0 →
    exchangeSlot s n (modeKind s n) = some slot →
    s.aux .sesDerived n ≠ 0 →
    termState s n = 3 →
    Runs (.rekeyNow acc n) s fun t => t.answer = ⟨0, 0⟩ ∧ t.get 0x4200 n 4 = 1 ∧ t.aux .kxKind n = modeKind s n ∧ t.aux .kxTries n = 1 ∧ t.aux .kxIndex n = (if slotState s slot = 0 then 1 else 3 - s.get 0x4000 slot 5) ∧ t.aux .kxGen n = (slotGen s slot + 1) % 65536 ∧ t.ploams = s.ploams ++ [⟨n / 512, laneOf s n, n % 512, if modeKind s n = 2 then .strokeKeyRequest else .keyControl, [t.aux .kxIndex n, t.aux .kxGen n], false⟩]
    ∧ Only (fun ix k sb => ix = 0x4200 ∧ k = n ∧ (sb = 4 ∨ sb = 7) ∨ ix = 0x4200 ∧ k = n ∧ sb = 7) (fun a p q => a ∈ [.kxKind, .kxTries, .kxIndex, .kxGen, .kxFrag, .kxKey, .kxSeq] ∧ p = n ∧ q = 0) s t
    ∧ t = { s with objs := t.objs, regs := t.regs, ploams := t.ploams, answer := t.answer })
  ∧ (∀ (s : State) (acc : Acc) (n : Nat),
    Up s →
    mayWrite acc 0x4200 n 7 1 s = true →
    s.aux .kxKind n ≠ 0 →
    Runs (.rekeyNow acc n) s fun t => t = { s.put 0x4200 n 7 3 with answer := ⟨3, 0⟩ })
  ∧ (∀ (s : State) (acc : Acc) (n : Nat),
    Up s →
    mayWrite acc 0x4200 n 7 1 s = true →
    s.aux .kxKind n = 0 →
    (exchangeSlot s n (modeKind s n) = none ∨ s.aux .sesDerived n = 0 ∨ termState s n ≠ 3) →
    Runs (.rekeyNow acc n) s fun t => t = { s.put 0x4200 n 7 0 with answer := ⟨0, 0⟩ })
  ∧ (∀ (s : State) (n slot index wrapped ty sq : Nat) (content : List Nat),
    Up s →
    s.aux .kxKind n = 1 →
    s.aux .kxIndex n = index →
    exchangeSlot s n 1 = some slot →
    (s.keyWaits.any fun w => w.terminal == some n) = false →
    (∀ w ∈ s.keyWaits, (portServed s w.port = false ∨ slotState s w.slot = 3) ∧ w.slot ≠ slot) →
    slotState s slot = 0 →
    portServed s (n / 2048) = true →
    s.aux .kxNext n = 0 →
    (∀ x ∈ (slotTree s slot).bind (remotePartner s), bindCode s (s.get 0x5590 x.1 3) ≠ 1 ∧ bindCode s (s.get 0x5590 x.1 3) ≠ 2) →
    content.length = 36 →
    let head := bytesOf 2 (n % 512) ++ [ty, sq] ++ content
    let check := bytesOf 8 (Config.ploamMic (integrityKey s (n / 512) (n % 512)) head)
    Runs (.keyReport n (bytesOf 2 (n % 512)) ty sq content check (some index) wrapped) s fun t => slotState t slot = 1 ∧ t.aux .keyMat slot 0 = keyHalf (s.get 0x4000 slot 3) (openKey s n wrapped) ∧ t.get 0x4200 n 4 = 0 ∧ t.aux .kxKind n = 0 ∧ t.get 0x4200 n 5 = wrapAdd 32 (s.get 0x4200 n 5) 1 ∧ slotGen t slot = (slotGen s slot + 1) % 65536
    ∧ OnlyEv (fun ix k sb => ix = 0x4000 ∧ k = slot ∧ sb ∈ [4, 5, 6, 7, 10, 14, 15] ∨ slotTree s slot ≠ none ∧ (ix = 0x4000 ∧ sb ∈ [7, 10, 12] ∨ ix = 0x4200 ∧ sb = 4 ∨ ix = 0x5140 ∧ sb = 6) ∨ ix = 0x5800 ∧ k = 66 ∧ 2 ≤ sb ∧ sb ≤ 9 ∨ ix = 0x5840 ∧ sb ∈ [4, 5] ∨ ix = 0x4200 ∧ k = n ∧ sb ∈ [4, 5]) (fun a p _ => a ∈ [.keyAt, .keyMat, .keyNextIdx, .keyPoison, .keySoft, .keyUnacked] ∧ p = slot ∨ a = .sesDerived ∧ p = bindInst s slot ∨ a = .missMask ∨ slotTree s slot ≠ none ∧ a ∈ [.keySoft, .kxFrag, .kxGen, .kxIndex, .kxKey, .kxKind, .kxNext, .kxSeq, .kxTries, .mirSeq] ∨ a ∈ [.kxFrag, .kxGen, .kxIndex, .kxKey, .kxKind, .kxNext, .kxSeq, .kxTries] ∧ p = n) s t
    ∧ OnlyWords (fun m _ => m = 66) s t
    ∧ t = { s with objs := t.objs, regs := t.regs, evQueue := t.evQueue, evPending := t.evPending, keyWaits := t.keyWaits, mem := t.mem, ploams := t.ploams, recent := t.recent, vframes := t.vframes })
  ∧ (∀ (s : State) (n index frag u : Nat) (wrapped : List Nat),
    Up s →
    s.aux .kxKind n = 2 →
    s.aux .kxSeq n ≠ 0 →
    s.aux .kxIndex n = index →
    s.aux .kxGen n < 65536 →
    frag < 2 →
    (s.aux .kxFrag n = 0 ∨ s.aux .kxFrag n = frag + 1) →
    (s.keyWaits.any fun w => w.terminal == some n) = false →
    wrapped.length = 16 →
    let content := [1, index, frag] ++ bytesOf 2 (s.aux .kxGen n) ++ wrapped ++ List.replicate 15 0
    let head := bytesOf 2 (n % 512) ++ [0xE5, s.aux .kxSeq n] ++ content
    let check := bytesOf 8 (Config.ploamMic (integrityKey s (n / 512) (n % 512)) head)
    Runs (.keyReport n (bytesOf 2 (n % 512)) 0xE5 (s.aux .kxSeq n) content check none u) s fun t => t.aux .kxFrag n = frag + 1 ∧ t.aux .kxKey n = (if frag = 0 then openKey s n (ofBytes wrapped) * 2 ^ 128 + s.aux .kxKey n % 2 ^ 128 else s.aux .kxKey n / 2 ^ 128 * 2 ^ 128 + openKey s n (ofBytes wrapped)) ∧ t.get 0x4200 n 4 = (if s.get 0x4200 n 4 = 1 then 2 else s.get 0x4200 n 4)
    ∧ Only (fun ix k sb => ix = 0x4200 ∧ k = n ∧ sb = 4) (fun a p q => (a = .kxFrag ∨ a = .kxKey) ∧ p = n ∧ q = 0) s t
    ∧ t = { s with objs := t.objs, regs := t.regs })
  ∧ (∀ (s : State) (n slot index frag u : Nat) (wrapped : List Nat),
    Up s →
    s.aux .kxKind n = 2 →
    s.aux .kxSeq n ≠ 0 →
    s.aux .kxIndex n = index →
    s.aux .kxGen n < 65536 →
    frag < 2 →
    s.aux .kxFrag n = 2 - frag →
    exchangeSlot s n 2 = some slot →
    (s.keyWaits.any fun w => w.terminal == some n) = false →
    (∀ w ∈ s.keyWaits, (portServed s w.port = false ∨ slotState s w.slot = 3) ∧ w.slot ≠ slot) →
    slotState s slot = 0 →
    portServed s (n / 2048) = true →
    s.aux .kxNext n = 0 →
    (∀ x ∈ (slotTree s slot).bind (remotePartner s), bindCode s (s.get 0x5590 x.1 3) ≠ 1 ∧ bindCode s (s.get 0x5590 x.1 3) ≠ 2) →
    wrapped.length = 16 →
    let content := [1, index, frag] ++ bytesOf 2 (s.aux .kxGen n) ++ wrapped ++ List.replicate 15 0
    let head := bytesOf 2 (n % 512) ++ [0xE5, s.aux .kxSeq n] ++ content
    let check := bytesOf 8 (Config.ploamMic (integrityKey s (n / 512) (n % 512)) head)
    Runs (.keyReport n (bytesOf 2 (n % 512)) 0xE5 (s.aux .kxSeq n) content check none u) s fun t => slotState t slot = 1 ∧ t.aux .keyMat slot 0 = keyHalf (s.get 0x4000 slot 3) (if frag = 0 then openKey s n (ofBytes wrapped) * 2 ^ 128 + s.aux .kxKey n % 2 ^ 128 else s.aux .kxKey n / 2 ^ 128 * 2 ^ 128 + openKey s n (ofBytes wrapped)) ∧ t.get 0x4200 n 4 = 0 ∧ t.aux .kxKind n = 0 ∧ t.get 0x4200 n 5 = wrapAdd 32 (s.get 0x4200 n 5) 1
    ∧ OnlyEv (fun ix k sb => ix = 0x4000 ∧ k = slot ∧ sb ∈ [4, 5, 6, 7, 10, 14, 15] ∨ slotTree s slot ≠ none ∧ (ix = 0x4000 ∧ sb ∈ [7, 10, 12] ∨ ix = 0x4200 ∧ sb = 4 ∨ ix = 0x5140 ∧ sb = 6) ∨ ix = 0x5800 ∧ k = 66 ∧ 2 ≤ sb ∧ sb ≤ 9 ∨ ix = 0x5840 ∧ sb ∈ [4, 5] ∨ ix = 0x4200 ∧ k = n ∧ sb ∈ [4, 5]) (fun a p _ => a ∈ [.keyAt, .keyMat, .keyNextIdx, .keyPoison, .keySoft, .keyUnacked] ∧ p = slot ∨ a = .sesDerived ∧ p = bindInst s slot ∨ a = .missMask ∨ slotTree s slot ≠ none ∧ a ∈ [.keySoft, .kxFrag, .kxGen, .kxIndex, .kxKey, .kxKind, .kxNext, .kxSeq, .kxTries, .mirSeq] ∨ a ∈ [.kxFrag, .kxGen, .kxIndex, .kxKey, .kxKind, .kxNext, .kxSeq, .kxTries] ∧ p = n) s t
    ∧ OnlyWords (fun m _ => m = 66) s t
    ∧ t = { s with objs := t.objs, regs := t.regs, evQueue := t.evQueue, evPending := t.evPending, keyWaits := t.keyWaits, mem := t.mem, ploams := t.ploams, recent := t.recent, vframes := t.vframes })
  ∧ (∀ (s : State) (n slot index wrapped ty sq : Nat) (content : List Nat),
    Up s →
    s.aux .kxKind n = 1 →
    s.aux .kxIndex n = index →
    exchangeSlot s n 1 = some slot →
    (s.keyWaits.any fun w => w.terminal == some n) = false →
    (∀ w ∈ s.keyWaits, portServed s w.port = false ∨ slotState s w.slot = 3) →
    (slotState s slot = 3 ∨ portServed s (n / 2048) = false) →
    content.length = 36 →
    let head := bytesOf 2 (n % 512) ++ [ty, sq] ++ content
    let check := bytesOf 8 (Config.ploamMic (integrityKey s (n / 512) (n % 512)) head)
    Runs (.keyReport n (bytesOf 2 (n % 512)) ty sq content check (some index) wrapped) s fun t => t.keyWaits = s.keyWaits ++ [⟨n / 2048, slot, s.get 0x4000 slot 3, openKey s n wrapped, some n⟩] ∧ t.get 0x4200 n 4 = (if slotState s slot = 3 then 4 else s.get 0x4200 n 4)
    ∧ Only (fun ix k sb => ix = 0x4200 ∧ k = n ∧ sb = 4) (fun a p q => a = .kxKey ∧ p = n ∧ q = 0) s t
    ∧ t = { s with objs := t.objs, regs := t.regs, keyWaits := t.keyWaits })
  ∧ (∀ (s : State) (n : Nat) (onu : List Nat) (kind seq : Nat) (content check : List Nat) (index : Option Nat) (wrapped : Nat),
    Up s →
    let bytes := upstreamPloam onu kind seq content check
    (bytes.length ≠ 48 ∨ ofBytes (bytes.take 2) % 1024 ≠ n % 512 ∨ (s.keyWaits.any fun w => w.terminal == some n) = true ∨ (∃ x ∈ index, s.aux .kxKind n ≠ 1 ∨ s.aux .kxIndex n ≠ x) ∨ (index = none ∧ (s.aux .kxKind n ≠ 2 ∨ bytes.getD 2 0 ≠ 0xE5 ∨ bytes.getD 3 0 ≠ s.aux .kxSeq n ∨ bytes.getD 4 0 ≠ 1 ∨ bytes.getD 5 0 ≠ s.aux .kxIndex n ∨ ofBytes ((bytes.drop 7).take 2) ≠ s.aux .kxGen n))) →
    Runs (.keyReport n onu kind seq content check index wrapped) s fun t => t = s)
  ∧ (∀ (s : State) (n : Nat),
    Up s →
    (s.get 0x4200 n 4 = 1 ∨ s.get 0x4200 n 4 = 2) →
    (s.keyWaits.any fun w => w.terminal == some n) = false →
    s.aux .kxTries n < 3 →
    Runs (.keyExchangeTimeout n) s fun t => t.aux .kxTries n = s.aux .kxTries n + 1 ∧ t.get 0x4200 n 4 = 1 ∧ t.aux .kxFrag n = 0 ∧ t.aux .kxKey n = 0 ∧ t.ploams = s.ploams ++ [⟨n / 512, laneOf s n, n % 512, if s.aux .kxKind n = 2 then .strokeKeyRequest else .keyControl, [s.aux .kxIndex n, s.aux .kxGen n], false⟩]
    ∧ Only (fun ix k sb => ix = 0x4200 ∧ k = n ∧ sb = 4) (fun a p q => (a = .kxTries ∨ a = .kxFrag ∨ a = .kxKey) ∧ p = n ∧ q = 0) s t
    ∧ t = { s with objs := t.objs, regs := t.regs, ploams := t.ploams })
  ∧ (∀ (s : State) (n : Nat),
    Up s →
    (s.get 0x4200 n 4 = 1 ∨ s.get 0x4200 n 4 = 2) →
    (s.keyWaits.any fun w => w.terminal == some n) = false →
    3 ≤ s.aux .kxTries n →
    Runs (.keyExchangeTimeout n) s fun t => t.get 0x4200 n 4 = 3 ∧ t.get 0x4200 n 6 = wrapAdd 32 (s.get 0x4200 n 6) 1 ∧ isPending t 2050 n = true
    ∧ OnlyEv (fun ix k sb => ix = 0x4200 ∧ k = n ∧ (sb = 4 ∨ sb = 6)) (fun _ _ _ => False) s t
    ∧ t = { s with objs := t.objs, regs := t.regs, evQueue := t.evQueue, evPending := t.evPending })
  ∧ (∀ (s : State) (n : Nat),
    Up s →
    s.get 0x4200 n 4 = 3 →
    termState s n = 3 →
    Runs (.keyExchangeRetry n) s fun t => t = { ((s.setAux .kxFrag n 0 0).setAux .kxKey n 0 0) with ploams := s.ploams ++ [⟨n / 512, laneOf s n, n % 512, if s.aux .kxKind n = 2 then .strokeKeyRequest else .keyControl, [s.aux .kxIndex n, s.aux .kxGen n], false⟩] })
  ∧ (∀ (s : State) (n : Nat),
    Up s →
    ((s.get 0x4200 n 4 ≠ 1 ∧ s.get 0x4200 n 4 ≠ 2) ∨ (s.keyWaits.any fun w => w.terminal == some n) = true) →
    Runs (.keyExchangeTimeout n) s fun t => t = s)
  ∧ (∀ (s : State) (n : Nat),
    Up s →
    (s.get 0x4200 n 4 ≠ 3 ∨ termState s n ≠ 3) →
    Runs (.keyExchangeRetry n) s fun t => t = s)

/-- The memory commands have their effect (R409, R415 to R418, R420 to R425): a scrub step visits the next word and leaves a
clean one as it is, writes a correctable one back corrected, an uncorrectable one with poison, a pass end counts the pass,
judges its time, tests the banks that reached their threshold and starts the next, a new period is stored, a flip mask is armed
(busy while armed) and disarmed, statistics clear, and a bank self-test is requested, refused with its cause, copies the bank
out, tests, repairs or retires it, copies back, and is abandoned. -/
def Obligations.MemoryCommandsComplete : Prop :=
  (∀ (s : State) (me : Nat),
    Up s →
    scrubbing s me = true →
    let wd := s.aux .scrubAt me
    wd < Objects.memWords me →
    classOf (syndrome (s.word me (readPlace s me wd))) = .clean →
    Runs (.scrubStep me 0) s fun t => t.aux .scrubAt me = wd + 1 ∧ t.get 0x5820 me 3 = (wd + 1) * 100 / Objects.memWords me
    ∧ Only (fun ix k sb => ix = 0x5820 ∧ k = me ∧ sb = 3) (fun a p q => a = .scrubAt ∧ p = me ∧ q = 0) s t
    ∧ OnlyWords (fun _ _ => False) s t
    ∧ t = { s with objs := t.objs, regs := t.regs, mem := t.mem })
  ∧ (∀ (s : State) (me flips : Nat),
    Up s →
    scrubbing s me = true →
    let wd := s.aux .scrubAt me
    wd < Objects.memWords me →
    let cw := Nat.xor (s.word me (readPlace s me wd)) (flips % 2 ^ 72)
    classOf (syndrome cw) = .correctable →
    Runs (.scrubStep me flips) s fun t => t.aux .scrubAt me = wd + 1 ∧ t.word me (readPlace s me wd) = codeWord (deliver cw) 0 ∧ t.get 0x5820 me 5 = wrapAdd 64 (s.get 0x5820 me 5) 1 ∧ t.get 0x5800 me 2 = wrapAdd 64 (s.get 0x5800 me 2) 1 ∧ t.get 0x5800 me 7 = 8 * wd ∧ t.get 0x5800 me 8 = syndrome cw ∧ (s.aux .lastCorr me wd ≠ 0 → s.aux .lastCorr me wd = s.get 0x5820 me 4 → t.get 0x5820 me 7 = wrapAdd 64 (s.get 0x5820 me 7) 1) ∧ t.get 0x5820 me 3 = (wd + 1) * 100 / Objects.memWords me
    ∧ OnlyEv (fun ix k sb => ix = 0x5820 ∧ k = me ∧ sb ∈ [3, 5, 7] ∨ ix = 0x5800 ∧ k = me ∧ sb ∈ [2, 7, 8, 9]) (fun a p q => a = .scrubAt ∧ p = me ∧ q = 0 ∨ a = .lastCorr ∧ p = me ∧ q = wd ∨ me < 14 ∧ a = .bankCorr ∧ p = 16 * me + wd / 32768) s t
    ∧ OnlyWords (fun m w => m = me ∧ w = readPlace s me wd) s t
    ∧ t = { s with objs := t.objs, regs := t.regs, evQueue := t.evQueue, evPending := t.evPending, mem := t.mem, recent := t.recent })
  ∧ (∀ (s : State) (me flips : Nat),
    Up s →
    scrubbing s me = true →
    let wd := s.aux .scrubAt me
    wd < Objects.memWords me →
    let cw := Nat.xor (s.word me (readPlace s me wd)) (flips % 2 ^ 72)
    classOf (syndrome cw) = .uncorrectable →
    Runs (.scrubStep me flips) s fun t => t.aux .scrubAt me = wd + 1 ∧ t.word me (readPlace s me wd) = codeWord (deliver cw) 0x60 ∧ t.get 0x5820 me 6 = wrapAdd 64 (s.get 0x5820 me 6) 1 ∧ t.get 0x5800 me 3 = wrapAdd 64 (s.get 0x5800 me 3) 1 ∧ t.get 0x5800 me 6 = wrapAdd 64 (s.get 0x5800 me 6) 1 ∧ t.get 0x5800 me 7 = 8 * wd ∧ t.get 0x5800 me 8 = syndrome cw ∧ t.get 0x1200 3585 3 = wrapAdd 64 (s.get 0x1200 3585 3) 1 ∧ t.get 0x5820 me 3 = (wd + 1) * 100 / Objects.memWords me
    ∧ OnlyEv (fun ix k sb => ix = 0x5820 ∧ k = me ∧ sb ∈ [3, 6] ∨ ix = 0x5800 ∧ k = me ∧ sb ∈ [3, 6, 7, 8, 9]) (fun a p q => a = .scrubAt ∧ p = me ∧ q = 0) s t
    ∧ OnlyWords (fun m w => m = me ∧ w = readPlace s me wd) s t
    ∧ t = { s with objs := t.objs, regs := t.regs, evQueue := t.evQueue, evPending := t.evPending, mem := t.mem })
  ∧ (∀ (s : State) (me flips : Nat),
    Up s →
    scrubbing s me = true →
    let wd := s.aux .scrubAt me
    wd < Objects.memWords me →
    let cw := Nat.xor (s.word me (readPlace s me wd)) (flips % 2 ^ 72)
    (classOf (syndrome cw) = .poisoned ∨ classOf (syndrome cw) = .clean) →
    Runs (.scrubStep me flips) s fun t => t.aux .scrubAt me = wd + 1 ∧ t.word me (readPlace s me wd) = cw ∧ t.get 0x5800 me 4 = (if classOf (syndrome cw) = .poisoned then wrapAdd 64 (s.get 0x5800 me 4) 1 else s.get 0x5800 me 4) ∧ t.get 0x5820 me 3 = (wd + 1) * 100 / Objects.memWords me
    ∧ Only (fun ix k sb => ix = 0x5820 ∧ k = me ∧ sb = 3 ∨ ix = 0x5800 ∧ k = me ∧ sb ∈ [4, 7, 8, 9]) (fun a p q => a = .scrubAt ∧ p = me ∧ q = 0) s t
    ∧ OnlyWords (fun m w => m = me ∧ w = readPlace s me wd) s t
    ∧ t = { s with objs := t.objs, regs := t.regs, mem := t.mem })
  ∧ (∀ (s : State) (me flips : Nat),
    Up s →
    (scrubbing s me = false ∨ Objects.memWords me ≤ s.aux .scrubAt me) →
    Runs (.scrubStep me flips) s fun t => t = s)
  ∧ (∀ (s : State) (me : Nat),
    Up s →
    scrubbing s me = true →
    s.aux .scrubAt me = Objects.memWords me →
    let allowed := passAllowed s me
    let took := s.now - s.aux .scrubT0 me
    Runs (.scrubPassEnd me) s fun t => t.aux .scrubAt me = 0 ∧ t.get 0x5820 me 4 = wrapAdd 64 (s.get 0x5820 me 4) 1 ∧ t.get 0x5820 me 3 = 0 ∧ t.get 0x5820 me 8 = took / 1000000 % 2 ^ 32 ∧ t.aux .scrubT0 me = s.now ∧ (allowed * 11 < took * 10 → isPending t 3588 me = true) ∧ (took ≤ allowed → isPending t 3588 me = false)
    ∧ OnlyEv (fun ix k sb => ix = 0x5820 ∧ k = me ∧ sb ∈ [3, 4, 8] ∨ me < 14 ∧ ix = 0x5900 ∧ k = me ∧ sb ∈ [2, 3, 5, 6, 7, 9]) (fun a p q => a ∈ [.scrubAt, .scrubT0, .scrubAllow] ∧ p = me ∧ q = 0 ∨ me < 14 ∧ (a ∈ [.bankCorr, .bankReq] ∧ p / 16 = me ∨ a ∈ [.stAban, .stFail, .stRows, .stStart] ∧ p = me)) s t
    ∧ t = { s with objs := t.objs, regs := t.regs, evQueue := t.evQueue, evPending := t.evPending })
  ∧ (∀ (s : State) (me b0 : Nat),
    Up s →
    scrubbing s me = true →
    s.aux .scrubAt me = Objects.memWords me →
    (me < 14 ∧ b0 < 16) →
    let thr := s.get 0x5900 me 4
    (s.aux .bankReq (16 * me + b0) = 1 ∨ (thr ≠ 0 ∧ thr ≤ s.aux .bankCorr (16 * me + b0))) →
    (∀ x ∈ List.range 16, x ≠ b0 → s.aux .bankReq (16 * me + x) ≠ 1 ∧ (thr = 0 ∨ s.aux .bankCorr (16 * me + x) < thr)) →
    testCause s me b0 = 0 →
    Runs (.scrubPassEnd me) s fun t => t.get 0x5900 me 2 = 1 ∧ t.get 0x5900 me 3 = b0 ∧ t.get 0x5900 me 9 = 1 ∧ t.get 0x5900 me 7 = wrapAdd 32 (s.get 0x5900 me 7) 1 ∧ t.aux .bankCorr (16 * me + b0) = 0
    ∧ OnlyEv (fun ix k sb => ix = 0x5820 ∧ k = me ∧ sb ∈ [3, 4, 8] ∨ ix = 0x5900 ∧ k = me ∧ sb ∈ [2, 3, 7, 9]) (fun a p q => a ∈ [.scrubAt, .scrubT0, .scrubAllow] ∧ p = me ∧ q = 0 ∨ a ∈ [.bankCorr, .bankReq] ∧ p / 16 = me ∨ a ∈ [.stAban, .stFail, .stRows, .stStart] ∧ p = me) s t
    ∧ t = { s with objs := t.objs, regs := t.regs, evQueue := t.evQueue, evPending := t.evPending })
  ∧ (∀ (s : State) (me : Nat),
    Up s →
    (scrubbing s me = false ∨ s.aux .scrubAt me ≠ Objects.memWords me) →
    Runs (.scrubPassEnd me) s fun t => t = s)
  ∧ (∀ (s : State) (acc : Acc) (m v : Nat),
    Up s →
    mayWrite acc 0x5820 m 2 v s = true →
    Runs (.passPeriodWrite acc m v) s fun t => t = { (s.put 0x5820 m 2 v).setAux .scrubAllow m 0 (s.now - s.aux .scrubT0 m + v * 1000000000 * (Objects.memWords m - s.aux .scrubAt m) / Objects.memWords m) with answer := ⟨0, 0⟩ })
  ∧ (∀ (s : State) (acc : Acc) (m : Nat),
    Up s →
    mayWrite acc 0x5840 m 4 1 s = true →
    s.get 0x5840 m 4 ≠ 1 →
    Runs (.flipMaskArm acc m) s fun t => t = { s.put 0x5840 m 4 1 with answer := ⟨0, 0⟩ })
  ∧ (∀ (s : State) (acc : Acc) (m : Nat),
    Up s →
    mayWrite acc 0x5840 m 4 1 s = true →
    s.get 0x5840 m 4 = 1 →
    Runs (.flipMaskArm acc m) s fun t => t = { s with answer := ⟨3, 0⟩ })
  ∧ (∀ (s : State) (acc : Acc) (m : Nat),
    Up s →
    mayWrite acc 0x5840 m 4 0 s = true →
    Runs (.flipMaskDisarm acc m) s fun t => t = { s.put 0x5840 m 4 0 with answer := ⟨0, 0⟩ })
  ∧ (∀ (s : State) (acc : Acc) (m v : Nat),
    Up s →
    mayWrite acc 0x5800 m 0x0A v s = true →
    Runs (.memoryStatsClear acc m v) s fun t => t.answer = ⟨0, 0⟩ ∧ (∀ i ∈ List.range 8, t.get 0x5800 m (i + 2) = 0)
    ∧ Only (fun ix k sb => ix = 0x5800 ∧ k = m ∧ 2 ≤ sb ∧ sb ≤ 10) (fun _ _ _ => False) s t
    ∧ t = { s with objs := t.objs, regs := t.regs, answer := t.answer })
  ∧ (∀ (s : State) (acc : Acc) (c bank : Nat),
    Up s →
    mayWrite acc 0x5900 c 1 bank s = true →
    bank ≠ 0xFF →
    testCause s c bank = 0 →
    Runs (.selfTestRequest acc c bank) s fun t => t.answer = ⟨0, 0⟩ ∧ t.get 0x5900 c 2 = 1 ∧ t.get 0x5900 c 3 = bank ∧ t.get 0x5900 c 9 = 1 ∧ t.get 0x5900 c 7 = wrapAdd 32 (s.get 0x5900 c 7) 1
    ∧ Only (fun ix k sb => ix = 0x5900 ∧ k = c ∧ (sb = 1 ∨ sb = 2 ∨ sb = 3 ∨ sb = 7 ∨ sb = 9)) (fun a p q => (a = .stFail ∨ a = .stRows ∨ a = .stAban ∨ a = .stStart) ∧ p = c ∧ q = 0) s t
    ∧ t = { s with objs := t.objs, regs := t.regs, answer := t.answer })
  ∧ (∀ (s : State) (acc : Acc) (c bank : Nat),
    Up s →
    mayWrite acc 0x5900 c 1 bank s = true →
    bank ≠ 0xFF →
    testCause s c bank ≠ 0 →
    Runs (.selfTestRequest acc c bank) s fun t => t.answer = ⟨if testCause s c bank = 5 then 4 else 3, 0⟩ ∧ t.get 0x5900 c 2 = s.get 0x5900 c 2 ∧ t.get 0x5900 c 6 = testCause s c bank ∧ t.get 0x5900 c 5 = 3
    ∧ OnlyEv (fun ix k sb => ix = 0x5900 ∧ k = c ∧ (sb = 1 ∨ sb = 5 ∨ sb = 6)) (fun _ _ _ => False) s t
    ∧ t = { s with objs := t.objs, regs := t.regs, evQueue := t.evQueue, evPending := t.evPending, answer := t.answer })
  ∧ (∀ (s : State) (c : Nat) (fails : List FailBit),
    Up s →
    s.get 0x5900 c 2 = 1 →
    c < 14 →
    s.islandUp c = true →
    Runs (.selfTestStepEnd c fails) s fun t => t.get 0x5900 c 2 = 2
    ∧ OnlyEv (fun ix k sb => ix = 0x5900 ∧ k = c ∧ sb = 2 ∨ ix = 0x5800 ∧ k = c ∧ sb ∈ [2, 3, 4, 6, 7, 8, 9]) (fun _ _ _ => False) s t
    ∧ OnlyWords (fun m w => m = c ∧ w / 32768 = 16) s t
    ∧ t = { s with objs := t.objs, regs := t.regs, evQueue := t.evQueue, evPending := t.evPending, mem := t.mem, recent := t.recent }
    ∧ (Store.wf (fun _ => 0) s.mem = true → (∀ e ∈ s.mem, e.1.sub = 0) → ∀ w, w < 32768 → t.word c (524288 + w) = copied (s.word c (32768 * lentBank s c + w))))
  ∧ (∀ (s : State) (c : Nat) (fails : List FailBit),
    Up s →
    c < 14 →
    s.islandUp c = true →
    s.get 0x5900 c 2 = 2 →
    distinctFails fails = [] →
    Runs (.selfTestStepEnd c fails) s fun t => t.get 0x5900 c 2 = 4 ∧ t.aux .stFail c = 0 ∧ t.get 0x5940 (16 * c + lentBank s c) 2 = 0 ∧ t.get 0x5940 (16 * c + lentBank s c) 3 = 0
    ∧ Only (fun ix k sb => ix = 0x5900 ∧ k = c ∧ sb = 2 ∨ ix = 0x5940 ∧ k = 16 * c + lentBank s c ∧ sb ∈ [2, 3]) (fun a p _ => a = .stFail ∧ p = c) s t
    ∧ t = { s with objs := t.objs, regs := t.regs })
  ∧ (∀ (s : State) (c : Nat) (fails : List FailBit),
    Up s →
    c < 14 →
    s.islandUp c = true →
    s.get 0x5900 c 2 = 2 →
    let fl := distinctFails fails
    let rows := (fl.map fun f => f.word / 128).eraseDups
    let i := 16 * c + lentBank s c
    fl ≠ [] →
    s.get 0x5940 i 1 + rows.length ≤ 8 →
    Runs (.selfTestStepEnd c fails) s fun t => t.get 0x5900 c 2 = 3 ∧ t.aux .stFail c = fl.length ∧ t.aux .stRows c = rows.length ∧ t.get 0x5940 i 2 = fl.length ∧ t.get 0x5940 i 3 = failureLog fl ∧ t.get 0x5940 i 1 = s.get 0x5940 i 1 + rows.length
    ∧ Only (fun ix k sb => ix = 0x5900 ∧ k = c ∧ sb = 2 ∨ ix = 0x5940 ∧ k = i ∧ sb ∈ [1, 2, 3, 4]) (fun a p _ => a ∈ [.stFail, .stRows] ∧ p = c) s t
    ∧ t = { s with objs := t.objs, regs := t.regs })
  ∧ (∀ (s : State) (c : Nat) (fails : List FailBit),
    Up s →
    c < 14 →
    s.islandUp c = true →
    let fl := distinctFails fails
    let rows := (fl.map fun f => f.word / 128).eraseDups
    let i := 16 * c + lentBank s c
    fl ≠ [] →
    ((s.get 0x5900 c 2 = 2 ∧ 8 < s.get 0x5940 i 1 + rows.length) ∨ s.get 0x5900 c 2 = 3) →
    Runs (.selfTestStepEnd c fails) s fun t => t.get 0x5900 c 2 = 0 ∧ t.get 0x5900 c 5 = 2 ∧ t.get 0x5900 c 8 = (s.now - s.aux .stStart c) / 1000 % 2 ^ 32 ∧ t.get 0x5900 c 9 = 2 ∧ t.get 0x5940 i 5 = 1 ∧ t.get 0x1200 3593 3 = wrapAdd 64 (s.get 0x1200 3593 3) 1 ∧ isPending t 3595 c = true
    ∧ OnlyEv (fun ix k sb => ix = 0x5900 ∧ k = c ∧ sb ∈ [2, 5, 8, 9] ∨ ix = 0x5940 ∧ k = i ∧ sb ∈ [2, 3, 5]) (fun a p _ => a = .stFail ∧ p = c) s t
    ∧ t = { s with objs := t.objs, regs := t.regs, evQueue := t.evQueue, evPending := t.evPending })
  ∧ (∀ (s : State) (c : Nat) (fails : List FailBit),
    Up s →
    c < 14 →
    s.islandUp c = true →
    s.get 0x5900 c 2 = 3 →
    distinctFails fails = [] →
    Runs (.selfTestStepEnd c fails) s fun t => t = s.put 0x5900 c 2 4)
  ∧ (∀ (s : State) (c : Nat) (fails : List FailBit),
    Up s →
    c < 14 →
    s.islandUp c = true →
    s.get 0x5900 c 2 = 4 →
    Runs (.selfTestStepEnd c fails) s fun t => t.get 0x5900 c 2 = 0 ∧ t.get 0x5900 c 5 = (if s.aux .stAban c ≠ 0 then 4 else if s.aux .stRows c ≠ 0 then 1 else 0) ∧ t.get 0x5900 c 8 = (s.now - s.aux .stStart c) / 1000 % 2 ^ 32 ∧ t.get 0x5900 c 9 = 0
    ∧ OnlyEv (fun ix k sb => ix = 0x5900 ∧ k = c ∧ sb ∈ [2, 5, 8, 9] ∨ ix = 0x5800 ∧ k = c ∧ sb ∈ [2, 3, 4, 6, 7, 8, 9]) (fun _ _ _ => False) s t
    ∧ OnlyWords (fun m w => m = c ∧ w / 32768 = lentBank s c) s t
    ∧ t = { s with objs := t.objs, regs := t.regs, evQueue := t.evQueue, evPending := t.evPending, mem := t.mem, recent := t.recent })
  ∧ (∀ (s : State) (c : Nat) (fails : List FailBit),
    Up s →
    (14 ≤ c ∨ s.islandUp c = false ∨ s.get 0x5900 c 2 = 0) →
    Runs (.selfTestStepEnd c fails) s fun t => t = s)
  ∧ (∀ (s : State) (acc : Acc) (c : Nat),
    Up s →
    mayWrite acc 0x5900 c 1 0xFF s = true →
    (testRunning s c = false ∨ s.aux .stAban c ≠ 0) →
    Runs (.selfTestAbandon acc c) s fun t => t = { s.put 0x5900 c 1 0 with answer := ⟨0, 0⟩ })
  ∧ (∀ (s : State) (acc : Acc) (c : Nat),
    Up s →
    mayWrite acc 0x5900 c 1 0xFF s = true →
    1 < s.get 0x5900 c 2 →
    s.aux .stAban c = 0 →
    Runs (.selfTestAbandon acc c) s fun t => t.answer = ⟨0, 0⟩ ∧ t.get 0x5900 c 2 = 4 ∧ t.get 0x5900 c 6 = 4 ∧ t.aux .stAban c = 4 ∧ t.get 0x1200 3594 3 = wrapAdd 64 (s.get 0x1200 3594 3) 1
    ∧ OnlyEv (fun ix k sb => ix = 0x5900 ∧ k = c ∧ sb ∈ [1, 2, 6]) (fun a p _ => a = .stAban ∧ p = c) s t
    ∧ t = { s with objs := t.objs, regs := t.regs, evQueue := t.evQueue, evPending := t.evPending, answer := t.answer })
  ∧ (∀ (s : State) (acc : Acc) (c : Nat),
    Up s →
    mayWrite acc 0x5900 c 1 0xFF s = true →
    s.get 0x5900 c 2 = 1 →
    s.aux .stAban c = 0 →
    Runs (.selfTestAbandon acc c) s fun t => t.answer = ⟨0, 0⟩ ∧ t.get 0x5900 c 2 = 0 ∧ t.get 0x5900 c 5 = 4 ∧ t.get 0x5900 c 8 = (s.now - s.aux .stStart c) / 1000 % 2 ^ 32 ∧ t.get 0x5900 c 9 = 0 ∧ t.get 0x5900 c 6 = 4
    ∧ OnlyEv (fun ix k sb => ix = 0x5900 ∧ k = c ∧ sb ∈ [1, 2, 5, 6, 8, 9]) (fun a p _ => a = .stAban ∧ p = c) s t
    ∧ t = { s with objs := t.objs, regs := t.regs, evQueue := t.evQueue, evPending := t.evPending, answer := t.answer })

/-- The upgrade commands have their effect (R403, R404): an upgrade that meets every condition starts with the reload of the
cluster's free spares and lists the new image's features, one that does not is answered busy or out of range; the steps reload
the spares, hand the roles over, reload their engines, hand the roles back and reload the engines without spares, each marking
what it reloaded as running the new image, and after the last the cluster reports its new level; an engine that fails its
self-test stops the upgrade and is retired, and a roll-back of a stopped upgrade turns to the image the cluster ran before. -/
def Obligations.UpgradeCommandsComplete : Prop :=
  (∀ (s : State) (acc : Acc) (c slot : Nat) (features : List (Nat × Nat × Nat × Nat)),
    Up s →
    mayWrite acc 0x5500 0 2 c s = true →
    s.get 0x5500 0 1 = slot →
    (clusters s).contains c = true →
    s.aux .upStep = 0 →
    s.get 0x1301 0 1 ≠ 2 →
    ((clusterSpares s c).any fun e => carries s e || s.get 0x5400 e 2 == 4) = false →
    s.get 0x1300 slot 2 = 1 →
    ((clusters s).any fun x => x != c && !levelFits (s.get 0x5510 x 1) (s.get 0x1300 slot 3)) = false →
    ((List.range 64).any fun m => s.get 0x5590 m 1 != 0 && !levelFits (s.get 0x5590 m 1) (s.get 0x1300 slot 3)) = false →
    stepSpares (s.setAux .upTarget 0 0 slot) c ≠ [] →
    Runs (.upgradeCluster acc c features) s fun t => t.answer = ⟨0, 0⟩ ∧ t.aux .upCluster = c + 1 ∧ t.aux .upTarget = slot ∧ t.aux .upStep = 1 ∧ t.get 0x5500 0 4 = 1 ∧ t.aux .prevImg c = s.get 0x5510 c 2 ∧ (∀ e ∈ stepSpares (s.setAux .upTarget 0 0 slot) c, t.get 0x5400 e 2 = 2)
    ∧ OnlyEv (fun ix k sb => ix = 0x5400 ∧ k ∈ stepSpares (s.setAux .upTarget 0 0 slot) c ∧ sb = 2 ∨ ix = 0x5500 ∧ k = 0 ∧ sb ∈ [2, 4] ∨ ix = 0x55C0 ∧ (∃ f ∈ features, f.1 = k) ∧ sb ∈ [1, 2, 3]) (fun a p _ => a ∈ [.upCluster, .upStep, .upStop, .upTarget] ∨ a = .prevImg ∧ p = c) s t
    ∧ t = { s with objs := t.objs, regs := t.regs, evQueue := t.evQueue, evPending := t.evPending, answer := t.answer })
  ∧ (∀ (s : State) (acc : Acc) (c : Nat) (features : List (Nat × Nat × Nat × Nat)),
    Up s →
    mayWrite acc 0x5500 0 2 c s = true →
    let slot := s.get 0x5500 0 1
    (clusters s).contains c = true →
    let busy := s.aux .upStep ≠ 0 ∨ s.get 0x1301 0 1 = 2 ∨ ((clusterSpares s c).any fun e => carries s e || s.get 0x5400 e 2 == 4) = true
    (busy ∨ s.get 0x1300 slot 2 ≠ 1 ∨ ((clusters s).any fun x => x != c && !levelFits (s.get 0x5510 x 1) (s.get 0x1300 slot 3)) = true ∨ ((List.range 64).any fun m => s.get 0x5590 m 1 != 0 && !levelFits (s.get 0x5590 m 1) (s.get 0x1300 slot 3)) = true) →
    Runs (.upgradeCluster acc c features) s fun t => t = { s.put 0x5500 0 2 (if busy then 3 else 4) with answer := if busy then ⟨3, 0⟩ else ⟨4, 0⟩ })
  ∧ (∀ (s : State) (c : Nat),
    Up s →
    s.aux .upStep = 1 →
    s.aux .upCluster = c + 1 →
    Runs (.upgradeStepEnd none) s fun t => (∀ e ∈ reloading s c, t.aux .engImg e = s.aux .upTarget ∧ t.get 0x5400 e 7 = s.get 0x1300 (s.aux .upTarget) 3)
    ∧ OnlyEv (fun ix k sb => ix = 0x5400 ∧ (k / 16 = c ∧ sb ∈ [1, 2, 7] ∨ sb = 8) ∨ ix = 0x3600 ∧ sb = 19 ∨ ix = 0x5500 ∧ k = 0 ∧ sb = 4 ∨ ix = 0x5510 ∧ k = c ∧ sb ∈ [1, 2] ∨ ix = 0x5580 ∧ k = 0 ∧ sb ∈ [1, 3, 4, 7] ∨ ix = 0x55C0 ∧ sb = 4 ∨ ix = 0x5900 ∧ sb ∈ [2, 5, 6, 8, 9] ∨ ix = 0x5940 ∧ sb = 5 ∨ ix = 0x5800 ∧ sb ∈ [5, 6] ∨ ix = 0x4000 ∧ sb ∈ [4, 5, 6, 7, 10, 12, 14, 15] ∨ ix = 0x4200 ∧ sb ∈ [4, 5] ∨ ix = 0x5140 ∧ sb = 6 ∨ ix = 0x5800 ∧ k = 66 ∧ 2 ≤ sb ∧ sb ≤ 9 ∨ ix = 0x5840 ∧ sb ∈ [4, 5]) (fun a p _ => a ∈ [.engImg] ∧ p / 16 = c ∨ a ∈ [.badWord, .coopPend, .engClaim, .engHolds, .engVac, .featMet, .knellBy, .lvlAbove, .mapStop, .stAban, .unserved, .upStep, .upStop] ∨ a ∈ [.keyAt, .keyMat, .keyNextIdx, .keyPoison, .keySoft, .keyUnacked, .kxFrag, .kxGen, .kxIndex, .kxKey, .kxKind, .kxNext, .kxSeq, .kxTries, .mirSeq, .missMask]) s t
    ∧ OnlyWords (fun m w => m = 66 ∨ s.aux .badWord m w ≠ 0) s t
    ∧ t = { s with objs := t.objs, regs := t.regs, evQueue := t.evQueue, evPending := t.evPending, freeCtr := t.freeCtr, staged := t.staged, keyWaits := t.keyWaits, mem := t.mem, ploams := t.ploams, recent := t.recent, vframes := t.vframes })
  ∧ (∀ (s : State) (c e : Nat),
    Up s →
    s.aux .upStep ≠ 0 →
    s.aux .upCluster = c + 1 →
    e ∈ reloading s c →
    Runs (.upgradeStepEnd (some e)) s fun t => t.get 0x5400 e 2 = 4 ∧ t.aux .upStep = 0 ∧ t.aux .upStop = c + 1 ∧ t.get 0x5500 0 4 = 0 ∧ t.get 0x1200 3083 3 = wrapAdd 64 (s.get 0x1200 3083 3) 1
    ∧ OnlyEv (fun ix k sb => ix = 0x5400 ∧ (k / 16 = c ∧ sb ∈ [1, 2, 7] ∨ sb = 8) ∨ ix = 0x3600 ∧ sb = 19 ∨ ix = 0x5500 ∧ k = 0 ∧ sb = 4 ∨ ix = 0x5510 ∧ k = c ∧ sb ∈ [1, 2] ∨ ix = 0x5580 ∧ k = 0 ∧ sb ∈ [1, 3, 4, 7] ∨ ix = 0x55C0 ∧ sb = 4 ∨ ix = 0x5900 ∧ sb ∈ [2, 5, 6, 8, 9] ∨ ix = 0x5940 ∧ sb = 5 ∨ ix = 0x5800 ∧ sb ∈ [5, 6] ∨ ix = 0x4000 ∧ sb ∈ [4, 5, 6, 7, 10, 12, 14, 15] ∨ ix = 0x4200 ∧ sb ∈ [4, 5] ∨ ix = 0x5140 ∧ sb = 6 ∨ ix = 0x5800 ∧ k = 66 ∧ 2 ≤ sb ∧ sb ≤ 9 ∨ ix = 0x5840 ∧ sb ∈ [4, 5]) (fun a p _ => a ∈ [.engImg] ∧ p / 16 = c ∨ a ∈ [.badWord, .coopPend, .engClaim, .engHolds, .engVac, .featMet, .knellBy, .lvlAbove, .mapStop, .stAban, .unserved, .upStep, .upStop] ∨ a ∈ [.keyAt, .keyMat, .keyNextIdx, .keyPoison, .keySoft, .keyUnacked, .kxFrag, .kxGen, .kxIndex, .kxKey, .kxKind, .kxNext, .kxSeq, .kxTries, .mirSeq, .missMask]) s t
    ∧ OnlyWords (fun m w => m = 66 ∨ s.aux .badWord m w ≠ 0) s t
    ∧ t = { s with objs := t.objs, regs := t.regs, evQueue := t.evQueue, evPending := t.evPending, freeCtr := t.freeCtr, staged := t.staged, keyWaits := t.keyWaits, mem := t.mem, ploams := t.ploams, recent := t.recent, vframes := t.vframes })
  ∧ (∀ (s : State) (c : Nat),
    Up s →
    s.aux .upStep = 2 →
    s.aux .upCluster = c + 1 →
    Runs (.upgradeStepEnd none) s fun t => t.aux .upStep = 3 ∧ t.get 0x5500 0 4 = 3 ∧ (∀ x ∈ handOvers s c, t.get 0x5400 x.2 1 = x.1 ∧ t.get 0x5400 x.2 2 = 0 ∧ t.get 0x5400 x.1 2 = 2)
    ∧ OnlyEv (fun ix k sb => ix = 0x5400 ∧ (k / 16 = c ∧ sb ∈ [1, 2, 7] ∨ sb = 8) ∨ ix = 0x3600 ∧ sb = 19 ∨ ix = 0x5500 ∧ k = 0 ∧ sb = 4 ∨ ix = 0x5510 ∧ k = c ∧ sb ∈ [1, 2] ∨ ix = 0x5580 ∧ k = 0 ∧ sb ∈ [1, 3, 4, 7] ∨ ix = 0x55C0 ∧ sb = 4 ∨ ix = 0x5900 ∧ sb ∈ [2, 5, 6, 8, 9] ∨ ix = 0x5940 ∧ sb = 5 ∨ ix = 0x5800 ∧ sb ∈ [5, 6] ∨ ix = 0x4000 ∧ sb ∈ [4, 5, 6, 7, 10, 12, 14, 15] ∨ ix = 0x4200 ∧ sb ∈ [4, 5] ∨ ix = 0x5140 ∧ sb = 6 ∨ ix = 0x5800 ∧ k = 66 ∧ 2 ≤ sb ∧ sb ≤ 9 ∨ ix = 0x5840 ∧ sb ∈ [4, 5]) (fun a p _ => a ∈ [.engImg] ∧ p / 16 = c ∨ a ∈ [.badWord, .coopPend, .engClaim, .engHolds, .engVac, .featMet, .knellBy, .lvlAbove, .mapStop, .stAban, .unserved, .upStep, .upStop] ∨ a ∈ [.keyAt, .keyMat, .keyNextIdx, .keyPoison, .keySoft, .keyUnacked, .kxFrag, .kxGen, .kxIndex, .kxKey, .kxKind, .kxNext, .kxSeq, .kxTries, .mirSeq, .missMask]) s t
    ∧ OnlyWords (fun m w => m = 66 ∨ s.aux .badWord m w ≠ 0) s t
    ∧ t = { s with objs := t.objs, regs := t.regs, evQueue := t.evQueue, evPending := t.evPending, freeCtr := t.freeCtr, staged := t.staged, keyWaits := t.keyWaits, mem := t.mem, ploams := t.ploams, recent := t.recent, vframes := t.vframes })
  ∧ (∀ (s : State) (c : Nat),
    Up s →
    s.aux .upStep = 3 →
    s.aux .upCluster = c + 1 →
    Runs (.upgradeStepEnd none) s fun t => t.aux .upStep = 4 ∧ t.get 0x5500 0 4 = 4 ∧ (∀ e ∈ reloading s c, t.aux .engImg e = s.aux .upTarget ∧ t.get 0x5400 e 2 = 3 ∧ t.get 0x5400 e 7 = s.get 0x1300 (s.aux .upTarget) 3)
    ∧ OnlyEv (fun ix k sb => ix = 0x5400 ∧ (k / 16 = c ∧ sb ∈ [1, 2, 7] ∨ sb = 8) ∨ ix = 0x3600 ∧ sb = 19 ∨ ix = 0x5500 ∧ k = 0 ∧ sb = 4 ∨ ix = 0x5510 ∧ k = c ∧ sb ∈ [1, 2] ∨ ix = 0x5580 ∧ k = 0 ∧ sb ∈ [1, 3, 4, 7] ∨ ix = 0x55C0 ∧ sb = 4 ∨ ix = 0x5900 ∧ sb ∈ [2, 5, 6, 8, 9] ∨ ix = 0x5940 ∧ sb = 5 ∨ ix = 0x5800 ∧ sb ∈ [5, 6] ∨ ix = 0x4000 ∧ sb ∈ [4, 5, 6, 7, 10, 12, 14, 15] ∨ ix = 0x4200 ∧ sb ∈ [4, 5] ∨ ix = 0x5140 ∧ sb = 6 ∨ ix = 0x5800 ∧ k = 66 ∧ 2 ≤ sb ∧ sb ≤ 9 ∨ ix = 0x5840 ∧ sb ∈ [4, 5]) (fun a p _ => a ∈ [.engImg] ∧ p / 16 = c ∨ a ∈ [.badWord, .coopPend, .engClaim, .engHolds, .engVac, .featMet, .knellBy, .lvlAbove, .mapStop, .stAban, .unserved, .upStep, .upStop] ∨ a ∈ [.keyAt, .keyMat, .keyNextIdx, .keyPoison, .keySoft, .keyUnacked, .kxFrag, .kxGen, .kxIndex, .kxKey, .kxKind, .kxNext, .kxSeq, .kxTries, .mirSeq, .missMask]) s t
    ∧ OnlyWords (fun m w => m = 66 ∨ s.aux .badWord m w ≠ 0) s t
    ∧ t = { s with objs := t.objs, regs := t.regs, evQueue := t.evQueue, evPending := t.evPending, freeCtr := t.freeCtr, staged := t.staged, keyWaits := t.keyWaits, mem := t.mem, ploams := t.ploams, recent := t.recent, vframes := t.vframes })
  ∧ (∀ (s : State) (c : Nat),
    Up s →
    s.aux .upStep = 4 →
    s.aux .upCluster = c + 1 →
    Runs (.upgradeStepEnd none) s fun t => (∀ e ∈ returning s c, t.get 0x5400 e 1 = e ∧ t.get 0x5400 e 2 = 0)
    ∧ OnlyEv (fun ix k sb => ix = 0x5400 ∧ (k / 16 = c ∧ sb ∈ [1, 2, 7] ∨ sb = 8) ∨ ix = 0x3600 ∧ sb = 19 ∨ ix = 0x5500 ∧ k = 0 ∧ sb = 4 ∨ ix = 0x5510 ∧ k = c ∧ sb ∈ [1, 2] ∨ ix = 0x5580 ∧ k = 0 ∧ sb ∈ [1, 3, 4, 7] ∨ ix = 0x55C0 ∧ sb = 4 ∨ ix = 0x5900 ∧ sb ∈ [2, 5, 6, 8, 9] ∨ ix = 0x5940 ∧ sb = 5 ∨ ix = 0x5800 ∧ sb ∈ [5, 6] ∨ ix = 0x4000 ∧ sb ∈ [4, 5, 6, 7, 10, 12, 14, 15] ∨ ix = 0x4200 ∧ sb ∈ [4, 5] ∨ ix = 0x5140 ∧ sb = 6 ∨ ix = 0x5800 ∧ k = 66 ∧ 2 ≤ sb ∧ sb ≤ 9 ∨ ix = 0x5840 ∧ sb ∈ [4, 5]) (fun a p _ => a ∈ [.engImg] ∧ p / 16 = c ∨ a ∈ [.badWord, .coopPend, .engClaim, .engHolds, .engVac, .featMet, .knellBy, .lvlAbove, .mapStop, .stAban, .unserved, .upStep, .upStop] ∨ a ∈ [.keyAt, .keyMat, .keyNextIdx, .keyPoison, .keySoft, .keyUnacked, .kxFrag, .kxGen, .kxIndex, .kxKey, .kxKind, .kxNext, .kxSeq, .kxTries, .mirSeq, .missMask]) s t
    ∧ OnlyWords (fun m w => m = 66 ∨ s.aux .badWord m w ≠ 0) s t
    ∧ t = { s with objs := t.objs, regs := t.regs, evQueue := t.evQueue, evPending := t.evPending, freeCtr := t.freeCtr, staged := t.staged, keyWaits := t.keyWaits, mem := t.mem, ploams := t.ploams, recent := t.recent, vframes := t.vframes })
  ∧ (∀ (s : State) (c : Nat),
    Up s →
    s.aux .upStep = 5 →
    s.aux .upCluster = c + 1 →
    Runs (.upgradeStepEnd none) s fun t => (∀ e ∈ reloading s c, t.aux .engImg e = s.aux .upTarget ∧ t.get 0x5400 e 1 = e ∧ t.get 0x5400 e 2 = 0)
    ∧ OnlyEv (fun ix k sb => ix = 0x5400 ∧ (k / 16 = c ∧ sb ∈ [1, 2, 7] ∨ sb = 8) ∨ ix = 0x3600 ∧ sb = 19 ∨ ix = 0x5500 ∧ k = 0 ∧ sb = 4 ∨ ix = 0x5510 ∧ k = c ∧ sb ∈ [1, 2] ∨ ix = 0x5580 ∧ k = 0 ∧ sb ∈ [1, 3, 4, 7] ∨ ix = 0x55C0 ∧ sb = 4 ∨ ix = 0x5900 ∧ sb ∈ [2, 5, 6, 8, 9] ∨ ix = 0x5940 ∧ sb = 5 ∨ ix = 0x5800 ∧ sb ∈ [5, 6] ∨ ix = 0x4000 ∧ sb ∈ [4, 5, 6, 7, 10, 12, 14, 15] ∨ ix = 0x4200 ∧ sb ∈ [4, 5] ∨ ix = 0x5140 ∧ sb = 6 ∨ ix = 0x5800 ∧ k = 66 ∧ 2 ≤ sb ∧ sb ≤ 9 ∨ ix = 0x5840 ∧ sb ∈ [4, 5]) (fun a p _ => a ∈ [.engImg] ∧ p / 16 = c ∨ a ∈ [.badWord, .coopPend, .engClaim, .engHolds, .engVac, .featMet, .knellBy, .lvlAbove, .mapStop, .stAban, .unserved, .upStep, .upStop] ∨ a ∈ [.keyAt, .keyMat, .keyNextIdx, .keyPoison, .keySoft, .keyUnacked, .kxFrag, .kxGen, .kxIndex, .kxKey, .kxKind, .kxNext, .kxSeq, .kxTries, .mirSeq, .missMask]) s t
    ∧ OnlyWords (fun m w => m = 66 ∨ s.aux .badWord m w ≠ 0) s t
    ∧ t = { s with objs := t.objs, regs := t.regs, evQueue := t.evQueue, evPending := t.evPending, freeCtr := t.freeCtr, staged := t.staged, keyWaits := t.keyWaits, mem := t.mem, ploams := t.ploams, recent := t.recent, vframes := t.vframes })
  ∧ (∀ (s : State) (c : Nat),
    Up s →
    s.aux .upStep = 5 →
    s.aux .upCluster = c + 1 →
    stepSpares s c = [] →
    rolesLeft s c = [] →
    (∀ e ∈ inPlace s c, e ∈ reloading s c) →
    Runs (.upgradeStepEnd none) s fun t => t.aux .upStep = 0 ∧ t.get 0x5500 0 4 = 0 ∧ t.get 0x5510 c 1 = s.get 0x1300 (s.aux .upTarget) 3 ∧ t.get 0x5510 c 2 = s.aux .upTarget ∧ t.get 0x1200 3082 3 = wrapAdd 64 (s.get 0x1200 3082 3) 1
    ∧ OnlyEv (fun ix k sb => ix = 0x5400 ∧ (k / 16 = c ∧ sb ∈ [1, 2, 7] ∨ sb = 8) ∨ ix = 0x3600 ∧ sb = 19 ∨ ix = 0x5500 ∧ k = 0 ∧ sb = 4 ∨ ix = 0x5510 ∧ k = c ∧ sb ∈ [1, 2] ∨ ix = 0x5580 ∧ k = 0 ∧ sb ∈ [1, 3, 4, 7] ∨ ix = 0x55C0 ∧ sb = 4 ∨ ix = 0x5900 ∧ sb ∈ [2, 5, 6, 8, 9] ∨ ix = 0x5940 ∧ sb = 5 ∨ ix = 0x5800 ∧ sb ∈ [5, 6] ∨ ix = 0x4000 ∧ sb ∈ [4, 5, 6, 7, 10, 12, 14, 15] ∨ ix = 0x4200 ∧ sb ∈ [4, 5] ∨ ix = 0x5140 ∧ sb = 6 ∨ ix = 0x5800 ∧ k = 66 ∧ 2 ≤ sb ∧ sb ≤ 9 ∨ ix = 0x5840 ∧ sb ∈ [4, 5]) (fun a p _ => a ∈ [.engImg] ∧ p / 16 = c ∨ a ∈ [.badWord, .coopPend, .engClaim, .engHolds, .engVac, .featMet, .knellBy, .lvlAbove, .mapStop, .stAban, .unserved, .upStep, .upStop] ∨ a ∈ [.keyAt, .keyMat, .keyNextIdx, .keyPoison, .keySoft, .keyUnacked, .kxFrag, .kxGen, .kxIndex, .kxKey, .kxKind, .kxNext, .kxSeq, .kxTries, .mirSeq, .missMask]) s t
    ∧ OnlyWords (fun m w => m = 66 ∨ s.aux .badWord m w ≠ 0) s t
    ∧ t = { s with objs := t.objs, regs := t.regs, evQueue := t.evQueue, evPending := t.evPending, freeCtr := t.freeCtr, staged := t.staged, keyWaits := t.keyWaits, mem := t.mem, ploams := t.ploams, recent := t.recent, vframes := t.vframes })
  ∧ (∀ (s : State) (failed : Option Nat),
    Up s →
    (s.aux .upStep = 0 ∨ ∃ e ∈ failed, e ∉ reloading s (s.aux .upCluster - 1)) →
    Runs (.upgradeStepEnd failed) s fun t => t = s)
  ∧ (∀ (s : State) (acc : Acc) (c : Nat),
    Up s →
    mayWrite acc 0x5500 0 3 1 s = true →
    s.aux .upStep = 0 →
    s.aux .upStop = c + 1 →
    Runs (.rollBack acc) s fun t => t.answer = ⟨0, 0⟩ ∧ t.aux .upCluster = c + 1 ∧ t.aux .upTarget = s.aux .prevImg c ∧ t.aux .upStop = 0
    ∧ OnlyEv (fun ix k sb => ix = 0x5400 ∧ k / 16 = c ∧ sb ∈ [1, 2] ∨ ix = 0x5500 ∧ k = 0 ∧ sb ∈ [3, 4] ∨ ix = 0x5510 ∧ k = c ∧ sb ∈ [1, 2] ∨ ix = 0x5580 ∧ k = 0 ∧ sb ∈ [1, 3, 4, 7] ∨ ix = 0x55C0 ∧ sb = 4 ∨ ix = 0x5900 ∧ sb ∈ [2, 5, 6, 8, 9] ∨ ix = 0x5940 ∧ sb = 5) (fun a _ _ => a ∈ [.featMet, .lvlAbove, .stAban, .upCluster, .upStep, .upStop, .upTarget]) s t
    ∧ t = { s with objs := t.objs, regs := t.regs, evQueue := t.evQueue, evPending := t.evPending, answer := t.answer })
  ∧ (∀ (s : State) (acc : Acc),
    Up s →
    mayWrite acc 0x5500 0 3 1 s = true →
    (s.aux .upStep ≠ 0 ∨ s.aux .upStop = 0) →
    Runs (.rollBack acc) s fun t => t = { s.put 0x5500 0 3 3 with answer := ⟨3, 0⟩ })

/-- The commands of ROL sessions have their effect (R455 to R457, R459, R462, R480, R506): a HELLO of an enabled principal takes
the lowest free slot with fresh keys and is answered, others are counted as dropped, a CONFIRM with the right value and tag
opens the slot with the principal's role and a wrong one frees it, an accepted message moves the session's window, one with a
wrong tag is counted and the 64th within a second closes the session, a stale number is counted, a session is closed by a CLOSE,
by idleness, by command and by a change of its principal, each end releasing all that the session held, and the vendor role is
enabled and disabled. The nonce and the ephemeral secret are free values (log entry 7); the key exchange and the tags are opaque
functions of Config (log entry 107). -/
def Obligations.SessionCommandsComplete : Prop :=
  (∀ (s : State) (m : RolIn) (x pr : Nat),
    Up s →
    (rolForm m.bytes = true ∧ m.bytes.getD 3 0 = 1) →
    (m.bytes.getD 24 0 = 0xFF ∨ m.bytes.getD 24 0 = member s) →
    (rolPayload m.bytes).length = 68 →
    numAt (rolPayload m.bytes) 0 2 = pr →
    mayOpen s pr = true →
    (List.range 63).find? (fun x => s.get 0x1120 x 1 == 0) = some x →
    (List.range 63).countP (fun x => s.get 0x1120 x 1 == 1) < 16 →
    (carrierOf s (209 + x / 32)).isSome = true →
    let secret := s.fresh.2.fresh.1
    let there := numAt (rolPayload m.bytes) 4 64
    let keys := bytesOf 96 (Config.sm2Material (s.get 0x1100 0 6) secret (s.get 0x1110 pr 2) (s.get 0x1110 pr 1) there)
    Runs (.hello m) s fun t => t.get 0x1120 x 1 = 1 ∧ t.get 0x1120 x 2 = pr ∧ t.get 0x1120 x 5 = 0 ∧ t.aux .sesNonce x = s.fresh.1 % 2 ^ 26 * 64 + x ∧ t.get 0x1120 x 4 = m.peer ∧ t.aux .sesAlive x = s.now ∧ t.aux .sesKeys x 0 = numAt keys 0 32 ∧ t.aux .sesKeys x 1 = numAt keys 32 32 ∧ t.aux .sesKeys x 2 = numAt keys 64 16 ∧ t.aux .sesKeys x 3 = Config.sm2Confirm false (s.get 0x1100 0 6) secret (s.get 0x1110 pr 2) (s.get 0x1110 pr 1) there % 2 ^ 256 ∧ t.freeCtr = s.freeCtr + 2 ∧ (m.via = none → t.out.length = s.out.length + 1)
    ∧ Only (fun ix k sb => ix = 0x1120 ∧ k = x ∧ sb ∈ [1, 2, 4, 5, 6, 8, 9, 10] ∨ m.via ≠ none ∧ ix = 0x5140 ∧ sb = 6) (fun a p _ => a ∈ [.sesKeys, .sesNonce, .sesPort, .sesVia, .sesAlive] ∧ p = x) s t
    ∧ t = { s with objs := t.objs, regs := t.regs, out := t.out, vframes := t.vframes, freeCtr := t.freeCtr })
  ∧ (∀ (s : State) (m : RolIn),
    Up s →
    (rolForm m.bytes = true ∧ m.bytes.getD 3 0 = 1) →
    (m.bytes.getD 24 0 = 0xFF ∨ m.bytes.getD 24 0 = member s) →
    (rolPayload m.bytes).length = 68 →
    (mayOpen s (numAt (rolPayload m.bytes) 0 2) = false ∨ (List.range 63).find? (fun x => s.get 0x1120 x 1 == 0) = none ∨ 16 ≤ (List.range 63).countP (fun x => s.get 0x1120 x 1 == 1)) →
    Runs (.hello m) s fun t => t.get 0x1100 0 7 = wrapAdd 64 (s.get 0x1100 0 7) 1
    ∧ OnlyEv (fun ix k sb => ix = 0x1100 ∧ k = 0 ∧ sb = 7) (fun _ _ _ => False) s t
    ∧ t = { s with objs := t.objs, regs := t.regs, evQueue := t.evQueue, evPending := t.evPending, recent := t.recent })
  ∧ (∀ (s : State) (m : RolIn),
    Up s →
    (rolForm m.bytes = false ∨ m.bytes.getD 3 0 ≠ 1) →
    Runs (.hello m) s fun t => t = s.bump 0x1100 0 7)
  ∧ (∀ (s : State) (m0 : RolIn) (x : Nat),
    Up s →
    let m := signed m0 s
    let tag := bytesOf 32 (rolTag (s.aux .sesKeys (slotOf m0) 0) m0.bytes)
    (rolForm m.bytes = true ∧ m.bytes.getD 3 0 = 3) →
    (m.bytes.getD 24 0 = 0xFF ∨ m.bytes.getD 24 0 = member s) →
    slotOf m = x →
    (carrierOf s (209 + x / 32)).isSome = true →
    s.get 0x1120 x 1 = 1 →
    s.aux .sesNonce x = numAt m.bytes 4 4 →
    numOf m = 0 →
    rolPayload m.bytes = bytesOf 32 (s.aux .sesKeys x 3) →
    Runs (.confirm m0 tag) s fun t => t.get 0x1120 x 1 = 2 ∧ t.get 0x1120 x 3 = s.get 0x1110 (s.get 0x1120 x 2) 3 ∧ t.get 0x1120 x 4 = m.peer ∧ t.aux .sesKeys x 3 = 0 ∧ t.aux .sesAlive x = s.now ∧ t.get 0x1200 3984 3 = wrapAdd 64 (s.get 0x1200 3984 3) 1
    ∧ OnlyEv (fun ix k sb => ix = 0x1120 ∧ k = x ∧ (sb = 1 ∨ sb = 3 ∨ sb = 4)) (fun a p q => a ∈ [.sesPort, .sesVia, .sesAlive] ∧ p = x ∧ q = 0 ∨ a = .sesKeys ∧ p = x ∧ q = 3) s t
    ∧ t = { s with objs := t.objs, regs := t.regs, evQueue := t.evQueue, evPending := t.evPending })
  ∧ (∀ (s : State) (m0 : RolIn) (x : Nat),
    Up s →
    let m := signed m0 s
    let tag := bytesOf 32 (rolTag (s.aux .sesKeys (slotOf m0) 0) m0.bytes)
    (rolForm m.bytes = true ∧ m.bytes.getD 3 0 = 3) →
    (m.bytes.getD 24 0 = 0xFF ∨ m.bytes.getD 24 0 = member s) →
    slotOf m = x →
    (carrierOf s (209 + x / 32)).isSome = true →
    s.get 0x1120 x 1 = 1 →
    s.aux .sesNonce x = numAt m.bytes 4 4 →
    (numOf m ≠ 0 ∨ rolPayload m.bytes ≠ bytesOf 32 (s.aux .sesKeys x 3)) →
    Runs (.confirm m0 tag) s fun t => t.get 0x1120 x 1 = 0 ∧ t.get 0x1120 x 2 = 0xFFFF ∧ t.aux .sesNonce x = 0 ∧ t.replies = s.replies.filter (fun r => r.slot != x) ∧ t.subs = s.subs.filter (fun r => r.slot != x) ∧ t.notifies = s.notifies.filter (fun r => r.slot != x) ∧ t.backlog = s.backlog.filter (fun r => r.1 != x) ∧ t.transfers = s.transfers.filter (fun r => r.master != 280 + x)
    ∧ OnlyEv (fun ix k sb => ix = 0x1120 ∧ k = x ∧ sb ∈ [1, 2, 3, 4]) (fun a p _ => a ∈ [.sesNonce, .sesHigh, .sesSeen, .sesSeq, .sesFails, .sesFail0, .sesDrop, .sesPort, .sesVia, .sesAlive, .sesKeys] ∧ p = x) s t
    ∧ t = { s with objs := t.objs, regs := t.regs, evQueue := t.evQueue, evPending := t.evPending, recent := t.recent, backlog := t.backlog, notifies := t.notifies, replies := t.replies, subs := t.subs, transfers := t.transfers })
  ∧ (∀ (s : State) (m0 : RolIn) (x : Nat),
    Up s →
    let m := missigned m0 s
    let tag := bytesOf 32 ((rolTag (s.aux .sesKeys (slotOf m0) 0) m0.bytes + 1) % 2 ^ 256)
    (rolForm m.bytes = true ∧ m.bytes.getD 3 0 = 3) →
    (m.bytes.getD 24 0 = 0xFF ∨ m.bytes.getD 24 0 = member s) →
    slotOf m = x →
    (carrierOf s (209 + x / 32)).isSome = true →
    s.get 0x1120 x 1 = 1 →
    s.aux .sesNonce x = numAt m.bytes 4 4 →
    Runs (.confirm m0 tag) s fun t => t.get 0x1100 0 7 = wrapAdd 64 (s.get 0x1100 0 7) 1 ∧ t.get 0x1120 x 8 = wrapAdd 64 (s.get 0x1120 x 8) 1 ∧ t.get 0x1120 x 1 = 0 ∧ t.get 0x1120 x 2 = 0xFFFF ∧ t.aux .sesNonce x = 0 ∧ t.replies = s.replies.filter (fun r => r.slot != x) ∧ t.subs = s.subs.filter (fun r => r.slot != x) ∧ t.notifies = s.notifies.filter (fun r => r.slot != x) ∧ t.backlog = s.backlog.filter (fun r => r.1 != x) ∧ t.transfers = s.transfers.filter (fun r => r.master != 280 + x)
    ∧ OnlyEv (fun ix k sb => ix = 0x1100 ∧ k = 0 ∧ sb = 7 ∨ ix = 0x1120 ∧ k = x ∧ sb ∈ [1, 2, 3, 4, 8]) (fun a p _ => a ∈ [.sesNonce, .sesHigh, .sesSeen, .sesSeq, .sesFails, .sesFail0, .sesDrop, .sesPort, .sesVia, .sesAlive, .sesKeys] ∧ p = x) s t
    ∧ t = { s with objs := t.objs, regs := t.regs, evQueue := t.evQueue, evPending := t.evPending, recent := t.recent, backlog := t.backlog, notifies := t.notifies, replies := t.replies, subs := t.subs, transfers := t.transfers })
  ∧ (∀ (s : State) (m0 : RolIn) (tag : List Nat) (x : Nat),
    Up s →
    let m := { m0 with bytes := m0.bytes ++ tag }
    (rolForm m.bytes = true ∧ m.bytes.getD 3 0 = 3) →
    (m.bytes.getD 24 0 = 0xFF ∨ m.bytes.getD 24 0 = member s) →
    slotOf m = x →
    (carrierOf s (209 + x / 32)).isSome = true →
    (s.get 0x1120 x 1 ≠ 1 ∨ s.aux .sesNonce x ≠ numAt m.bytes 4 4) →
    Runs (.confirm m0 tag) s fun t => t = s.bump 0x1100 0 7)
  ∧ (∀ (s : State) (x : Nat),
    Up s →
    x < 63 →
    s.get 0x1120 x 1 = 1 →
    s.aux .sesAlive x + 1000000000 ≤ s.now →
    Runs (.handshakeTimeout x) s fun t => t.get 0x1120 x 1 = 0 ∧ t.get 0x1120 x 2 = 0xFFFF ∧ t.aux .sesNonce x = 0 ∧ t.replies = s.replies.filter (fun r => r.slot != x) ∧ t.subs = s.subs.filter (fun r => r.slot != x) ∧ t.notifies = s.notifies.filter (fun r => r.slot != x) ∧ t.backlog = s.backlog.filter (fun r => r.1 != x) ∧ t.transfers = s.transfers.filter (fun r => r.master != 280 + x)
    ∧ OnlyEv (fun ix k sb => ix = 0x1120 ∧ k = x ∧ sb ∈ [1, 2, 3, 4]) (fun a p _ => a ∈ [.sesNonce, .sesHigh, .sesSeen, .sesSeq, .sesFails, .sesFail0, .sesDrop, .sesPort, .sesVia, .sesAlive, .sesKeys] ∧ p = x) s t
    ∧ t = { s with objs := t.objs, regs := t.regs, evQueue := t.evQueue, evPending := t.evPending, recent := t.recent, backlog := t.backlog, notifies := t.notifies, replies := t.replies, subs := t.subs, transfers := t.transfers })
  ∧ (∀ (s : State) (x : Nat),
    Up s →
    (63 ≤ x ∨ s.get 0x1120 x 1 ≠ 1 ∨ s.now < s.aux .sesAlive x + 1000000000) →
    Runs (.handshakeTimeout x) s fun t => t = s)
  ∧ (∀ (s : State) (m0 : RolIn),
    Up s →
    let m := signed m0 s
    sessionTakes 0x30 m s = true →
    Runs (.keepalive m) s fun t => t = taken m s ∧ t.aux .sesAlive (slotOf m) = s.now ∧ windowCode t (slotOf m) (numOf m) = 1)
  ∧ (∀ (s : State) (m0 : RolIn),
    Up s →
    let m := missigned m0 s
    sessionTakes 0x30 m s = true →
    (s.aux .sesFails (slotOf m) < 63 ∨ s.aux .sesFail0 (slotOf m) + 1000000000 ≤ s.now) →
    let x := slotOf m
    let first := s.aux .sesFails x = 0 ∨ s.aux .sesFail0 x + 1000000000 ≤ s.now
    Runs (.keepalive m) s fun t => t.get 0x1100 0 7 = wrapAdd 64 (s.get 0x1100 0 7) 1 ∧ t.get 0x1120 x 8 = wrapAdd 64 (s.get 0x1120 x 8) 1 ∧ t.aux .sesFails x = (if first then 1 else s.aux .sesFails x + 1)
    ∧ OnlyEv (fun ix k sb => ix = 0x1100 ∧ k = 0 ∧ sb = 7 ∨ ix = 0x1120 ∧ k = x ∧ sb = 8) (fun a p q => a ∈ [.sesFails, .sesFail0] ∧ p = x ∧ q = 0) s t
    ∧ t = { s with objs := t.objs, regs := t.regs, evQueue := t.evQueue, evPending := t.evPending, recent := t.recent })
  ∧ (∀ (s : State) (m0 : RolIn),
    Up s →
    let m := missigned m0 s
    sessionTakes 0x30 m s = true →
    let x := slotOf m
    63 ≤ s.aux .sesFails x →
    s.now < s.aux .sesFail0 x + 1000000000 →
    Runs (.keepalive m) s fun t => t.get 0x1100 0 7 = wrapAdd 64 (s.get 0x1100 0 7) 1 ∧ t.get 0x1120 x 1 = 0 ∧ t.get 0x1120 x 2 = 0xFFFF ∧ t.aux .sesNonce x = 0 ∧ t.replies = s.replies.filter (fun r => r.slot != x) ∧ t.subs = s.subs.filter (fun r => r.slot != x) ∧ t.notifies = s.notifies.filter (fun r => r.slot != x) ∧ t.backlog = s.backlog.filter (fun r => r.1 != x) ∧ t.transfers = s.transfers.filter (fun r => r.master != 280 + x) ∧ t.get 0x1200 3985 3 = wrapAdd 64 (s.get 0x1200 3985 3) 1
    ∧ OnlyEv (fun ix k sb => ix = 0x1100 ∧ k = 0 ∧ sb = 7 ∨ ix = 0x1120 ∧ k = x ∧ sb ∈ [1, 2, 3, 4, 8] ∨ ix = 0x5140 ∧ sb = 6) (fun a p _ => a ∈ [.sesNonce, .sesHigh, .sesSeen, .sesSeq, .sesFails, .sesFail0, .sesDrop, .sesPort, .sesVia, .sesAlive, .sesKeys] ∧ p = x) s t
    ∧ t = { s with objs := t.objs, regs := t.regs, evQueue := t.evQueue, evPending := t.evPending, recent := t.recent, out := t.out, vframes := t.vframes, backlog := t.backlog, notifies := t.notifies, replies := t.replies, subs := t.subs, transfers := t.transfers })
  ∧ (∀ (s : State) (m0 : RolIn),
    Up s →
    let m := signed m0 s
    let x := slotOf m
    (rolForm m.bytes = true ∧ m.bytes.getD 3 0 = 0x30) →
    (m.bytes.getD 24 0 = 0xFF ∨ m.bytes.getD 24 0 = member s) →
    (carrierOf s (209 + x / 32)).isSome = true →
    (2 ≤ s.get 0x1120 x 1 ∧ s.aux .sesNonce x = numAt m.bytes 4 4) →
    windowCode s x (numOf m) = 2 →
    Runs (.keepalive m) s fun t => t = (routeSession x m s).bump 0x1120 x 9)
  ∧ (∀ (s : State) (m0 : RolIn),
    Up s →
    let m := signed m0 s
    sessionTakes 0x31 m s = true →
    let x := slotOf m
    Runs (.close m) s fun t => t.get 0x1120 x 1 = 0 ∧ t.get 0x1120 x 2 = 0xFFFF ∧ t.aux .sesNonce x = 0 ∧ t.replies = s.replies.filter (fun r => r.slot != x) ∧ t.subs = s.subs.filter (fun r => r.slot != x) ∧ t.notifies = s.notifies.filter (fun r => r.slot != x) ∧ t.backlog = s.backlog.filter (fun r => r.1 != x) ∧ t.transfers = s.transfers.filter (fun r => r.master != 280 + x) ∧ t.get 0x1200 3985 3 = wrapAdd 64 (s.get 0x1200 3985 3) 1
    ∧ OnlyEv (fun ix k sb => ix = 0x1120 ∧ k = x ∧ sb ∈ [1, 2, 3, 4]) (fun a p _ => a ∈ [.sesNonce, .sesHigh, .sesSeen, .sesSeq, .sesFails, .sesFail0, .sesDrop, .sesPort, .sesVia, .sesAlive, .sesKeys] ∧ p = x) s t
    ∧ t = { s with objs := t.objs, regs := t.regs, evQueue := t.evQueue, evPending := t.evPending, backlog := t.backlog, notifies := t.notifies, replies := t.replies, subs := t.subs, transfers := t.transfers })
  ∧ (∀ (s : State) (x : Nat),
    Up s →
    x < 63 →
    2 ≤ s.get 0x1120 x 1 →
    s.aux .sesAlive x + s.get 0x1100 0 5 * 1000000000 ≤ s.now →
    Runs (.sessionIdleTimeout x) s fun t => t.get 0x1120 x 1 = 0 ∧ t.get 0x1120 x 2 = 0xFFFF ∧ t.aux .sesNonce x = 0 ∧ t.replies = s.replies.filter (fun r => r.slot != x) ∧ t.subs = s.subs.filter (fun r => r.slot != x) ∧ t.notifies = s.notifies.filter (fun r => r.slot != x) ∧ t.backlog = s.backlog.filter (fun r => r.1 != x) ∧ t.transfers = s.transfers.filter (fun r => r.master != 280 + x) ∧ t.get 0x1200 3985 3 = wrapAdd 64 (s.get 0x1200 3985 3) 1 ∧ (sessionVia s x = none → t.out.length = s.out.length + 1)
    ∧ OnlyEv (fun ix k sb => ix = 0x1120 ∧ k = x ∧ sb ∈ [1, 2, 3, 4] ∨ ix = 0x5140 ∧ sb = 6) (fun a p _ => a ∈ [.sesNonce, .sesHigh, .sesSeen, .sesSeq, .sesFails, .sesFail0, .sesDrop, .sesPort, .sesVia, .sesAlive, .sesKeys] ∧ p = x) s t
    ∧ t = { s with objs := t.objs, regs := t.regs, evQueue := t.evQueue, evPending := t.evPending, out := t.out, vframes := t.vframes, backlog := t.backlog, notifies := t.notifies, replies := t.replies, subs := t.subs, transfers := t.transfers })
  ∧ (∀ (s : State) (x : Nat),
    Up s →
    (63 ≤ x ∨ s.get 0x1120 x 1 < 2 ∨ s.now < s.aux .sesAlive x + s.get 0x1100 0 5 * 1000000000) →
    Runs (.sessionIdleTimeout x) s fun t => t = s)
  ∧ (∀ (s : State) (acc : Acc) (x : Nat),
    Up s →
    mayWrite acc 0x1120 x 7 1 s = true →
    2 ≤ s.get 0x1120 x 1 →
    Runs (.sessionCloseCommand acc x) s fun t => t.answer = ⟨0, 0⟩ ∧ t.get 0x1120 x 1 = 0 ∧ t.get 0x1120 x 2 = 0xFFFF ∧ t.aux .sesNonce x = 0 ∧ t.replies = s.replies.filter (fun r => r.slot != x) ∧ t.subs = s.subs.filter (fun r => r.slot != x) ∧ t.notifies = s.notifies.filter (fun r => r.slot != x) ∧ t.backlog = s.backlog.filter (fun r => r.1 != x) ∧ t.transfers = s.transfers.filter (fun r => r.master != 280 + x) ∧ t.get 0x1200 3985 3 = wrapAdd 64 (s.get 0x1200 3985 3) 1 ∧ (sessionVia s x = none → t.out.length = s.out.length + 1)
    ∧ OnlyEv (fun ix k sb => ix = 0x1120 ∧ k = x ∧ sb ∈ [1, 2, 3, 4] ∨ ix = 0x1120 ∧ k = x ∧ sb = 7 ∨ ix = 0x5140 ∧ sb = 6) (fun a p _ => a ∈ [.sesNonce, .sesHigh, .sesSeen, .sesSeq, .sesFails, .sesFail0, .sesDrop, .sesPort, .sesVia, .sesAlive, .sesKeys] ∧ p = x) s t
    ∧ t = { s with objs := t.objs, regs := t.regs, evQueue := t.evQueue, evPending := t.evPending, out := t.out, vframes := t.vframes, backlog := t.backlog, notifies := t.notifies, replies := t.replies, subs := t.subs, transfers := t.transfers, answer := t.answer })
  ∧ (∀ (s : State) (acc : Acc) (x : Nat),
    Up s →
    mayWrite acc 0x1120 x 7 1 s = true →
    s.get 0x1120 x 1 < 2 →
    Runs (.sessionCloseCommand acc x) s fun t => t = { s.put 0x1120 x 7 0 with answer := ⟨0, 0⟩ })
  ∧ (∀ (s : State) (acc : Acc) (pr sub v : Nat),
    Up s →
    (sub = 3 ∨ (sub = 4 ∧ v = 0)) →
    mayWrite acc 0x1110 pr sub v s = true →
    Runs (.principalChange acc pr sub v) s fun t => t.answer = ⟨0, 0⟩ ∧ t.get 0x1110 pr sub = v ∧ (∀ x ∈ openSessions s, s.get 0x1120 x 2 = pr → t.get 0x1120 x 1 = 0 ∧ t.aux .sesNonce x = 0)
    ∧ OnlyEv (fun ix k sb => ix = 0x1110 ∧ k = pr ∧ sb = sub ∨ ix = 0x1120 ∧ s.get 0x1120 k 2 = pr ∧ sb ∈ [1, 2, 3, 4] ∨ ix = 0x5140 ∧ sb = 6) (fun a p _ => a ∈ [.sesNonce, .sesHigh, .sesSeen, .sesSeq, .sesFails, .sesFail0, .sesDrop, .sesPort, .sesVia, .sesAlive, .sesKeys] ∧ s.get 0x1120 p 2 = pr) s t
    ∧ t = { s with objs := t.objs, regs := t.regs, evQueue := t.evQueue, evPending := t.evPending, answer := t.answer, out := t.out, vframes := t.vframes, backlog := t.backlog, notifies := t.notifies, replies := t.replies, subs := t.subs, transfers := t.transfers })
  ∧ (∀ (s : State) (acc : Acc) (pr sub v : Nat),
    Up s →
    sub ≠ 3 →
    (sub ≠ 4 ∨ v ≠ 0) →
    mayWrite acc 0x1110 pr sub v s = true →
    Runs (.principalChange acc pr sub v) s fun t => t = { s.put 0x1110 pr sub v with answer := ⟨0, 0⟩ })
  ∧ (∀ (s : State) (acc : Acc),
    Up s →
    mayWrite acc 0x1112 0 1 1 s = true →
    Runs (.vendorEnable acc) s fun t => t.answer = ⟨0, 0⟩ ∧ t.aux .vendorOn = 1
    ∧ Only (fun ix k sb => ix = 0x1112 ∧ k = 0 ∧ sb = 1) (fun a p q => a = .vendorOn ∧ p = 0 ∧ q = 0) s t
    ∧ t = { s with objs := t.objs, regs := t.regs, answer := t.answer })
  ∧ (∀ (s : State) (acc : Acc),
    Up s →
    mayWrite acc 0x1112 0 1 0 s = true →
    Runs (.vendorDisable acc) s fun t => t.answer = ⟨0, 0⟩ ∧ t.aux .vendorOn = 0 ∧ (∀ x ∈ openSessions s, s.get 0x1120 x 3 = 3 → t.get 0x1120 x 1 = 0 ∧ t.aux .sesNonce x = 0)
    ∧ OnlyEv (fun ix k sb => ix = 0x1120 ∧ s.get 0x1120 k 3 = 3 ∧ sb ∈ [1, 2, 3, 4] ∨ ix = 0x5140 ∧ sb = 6 ∨ ix = 0x1112 ∧ k = 0 ∧ sb = 1) (fun a p q => a = .vendorOn ∧ p = 0 ∧ q = 0 ∨ a ∈ [.sesNonce, .sesHigh, .sesSeen, .sesSeq, .sesFails, .sesFail0, .sesDrop, .sesPort, .sesVia, .sesAlive, .sesKeys] ∧ s.get 0x1120 p 3 = 3) s t
    ∧ t = { s with objs := t.objs, regs := t.regs, evQueue := t.evQueue, evPending := t.evPending, answer := t.answer, out := t.out, vframes := t.vframes, backlog := t.backlog, notifies := t.notifies, replies := t.replies, subs := t.subs, transfers := t.transfers })

/-- The requests of a session have their effect (R458 to R462, R469): each executed request is counted, answered once and kept,
a repeated one answered again from the cache, one of a frozen session and one that cannot be parsed by an ERROR, reads and
writes are accesses of the session's role as its master, a block joins its transfer and a transfer without blocks for 1 s is
abandoned, a subscription is taken, cancelled or refused, a NOTIFY is released by its acknowledgement and sent again without one
for 200 ms, the fifth closing the session, and a message for another member is relayed and its answer awaited for 10 ms. -/
def Obligations.RequestCommandsComplete : Prop :=
  (∀ (s : State) (m0 : RolIn),
    Up s →
    let m := signed m0 s
    sessionTakes 0x10 m s = true →
    let x := slotOf m
    s.get 0x1120 x 1 = 2 →
    s.aux .sesSeq x < 2 ^ 63 →
    Runs (.read m) s fun t => t.get 0x1120 x 5 = wrapAdd 64 (s.get 0x1120 x 5) 1 ∧ t.replies.any (fun r => r.slot == x && r.seq == numOf m && r.msgs.length == 1) = true ∧ t.aux .sesSeq x = s.aux .sesSeq x + 1 ∧ windowCode t x (numOf m) = 1 ∧ t = (match parseItems 64 (rolPayload m.bytes) with
      | none => reply x (numOf m) [(0x3F, [0, 4, 0, 0])] (counted m s)
      | some l => reply x (numOf m) (if (runReads x 0 0 l (counted m s)).2.get 0x1120 x 1 = 2 then [(0x11, (runReads x 0 0 l (counted m s)).1)] else [(0x3F, [0, 9, 0, 0])]) (runReads x 0 0 l (counted m s)).2))
  ∧ (∀ (s : State) (m0 : RolIn) (i : Item),
    Up s →
    let m := signed m0 s
    sessionTakes 0x10 m s = true →
    let x := slotOf m
    s.get 0x1120 x 1 = 2 →
    s.aux .sesSeq x < 2 ^ 63 →
    parseItems 64 (rolPayload m.bytes) = some [i] →
    i.sealing = false →
    widthAt i.index i.inst i.sub ≤ 1372 →
    let r := readItem (sessionAcc (counted m s) x) i.index i.inst i.sub (counted m s)
    r.2.2.get 0x1120 x 1 = 2 →
    Runs (.read m) s fun t => t = reply x (numOf m) [(0x11, itemOut i r.1 r.2.1)] r.2.2)
  ∧ (∀ (s : State) (m0 : RolIn),
    Up s →
    let m := signed m0 s
    sessionTakes 0x10 m s = true →
    let x := slotOf m
    s.get 0x1120 x 1 = 3 →
    s.aux .sesSeq x < 2 ^ 63 →
    Runs (.read m) s fun t => t = reply x (numOf m) [(0x3F, [0, 9, 0, 0])] (counted m s))
  ∧ (∀ (s : State) (m0 : RolIn),
    Up s →
    let m := signed m0 s
    let x := slotOf m
    (rolForm m.bytes = true ∧ m.bytes.getD 3 0 = 0x10) →
    (m.bytes.getD 24 0 = 0xFF ∨ m.bytes.getD 24 0 = member s) →
    (carrierOf s (209 + x / 32)).isSome = true →
    (2 ≤ s.get 0x1120 x 1 ∧ s.aux .sesNonce x = numAt m.bytes 4 4) →
    windowCode s x (numOf m) = 1 →
    Runs (.read m) s fun t => t = overAll ((s.replies.filter fun r => r.slot == x && r.seq == numOf m).flatMap Reply.msgs) (emitSession x) (routeSession x m s))
  ∧ (∀ (s : State) (m0 : RolIn) (bw : WriteIn) (i : Item),
    Up s →
    let m := signed m0 s
    sessionTakes 0x12 m s = true →
    let x := slotOf m
    s.get 0x1120 x 1 = 2 →
    s.aux .sesSeq x < 2 ^ 63 →
    parseItems 128 (rolPayload m.bytes) = some [i] →
    (unsealedKey i = false ∨ i.sealing = true) →
    let data := if i.sealing then sealData (s.aux .sesKeys x 2) (s.aux .sesNonce x) (numOf m) 0 i.data else i.data
    let r := writeItem (sessionAcc (counted m s) x) i.index i.inst i.sub data bw (counted m s)
    r.2.get 0x1120 x 1 = 2 →
    Runs (.write m bw) s fun t => t.aux .sesSeq x = r.2.aux .sesSeq x + 1 ∧ t.replies.any (fun r => r.slot == x && r.seq == numOf m) = true ∧ t = reply x (numOf m) [(0x13, itemOut i r.1 [])] r.2)
  ∧ (∀ (s : State) (m0 : RolIn) (bw : WriteIn),
    Up s →
    let m := signed m0 s
    sessionTakes 0x12 m s = true →
    let x := slotOf m
    s.get 0x1120 x 1 = 2 →
    s.aux .sesSeq x < 2 ^ 63 →
    Runs (.write m bw) s fun t => t = (match parseItems 128 (rolPayload m.bytes) with
      | none => reply x (numOf m) [(0x3F, [0, 4, 0, 0])] (counted m s)
      | some l => match (runWrites x (numOf m) bw 0 l (counted m s)).2.get 0x1120 x 1 with
        | 2 => reply x (numOf m) [(0x13, (runWrites x (numOf m) bw 0 l (counted m s)).1)] (runWrites x (numOf m) bw 0 l (counted m s)).2
        | 3 => reply x (numOf m) [(0x3F, [0, 9, 0, 0])] (runWrites x (numOf m) bw 0 l (counted m s)).2
        | _ => (runWrites x (numOf m) bw 0 l (counted m s)).2))
  ∧ (∀ (s : State) (m0 : RolIn) (bw : WriteIn) (i : Item),
    Up s →
    let m := signed m0 s
    sessionTakes 0x12 m s = true →
    let x := slotOf m
    s.get 0x1120 x 1 = 2 →
    s.aux .sesSeq x < 2 ^ 63 →
    parseItems 128 (rolPayload m.bytes) = some [i] →
    i.sealing = false →
    unsealedKey i = true →
    frozen s (280 + x) = false →
    Runs (.write m bw) s fun t => t = reply x (numOf m) [(0x13, itemOut i 2 [])] { counted m s with answer := ⟨2, 0⟩ })
  ∧ (∀ (s : State) (m0 : RolIn),
    Up s →
    let m := signed m0 s
    sessionTakes 0x14 m s = true →
    let x := slotOf m
    s.get 0x1120 x 1 = 2 →
    s.aux .sesSeq x < 2 ^ 63 →
    let b := rolPayload m.bytes
    b.length = 20 →
    (numAt b 16 4 = 0 ∨ 65536 < numAt b 16 4) →
    Runs (.blockRead m) s fun t => t = reply x (numOf m) [(0x15, bytesOf 4 (numAt b 12 4) ++ [0, 0] ++ bytesOf 2 4)] { counted m s with answer := ⟨4, 0⟩ })
  ∧ (∀ (s : State) (m0 : RolIn),
    Up s →
    let m := signed m0 s
    sessionTakes 0x14 m s = true →
    let x := slotOf m
    s.get 0x1120 x 1 = 2 →
    s.aux .sesSeq x < 2 ^ 63 →
    let b := rolPayload m.bytes
    b.length = 20 →
    let r := readRange (sessionAcc (counted m s) x) (numAt b 0 2) (numAt b 4 4) (b.getD 2 0) (numAt b 12 4) (numAt b 16 4) id (counted m s)
    r.1 = 0 →
    r.2.2.get 0x1120 x 1 = 2 →
    bit 7 (b.getD 3 0) = false →
    Runs (.blockRead m) s fun t => t.aux .sesSeq x = s.aux .sesSeq x + (r.2.1.length + 1023) / 1024 ∧ t.replies.any (fun y => y.slot == x && y.seq == numOf m && y.msgs.length == (r.2.1.length + 1023) / 1024) = true ∧ t = reply x (numOf m) ((List.range ((r.2.1.length + 1023) / 1024)).map fun i => (0x15, bytesOf 4 (numAt b 12 4 + 1024 * i) ++ bytesOf 2 ((r.2.1.drop (1024 * i)).take 1024).length ++ [0, 0] ++ (r.2.1.drop (1024 * i)).take 1024)) r.2.2)
  ∧ (∀ (s : State) (m0 : RolIn),
    Up s →
    let m := signed m0 s
    sessionTakes 0x14 m s = true →
    let x := slotOf m
    s.get 0x1120 x 1 = 2 →
    s.aux .sesSeq x < 2 ^ 63 →
    let b := rolPayload m.bytes
    b.length = 20 →
    let r := readRange (sessionAcc (counted m s) x) (numAt b 0 2) (numAt b 4 4) (b.getD 2 0) (numAt b 12 4) (numAt b 16 4) id (counted m s)
    r.1 ≠ 0 →
    r.2.2.get 0x1120 x 1 = 2 →
    Runs (.blockRead m) s fun t => t = reply x (numOf m) [(0x15, bytesOf 4 (numAt b 12 4) ++ [0, 0] ++ bytesOf 2 r.1)] r.2.2)
  ∧ (∀ (s : State) (m0 : RolIn),
    Up s →
    let m := signed m0 s
    sessionTakes 0x14 m s = true →
    let x := slotOf m
    s.get 0x1120 x 1 = 2 →
    s.aux .sesSeq x < 2 ^ 63 →
    (rolPayload m.bytes).length ≠ 20 →
    Runs (.blockRead m) s fun t => t = reply x (numOf m) [(0x3F, [0, 4, 0, 0])] (counted m s))
  ∧ (∀ (s : State) (m0 : RolIn) (bw : WriteIn),
    Up s →
    let m := signed m0 s
    sessionTakes 0x16 m s = true →
    let x := slotOf m
    s.get 0x1120 x 1 = 2 →
    s.aux .sesSeq x < 2 ^ 63 →
    let b := rolPayload m.bytes
    b.length = 24 + numAt b 14 2 →
    (numAt b 0 2 ≠ 0x4000 ∨ b.getD 2 0 ≠ 2 ∨ bit 7 (b.getD 3 0) = true) →
    let data := if bit 7 (b.getD 3 0) then sealData (s.aux .sesKeys x 2) (s.aux .sesNonce x) (numOf m) 0 (b.drop 24) else b.drop 24
    let r := takeBlock (sessionAcc (counted m s) x) (numAt b 12 2) (numAt b 0 2) (numAt b 4 4) (b.getD 2 0) (numAt b 16 4) (numAt b 20 4) data bw (counted m s)
    r.2.2.get 0x1120 x 1 = 2 →
    Runs (.blockWrite m bw) s fun t => t.transfers = r.2.2.transfers ∧ t.aux .sesSeq x = r.2.2.aux .sesSeq x + 1 ∧ t.answer = r.2.2.answer ∧ t = reply x (numOf m) [(0x17, bytesOf 2 (numAt b 12 2) ++ bytesOf 2 r.1 ++ bytesOf 4 r.2.1)] r.2.2)
  ∧ (∀ (s : State) (m0 : RolIn) (bw : WriteIn),
    Up s →
    let m := signed m0 s
    sessionTakes 0x16 m s = true →
    let x := slotOf m
    s.get 0x1120 x 1 = 2 →
    s.aux .sesSeq x < 2 ^ 63 →
    let b := rolPayload m.bytes
    (b.length ≠ 24 + numAt b 14 2 ∨ (numAt b 0 2 = 0x4000 ∧ b.getD 2 0 = 2 ∧ bit 7 (b.getD 3 0) = false)) →
    Runs (.blockWrite m bw) s fun t => t = (if b.length ≠ 24 + numAt b 14 2 then reply x (numOf m) [(0x3F, [0, 4, 0, 0])] (counted m s) else reply x (numOf m) [(0x17, bytesOf 2 (numAt b 12 2) ++ bytesOf 2 2 ++ bytesOf 4 0)] { counted m s with answer := ⟨2, 0⟩ }))
  ∧ (∀ (s : State) (x num : Nat) (u : Transfer),
    Up s →
    transferOf s (280 + x) num = some u →
    s.aux .sesSeq x < 2 ^ 63 →
    u.last + 1000000000 ≤ s.now →
    Runs (.blockTransferTimeout x num) s fun t => t.transfers = s.transfers.filter (fun u => !(u.master == 280 + x && u.num == num)) ∧ t.aux .sesSeq x = s.aux .sesSeq x + 1 ∧ (sessionVia s x = none → t.out.length = s.out.length + 1)
    ∧ Only (fun ix _ sb => sessionVia s x ≠ none ∧ ix = 0x5140 ∧ sb = 6) (fun a p q => a = .sesSeq ∧ p = x ∧ q = 0) s t
    ∧ t = { s with objs := t.objs, regs := t.regs, transfers := t.transfers, out := t.out, vframes := t.vframes })
  ∧ (∀ (s : State) (x num : Nat),
    Up s →
    (transferOf s (280 + x) num).all (fun u => decide (s.now < u.last + 1000000000)) = true →
    Runs (.blockTransferTimeout x num) s fun t => t = s)
  ∧ (∀ (s : State) (m0 : RolIn) (num low first last clears : Nat),
    Up s →
    let m := signed m0 s
    sessionTakes 0x20 m s = true →
    let x := slotOf m
    s.get 0x1120 x 1 = 2 →
    s.aux .sesSeq x < 2 ^ 63 →
    rolPayload m.bytes = [num, 1, low, clears, first / 256, first % 256, last / 256, last % 256] →
    (num ≤ 15 ∧ 1 ≤ low ∧ low ≤ 3 ∧ first ≤ last ∧ last < 65536) →
    Runs (.subscribe m) s fun t => t = reply x (numOf m) [(0x21, [num, 0, 0, 0])] { counted m s with subs := s.subs.filter (fun u => !(u.slot == x && u.num == num)) ++ [⟨x, num, low, bit 0 clears, first, last⟩] })
  ∧ (∀ (s : State) (m0 : RolIn) (num low first last clears : Nat),
    Up s →
    let m := signed m0 s
    sessionTakes 0x20 m s = true →
    let x := slotOf m
    s.get 0x1120 x 1 = 2 →
    s.aux .sesSeq x < 2 ^ 63 →
    rolPayload m.bytes = [num, 0, low, clears, first / 256, first % 256, last / 256, last % 256] →
    num ≤ 15 →
    Runs (.subscribe m) s fun t => t = reply x (numOf m) [(0x21, [num, 0, 0, 0])] { counted m s with subs := s.subs.filter (fun u => !(u.slot == x && u.num == num)) })
  ∧ (∀ (s : State) (m0 : RolIn),
    Up s →
    let m := signed m0 s
    sessionTakes 0x20 m s = true →
    let x := slotOf m
    s.get 0x1120 x 1 = 2 →
    s.aux .sesSeq x < 2 ^ 63 →
    let b := rolPayload m.bytes
    (b.length ≠ 8 ∨ 15 < b.getD 0 0 ∨ 1 < b.getD 1 0 ∨ (b.getD 1 0 = 1 ∧ (b.getD 2 0 = 0 ∨ 3 < b.getD 2 0 ∨ numAt b 6 2 < numAt b 4 2))) →
    Runs (.subscribe m) s fun t => t = reply x (numOf m) [(0x21, [b.getD 0 0, 0, 0, 4])] (counted m s))
  ∧ (∀ (s : State) (m0 : RolIn),
    Up s →
    let m := signed m0 s
    sessionTakes 0x23 m s = true →
    let x := slotOf m
    (s.backlog.any fun b => b.1 == x) = false →
    Runs (.notifyAck m) s fun t => t = { taken m s with notifies := s.notifies.filter fun n => !(n.slot == x && n.seq == numAt m.bytes 16 8) })
  ∧ (∀ (s : State) (x seq : Nat) (n : Notify),
    Up s →
    s.notifies.find? (fun n => n.slot == x && n.seq == seq) = some n →
    n.tries < 5 →
    n.sent + 200000000 ≤ s.now →
    Runs (.notifyRetry x seq) s fun t => t.notifies = (s.notifies.map fun y => if y.slot = x ∧ y.seq = seq then { y with tries := y.tries + 1, sent := s.now } else y) ∧ (sessionVia s x = none → t.out = s.out ++ [⟨.rol, [s.aux .sesPort x, s.get 0x1120 x 4] ++ n.bytes⟩])
    ∧ Only (fun ix _ sb => sessionVia s x ≠ none ∧ ix = 0x5140 ∧ sb = 6) (fun _ _ _ => False) s t
    ∧ t = { s with objs := t.objs, regs := t.regs, notifies := t.notifies, out := t.out, vframes := t.vframes })
  ∧ (∀ (s : State) (x seq : Nat) (n : Notify),
    Up s →
    s.notifies.find? (fun n => n.slot == x && n.seq == seq) = some n →
    5 ≤ n.tries →
    2 ≤ s.get 0x1120 x 1 →
    n.sent + 200000000 ≤ s.now →
    Runs (.notifyRetry x seq) s fun t => t.get 0x1120 x 1 = 0 ∧ t.get 0x1120 x 2 = 0xFFFF ∧ t.aux .sesNonce x = 0 ∧ t.replies = s.replies.filter (fun r => r.slot != x) ∧ t.subs = s.subs.filter (fun r => r.slot != x) ∧ t.notifies = s.notifies.filter (fun r => r.slot != x) ∧ t.backlog = s.backlog.filter (fun r => r.1 != x) ∧ t.transfers = s.transfers.filter (fun r => r.master != 280 + x) ∧ t.get 0x1200 3985 3 = wrapAdd 64 (s.get 0x1200 3985 3) 1
    ∧ OnlyEv (fun ix k sb => ix = 0x1120 ∧ k = x ∧ sb ∈ [1, 2, 3, 4] ∨ ix = 0x5140 ∧ sb = 6) (fun a p _ => a ∈ [.sesNonce, .sesHigh, .sesSeen, .sesSeq, .sesFails, .sesFail0, .sesDrop, .sesPort, .sesVia, .sesAlive, .sesKeys] ∧ p = x) s t
    ∧ t = { s with objs := t.objs, regs := t.regs, evQueue := t.evQueue, evPending := t.evPending, out := t.out, vframes := t.vframes, backlog := t.backlog, notifies := t.notifies, replies := t.replies, subs := t.subs, transfers := t.transfers })
  ∧ (∀ (s : State) (x seq : Nat),
    Up s →
    (s.notifies.find? fun n => n.slot == x && n.seq == seq).all (fun n => decide (s.now < n.sent + 200000000)) = true →
    Runs (.notifyRetry x seq) s fun t => t = s)
  ∧ (∀ (s : State) (m : RolIn) (target : Nat) (l : List RelayEntry),
    Up s →
    rolForm m.bytes = true →
    m.bytes.getD 24 0 = target →
    target < 64 →
    target ≠ member s →
    (activePort s target).isSome = true →
    (touchRelay ⟨m.peer, m.port, target, s.now, if awaitsAnswer (m.bytes.getD 3 0) then [(numAt m.bytes 4 4, numAt m.bytes 8 8, s.now)] else []⟩ s = some l) →
    Runs (.relayForward m none) s fun t => t.vframes.length = s.vframes.length + 1 ∧ t = sendFrame target 3 6 0 0 0 (relayHead m.peer (member s) m.port 0 ++ m.bytes) (24 + m.bytes.length) { s with relays := l })
  ∧ (∀ (s : State) (m : RolIn) (target : Nat),
    Up s →
    rolForm m.bytes = true →
    m.bytes.getD 24 0 = target →
    (target ≠ 0xFF ∧ target ≠ member s) →
    (64 ≤ target ∨ activePort s target = none) →
    (m.via = none) →
    Runs (.relayForward m none) s fun t => t.out = s.out ++ [⟨.rol, [m.port, m.peer] ++ (rolBody 0x3F (numAt m.bytes 4 4) 0 (numAt m.bytes 8 8) 0x80 [0, 11, 0, 0] ++ zeroTag)⟩] ∧ t.get 0x1200 3989 3 = wrapAdd 64 (s.get 0x1200 3989 3) 1
    ∧ OnlyEv (fun _ _ _ => False) (fun _ _ _ => False) s t
    ∧ t = { s with objs := t.objs, regs := t.regs, evQueue := t.evQueue, evPending := t.evPending, out := t.out })
  ∧ (∀ (s : State) (m : RolIn) (target : Nat),
    Up s →
    rolForm m.bytes = true →
    m.bytes.getD 24 0 = target →
    target < 64 →
    target ≠ member s →
    (activePort s target).isSome = true →
    (touchRelay ⟨m.peer, m.port, target, s.now, if awaitsAnswer (m.bytes.getD 3 0) then [(numAt m.bytes 4 4, numAt m.bytes 8 8, s.now)] else []⟩ s = none) →
    Runs (.relayForward m none) s fun t => t = s.bump 0x1100 0 7)
  ∧ (∀ (s : State) (m : RolIn) (answerOf : Option Nat),
    Up s →
    (rolForm m.bytes = false ∨ (∃ g ∈ answerOf, (s.relays.any fun r => r.peer == m.peer && r.port == m.port && r.target == g) = false) ∨ (answerOf = none ∧ (m.bytes.getD 24 0 = 0xFF ∨ m.bytes.getD 24 0 = member s))) →
    Runs (.relayForward m answerOf) s fun t => t = (if rolForm m.bytes then s else s.bump 0x1100 0 7))
  ∧ (∀ (s : State) (m : RolIn) (target : Nat),
    Up s →
    rolForm m.bytes = true →
    (s.relays.any fun r => r.peer == m.peer && r.port == m.port && r.target == target) = true →
    Runs (.relayForward m (some target)) s fun t => t = { s with out := s.out ++ [⟨.rol, [m.port, m.peer] ++ m.bytes⟩], relays := s.relays.map fun r => if r.peer == m.peer && r.port == m.port && r.target == target then ⟨r.peer, r.port, r.target, s.now, r.waits.filter fun w => !((w.1 == numAt m.bytes 4 4 || w.1 == 0) && w.2.1 == numAt m.bytes 16 8)⟩ else r })
  ∧ (∀ (s : State) (target seq session peer : Nat) (r : RelayEntry),
    Up s →
    let late := fun w : Nat × Nat × Ns => w.1 == session && w.2.1 == seq && decide (w.2.2 + 10000000 ≤ s.now)
    s.relays.find? (fun r => r.peer == peer && r.target == target && r.waits.any late) = some r →
    Runs (.relayTimeout false target seq session peer) s fun t => t.relays = (s.relays.map fun y => if y = r then { y with waits := y.waits.filter fun w => !late w } else y) ∧ t.out = s.out ++ [⟨.rol, [r.port, peer] ++ (rolBody 0x3F session 0 seq 0x80 [0, 10, 0, 0] ++ zeroTag)⟩] ∧ t.get 0x1200 3989 3 = wrapAdd 64 (s.get 0x1200 3989 3) 1
    ∧ OnlyEv (fun _ _ _ => False) (fun _ _ _ => False) s t
    ∧ t = { s with objs := t.objs, regs := t.regs, evQueue := t.evQueue, evPending := t.evPending, relays := t.relays, out := t.out })
  ∧ (∀ (s : State) (target seq session peer : Nat),
    Up s →
    (s.relays.any fun r => r.peer == peer && r.target == target && r.waits.any fun w => w.1 == session && w.2.1 == seq && decide (w.2.2 + 10000000 ≤ s.now)) = false →
    Runs (.relayTimeout false target seq session peer) s fun t => t = s)
  ∧ (∀ (s : State) (target seq session peer : Nat),
    Up s →
    (s.hostWaits.find? fun w => w.member == target && w.seq == seq).all (fun w => decide (s.now < w.sent + 10000000)) = true →
    Runs (.relayTimeout true target seq session peer) s fun t => t = s)
  ∧ (∀ (s : State) (target seq session peer : Nat) (w : HostWait),
    Up s →
    s.hostWaits.find? (fun w => w.member == target && w.seq == seq) = some w →
    w.mailbox = true →
    w.sent + 10000000 ≤ s.now →
    Runs (.relayTimeout true target seq session peer) s fun t => t.hostWaits = s.hostWaits.erase w ∧ t.aux .mbox w.unit 3 = mailWord false (bit 16 (s.aux .mbox w.unit 3)) 10 ∧ t.get 0x1200 3989 3 = wrapAdd 64 (s.get 0x1200 3989 3) 1
    ∧ OnlyEv (fun _ _ _ => False) (fun a p q => a = .mbox ∧ p = w.unit ∧ q = 3) s t
    ∧ t = { s with objs := t.objs, regs := t.regs, evQueue := t.evQueue, evPending := t.evPending, hostWaits := t.hostWaits, out := t.out })

/-- The commands of the host interface have their effect (R463 to R468, R470): a mailbox access for this member ends at once
with its status and data, a doorbell moves the producer index, a descriptor is run as an access of its channel's role and
completes at the consumer index, a packet is sent and its buffer returned, a received frame fills the posted entry or is dropped
and counted, a channel is enabled with empty rings, drained, and disabled at the drain limit, a request to another member is
sent and waits, or ends with status 11 without a path and 10 without its tag, and a relayed request is answered once. Each
refusal completes with its status. -/
def Obligations.MailboxAndDmaCommandsComplete : Prop :=
  (∀ (s : State) (m w0 w1 w2 : Nat) (irq : Bool),
    Up s →
    m < 4 →
    bit 31 (s.aux .mbox m 3) = false →
    w0 < 2 ^ 24 →
    field 15 0 w2 ≤ 128 →
    widthAt (field 15 0 w0) w1 (field 23 16 w0) ≤ 128 →
    (field 23 16 w2 = 0xFF ∨ field 23 16 w2 = member s) →
    let s1 := ((s.setAux .mbox m 0 w0).setAux .mbox m 1 w1).setAux .mbox m 2 w2 |>.setAux .mbox m 3 (mailWord true irq 0)
    let r := readItem ⟨roleOf (s.get 0x1140 0 1), 256 + m⟩ (field 15 0 w0) w1 (field 23 16 w0) s1
    Runs (.mailboxRead m w0 w1 w2 irq) s fun t => t = mailDone m r.1 ((hostOrder (typeAt (field 15 0 w0) w1 (field 23 16 w0)) r.2.1).take (field 15 0 w2)) r.2.2 ∧ t.aux .mbox m 3 = mailWord false irq r.1 ∧ t.objs = r.2.2.objs ∧ t.out = (if irq then r.2.2.out ++ [⟨.msix, [25]⟩] else r.2.2.out))
  ∧ (∀ (s : State) (m w0 w1 w2 : Nat) (irq : Bool) (data : List Nat) (w : WriteIn),
    Up s →
    m < 4 →
    bit 31 (s.aux .mbox m 3) = false →
    w0 < 2 ^ 24 →
    field 15 0 w2 ≤ 128 →
    (field 23 16 w2 = 0xFF ∨ field 23 16 w2 = member s) →
    let s1 := (((s.setAux .mbox m 0 w0).setAux .mbox m 1 w1).setAux .mbox m 2 w2).setAux .mboxData m 0 (ofBytes (data.take 128 ++ List.replicate (128 - data.length) 0)) |>.setAux .mbox m 3 (mailWord true irq 0)
    let r := writeItem ⟨roleOf (s.get 0x1140 0 1), 256 + m⟩ (field 15 0 w0) w1 (field 23 16 w0) (hostOrder (typeAt (field 15 0 w0) w1 (field 23 16 w0)) ((data.take (field 15 0 w2)).take (field 15 0 w2))) w s1
    Runs (.mailboxWrite m w0 w1 w2 irq data w) s fun t => t = mailDone m r.1 [] r.2 ∧ t.aux .mbox m 3 = mailWord false (bit 16 (r.2.aux .mbox m 3)) r.1 ∧ t.objs = r.2.objs ∧ t.mem = r.2.mem)
  ∧ (∀ (s : State) (m w0 w1 w2 : Nat) (irq : Bool),
    Up s →
    (4 ≤ m ∨ bit 31 (s.aux .mbox m 3) = true) →
    Runs (.mailboxRead m w0 w1 w2 irq) s fun t => t = s)
  ∧ (∀ (s : State) (m w0 w1 w2 : Nat) (irq : Bool),
    Up s →
    m < 4 →
    bit 31 (s.aux .mbox m 3) = false →
    (field 31 24 w0 ≠ 0 ∨ 128 < field 15 0 w2 ∨ 128 < widthAt (field 15 0 w0) w1 (field 23 16 w0)) →
    let s1 := ((s.setAux .mbox m 0 w0).setAux .mbox m 1 w1).setAux .mbox m 2 w2 |>.setAux .mbox m 3 (mailWord true irq 0)
    Runs (.mailboxRead m w0 w1 w2 irq) s fun t => t = mailDone m 4 [] s1 ∧ t.aux .mbox m 3 = mailWord false irq 4 ∧ t.out = (if irq then s.out ++ [⟨.msix, [25]⟩] else s.out)
    ∧ Only (fun _ _ _ => False) (fun a p _ => a = .mbox ∧ p = m) s t
    ∧ t = { s with objs := t.objs, regs := t.regs, out := t.out })
  ∧ (∀ (s : State) (m w0 w1 w2 : Nat) (irq : Bool),
    Up s →
    m < 4 →
    bit 31 (s.aux .mbox m 3) = false →
    w0 < 2 ^ 24 →
    field 15 0 w2 ≤ 128 →
    widthAt (field 15 0 w0) w1 (field 23 16 w0) ≤ 128 →
    (field 23 16 w2 ≠ 0xFF ∧ field 23 16 w2 ≠ member s) →
    (64 ≤ field 23 16 w2 ∨ activePort s (field 23 16 w2) = none) →
    let s1 := ((s.setAux .mbox m 0 w0).setAux .mbox m 1 w1).setAux .mbox m 2 w2 |>.setAux .mbox m 3 (mailWord true irq 0)
    Runs (.mailboxRead m w0 w1 w2 irq) s fun t => t = mailDone m 11 [] (raise 3989 (field 23 16 w2) 11 1 s1) ∧ t.aux .mbox m 3 = mailWord false irq 11
    ∧ OnlyEv (fun _ _ _ => False) (fun a p _ => a = .mbox ∧ p = m) s t
    ∧ t = { s with objs := t.objs, regs := t.regs, evQueue := t.evQueue, evPending := t.evPending, out := t.out })
  ∧ (∀ (s : State) (m w0 w1 w2 : Nat) (irq : Bool),
    Up s →
    m < 4 →
    bit 31 (s.aux .mbox m 3) = false →
    w0 < 2 ^ 24 →
    field 15 0 w2 ≤ 128 →
    widthAt (field 15 0 w0) w1 (field 23 16 w0) ≤ 128 →
    (field 23 16 w2 ≠ 0xFF ∧ field 23 16 w2 ≠ member s) →
    (field 23 16 w2 < 64 ∧ (activePort s (field 23 16 w2)).isSome = true) →
    let s1 := ((s.setAux .mbox m 0 w0).setAux .mbox m 1 w1).setAux .mbox m 2 w2 |>.setAux .mbox m 3 (mailWord true irq 0)
    let peer := field 23 16 w2
    let d : DmaDesc := ⟨1, 0, 0, field 15 0 w0, field 23 16 w0, peer, w1, field 15 0 w2, 0, 0, 0, 0⟩
    let seq := wrapAdd 64 (s.aux .relaySeq peer) 1
    let body := hostBody seq (s.get 0x1140 0 1) (descBytes d) []
    (domainTag body s1).1.isSome = true →
    let s2 := (domainTag body s1).2
    let bytes := hostBytes 1 body ((domainTag body s1).1.getD 0)
    Runs (.mailboxRead m w0 w1 w2 irq) s fun t => t.hostWaits = s.hostWaits ++ [⟨peer, seq, true, m, d, s2.now⟩] ∧ t.aux .mbox m 3 = mailWord true irq 0 ∧ t.aux .relaySeq peer = seq ∧ t = { (sendFrame peer 3 6 0 0 0 (bytes.set 18 (member s2)) bytes.length s2).setAux .relaySeq peer 0 seq with hostWaits := t.hostWaits })
  ∧ (∀ (s : State) (m w0 w1 w2 : Nat) (irq : Bool),
    Up s →
    m < 4 →
    bit 31 (s.aux .mbox m 3) = false →
    w0 < 2 ^ 24 →
    field 15 0 w2 ≤ 128 →
    widthAt (field 15 0 w0) w1 (field 23 16 w0) ≤ 128 →
    (field 23 16 w2 ≠ 0xFF ∧ field 23 16 w2 ≠ member s) →
    (field 23 16 w2 < 64 ∧ (activePort s (field 23 16 w2)).isSome = true) →
    let s1 := ((s.setAux .mbox m 0 w0).setAux .mbox m 1 w1).setAux .mbox m 2 w2 |>.setAux .mbox m 3 (mailWord true irq 0)
    let peer := field 23 16 w2
    let d : DmaDesc := ⟨1, 0, 0, field 15 0 w0, field 23 16 w0, peer, w1, field 15 0 w2, 0, 0, 0, 0⟩
    let body := hostBody (wrapAdd 64 (s.aux .relaySeq peer) 1) (s.get 0x1140 0 1) (descBytes d) []
    (domainTag body s1).1 = none →
    Runs (.mailboxRead m w0 w1 w2 irq) s fun t => t = mailDone m 10 [] (raise 3989 peer 10 1 (domainTag body s1).2) ∧ t.aux .mbox m 3 = mailWord false irq 10)
  ∧ (∀ (s : State) (m w0 w1 w2 : Nat) (irq : Bool) (data : List Nat) (w : WriteIn),
    Up s →
    (4 ≤ m ∨ bit 31 (s.aux .mbox m 3) = true) →
    Runs (.mailboxWrite m w0 w1 w2 irq data w) s fun t => t = s)
  ∧ (∀ (s : State) (m w0 w1 w2 : Nat) (irq : Bool) (data : List Nat) (w : WriteIn),
    Up s →
    m < 4 →
    bit 31 (s.aux .mbox m 3) = false →
    (field 31 24 w0 ≠ 0 ∨ 128 < field 15 0 w2) →
    let s1 := (((s.setAux .mbox m 0 w0).setAux .mbox m 1 w1).setAux .mbox m 2 w2).setAux .mboxData m 0 (ofBytes (data.take 128 ++ List.replicate (128 - data.length) 0)) |>.setAux .mbox m 3 (mailWord true irq 0)
    Runs (.mailboxWrite m w0 w1 w2 irq data w) s fun t => t = mailDone m 4 [] s1 ∧ t.aux .mbox m 3 = mailWord false irq 4 ∧ t.out = (if irq then s.out ++ [⟨.msix, [25]⟩] else s.out)
    ∧ Only (fun _ _ _ => False) (fun a p q => a = .mbox ∧ p = m ∨ a = .mboxData ∧ p = m ∧ q = 0) s t
    ∧ t = { s with objs := t.objs, regs := t.regs, out := t.out })
  ∧ (∀ (s : State) (m w0 w1 w2 : Nat) (irq : Bool) (data : List Nat) (w : WriteIn),
    Up s →
    m < 4 →
    bit 31 (s.aux .mbox m 3) = false →
    w0 < 2 ^ 24 →
    field 15 0 w2 ≤ 128 →
    (field 23 16 w2 ≠ 0xFF ∧ field 23 16 w2 ≠ member s) →
    (64 ≤ field 23 16 w2 ∨ activePort s (field 23 16 w2) = none) →
    let s1 := (((s.setAux .mbox m 0 w0).setAux .mbox m 1 w1).setAux .mbox m 2 w2).setAux .mboxData m 0 (ofBytes (data.take 128 ++ List.replicate (128 - data.length) 0)) |>.setAux .mbox m 3 (mailWord true irq 0)
    Runs (.mailboxWrite m w0 w1 w2 irq data w) s fun t => t = mailDone m 11 [] (raise 3989 (field 23 16 w2) 11 1 s1) ∧ t.aux .mbox m 3 = mailWord false irq 11
    ∧ OnlyEv (fun _ _ _ => False) (fun a p q => a = .mbox ∧ p = m ∨ a = .mboxData ∧ p = m ∧ q = 0) s t
    ∧ t = { s with objs := t.objs, regs := t.regs, evQueue := t.evQueue, evPending := t.evPending, out := t.out })
  ∧ (∀ (s : State) (m w0 w1 w2 : Nat) (irq : Bool) (data : List Nat) (w : WriteIn),
    Up s →
    m < 4 →
    bit 31 (s.aux .mbox m 3) = false →
    w0 < 2 ^ 24 →
    field 15 0 w2 ≤ 128 →
    (field 23 16 w2 ≠ 0xFF ∧ field 23 16 w2 ≠ member s) →
    (field 23 16 w2 < 64 ∧ (activePort s (field 23 16 w2)).isSome = true) →
    let s1 := (((s.setAux .mbox m 0 w0).setAux .mbox m 1 w1).setAux .mbox m 2 w2).setAux .mboxData m 0 (ofBytes (data.take 128 ++ List.replicate (128 - data.length) 0)) |>.setAux .mbox m 3 (mailWord true irq 0)
    let peer := field 23 16 w2
    let d : DmaDesc := ⟨2, 0, 0, field 15 0 w0, field 23 16 w0, peer, w1, field 15 0 w2, 0, 0, 0, 0⟩
    let seq := wrapAdd 64 (s.aux .relaySeq peer) 1
    let body := hostBody seq (s.get 0x1140 0 1) (descBytes d) (data.take (field 15 0 w2))
    (domainTag body s1).1.isSome = true →
    let s2 := (domainTag body s1).2
    let bytes := hostBytes 1 body ((domainTag body s1).1.getD 0)
    Runs (.mailboxWrite m w0 w1 w2 irq data w) s fun t => t.hostWaits = s.hostWaits ++ [⟨peer, seq, true, m, d, s2.now⟩] ∧ t.aux .mbox m 3 = mailWord true irq 0 ∧ t.aux .relaySeq peer = seq ∧ t = { (sendFrame peer 3 6 0 0 0 (bytes.set 18 (member s2)) bytes.length s2).setAux .relaySeq peer 0 seq with hostWaits := t.hostWaits })
  ∧ (∀ (s : State) (m w0 w1 w2 : Nat) (irq : Bool) (data : List Nat) (w : WriteIn),
    Up s →
    m < 4 →
    bit 31 (s.aux .mbox m 3) = false →
    w0 < 2 ^ 24 →
    field 15 0 w2 ≤ 128 →
    (field 23 16 w2 ≠ 0xFF ∧ field 23 16 w2 ≠ member s) →
    (field 23 16 w2 < 64 ∧ (activePort s (field 23 16 w2)).isSome = true) →
    let s1 := (((s.setAux .mbox m 0 w0).setAux .mbox m 1 w1).setAux .mbox m 2 w2).setAux .mboxData m 0 (ofBytes (data.take 128 ++ List.replicate (128 - data.length) 0)) |>.setAux .mbox m 3 (mailWord true irq 0)
    let peer := field 23 16 w2
    let d : DmaDesc := ⟨2, 0, 0, field 15 0 w0, field 23 16 w0, peer, w1, field 15 0 w2, 0, 0, 0, 0⟩
    let body := hostBody (wrapAdd 64 (s.aux .relaySeq peer) 1) (s.get 0x1140 0 1) (descBytes d) (data.take (field 15 0 w2))
    (domainTag body s1).1 = none →
    Runs (.mailboxWrite m w0 w1 w2 irq data w) s fun t => t = mailDone m 10 [] (raise 3989 peer 10 1 (domainTag body s1).2) ∧ t.aux .mbox m 3 = mailWord false irq 10)
  ∧ (∀ (s : State) (h v : Nat),
    Up s →
    h < 16 →
    Runs (.dmaDoorbell h v) s fun t => t = s.setAux .dmaProd h 0 (v % s.get 0x1150 h 5))
  ∧ (∀ (s : State) (h : Nat) (desc : List Nat),
    Up s →
    h < 16 →
    (s.get 0x1150 h 2 = 2 ∧ s.get 0x1150 h 9 ≠ s.aux .dmaProd h ∧ s.aux .dmaBusy h = 0) →
    let d := dmaDesc desc
    d.op = 1 →
    d.flags < 4 →
    (d.target = 0xFF ∨ d.target = member s) →
    let r := readItem ⟨roleOf (s.get 0x1150 h 3), 256 + h⟩ d.index d.inst d.sub s
    let bytes := (hostOrder (typeAt d.index d.inst d.sub) r.2.1).take d.length
    let s1 := (if bytes.isEmpty then r.2.2 else r.2.2.send .dmaData ([h, d.host] ++ bytes))
    Runs (.dmaRead h desc) s fun t => t = dmaComplete h d.flags r.1 (if r.1 ≠ 0 then 0 else bytes.length) s1 ∧ t.get 0x1150 h 9 = (s.get 0x1150 h 9 + 1) % s.get 0x1150 h 5 ∧ t.get 0x1150 h 0x0B = wrapAdd 64 (s.get 0x1150 h 0x0B) 1 ∧ t.answer = r.2.2.answer ∧ t.mem = r.2.2.mem)
  ∧ (∀ (s : State) (h : Nat) (desc : List Nat) (data : List Nat) (w : WriteIn),
    Up s →
    h < 16 →
    (s.get 0x1150 h 2 = 2 ∧ s.get 0x1150 h 9 ≠ s.aux .dmaProd h ∧ s.aux .dmaBusy h = 0) →
    let d := dmaDesc desc
    d.op = 2 →
    d.flags < 4 →
    (d.target = 0xFF ∨ d.target = member s) →
    let r := writeItem ⟨roleOf (s.get 0x1150 h 3), 256 + h⟩ d.index d.inst d.sub (hostOrder (typeAt d.index d.inst d.sub) (data.take d.length)) w s
    Runs (.dmaWrite h desc data w) s fun t => t = dmaComplete h d.flags r.1 (if r.1 ≠ 0 then 0 else d.length) r.2 ∧ t.get 0x1150 h 9 = (r.2.get 0x1150 h 9 + 1) % r.2.get 0x1150 h 5 ∧ t.get 0x1150 h 0x0B = wrapAdd 64 (r.2.get 0x1150 h 0x0B) 1 ∧ t.answer = r.2.answer ∧ t.mem = r.2.mem)
  ∧ (∀ (s : State) (h : Nat) (desc : List Nat),
    Up s →
    h < 16 →
    (s.get 0x1150 h 2 = 2 ∧ s.get 0x1150 h 9 ≠ s.aux .dmaProd h ∧ s.aux .dmaBusy h = 0) →
    let d := dmaDesc desc
    d.op = 3 →
    d.flags < 4 →
    (d.target = 0xFF ∨ d.target = member s) →
    let r := readRange ⟨roleOf (s.get 0x1150 h 3), 256 + h⟩ d.index d.inst d.sub d.offset d.length (hostOrder (typeAt d.index d.inst d.sub)) s
    let bytes := r.2.1
    let s1 := (if bytes.isEmpty then r.2.2 else r.2.2.send .dmaData ([h, d.host] ++ bytes))
    Runs (.dmaBlockRead h desc) s fun t => t = dmaComplete h d.flags r.1 (if r.1 ≠ 0 then 0 else bytes.length) s1 ∧ t.get 0x1150 h 9 = (s.get 0x1150 h 9 + 1) % s.get 0x1150 h 5 ∧ t.get 0x1150 h 0x0B = wrapAdd 64 (s.get 0x1150 h 0x0B) 1 ∧ t.answer = r.2.2.answer ∧ t.mem = r.2.2.mem)
  ∧ (∀ (s : State) (h : Nat) (desc : List Nat) (data : List Nat) (w : WriteIn),
    Up s →
    h < 16 →
    (s.get 0x1150 h 2 = 2 ∧ s.get 0x1150 h 9 ≠ s.aux .dmaProd h ∧ s.aux .dmaBusy h = 0) →
    let d := dmaDesc desc
    d.op = 4 →
    d.flags < 4 →
    (d.target = 0xFF ∨ d.target = member s) →
    d.length ≤ 2 ^ 24 →
    ((Objects.locate d.index d.inst).all (fun x => !transferOpen s x.1 x.2 d.sub) = true ∨ frozen s (256 + h) = true) →
    let r := writeItem ⟨roleOf (s.get 0x1150 h 3), 256 + h⟩ d.index d.inst d.sub (hostOrder (typeAt d.index d.inst d.sub) (data.take d.length)) w s
    Runs (.dmaBlockWrite h desc data w) s fun t => t = dmaComplete h d.flags r.1 (if r.1 ≠ 0 then 0 else d.length) r.2 ∧ t.get 0x1150 h 9 = (r.2.get 0x1150 h 9 + 1) % r.2.get 0x1150 h 5 ∧ t.get 0x1150 h 0x0B = wrapAdd 64 (r.2.get 0x1150 h 0x0B) 1 ∧ t.answer = r.2.answer ∧ t.mem = r.2.mem)
  ∧ (∀ (s : State) (h : Nat) (desc : List Nat) (addresses payload : List Nat) (pick delay : Nat),
    Up s →
    h < 16 →
    (s.get 0x1150 h 2 = 2 ∧ s.get 0x1150 h 9 ≠ s.aux .dmaProd h ∧ s.aux .dmaBusy h = 0) →
    let d := dmaDesc desc
    let bytes := addresses ++ payload
    d.op = 16 →
    d.flags < 4 →
    (60 ≤ d.length ∧ d.length ≤ 10240 ∧ bytes.length = d.length) →
    d.kind = 1 →
    d.port < 2 →
    s.get 0x50C0 d.port 3 = 4 →
    mayTake s (512 + h) (poolFor d.length) = true →
    let x := takeBuffer (512 + h) (poolFor d.length) pick s
    Runs (.dmaPacketSend h desc addresses payload pick delay) s fun t => t = dmaComplete h d.flags 0 d.length (freeBuffer (poolFor d.length) x.1 (x.2.send .mgmtFrame (d.port :: bytes))) ∧ t.get 0x1150 h 9 = (s.get 0x1150 h 9 + 1) % s.get 0x1150 h 5 ∧ t.get 0x1150 h 0x0B = wrapAdd 64 (s.get 0x1150 h 0x0B) 1 ∧ (t.out.any fun x => x.kind == .mgmtFrame && x.args == d.port :: bytes) = true)
  ∧ (∀ (s : State) (h : Nat) (desc : List Nat),
    Up s →
    (16 ≤ h ∨ s.get 0x1150 h 2 ≠ 2 ∨ s.get 0x1150 h 9 = s.aux .dmaProd h ∨ s.aux .dmaBusy h ≠ 0) →
    Runs (.dmaRead h desc) s fun t => t = s)
  ∧ (∀ (s : State) (h : Nat) (desc : List Nat),
    Up s →
    h < 16 →
    (s.get 0x1150 h 2 = 2 ∧ s.get 0x1150 h 9 ≠ s.aux .dmaProd h ∧ s.aux .dmaBusy h = 0) →
    let d := dmaDesc desc
    (d.op ≠ 1 ∨ 4 ≤ d.flags) →
    Runs (.dmaRead h desc) s fun t => t = dmaComplete h d.flags 4 0 s ∧ t.get 0x1150 h 9 = (s.get 0x1150 h 9 + 1) % s.get 0x1150 h 5 ∧ t.get 0x1150 h 0x0B = wrapAdd 64 (s.get 0x1150 h 0x0B) 1
    ∧ Only (fun ix k sb => ix = 0x1150 ∧ k = h ∧ sb ∈ [9, 11]) (fun _ _ _ => False) s t
    ∧ t = { s with objs := t.objs, regs := t.regs, out := t.out })
  ∧ (∀ (s : State) (h : Nat) (desc : List Nat),
    Up s →
    h < 16 →
    (s.get 0x1150 h 2 = 2 ∧ s.get 0x1150 h 9 ≠ s.aux .dmaProd h ∧ s.aux .dmaBusy h = 0) →
    let d := dmaDesc desc
    d.op = 1 →
    d.flags < 4 →
    (d.target ≠ 0xFF ∧ d.target ≠ member s) →
    (64 ≤ d.target ∨ activePort s d.target = none) →
    Runs (.dmaRead h desc) s fun t => t = dmaComplete h d.flags 11 0 (raise 3989 d.target 11 1 s) ∧ t.get 0x1150 h 9 = (s.get 0x1150 h 9 + 1) % s.get 0x1150 h 5 ∧ t.get 0x1150 h 0x0B = wrapAdd 64 (s.get 0x1150 h 0x0B) 1
    ∧ OnlyEv (fun ix k sb => ix = 0x1150 ∧ k = h ∧ sb ∈ [9, 11]) (fun _ _ _ => False) s t
    ∧ t = { s with objs := t.objs, regs := t.regs, evQueue := t.evQueue, evPending := t.evPending, out := t.out })
  ∧ (∀ (s : State) (h : Nat) (desc : List Nat),
    Up s →
    h < 16 →
    (s.get 0x1150 h 2 = 2 ∧ s.get 0x1150 h 9 ≠ s.aux .dmaProd h ∧ s.aux .dmaBusy h = 0) →
    let d := dmaDesc desc
    d.op = 1 →
    d.flags < 4 →
    (d.target ≠ 0xFF ∧ d.target ≠ member s) →
    (d.target < 64 ∧ (activePort s d.target).isSome = true) →
    let seq := wrapAdd 64 (s.aux .relaySeq d.target) 1
    let body := hostBody seq (s.get 0x1150 h 3) (descBytes d) []
    (domainTag body s).1.isSome = true →
    let s2 := (domainTag body s).2
    let bytes := (hostBytes 1 body ((domainTag body s).1.getD 0)).set 18 (member s2)
    Runs (.dmaRead h desc) s fun t => t.hostWaits = s.hostWaits ++ [⟨d.target, seq, false, h, d, s2.now⟩] ∧ t.aux .dmaBusy h = 1 ∧ t.aux .relaySeq d.target = seq ∧ t = { ((sendFrame d.target 3 6 0 0 0 bytes bytes.length s2).setAux .relaySeq d.target 0 seq).setAux .dmaBusy h 0 1 with hostWaits := t.hostWaits })
  ∧ (∀ (s : State) (h : Nat) (desc : List Nat),
    Up s →
    h < 16 →
    (s.get 0x1150 h 2 = 2 ∧ s.get 0x1150 h 9 ≠ s.aux .dmaProd h ∧ s.aux .dmaBusy h = 0) →
    let d := dmaDesc desc
    d.op = 1 →
    d.flags < 4 →
    (d.target ≠ 0xFF ∧ d.target ≠ member s) →
    (d.target < 64 ∧ (activePort s d.target).isSome = true) →
    let body := hostBody (wrapAdd 64 (s.aux .relaySeq d.target) 1) (s.get 0x1150 h 3) (descBytes d) []
    (domainTag body s).1 = none →
    Runs (.dmaRead h desc) s fun t => t = dmaComplete h d.flags 10 0 (raise 3989 d.target 10 1 (domainTag body s).2))
  ∧ (∀ (s : State) (h : Nat) (desc : List Nat) (data : List Nat) (w : WriteIn),
    Up s →
    (16 ≤ h ∨ s.get 0x1150 h 2 ≠ 2 ∨ s.get 0x1150 h 9 = s.aux .dmaProd h ∨ s.aux .dmaBusy h ≠ 0) →
    Runs (.dmaWrite h desc data w) s fun t => t = s)
  ∧ (∀ (s : State) (h : Nat) (desc : List Nat) (data : List Nat) (w : WriteIn),
    Up s →
    h < 16 →
    (s.get 0x1150 h 2 = 2 ∧ s.get 0x1150 h 9 ≠ s.aux .dmaProd h ∧ s.aux .dmaBusy h = 0) →
    let d := dmaDesc desc
    (d.op ≠ 2 ∨ 4 ≤ d.flags) →
    Runs (.dmaWrite h desc data w) s fun t => t = dmaComplete h d.flags 4 0 s ∧ t.get 0x1150 h 9 = (s.get 0x1150 h 9 + 1) % s.get 0x1150 h 5 ∧ t.get 0x1150 h 0x0B = wrapAdd 64 (s.get 0x1150 h 0x0B) 1
    ∧ Only (fun ix k sb => ix = 0x1150 ∧ k = h ∧ sb ∈ [9, 11]) (fun _ _ _ => False) s t
    ∧ t = { s with objs := t.objs, regs := t.regs, out := t.out })
  ∧ (∀ (s : State) (h : Nat) (desc : List Nat) (data : List Nat) (w : WriteIn),
    Up s →
    h < 16 →
    (s.get 0x1150 h 2 = 2 ∧ s.get 0x1150 h 9 ≠ s.aux .dmaProd h ∧ s.aux .dmaBusy h = 0) →
    let d := dmaDesc desc
    d.op = 2 →
    d.flags < 4 →
    (d.target ≠ 0xFF ∧ d.target ≠ member s) →
    (64 ≤ d.target ∨ activePort s d.target = none) →
    Runs (.dmaWrite h desc data w) s fun t => t = dmaComplete h d.flags 11 0 (raise 3989 d.target 11 1 s) ∧ t.get 0x1150 h 9 = (s.get 0x1150 h 9 + 1) % s.get 0x1150 h 5 ∧ t.get 0x1150 h 0x0B = wrapAdd 64 (s.get 0x1150 h 0x0B) 1
    ∧ OnlyEv (fun ix k sb => ix = 0x1150 ∧ k = h ∧ sb ∈ [9, 11]) (fun _ _ _ => False) s t
    ∧ t = { s with objs := t.objs, regs := t.regs, evQueue := t.evQueue, evPending := t.evPending, out := t.out })
  ∧ (∀ (s : State) (h : Nat) (desc : List Nat) (data : List Nat) (w : WriteIn),
    Up s →
    h < 16 →
    (s.get 0x1150 h 2 = 2 ∧ s.get 0x1150 h 9 ≠ s.aux .dmaProd h ∧ s.aux .dmaBusy h = 0) →
    let d := dmaDesc desc
    d.op = 2 →
    d.flags < 4 →
    (d.target ≠ 0xFF ∧ d.target ≠ member s) →
    (d.target < 64 ∧ (activePort s d.target).isSome = true) →
    let seq := wrapAdd 64 (s.aux .relaySeq d.target) 1
    let body := hostBody seq (s.get 0x1150 h 3) (descBytes d) (data.take d.length)
    (domainTag body s).1.isSome = true →
    let s2 := (domainTag body s).2
    let bytes := (hostBytes 1 body ((domainTag body s).1.getD 0)).set 18 (member s2)
    Runs (.dmaWrite h desc data w) s fun t => t.hostWaits = s.hostWaits ++ [⟨d.target, seq, false, h, d, s2.now⟩] ∧ t.aux .dmaBusy h = 1 ∧ t.aux .relaySeq d.target = seq ∧ t = { ((sendFrame d.target 3 6 0 0 0 bytes bytes.length s2).setAux .relaySeq d.target 0 seq).setAux .dmaBusy h 0 1 with hostWaits := t.hostWaits })
  ∧ (∀ (s : State) (h : Nat) (desc : List Nat) (data : List Nat) (w : WriteIn),
    Up s →
    h < 16 →
    (s.get 0x1150 h 2 = 2 ∧ s.get 0x1150 h 9 ≠ s.aux .dmaProd h ∧ s.aux .dmaBusy h = 0) →
    let d := dmaDesc desc
    d.op = 2 →
    d.flags < 4 →
    (d.target ≠ 0xFF ∧ d.target ≠ member s) →
    (d.target < 64 ∧ (activePort s d.target).isSome = true) →
    let body := hostBody (wrapAdd 64 (s.aux .relaySeq d.target) 1) (s.get 0x1150 h 3) (descBytes d) (data.take d.length)
    (domainTag body s).1 = none →
    Runs (.dmaWrite h desc data w) s fun t => t = dmaComplete h d.flags 10 0 (raise 3989 d.target 10 1 (domainTag body s).2))
  ∧ (∀ (s : State) (h : Nat) (desc : List Nat),
    Up s →
    (16 ≤ h ∨ s.get 0x1150 h 2 ≠ 2 ∨ s.get 0x1150 h 9 = s.aux .dmaProd h ∨ s.aux .dmaBusy h ≠ 0) →
    Runs (.dmaBlockRead h desc) s fun t => t = s)
  ∧ (∀ (s : State) (h : Nat) (desc : List Nat),
    Up s →
    h < 16 →
    (s.get 0x1150 h 2 = 2 ∧ s.get 0x1150 h 9 ≠ s.aux .dmaProd h ∧ s.aux .dmaBusy h = 0) →
    let d := dmaDesc desc
    (d.op ≠ 3 ∨ 4 ≤ d.flags) →
    Runs (.dmaBlockRead h desc) s fun t => t = dmaComplete h d.flags 4 0 s ∧ t.get 0x1150 h 9 = (s.get 0x1150 h 9 + 1) % s.get 0x1150 h 5 ∧ t.get 0x1150 h 0x0B = wrapAdd 64 (s.get 0x1150 h 0x0B) 1
    ∧ Only (fun ix k sb => ix = 0x1150 ∧ k = h ∧ sb ∈ [9, 11]) (fun _ _ _ => False) s t
    ∧ t = { s with objs := t.objs, regs := t.regs, out := t.out })
  ∧ (∀ (s : State) (h : Nat) (desc : List Nat),
    Up s →
    h < 16 →
    (s.get 0x1150 h 2 = 2 ∧ s.get 0x1150 h 9 ≠ s.aux .dmaProd h ∧ s.aux .dmaBusy h = 0) →
    let d := dmaDesc desc
    d.op = 3 →
    d.flags < 4 →
    (d.target ≠ 0xFF ∧ d.target ≠ member s) →
    (64 ≤ d.target ∨ activePort s d.target = none) →
    Runs (.dmaBlockRead h desc) s fun t => t = dmaComplete h d.flags 11 0 (raise 3989 d.target 11 1 s) ∧ t.get 0x1150 h 9 = (s.get 0x1150 h 9 + 1) % s.get 0x1150 h 5 ∧ t.get 0x1150 h 0x0B = wrapAdd 64 (s.get 0x1150 h 0x0B) 1
    ∧ OnlyEv (fun ix k sb => ix = 0x1150 ∧ k = h ∧ sb ∈ [9, 11]) (fun _ _ _ => False) s t
    ∧ t = { s with objs := t.objs, regs := t.regs, evQueue := t.evQueue, evPending := t.evPending, out := t.out })
  ∧ (∀ (s : State) (h : Nat) (desc : List Nat),
    Up s →
    h < 16 →
    (s.get 0x1150 h 2 = 2 ∧ s.get 0x1150 h 9 ≠ s.aux .dmaProd h ∧ s.aux .dmaBusy h = 0) →
    let d := dmaDesc desc
    d.op = 3 →
    d.flags < 4 →
    (d.target ≠ 0xFF ∧ d.target ≠ member s) →
    (d.target < 64 ∧ (activePort s d.target).isSome = true) →
    let seq := wrapAdd 64 (s.aux .relaySeq d.target) 1
    let body := hostBody seq (s.get 0x1150 h 3) (descBytes d) []
    (domainTag body s).1.isSome = true →
    let s2 := (domainTag body s).2
    let bytes := (hostBytes 1 body ((domainTag body s).1.getD 0)).set 18 (member s2)
    Runs (.dmaBlockRead h desc) s fun t => t.hostWaits = s.hostWaits ++ [⟨d.target, seq, false, h, d, s2.now⟩] ∧ t.aux .dmaBusy h = 1 ∧ t.aux .relaySeq d.target = seq ∧ t = { ((sendFrame d.target 3 6 0 0 0 bytes bytes.length s2).setAux .relaySeq d.target 0 seq).setAux .dmaBusy h 0 1 with hostWaits := t.hostWaits })
  ∧ (∀ (s : State) (h : Nat) (desc : List Nat),
    Up s →
    h < 16 →
    (s.get 0x1150 h 2 = 2 ∧ s.get 0x1150 h 9 ≠ s.aux .dmaProd h ∧ s.aux .dmaBusy h = 0) →
    let d := dmaDesc desc
    d.op = 3 →
    d.flags < 4 →
    (d.target ≠ 0xFF ∧ d.target ≠ member s) →
    (d.target < 64 ∧ (activePort s d.target).isSome = true) →
    let body := hostBody (wrapAdd 64 (s.aux .relaySeq d.target) 1) (s.get 0x1150 h 3) (descBytes d) []
    (domainTag body s).1 = none →
    Runs (.dmaBlockRead h desc) s fun t => t = dmaComplete h d.flags 10 0 (raise 3989 d.target 10 1 (domainTag body s).2))
  ∧ (∀ (s : State) (h : Nat) (desc : List Nat) (data : List Nat) (w : WriteIn),
    Up s →
    (16 ≤ h ∨ s.get 0x1150 h 2 ≠ 2 ∨ s.get 0x1150 h 9 = s.aux .dmaProd h ∨ s.aux .dmaBusy h ≠ 0) →
    Runs (.dmaBlockWrite h desc data w) s fun t => t = s)
  ∧ (∀ (s : State) (h : Nat) (desc : List Nat) (data : List Nat) (w : WriteIn),
    Up s →
    h < 16 →
    (s.get 0x1150 h 2 = 2 ∧ s.get 0x1150 h 9 ≠ s.aux .dmaProd h ∧ s.aux .dmaBusy h = 0) →
    let d := dmaDesc desc
    (d.op ≠ 4 ∨ 4 ≤ d.flags) →
    Runs (.dmaBlockWrite h desc data w) s fun t => t = dmaComplete h d.flags 4 0 s ∧ t.get 0x1150 h 9 = (s.get 0x1150 h 9 + 1) % s.get 0x1150 h 5 ∧ t.get 0x1150 h 0x0B = wrapAdd 64 (s.get 0x1150 h 0x0B) 1
    ∧ Only (fun ix k sb => ix = 0x1150 ∧ k = h ∧ sb ∈ [9, 11]) (fun _ _ _ => False) s t
    ∧ t = { s with objs := t.objs, regs := t.regs, out := t.out })
  ∧ (∀ (s : State) (h : Nat) (desc : List Nat) (data : List Nat) (w : WriteIn),
    Up s →
    h < 16 →
    (s.get 0x1150 h 2 = 2 ∧ s.get 0x1150 h 9 ≠ s.aux .dmaProd h ∧ s.aux .dmaBusy h = 0) →
    let d := dmaDesc desc
    d.op = 4 →
    d.flags < 4 →
    (d.target ≠ 0xFF ∧ d.target ≠ member s) →
    (64 ≤ d.target ∨ activePort s d.target = none) →
    Runs (.dmaBlockWrite h desc data w) s fun t => t = dmaComplete h d.flags 11 0 (raise 3989 d.target 11 1 s) ∧ t.get 0x1150 h 9 = (s.get 0x1150 h 9 + 1) % s.get 0x1150 h 5 ∧ t.get 0x1150 h 0x0B = wrapAdd 64 (s.get 0x1150 h 0x0B) 1
    ∧ OnlyEv (fun ix k sb => ix = 0x1150 ∧ k = h ∧ sb ∈ [9, 11]) (fun _ _ _ => False) s t
    ∧ t = { s with objs := t.objs, regs := t.regs, evQueue := t.evQueue, evPending := t.evPending, out := t.out })
  ∧ (∀ (s : State) (h : Nat) (desc : List Nat) (data : List Nat) (w : WriteIn),
    Up s →
    h < 16 →
    (s.get 0x1150 h 2 = 2 ∧ s.get 0x1150 h 9 ≠ s.aux .dmaProd h ∧ s.aux .dmaBusy h = 0) →
    let d := dmaDesc desc
    d.op = 4 →
    d.flags < 4 →
    (d.target ≠ 0xFF ∧ d.target ≠ member s) →
    (d.target < 64 ∧ (activePort s d.target).isSome = true) →
    let seq := wrapAdd 64 (s.aux .relaySeq d.target) 1
    let body := hostBody seq (s.get 0x1150 h 3) (descBytes d) (data.take d.length)
    (domainTag body s).1.isSome = true →
    let s2 := (domainTag body s).2
    let bytes := (hostBytes 1 body ((domainTag body s).1.getD 0)).set 18 (member s2)
    Runs (.dmaBlockWrite h desc data w) s fun t => t.hostWaits = s.hostWaits ++ [⟨d.target, seq, false, h, d, s2.now⟩] ∧ t.aux .dmaBusy h = 1 ∧ t.aux .relaySeq d.target = seq ∧ t = { ((sendFrame d.target 3 6 0 0 0 bytes bytes.length s2).setAux .relaySeq d.target 0 seq).setAux .dmaBusy h 0 1 with hostWaits := t.hostWaits })
  ∧ (∀ (s : State) (h : Nat) (desc : List Nat) (data : List Nat) (w : WriteIn),
    Up s →
    h < 16 →
    (s.get 0x1150 h 2 = 2 ∧ s.get 0x1150 h 9 ≠ s.aux .dmaProd h ∧ s.aux .dmaBusy h = 0) →
    let d := dmaDesc desc
    d.op = 4 →
    d.flags < 4 →
    (d.target ≠ 0xFF ∧ d.target ≠ member s) →
    (d.target < 64 ∧ (activePort s d.target).isSome = true) →
    let body := hostBody (wrapAdd 64 (s.aux .relaySeq d.target) 1) (s.get 0x1150 h 3) (descBytes d) (data.take d.length)
    (domainTag body s).1 = none →
    Runs (.dmaBlockWrite h desc data w) s fun t => t = dmaComplete h d.flags 10 0 (raise 3989 d.target 10 1 (domainTag body s).2))
  ∧ (∀ (s : State) (h : Nat) (desc : List Nat) (data : List Nat) (w : WriteIn),
    Up s →
    h < 16 →
    (s.get 0x1150 h 2 = 2 ∧ s.get 0x1150 h 9 ≠ s.aux .dmaProd h ∧ s.aux .dmaBusy h = 0) →
    let d := dmaDesc desc
    d.op = 4 →
    d.flags < 4 →
    (d.target = 0xFF ∨ d.target = member s) →
    2 ^ 24 < d.length →
    Runs (.dmaBlockWrite h desc data w) s fun t => t = dmaComplete h d.flags 4 0 (refuse 4 s) ∧ t.get 0x1150 h 9 = (s.get 0x1150 h 9 + 1) % s.get 0x1150 h 5 ∧ t.get 0x1150 h 0x0B = wrapAdd 64 (s.get 0x1150 h 0x0B) 1
    ∧ Only (fun ix k sb => ix = 0x1150 ∧ k = h ∧ sb ∈ [9, 11]) (fun _ _ _ => False) s t
    ∧ t = { s with objs := t.objs, regs := t.regs, answer := t.answer, out := t.out })
  ∧ (∀ (s : State) (h : Nat) (desc : List Nat) (data : List Nat) (w : WriteIn),
    Up s →
    h < 16 →
    (s.get 0x1150 h 2 = 2 ∧ s.get 0x1150 h 9 ≠ s.aux .dmaProd h ∧ s.aux .dmaBusy h = 0) →
    let d := dmaDesc desc
    d.op = 4 →
    d.flags < 4 →
    (d.target = 0xFF ∨ d.target = member s) →
    d.length ≤ 2 ^ 24 →
    (Objects.locate d.index d.inst).any (fun x => transferOpen s x.1 x.2 d.sub) = true →
    frozen s (256 + h) = false →
    Runs (.dmaBlockWrite h desc data w) s fun t => t = dmaComplete h d.flags 3 0 (refuse 3 s) ∧ t.get 0x1150 h 9 = (s.get 0x1150 h 9 + 1) % s.get 0x1150 h 5 ∧ t.get 0x1150 h 0x0B = wrapAdd 64 (s.get 0x1150 h 0x0B) 1
    ∧ Only (fun ix k sb => ix = 0x1150 ∧ k = h ∧ sb ∈ [9, 11]) (fun _ _ _ => False) s t
    ∧ t = { s with objs := t.objs, regs := t.regs, answer := t.answer, out := t.out })
  ∧ (∀ (s : State) (h : Nat) (desc : List Nat) (addresses payload : List Nat) (pick delay : Nat),
    Up s →
    (16 ≤ h ∨ s.get 0x1150 h 2 ≠ 2 ∨ s.get 0x1150 h 9 = s.aux .dmaProd h ∨ s.aux .dmaBusy h ≠ 0) →
    Runs (.dmaPacketSend h desc addresses payload pick delay) s fun t => t = s)
  ∧ (∀ (s : State) (h : Nat) (desc : List Nat) (addresses payload : List Nat) (pick delay : Nat),
    Up s →
    h < 16 →
    (s.get 0x1150 h 2 = 2 ∧ s.get 0x1150 h 9 ≠ s.aux .dmaProd h ∧ s.aux .dmaBusy h = 0) →
    let d := dmaDesc desc
    (d.op ≠ 16 ∨ 4 ≤ d.flags) →
    Runs (.dmaPacketSend h desc addresses payload pick delay) s fun t => t = dmaComplete h d.flags 4 0 s ∧ t.get 0x1150 h 9 = (s.get 0x1150 h 9 + 1) % s.get 0x1150 h 5 ∧ t.get 0x1150 h 0x0B = wrapAdd 64 (s.get 0x1150 h 0x0B) 1
    ∧ Only (fun ix k sb => ix = 0x1150 ∧ k = h ∧ sb ∈ [9, 11]) (fun _ _ _ => False) s t
    ∧ t = { s with objs := t.objs, regs := t.regs, out := t.out })
  ∧ (∀ (s : State) (h : Nat) (desc : List Nat) (addresses payload : List Nat) (pick delay : Nat),
    Up s →
    h < 16 →
    (s.get 0x1150 h 2 = 2 ∧ s.get 0x1150 h 9 ≠ s.aux .dmaProd h ∧ s.aux .dmaBusy h = 0) →
    let d := dmaDesc desc
    let bytes := addresses ++ payload
    d.op = 16 →
    d.flags < 4 →
    (60 ≤ d.length ∧ d.length ≤ 10240 ∧ bytes.length = d.length) →
    d.kind = 0 →
    d.port < 32 →
    s.get 0x5090 d.port 2 = 4 →
    mayTake s (512 + h) (poolFor d.length) = true →
    let x := takeBuffer (512 + h) (poolFor d.length) pick s
    let s1 := (x.2.bump 0x5090 d.port 8).send .uplinkFrame ([d.port, 0xFFFFFFFF, d.length] ++ bytes)
    let s2 := (if bit 1 d.flags then txEntry d.port d.ident (ptpSequence bytes) false delay s1 else s1)
    Runs (.dmaPacketSend h desc addresses payload pick delay) s fun t => t = dmaComplete h d.flags 0 d.length (freeBuffer (poolFor d.length) x.1 s2) ∧ t.get 0x1150 h 9 = (s.get 0x1150 h 9 + 1) % s.get 0x1150 h 5 ∧ t.get 0x1150 h 0x0B = wrapAdd 64 (s.get 0x1150 h 0x0B) 1 ∧ t.get 0x5090 d.port 8 = wrapAdd 64 (s.get 0x5090 d.port 8) 1)
  ∧ (∀ (s : State) (h : Nat) (desc : List Nat) (addresses payload : List Nat) (pick delay : Nat),
    Up s →
    h < 16 →
    (s.get 0x1150 h 2 = 2 ∧ s.get 0x1150 h 9 ≠ s.aux .dmaProd h ∧ s.aux .dmaBusy h = 0) →
    let d := dmaDesc desc
    let bytes := addresses ++ payload
    d.op = 16 →
    d.flags < 4 →
    (d.length < 60 ∨ 10240 < d.length ∨ bytes.length ≠ d.length ∨ 1 < d.kind) →
    Runs (.dmaPacketSend h desc addresses payload pick delay) s fun t => t = dmaComplete h d.flags 4 0 s ∧ t.get 0x1150 h 9 = (s.get 0x1150 h 9 + 1) % s.get 0x1150 h 5 ∧ t.get 0x1150 h 0x0B = wrapAdd 64 (s.get 0x1150 h 0x0B) 1
    ∧ Only (fun ix k sb => ix = 0x1150 ∧ k = h ∧ sb ∈ [9, 11]) (fun _ _ _ => False) s t
    ∧ t = { s with objs := t.objs, regs := t.regs, out := t.out })
  ∧ (∀ (s : State) (h : Nat) (desc : List Nat) (addresses payload : List Nat) (pick delay : Nat),
    Up s →
    h < 16 →
    (s.get 0x1150 h 2 = 2 ∧ s.get 0x1150 h 9 ≠ s.aux .dmaProd h ∧ s.aux .dmaBusy h = 0) →
    let d := dmaDesc desc
    let bytes := addresses ++ payload
    d.op = 16 →
    d.flags < 4 →
    (60 ≤ d.length ∧ d.length ≤ 10240 ∧ bytes.length = d.length) →
    d.kind ≤ 1 →
    sendPort s d.kind d.port = false →
    Runs (.dmaPacketSend h desc addresses payload pick delay) s fun t => t = dmaComplete h d.flags 3 0 s ∧ t.get 0x1150 h 9 = (s.get 0x1150 h 9 + 1) % s.get 0x1150 h 5 ∧ t.get 0x1150 h 0x0B = wrapAdd 64 (s.get 0x1150 h 0x0B) 1
    ∧ Only (fun ix k sb => ix = 0x1150 ∧ k = h ∧ sb ∈ [9, 11]) (fun _ _ _ => False) s t
    ∧ t = { s with objs := t.objs, regs := t.regs, out := t.out })
  ∧ (∀ (s : State) (h : Nat) (desc : List Nat) (addresses payload : List Nat) (pick delay : Nat),
    Up s →
    h < 16 →
    (s.get 0x1150 h 2 = 2 ∧ s.get 0x1150 h 9 ≠ s.aux .dmaProd h ∧ s.aux .dmaBusy h = 0) →
    let d := dmaDesc desc
    let bytes := addresses ++ payload
    d.op = 16 →
    d.flags < 4 →
    (60 ≤ d.length ∧ d.length ≤ 10240 ∧ bytes.length = d.length) →
    d.kind ≤ 1 →
    sendPort s d.kind d.port = true →
    mayTake s (512 + h) (poolFor d.length) = false →
    Runs (.dmaPacketSend h desc addresses payload pick delay) s fun t => t = dmaComplete h d.flags 12 0 (refuseBuffer (512 + h) (poolFor d.length) s) ∧ t.get 0x1150 h 9 = (s.get 0x1150 h 9 + 1) % s.get 0x1150 h 5 ∧ t.get 0x1150 h 0x0B = wrapAdd 64 (s.get 0x1150 h 0x0B) 1 ∧ t.get 0x4C10 (512 + h) 0x0E = wrapAdd 64 (s.get 0x4C10 (512 + h) 0x0E) 1
    ∧ OnlyEv (fun ix k sb => ix = 0x1150 ∧ k = h ∧ sb ∈ [9, 11] ∨ ix = 0x4C10 ∧ k = 512 + h ∧ sb = 0x0E ∨ ix = 0x4C00 ∧ k = poolFor d.length ∧ sb = 4) (fun _ _ _ => False) s t
    ∧ t = { s with objs := t.objs, regs := t.regs, evQueue := t.evQueue, evPending := t.evPending, recent := t.recent, out := t.out })
  ∧ (∀ (s : State) (h kind port : Nat) (stamp : Int) (bytes entry : List Nat),
    Up s →
    16 ≤ h →
    Runs (.dmaReceiveFrame h kind port stamp bytes entry) s fun t => t = s)
  ∧ (∀ (s : State) (h v : Nat),
    Up s →
    16 ≤ h →
    Runs (.dmaDoorbell h v) s fun t => t = s)
  ∧ (∀ (s : State) (acc : Acc) (h : Nat),
    Up s →
    mayWrite acc 0x1150 h 1 1 s = true →
    s.get 0x1150 h 2 = 1 →
    Runs (.dmaChannelEnable acc h) s fun t => t = (refuse 3 s).put 0x1150 h 1 3)
  ∧ (∀ (s : State) (acc : Acc) (h : Nat),
    Up s →
    mayWrite acc 0x1150 h 1 1 s = true →
    (s.get 0x1150 h 2 = 2 ∨ s.get 0x1150 h 2 = 3) →
    Runs (.dmaChannelEnable acc h) s fun t => t = { s.put 0x1150 h 1 0 with answer := ⟨0, 0⟩ })
  ∧ (∀ (s : State) (acc : Acc) (h : Nat),
    Up s →
    mayWrite acc 0x1150 h 1 0 s = true →
    s.get 0x1150 h 2 < 2 →
    Runs (.dmaChannelDrain acc h) s fun t => t = { s.put 0x1150 h 1 0 with answer := ⟨0, 0⟩ })
  ∧ (∀ (s : State) (h : Nat),
    Up s →
    (16 ≤ h ∨ s.get 0x1150 h 2 ≠ 1) →
    Runs (.dmaDrainExpiry h) s fun t => t = s)
  ∧ (∀ (s : State) (h kind port : Nat) (stamp : Int) (bytes entry : List Nat),
    Up s →
    h < 16 →
    s.get 0x1150 h 2 = 2 →
    s.get 0x1150 h 8 ≠ 0 →
    (entry.length = 32 ∧ bytes.length ≤ leAt entry 8 2) →
    Runs (.dmaReceiveFrame h kind port stamp bytes entry) s fun t => t.aux .dmaRx h = (s.aux .dmaRx h + 1) % s.get 0x1150 h 8 ∧ t.out = s.out ++ [⟨.dmaData, [h, leAt entry 0 8] ++ bytes⟩, ⟨.dmaReceive, [h, s.get 0x1150 h 7 + 32 * s.aux .dmaRx h] ++ fillEntry entry bytes.length kind port stamp⟩]
    ∧ Only (fun _ _ _ => False) (fun a p q => a = .dmaRx ∧ p = h ∧ q = 0) s t
    ∧ t = { s with objs := t.objs, regs := t.regs, out := t.out })
  ∧ (∀ (s : State) (h kind port : Nat) (stamp : Int) (bytes entry : List Nat),
    Up s →
    h < 16 →
    (entry.length ≠ 32 ∨ leAt entry 8 2 < bytes.length ∨ s.get 0x1150 h 8 = 0 ∨ s.get 0x1150 h 2 ≠ 2) →
    Runs (.dmaReceiveFrame h kind port stamp bytes entry) s fun t => t = s.bump 0x1150 h 0x0C)
  ∧ (∀ (s : State) (acc : Acc) (h : Nat),
    Up s →
    mayWrite acc 0x1150 h 1 1 s = true →
    s.get 0x1150 h 2 = 0 →
    Runs (.dmaChannelEnable acc h) s fun t => t.answer = ⟨0, 0⟩ ∧ t.get 0x1150 h 2 = (if frozen s (256 + h) then 3 else 2) ∧ t.get 0x1150 h 9 = 0 ∧ t.aux .dmaProd h = 0 ∧ t.aux .dmaRx h = 0
    ∧ OnlyEv (fun ix k sb => ix = 0x1150 ∧ k = h ∧ (sb = 1 ∨ sb = 2 ∨ sb = 9)) (fun a p q => (a = .dmaProd ∨ a = .dmaRx) ∧ p = h ∧ q = 0) s t
    ∧ t = { s with objs := t.objs, regs := t.regs, evQueue := t.evQueue, evPending := t.evPending, answer := t.answer })
  ∧ (∀ (s : State) (acc : Acc) (h : Nat),
    Up s →
    mayWrite acc 0x1150 h 1 0 s = true →
    (s.get 0x1150 h 2 = 2 ∨ s.get 0x1150 h 2 = 3) →
    Runs (.dmaChannelDrain acc h) s fun t => t.answer = ⟨0, 0⟩ ∧ t.get 0x1150 h 2 = (if s.aux .dmaBusy h = 0 then 0 else 1)
    ∧ OnlyEv (fun ix k sb => ix = 0x1150 ∧ k = h ∧ (sb = 1 ∨ sb = 2)) (fun _ _ _ => False) s t
    ∧ t = { s with objs := t.objs, regs := t.regs, evQueue := t.evQueue, evPending := t.evPending, answer := t.answer })
  ∧ (∀ (s : State) (h : Nat),
    Up s →
    h < 16 →
    s.get 0x1150 h 2 = 1 →
    Runs (.dmaDrainExpiry h) s fun t => t.get 0x1150 h 2 = 0 ∧ t.aux .dmaBusy h = 0 ∧ t.hostWaits = s.hostWaits.filter (fun w => !(!w.mailbox && w.unit == h)) ∧ t.get 0x1150 h 0x0B = wrapAdd 64 (s.get 0x1150 h 0x0B) (s.hostWaits.filter (fun w => !w.mailbox && w.unit == h)).length
    ∧ OnlyEv (fun ix k sb => ix = 0x1150 ∧ k = h ∧ (sb = 2 ∨ sb = 9 ∨ sb = 0x0B)) (fun a p q => a = .dmaBusy ∧ p = h ∧ q = 0) s t
    ∧ t = { s with objs := t.objs, regs := t.regs, evQueue := t.evQueue, evPending := t.evPending, hostWaits := t.hostWaits, out := t.out })
  ∧ (∀ (s : State) (m seq role : Nat) (words data : List Nat) (x : WriteIn) (w : HostWait),
    Up s →
    words.length = 32 →
    seq < 2 ^ 64 →
    let body := hostBody seq role words data
    (domainTag body s).1.isSome = true →
    let s1 := (domainTag body s).2
    let tag := (domainTag body s).1.getD 0
    s.hostWaits.find? (fun w => w.member == m && w.seq == seq) = some w →
    w.mailbox = true →
    Runs (.hostRequestRelay (m, hostBytes 2 body tag) x) s fun t => t.hostWaits = s.hostWaits.erase w ∧ t.aux .mbox w.unit 3 = mailWord false (bit 16 (s.aux .mbox w.unit 3)) (leAt words 2 2) ∧ t = hostAnswered w (leAt words 2 2) data s1 ∧ (data ≠ [] → t.aux .mboxData w.unit = ofBytes (data.take 128 ++ List.replicate (128 - (data.take 128).length) 0))
    ∧ OnlyEv (fun ix k sb => ix = 0x4000 ∧ k = s.get 0x1130 0 1 ∧ sb ∈ [7, 10] ∨ ix = 0x4200 ∧ k = bindInst s (s.get 0x1130 0 1) ∧ sb = 4 ∨ ix = 0x5800 ∧ k = 66 ∧ 2 ≤ sb ∧ sb ≤ 9 ∨ ix = 0x5840 ∧ sb ∈ [4, 5]) (fun a p q => a = .mbox ∧ p = w.unit ∧ q = 3 ∨ a = .mboxData ∧ p = w.unit ∧ q = 0 ∨ a = .keySoft ∧ p = s.get 0x1130 0 1 ∨ a ∈ [.kxFrag, .kxGen, .kxIndex, .kxKey, .kxKind, .kxNext, .kxSeq, .kxTries] ∧ p = bindInst s (s.get 0x1130 0 1) ∨ a = .missMask) s t
    ∧ OnlyWords (fun m _ => m = 66) s t
    ∧ t = { s with objs := t.objs, regs := t.regs, evQueue := t.evQueue, evPending := t.evPending, hostWaits := t.hostWaits, out := t.out, mem := t.mem, ploams := t.ploams, recent := t.recent })
  ∧ (∀ (s : State) (m seq role : Nat) (words data : List Nat) (x : WriteIn),
    Up s →
    words.length = 64 →
    seq < 2 ^ 64 →
    let d := dmaDesc words
    let body := hostBody seq role words data
    (domainTag body s).1.isSome = true →
    let s1 := (domainTag body s).2
    let tag := (domainTag body s).1.getD 0
    relayFresh s m seq = true →
    frozen s 343 = false →
    grantRole (s.get 0x1130 0 2) role = none →
    let s2 := relayMark m seq s1
    let s3 := refuseRole ⟨.observer, 343⟩ 1 d.index d.inst d.sub s2
    Runs (.hostRequestRelay (m, hostBytes 1 body tag) x) s fun t => t.answer = ⟨2, 0⟩ ∧ relayFresh t m seq = false ∧ t = (sendHost m 2 seq role (doneBytes 0 2 0 s3.now) [] s3).2)
  ∧ (∀ (s : State) (m seq code : Nat) (words data : List Nat) (x : WriteIn) (role : Role),
    Up s →
    words.length = 64 →
    seq < 2 ^ 64 →
    let d := dmaDesc words
    let body := hostBody seq code words data
    (domainTag body s).1.isSome = true →
    let s1 := (domainTag body s).2
    let tag := (domainTag body s).1.getD 0
    relayFresh s m seq = true →
    frozen s 343 = false →
    grantRole (s.get 0x1130 0 2) code = some role →
    (¬((d.op = 2 ∨ d.op = 4) ∧ d.index = 0x4000 ∧ d.sub = 2)) →
    let s2 := relayMark m seq s1
    let r := hostRun ⟨role, 343⟩ d data x s2
    let n := (if r.1 ≠ 0 then 0 else if d.op = 1 ∨ d.op = 3 then r.2.1.length else d.length)
    Runs (.hostRequestRelay (m, hostBytes 1 body tag) x) s fun t => t.answer = r.2.2.answer ∧ t = (sendHost m 2 seq code (doneBytes 0 r.1 n r.2.2.now) r.2.1 r.2.2).2)
  ∧ (∀ (s : State) (m seq role : Nat) (words data : List Nat) (x : WriteIn) (w : HostWait),
    Up s →
    words.length = 32 →
    seq < 2 ^ 64 →
    let body := hostBody seq role words data
    (domainTag body s).1.isSome = true →
    let s1 := (domainTag body s).2
    let tag := (domainTag body s).1.getD 0
    s.hostWaits.find? (fun w => w.member == m && w.seq == seq) = some w →
    w.mailbox = false →
    let status := leAt words 2 2
    let s2 := { s1 with hostWaits := s.hostWaits.erase w }
    let s3 := (if data.isEmpty then s2 else s2.send .dmaData ([w.unit, w.desc.host] ++ data))
    let n := (if status ≠ 0 then 0 else if w.desc.op = 1 ∨ w.desc.op = 3 then data.length else w.desc.length)
    let s4 := (dmaComplete w.unit w.desc.flags status n s3).setAux .dmaBusy w.unit 0 0
    Runs (.hostRequestRelay (m, hostBytes 2 body tag) x) s fun t => t = (if s.get 0x1150 w.unit 2 = 1 then raise 3991 w.unit 1 0 (s4.put 0x1150 w.unit 2 0) else s4)
    ∧ OnlyEv (fun ix k sb => ix = 0x4000 ∧ k = s.get 0x1130 0 1 ∧ sb ∈ [7, 10] ∨ ix = 0x4200 ∧ k = bindInst s (s.get 0x1130 0 1) ∧ sb = 4 ∨ ix = 0x5800 ∧ k = 66 ∧ 2 ≤ sb ∧ sb ≤ 9 ∨ ix = 0x5840 ∧ sb ∈ [4, 5] ∨ ix = 0x1150 ∧ k = w.unit ∧ sb ∈ [2, 9, 11]) (fun a p q => a = .dmaBusy ∧ p = w.unit ∧ q = 0 ∨ a = .keySoft ∧ p = s.get 0x1130 0 1 ∨ a ∈ [.kxFrag, .kxGen, .kxIndex, .kxKey, .kxKind, .kxNext, .kxSeq, .kxTries] ∧ p = bindInst s (s.get 0x1130 0 1) ∨ a = .missMask) s t
    ∧ OnlyWords (fun m _ => m = 66) s t
    ∧ t = { s with objs := t.objs, regs := t.regs, evQueue := t.evQueue, evPending := t.evPending, hostWaits := t.hostWaits, out := t.out, mem := t.mem, ploams := t.ploams, recent := t.recent })
  ∧ (∀ (s : State) (m seq role : Nat) (words data : List Nat) (x : WriteIn),
    Up s →
    words.length = 32 →
    seq < 2 ^ 64 →
    let body := hostBody seq role words data
    (domainTag body s).1.isSome = true →
    let s1 := (domainTag body s).2
    let tag := (domainTag body s).1.getD 0
    s.hostWaits.find? (fun w => w.member == m && w.seq == seq) = none →
    Runs (.hostRequestRelay (m, hostBytes 2 body tag) x) s fun t => t = s1
    ∧ OnlyEv (fun ix k sb => ix = 0x4000 ∧ k = s.get 0x1130 0 1 ∧ sb ∈ [7, 10] ∨ ix = 0x4200 ∧ k = bindInst s (s.get 0x1130 0 1) ∧ sb = 4 ∨ ix = 0x5800 ∧ k = 66 ∧ 2 ≤ sb ∧ sb ≤ 9 ∨ ix = 0x5840 ∧ sb ∈ [4, 5]) (fun a p _ => a = .keySoft ∧ p = s.get 0x1130 0 1 ∨ a ∈ [.kxFrag, .kxGen, .kxIndex, .kxKey, .kxKind, .kxNext, .kxSeq, .kxTries] ∧ p = bindInst s (s.get 0x1130 0 1) ∨ a = .missMask) s t
    ∧ OnlyWords (fun m _ => m = 66) s t
    ∧ t = { s with objs := t.objs, regs := t.regs, evQueue := t.evQueue, evPending := t.evPending, mem := t.mem, ploams := t.ploams, recent := t.recent })
  ∧ (∀ (s : State) (m seq role : Nat) (words data : List Nat) (x : WriteIn),
    Up s →
    words.length = 64 →
    seq < 2 ^ 64 →
    let d := dmaDesc words
    let body := hostBody seq role words data
    (domainTag body s).1.isSome = true →
    let s1 := (domainTag body s).2
    let tag := (domainTag body s).1.getD 0
    relayFresh s m seq = false →
    Runs (.hostRequestRelay (m, hostBytes 1 body tag) x) s fun t => t = s1
    ∧ OnlyEv (fun ix k sb => ix = 0x4000 ∧ k = s.get 0x1130 0 1 ∧ sb ∈ [7, 10] ∨ ix = 0x4200 ∧ k = bindInst s (s.get 0x1130 0 1) ∧ sb = 4 ∨ ix = 0x5800 ∧ k = 66 ∧ 2 ≤ sb ∧ sb ≤ 9 ∨ ix = 0x5840 ∧ sb ∈ [4, 5]) (fun a p _ => a = .keySoft ∧ p = s.get 0x1130 0 1 ∨ a ∈ [.kxFrag, .kxGen, .kxIndex, .kxKey, .kxKind, .kxNext, .kxSeq, .kxTries] ∧ p = bindInst s (s.get 0x1130 0 1) ∨ a = .missMask) s t
    ∧ OnlyWords (fun m _ => m = 66) s t
    ∧ t = { s with objs := t.objs, regs := t.regs, evQueue := t.evQueue, evPending := t.evPending, mem := t.mem, ploams := t.ploams, recent := t.recent })
  ∧ (∀ (s : State) (m seq role : Nat) (words data : List Nat) (x : WriteIn),
    Up s →
    words.length = 64 →
    seq < 2 ^ 64 →
    let d := dmaDesc words
    let body := hostBody seq role words data
    (domainTag body s).1.isSome = true →
    let s1 := (domainTag body s).2
    let tag := (domainTag body s).1.getD 0
    relayFresh s m seq = true →
    frozen s 343 = true →
    let s2 := relayMark m seq s1
    Runs (.hostRequestRelay (m, hostBytes 1 body tag) x) s fun t => t = (sendHost m 2 seq role (doneBytes 0 9 0 s.now) [] (refuse 9 s2)).2 ∧ t.answer = ⟨9, 0⟩)
  ∧ (∀ (s : State) (m seq code : Nat) (words data : List Nat) (x : WriteIn) (role : Role),
    Up s →
    words.length = 64 →
    seq < 2 ^ 64 →
    let d := dmaDesc words
    let body := hostBody seq code words data
    (domainTag body s).1.isSome = true →
    let s1 := (domainTag body s).2
    let tag := (domainTag body s).1.getD 0
    relayFresh s m seq = true →
    frozen s 343 = false →
    grantRole (s.get 0x1130 0 2) code = some role →
    ((d.op = 2 ∨ d.op = 4) ∧ d.index = 0x4000 ∧ d.sub = 2) →
    let s2 := relayMark m seq s1
    Runs (.hostRequestRelay (m, hostBytes 1 body tag) x) s fun t => t = (sendHost m 2 seq code (doneBytes 0 5 0 s.now) [] (refuse 5 s2)).2 ∧ t.answer = ⟨5, 0⟩)
  ∧ (∀ (s : State) (m kind seq role : Nat) (words data : List Nat) (x : WriteIn),
    Up s →
    (kind = 1 ∧ words.length = 64 ∨ kind = 2 ∧ words.length = 32) →
    let body := hostBody seq role words data
    (domainTag body s).1.isSome = true →
    let s1 := (domainTag body s).2
    let tag := (domainTag body s).1.getD 0
    Runs (.hostRequestRelay (m, hostBytes kind body (tag + 1)) x) s fun t => t = s1
    ∧ OnlyEv (fun ix k sb => ix = 0x4000 ∧ k = s.get 0x1130 0 1 ∧ sb ∈ [7, 10] ∨ ix = 0x4200 ∧ k = bindInst s (s.get 0x1130 0 1) ∧ sb = 4 ∨ ix = 0x5800 ∧ k = 66 ∧ 2 ≤ sb ∧ sb ≤ 9 ∨ ix = 0x5840 ∧ sb ∈ [4, 5]) (fun a p _ => a = .keySoft ∧ p = s.get 0x1130 0 1 ∨ a ∈ [.kxFrag, .kxGen, .kxIndex, .kxKey, .kxKind, .kxNext, .kxSeq, .kxTries] ∧ p = bindInst s (s.get 0x1130 0 1) ∨ a = .missMask) s t
    ∧ OnlyWords (fun m _ => m = 66) s t
    ∧ t = { s with objs := t.objs, regs := t.regs, evQueue := t.evQueue, evPending := t.evPending, mem := t.mem, ploams := t.ploams, recent := t.recent })
  ∧ (∀ (s : State) (m kind seq role tag : Nat) (words data : List Nat) (x : WriteIn),
    Up s →
    (kind = 1 ∧ words.length = 64 ∨ kind = 2 ∧ words.length = 32) →
    let body := hostBody seq role words data
    (domainTag body s).1 = none →
    Runs (.hostRequestRelay (m, hostBytes kind body tag) x) s fun t => t = (domainTag body s).2)
  ∧ (∀ (s : State) (m : Nat) (bytes : List Nat) (x : WriteIn),
    Up s →
    hostMsg m bytes = none →
    Runs (.hostRequestRelay (m, bytes) x) s fun t => t = s)

/-- The commands of the event path have their effect (R473, R477, R478): a mask stores 1, an unmask stores 0 and generates at
most 1,024 records, oldest first, with the arguments and the stamp of their last raised records, which a full queue loses and
counts, the consumer index is taken when the producer has reached it, and a dispatch moves the oldest record into the next place
of the log, into the ring when it is on and has room, with vector 16 when the ring was empty, and into the backlog of each
session that subscribed to it; event 3987 reports the records lost. -/
def Obligations.EventPathCommandsComplete : Prop :=
  (∀ (s : State) (acc : Acc) (n : Nat),
    Up s →
    mayWrite acc 0x1200 n 1 1 s = true →
    Runs (.eventMask acc n) s fun t => t = { s.put 0x1200 n 1 1 with answer := ⟨0, 0⟩ }
    ∧ Only (fun ix k sb => ix = 0x1200 ∧ k = n ∧ sb = 1) (fun _ _ _ => False) s t
    ∧ t = { s with objs := t.objs, regs := t.regs, answer := t.answer })
  ∧ (∀ (s : State) (acc : Acc) (n : Nat),
    Up s →
    mayWrite acc 0x1200 n 1 0 s = true →
    s.get 0x1200 n 1 = 1 →
    s.evQueue.length + 1024 ≤ 8192 →
    Runs (.eventUnmask acc n) s fun t => t.answer = ⟨0, 0⟩ ∧ t.get 0x1200 n 1 = 0 ∧ t.evQueue.length = s.evQueue.length + min 1024 (s.evPending.countP fun r => r.num == n) ∧ t.get 0x1200 n 3 = s.get 0x1200 n 3 ∧ t.evPending = s.evPending ∧ t.evQueue.take s.evQueue.length = s.evQueue ∧ (t.evQueue.drop s.evQueue.length).map (fun r => (r.num, r.sev, r.inst, r.stamp, r.a1, r.a2)) = ((s.evPending.filter fun r => r.num == n).take 1024).map (fun r => (n, severity s n, r.inst, r.stamp, r.a1 % 2 ^ 32, r.a2 % 2 ^ 32))
    ∧ Only (fun ix k sb => ix = 0x1200 ∧ k = n ∧ sb ∈ [1, 5]) (fun a p _ => a = .evSeq ∧ p = n) s t
    ∧ t = { s with objs := t.objs, regs := t.regs, answer := t.answer, evQueue := t.evQueue })
  ∧ (∀ (s : State) (acc : Acc) (n : Nat),
    Up s →
    mayWrite acc 0x1200 n 1 0 s = true →
    s.get 0x1200 n 1 = 1 →
    s.evQueue.length = 8192 →
    let k := min 1024 (s.evPending.countP fun r => r.num == n)
    Runs (.eventUnmask acc n) s fun t => t.answer = ⟨0, 0⟩ ∧ t.get 0x1200 n 1 = 0 ∧ t.evQueue = s.evQueue ∧ t.get 0x1210 0 3 = wrapAdd 64 (s.get 0x1210 0 3) k ∧ t.aux .evLostRep = s.aux .evLostRep + k
    ∧ OnlyEv (fun ix k sb => ix = 0x1200 ∧ k = n ∧ sb ∈ [1, 5]) (fun _ _ _ => False) s t
    ∧ t = { s with objs := t.objs, regs := t.regs, evQueue := t.evQueue, evPending := t.evPending, answer := t.answer })
  ∧ (∀ (s : State) (acc : Acc) (n : Nat),
    Up s →
    mayWrite acc 0x1200 n 1 0 s = true →
    s.get 0x1200 n 1 = 0 →
    Runs (.eventUnmask acc n) s fun t => t = { s.put 0x1200 n 1 0 with answer := ⟨0, 0⟩ })
  ∧ (∀ (s : State) (v : Nat),
    Up s →
    v < 2 ^ 32 →
    (v + 2 ^ 32 - s.aux .ringCons) % 2 ^ 32 ≤ ringUsed s →
    Runs (.eventRingConsumerWrite v) s fun t => t.aux .ringCons = v ∧ t.out = (if ringUsed t = 0 then s.out else s.out ++ [⟨.msix, [16]⟩])
    ∧ Only (fun _ _ _ => False) (fun a p q => a = .ringCons ∧ p = 0 ∧ q = 0) s t
    ∧ t = { s with objs := t.objs, regs := t.regs, out := t.out })
  ∧ (∀ (s : State) (v : Nat),
    Up s →
    (ringUsed s < (v + 2 ^ 32 - s.aux .ringCons) % 2 ^ 32 ∨ 2 ^ 32 ≤ v) →
    Runs (.eventRingConsumerWrite v) s fun t => t = s)
  ∧ (∀ (s : State) (r : Rec) (rest : List Rec),
    Up s →
    s.evQueue = r :: rest →
    (carrierOf s 211).isSome = true →
    s.get 0x1210 0 8 ≠ 1 →
    (s.subs.any fun u => u.takes r) = false →
    (rest.length < 4096 → s.aux .evLostRep = 0) →
    Runs .eventDispatch s fun t => t.evQueue = rest ∧ t.get 0x1220 (s.aux .logSeq % 1024) 1 = r.entry ∧ t.aux .logSeq = s.aux .logSeq + 1
    ∧ Only (fun ix k sb => ix = 0x1220 ∧ k = s.aux .logSeq % 1024 ∧ sb = 1) (fun a p q => a = .logSeq ∧ p = 0 ∧ q = 0) s t
    ∧ t = { s with objs := t.objs, regs := t.regs, evQueue := t.evQueue })
  ∧ (∀ (s : State) (r : Rec) (rest : List Rec),
    Up s →
    s.evQueue = r :: rest →
    (carrierOf s 211).isSome = true →
    s.get 0x1210 0 8 = 1 →
    ringUsed s < s.get 0x1210 0 5 →
    (s.subs.any fun u => u.takes r) = false →
    (rest.length < 4096 → s.aux .evLostRep = 0) →
    let size := s.get 0x1210 0 5
    let place := s.aux .ringProd
    Runs .eventDispatch s fun t => t.evQueue = rest ∧ t.get 0x1220 (s.aux .logSeq % 1024) 1 = r.entry ∧ t.aux .logSeq = s.aux .logSeq + 1 ∧ t.aux .ringProd = (place + 1) % 2 ^ 32 ∧ t.out = s.out ++ [⟨.eventSlot, [place % size, r.entry, (place / size + 1) % 2]⟩] ++ (if ringUsed s = 0 then [⟨.msix, [16]⟩] else [])
    ∧ Only (fun ix k sb => ix = 0x1220 ∧ k = s.aux .logSeq % 1024 ∧ sb = 1) (fun a p q => (a = .logSeq ∨ a = .ringProd) ∧ p = 0 ∧ q = 0) s t
    ∧ t = { s with objs := t.objs, regs := t.regs, evQueue := t.evQueue, out := t.out })
  ∧ (∀ (s : State) (r : Rec) (rest : List Rec),
    Up s →
    s.evQueue = r :: rest →
    (carrierOf s 211).isSome = true →
    s.get 0x1210 0 8 ≠ 1 →
    (s.subs.any fun u => u.takes r) = false →
    rest.length < 4096 →
    s.aux .evLostRep ≠ 0 →
    let s1 := logPut r { s with evQueue := rest }
    Runs .eventDispatch s fun t => t.aux .evLostRep = 0 ∧ t = raise 3987 0 (s.aux .evLostRep) 0 (s1.setAux .evLostRep 0 0 0)
    ∧ OnlyEv (fun ix k sb => ix = 0x1220 ∧ k = s.aux .logSeq % 1024 ∧ sb = 1) (fun a p q => a = .logSeq ∧ p = 0 ∧ q = 0) s t
    ∧ t = { s with objs := t.objs, regs := t.regs, evQueue := t.evQueue, evPending := t.evPending })
  ∧ (∀ (s : State) (r : Rec) (rest : List Rec) (x : Nat),
    Up s →
    s.evQueue = r :: rest →
    (carrierOf s 211).isSome = true →
    s.get 0x1210 0 8 ≠ 1 →
    ((s.subs.filter fun u => u.takes r).map Sub.slot).eraseDups = [x] →
    (s.backlog.countP fun b => b.1 == x) < 2048 →
    (s.get 0x1120 x 1 < 2 ∨ 2 ≤ (s.notifies.countP fun n => n.slot == x)) →
    (rest.length < 4096 → s.aux .evLostRep = 0) →
    Runs .eventDispatch s fun t => t.evQueue = rest ∧ t.get 0x1220 (s.aux .logSeq % 1024) 1 = r.entry ∧ t.aux .logSeq = s.aux .logSeq + 1 ∧ t.backlog = s.backlog ++ [(x, r)]
    ∧ Only (fun ix k sb => ix = 0x1220 ∧ k = s.aux .logSeq % 1024 ∧ sb = 1) (fun a p q => a = .logSeq ∧ p = 0 ∧ q = 0) s t
    ∧ t = { s with objs := t.objs, regs := t.regs, evQueue := t.evQueue, backlog := t.backlog })
  ∧ (∀ (s : State) (r : Rec) (rest : List Rec) (x : Nat),
    Up s →
    s.evQueue = r :: rest →
    (carrierOf s 211).isSome = true →
    s.get 0x1210 0 8 ≠ 1 →
    ((s.subs.filter fun u => u.takes r).map Sub.slot).eraseDups = [x] →
    2048 ≤ (s.backlog.countP fun b => b.1 == x) →
    (rest.length < 4096 → s.aux .evLostRep = 0) →
    Runs .eventDispatch s fun t => t.evQueue = rest ∧ t.get 0x1220 (s.aux .logSeq % 1024) 1 = r.entry ∧ t.get 0x1120 x 0x0A = wrapAdd 64 (s.get 0x1120 x 0x0A) 1 ∧ t.aux .sesDrop x = s.aux .sesDrop x + 1
    ∧ Only (fun ix k sb => ix = 0x1220 ∧ k = s.aux .logSeq % 1024 ∧ sb = 1 ∨ ix = 0x1120 ∧ k = x ∧ sb = 10) (fun a p q => (a = .logSeq ∧ p = 0 ∨ a = .sesDrop ∧ p = x) ∧ q = 0) s t
    ∧ t = { s with objs := t.objs, regs := t.regs, evQueue := t.evQueue })
  ∧ (∀ (s : State),
    Up s →
    let s1 := logPut (s.evQueue.headD ⟨0, 0, 0, 0, 0, 0, 0⟩) { s with evQueue := s.evQueue.tail }
    let s2 := (if s.get 0x1210 0 8 = 1 then ringPut (s.evQueue.headD ⟨0, 0, 0, 0, 0, 0, 0⟩) s1 else s1)
    let s3 := notifyAll (s.evQueue.headD ⟨0, 0, 0, 0, 0, 0, 0⟩) s2
    s.evQueue ≠ [] →
    (carrierOf s 211).isSome = true →
    (s.get 0x1210 0 8 = 1 → ringUsed s < s.get 0x1210 0 5) →
    Runs .eventDispatch s fun t => t = (if s3.evQueue.length < 4096 ∧ s3.aux .evLostRep ≠ 0 then raise 3987 0 (s3.aux .evLostRep) 0 (s3.setAux .evLostRep 0 0 0) else s3))
  ∧ (∀ (s : State),
    Up s →
    (s.evQueue = [] ∨ (carrierOf s 211).isNone = true) →
    Runs .eventDispatch s fun t => t = s)
  ∧ (∀ (s : State) (r : Rec) (rest : List Rec),
    Up s →
    s.evQueue = r :: rest →
    s.get 0x1210 0 8 = 1 →
    s.get 0x1210 0 5 ≤ ringUsed s →
    Runs .eventDispatch s fun t => t = s)

/-- A start (R36, R37, R39, R43, R54, R482, R483, R487, R489, R490) puts every island in reset: it keeps the objects that
outlast a restart, the straps and the images' keys, forgets the rest, zeroes every memory, and takes the sensor offsets of the
calibration set. POWER_ON_RESET samples the straps and records its cause; with TEST_EN the device is held, with the strap for
recovery it waits for an image, else it tries the first slot's image and then the other, and waits for an image when both are
refused. JTAG_RESET starts it with cause 3 and the straps as sampled. START_TIMEOUT restarts it with the other image, or to
recovery. RECOVERY_LOAD runs an accepted image as slot 2 and leaves the cause of a refused one. An accepted image not yet on
line is in force as starting; WhatStartsBring states READY. The time base counts on (assumption log, entry 4), and commands that
wait stay (the model's choice, entry 27). -/
def Obligations.StartCommandsComplete : Prop :=
  (∀ (s : State) (b : BootIn),
    (s.phase = .heldBrownOut → 10000 ≤ b.width) →
    (s.phase = .heldThermal → (b.sensors.zipIdx.all fun r => r.1 + sensorTrim s r.2 < 12000) = true) →
    let cause := (if s.phase = .heldBrownOut then 1 else if s.phase = .heldThermal then 2 else 0)
    let s0 := readTrims (newStart cause ((s.setAux .bootSel 0 0 (b.straps % 4)).setAux .bootTest 0 0 (if b.testEn then 1 else 0)))
    b.testEn = true →
    Runs (.powerOnReset b) s fun t => t = { s0 with phase := .heldTest } ∧ t.get 0x1040 0 0x0B = cause ∧ t.mem = [] ∧ t.pending = s.pending ∧ t.now = s.now
    ∧ (∀ i n c, ¬(i = 0x1040 ∧ n = 0 ∧ c = 0x0B) → t.get i n c = if survives ⟨i, n, c⟩ then s.get i n c else Objects.dflt ⟨i, n, c⟩)
    ∧ (∀ a p q, a ∉ [.bootSel, .bootTest, .slotKey, .sensorTrim] → t.aux a p q = State.reset.aux a p q))
  ∧ (∀ (s : State) (b : BootIn),
    ((s.phase = .heldBrownOut ∧ b.width < 10000) ∨ (s.phase = .heldThermal ∧ (b.sensors.zipIdx.any fun r => 12000 ≤ r.1 + sensorTrim s r.2) = true)) →
    Runs (.powerOnReset b) s fun t => t = s)
  ∧ (∀ (s : State) (b : BootIn),
    (s.phase = .heldBrownOut → 10000 ≤ b.width) →
    (s.phase = .heldThermal → (b.sensors.zipIdx.all fun r => r.1 + sensorTrim s r.2 < 12000) = true) →
    let cause := (if s.phase = .heldBrownOut then 1 else if s.phase = .heldThermal then 2 else 0)
    let s0 := readTrims (newStart cause ((s.setAux .bootSel 0 0 (b.straps % 4)).setAux .bootTest 0 0 (if b.testEn then 1 else 0)))
    b.testEn = false →
    b.straps % 4 = 2 →
    Runs (.powerOnReset b) s fun t => t = waitRecovery 0xFF s0 ∧ t.phase = .recovery ∧ t.aux .recSlot = 0xFF ∧ t.get 0x1040 0 0x0B = cause ∧ t.mem = [] ∧ t.pending = s.pending ∧ t.now = s.now
    ∧ (∀ i n c, ¬(i = 0x1040 ∧ n = 0 ∧ c = 0x0B) → t.get i n c = if survives ⟨i, n, c⟩ then s.get i n c else Objects.dflt ⟨i, n, c⟩)
    ∧ (∀ a p q, a ∉ [.bootSel, .bootTest, .slotKey, .sensorTrim, .recSlot] → t.aux a p q = State.reset.aux a p q))
  ∧ (∀ (s : State) (b : BootIn),
    (s.phase = .heldBrownOut → 10000 ≤ b.width) →
    (s.phase = .heldThermal → (b.sensors.zipIdx.all fun r => r.1 + sensorTrim s r.2 < 12000) = true) →
    let cause := (if s.phase = .heldBrownOut then 1 else if s.phase = .heldThermal then 2 else 0)
    let s0 := readTrims (newStart cause ((s.setAux .bootSel 0 0 (b.straps % 4)).setAux .bootTest 0 0 (if b.testEn then 1 else 0)))
    b.testEn = false →
    b.straps % 4 ≠ 2 →
    let k : Nat := (if b.straps % 4 = 1 then 1 else 0)
    (imageCause s (if k = 0 then b.imageA else b.imageB) = 0) →
    s.get 0x1300 k 2 ≠ 3 →
    b.onLine = false →
    let h := (if k = 0 then b.imageA else b.imageB).header
    Runs (.powerOnReset b) s fun t => t = { (slotValid k h (s0.setAux .slotTried k 0 1)).put 0x1301 0 1 k with phase := .starting } ∧ t.get 0x1301 0 1 = k ∧ t.get 0x1301 0 2 = 0 ∧ t.get 0x1300 k 2 = 1 ∧ t.get 0x1300 k 3 = numAt h 4 2 ∧ t.get 0x1300 k 4 = numAt h 3 1 ∧ t.get 0x1300 k 5 = numAt h 24 32 ∧ t.get 0x1300 k 6 = 0 ∧ t.get 0x1040 0 0x0B = cause ∧ t.mem = [] ∧ t.pending = s.pending ∧ t.now = s.now)
  ∧ (∀ (s : State) (b : BootIn),
    (s.phase = .heldBrownOut → 10000 ≤ b.width) →
    (s.phase = .heldThermal → (b.sensors.zipIdx.all fun r => r.1 + sensorTrim s r.2 < 12000) = true) →
    let cause := (if s.phase = .heldBrownOut then 1 else if s.phase = .heldThermal then 2 else 0)
    let s0 := readTrims (newStart cause ((s.setAux .bootSel 0 0 (b.straps % 4)).setAux .bootTest 0 0 (if b.testEn then 1 else 0)))
    b.testEn = false →
    b.straps % 4 ≠ 2 →
    let k : Nat := (if b.straps % 4 = 1 then 1 else 0)
    let c1 : Nat := (match imageCause s (if k = 0 then b.imageA else b.imageB) with
        | 0 => if s.get 0x1300 (k) 2 = 3 then 9 else 0
        | c => c)
    let c2 : Nat := (match imageCause s (if (1 - k) = 0 then b.imageA else b.imageB) with
        | 0 => if s.get 0x1300 ((1 - k)) 2 = 3 then 9 else 0
        | c => c)
    c1 ≠ 0 →
    c2 = 0 →
    b.onLine = false →
    let h := (if (1 - k) = 0 then b.imageA else b.imageB).header
    Runs (.powerOnReset b) s fun t => t = { ((slotValid (1 - k) h ((((s0.setAux .slotTried (k) 0 1).put 0x1300 (k) 2 2).put 0x1300 (k) 6 (c1)).setAux .slotCause (k) 0 (c1) |>.setAux .recSlot 0 0 (k) |>.setAux .slotTried (1 - k) 0 1)).put 0x1301 0 1 (1 - k)).put 0x1301 0 2 1 with phase := .starting } ∧ t.get 0x1301 0 1 = 1 - k ∧ t.get 0x1301 0 2 = 1 ∧ t.get 0x1300 k 2 = 2 ∧ t.get 0x1300 k 6 = c1 ∧ t.get 0x1300 (1 - k) 2 = 1 ∧ t.get 0x1040 0 0x0B = cause ∧ t.mem = [] ∧ t.pending = s.pending ∧ t.now = s.now)
  ∧ (∀ (s : State) (b : BootIn),
    (s.phase = .heldBrownOut → 10000 ≤ b.width) →
    (s.phase = .heldThermal → (b.sensors.zipIdx.all fun r => r.1 + sensorTrim s r.2 < 12000) = true) →
    let cause := (if s.phase = .heldBrownOut then 1 else if s.phase = .heldThermal then 2 else 0)
    let s0 := readTrims (newStart cause ((s.setAux .bootSel 0 0 (b.straps % 4)).setAux .bootTest 0 0 (if b.testEn then 1 else 0)))
    b.testEn = false →
    b.straps % 4 ≠ 2 →
    let k : Nat := (if b.straps % 4 = 1 then 1 else 0)
    let c1 : Nat := (match imageCause s (if k = 0 then b.imageA else b.imageB) with
        | 0 => if s.get 0x1300 (k) 2 = 3 then 9 else 0
        | c => c)
    let c2 : Nat := (match imageCause s (if (1 - k) = 0 then b.imageA else b.imageB) with
        | 0 => if s.get 0x1300 ((1 - k)) 2 = 3 then 9 else 0
        | c => c)
    c1 ≠ 0 →
    c2 ≠ 0 →
    Runs (.powerOnReset b) s fun t => t = waitRecovery (1 - k) ((((((((s0.setAux .slotTried (k) 0 1).put 0x1300 (k) 2 2).put 0x1300 (k) 6 (c1)).setAux .slotCause (k) 0 (c1) |>.setAux .recSlot 0 0 (k)).setAux .slotTried (1 - k) 0 1).put 0x1300 (1 - k) 2 2).put 0x1300 (1 - k) 6 (c2)).setAux .slotCause (1 - k) 0 (c2) |>.setAux .recSlot 0 0 (1 - k)) ∧ t.phase = .recovery ∧ t.aux .recSlot = 1 - k ∧ t.get 0x1300 k 2 = 2 ∧ t.get 0x1300 k 6 = c1 ∧ t.get 0x1300 (1 - k) 2 = 2 ∧ t.get 0x1300 (1 - k) 6 = c2 ∧ t.get 0x1040 0 0x0B = cause ∧ t.mem = [] ∧ t.pending = s.pending ∧ t.now = s.now
    ∧ (∀ i n c, ¬(i = 0x1040 ∧ n = 0 ∧ c = 0x0B ∨ i = 0x1300 ∧ n < 2 ∧ (c = 2 ∨ c = 6)) → t.get i n c = if survives ⟨i, n, c⟩ then s.get i n c else Objects.dflt ⟨i, n, c⟩)
    ∧ (∀ a p q, a ∉ [.bootSel, .bootTest, .slotKey, .sensorTrim, .recSlot, .slotTried, .slotCause] → t.aux a p q = State.reset.aux a p q))
  ∧ (∀ (s : State) (b : BootIn),
    (s.phase ≠ .heldPorst ∧ s.phase ≠ .heldBrownOut ∧ s.phase ≠ .heldThermal) →
    let s0 := readTrims (newStart 3 s)
    s.aux .bootTest = 1 →
    Runs (.jtagReset b) s fun t => t = { s0 with phase := .heldTest } ∧ t.get 0x1040 0 0x0B = 3 ∧ t.mem = [] ∧ t.pending = s.pending ∧ t.now = s.now
    ∧ (∀ i n c, ¬(i = 0x1040 ∧ n = 0 ∧ c = 0x0B) → t.get i n c = if survives ⟨i, n, c⟩ then s.get i n c else Objects.dflt ⟨i, n, c⟩)
    ∧ (∀ a p q, a ∉ [.bootSel, .bootTest, .slotKey, .sensorTrim] → t.aux a p q = State.reset.aux a p q))
  ∧ (∀ (s : State) (b : BootIn),
    (s.phase = .heldPorst ∨ s.phase = .heldBrownOut ∨ s.phase = .heldThermal) →
    Runs (.jtagReset b) s fun t => t = s)
  ∧ (∀ (s : State) (b : BootIn),
    (s.phase ≠ .heldPorst ∧ s.phase ≠ .heldBrownOut ∧ s.phase ≠ .heldThermal) →
    let s0 := readTrims (newStart 3 s)
    s.aux .bootTest ≠ 1 →
    s.aux .bootSel = 2 →
    Runs (.jtagReset b) s fun t => t = waitRecovery 0xFF s0 ∧ t.phase = .recovery ∧ t.aux .recSlot = 0xFF ∧ t.get 0x1040 0 0x0B = 3 ∧ t.mem = [] ∧ t.pending = s.pending ∧ t.now = s.now
    ∧ (∀ i n c, ¬(i = 0x1040 ∧ n = 0 ∧ c = 0x0B) → t.get i n c = if survives ⟨i, n, c⟩ then s.get i n c else Objects.dflt ⟨i, n, c⟩)
    ∧ (∀ a p q, a ∉ [.bootSel, .bootTest, .slotKey, .sensorTrim, .recSlot] → t.aux a p q = State.reset.aux a p q))
  ∧ (∀ (s : State) (b : BootIn),
    (s.phase ≠ .heldPorst ∧ s.phase ≠ .heldBrownOut ∧ s.phase ≠ .heldThermal) →
    let s0 := readTrims (newStart 3 s)
    s.aux .bootTest ≠ 1 →
    s.aux .bootSel ≠ 2 →
    let k : Nat := (if s.aux .bootSel = 1 then 1 else 0)
    (imageCause s (if k = 0 then b.imageA else b.imageB) = 0) →
    s.get 0x1300 k 2 ≠ 3 →
    b.onLine = false →
    let h := (if k = 0 then b.imageA else b.imageB).header
    Runs (.jtagReset b) s fun t => t = { (slotValid k h (s0.setAux .slotTried k 0 1)).put 0x1301 0 1 k with phase := .starting } ∧ t.get 0x1301 0 1 = k ∧ t.get 0x1301 0 2 = 0 ∧ t.get 0x1300 k 2 = 1 ∧ t.get 0x1300 k 3 = numAt h 4 2 ∧ t.get 0x1300 k 4 = numAt h 3 1 ∧ t.get 0x1300 k 5 = numAt h 24 32 ∧ t.get 0x1300 k 6 = 0 ∧ t.get 0x1040 0 0x0B = 3 ∧ t.mem = [] ∧ t.pending = s.pending ∧ t.now = s.now)
  ∧ (∀ (s : State) (b : BootIn),
    (s.phase ≠ .heldPorst ∧ s.phase ≠ .heldBrownOut ∧ s.phase ≠ .heldThermal) →
    let s0 := readTrims (newStart 3 s)
    s.aux .bootTest ≠ 1 →
    s.aux .bootSel ≠ 2 →
    let k : Nat := (if s.aux .bootSel = 1 then 1 else 0)
    let c1 : Nat := (match imageCause s (if k = 0 then b.imageA else b.imageB) with
        | 0 => if s.get 0x1300 (k) 2 = 3 then 9 else 0
        | c => c)
    let c2 : Nat := (match imageCause s (if (1 - k) = 0 then b.imageA else b.imageB) with
        | 0 => if s.get 0x1300 ((1 - k)) 2 = 3 then 9 else 0
        | c => c)
    c1 ≠ 0 →
    c2 = 0 →
    b.onLine = false →
    let h := (if (1 - k) = 0 then b.imageA else b.imageB).header
    Runs (.jtagReset b) s fun t => t = { ((slotValid (1 - k) h ((((s0.setAux .slotTried (k) 0 1).put 0x1300 (k) 2 2).put 0x1300 (k) 6 (c1)).setAux .slotCause (k) 0 (c1) |>.setAux .recSlot 0 0 (k) |>.setAux .slotTried (1 - k) 0 1)).put 0x1301 0 1 (1 - k)).put 0x1301 0 2 1 with phase := .starting } ∧ t.get 0x1301 0 1 = 1 - k ∧ t.get 0x1301 0 2 = 1 ∧ t.get 0x1300 k 2 = 2 ∧ t.get 0x1300 k 6 = c1 ∧ t.get 0x1300 (1 - k) 2 = 1 ∧ t.get 0x1040 0 0x0B = 3 ∧ t.mem = [] ∧ t.pending = s.pending ∧ t.now = s.now)
  ∧ (∀ (s : State) (b : BootIn),
    (s.phase ≠ .heldPorst ∧ s.phase ≠ .heldBrownOut ∧ s.phase ≠ .heldThermal) →
    let s0 := readTrims (newStart 3 s)
    s.aux .bootTest ≠ 1 →
    s.aux .bootSel ≠ 2 →
    let k : Nat := (if s.aux .bootSel = 1 then 1 else 0)
    let c1 : Nat := (match imageCause s (if k = 0 then b.imageA else b.imageB) with
        | 0 => if s.get 0x1300 (k) 2 = 3 then 9 else 0
        | c => c)
    let c2 : Nat := (match imageCause s (if (1 - k) = 0 then b.imageA else b.imageB) with
        | 0 => if s.get 0x1300 ((1 - k)) 2 = 3 then 9 else 0
        | c => c)
    c1 ≠ 0 →
    c2 ≠ 0 →
    Runs (.jtagReset b) s fun t => t = waitRecovery (1 - k) ((((((((s0.setAux .slotTried (k) 0 1).put 0x1300 (k) 2 2).put 0x1300 (k) 6 (c1)).setAux .slotCause (k) 0 (c1) |>.setAux .recSlot 0 0 (k)).setAux .slotTried (1 - k) 0 1).put 0x1300 (1 - k) 2 2).put 0x1300 (1 - k) 6 (c2)).setAux .slotCause (1 - k) 0 (c2) |>.setAux .recSlot 0 0 (1 - k)) ∧ t.phase = .recovery ∧ t.aux .recSlot = 1 - k ∧ t.get 0x1300 k 2 = 2 ∧ t.get 0x1300 k 6 = c1 ∧ t.get 0x1300 (1 - k) 2 = 2 ∧ t.get 0x1300 (1 - k) 6 = c2 ∧ t.get 0x1040 0 0x0B = 3 ∧ t.mem = [] ∧ t.pending = s.pending ∧ t.now = s.now
    ∧ (∀ i n c, ¬(i = 0x1040 ∧ n = 0 ∧ c = 0x0B ∨ i = 0x1300 ∧ n < 2 ∧ (c = 2 ∨ c = 6)) → t.get i n c = if survives ⟨i, n, c⟩ then s.get i n c else Objects.dflt ⟨i, n, c⟩)
    ∧ (∀ a p q, a ∉ [.bootSel, .bootTest, .slotKey, .sensorTrim, .recSlot, .slotTried, .slotCause] → t.aux a p q = State.reset.aux a p q))
  ∧ (∀ (s : State) (b : BootIn) (k : Nat),
    s.phase = .starting →
    s.get 0x1301 0 1 = k →
    (k < 2 → s.aux .slotTried 0 ≠ 0 ∧ s.aux .slotTried 1 ≠ 0) →
    let s0 := (restart s).setAux .startTo k 0 (s.get 0x1301 0 3)
    Runs (.startTimeout b) s fun t => t = waitRecovery (if k = 2 then s.aux .recSlot else k) (if k = 2 then s0 else s0.setAux .recSlot 0 0 k) ∧ t.phase = .recovery ∧ t.aux .recSlot = (if k = 2 then s.aux .recSlot else k) ∧ t.aux .startTo k = s.get 0x1301 0 3 ∧ t.mem = [] ∧ t.pending = s.pending ∧ t.now = s.now
    ∧ (∀ i n c, ¬(False) → t.get i n c = if survives ⟨i, n, c⟩ then s.get i n c else Objects.dflt ⟨i, n, c⟩)
    ∧ (∀ a p q, a ∉ [.bootSel, .bootTest, .slotTried, .slotCause, .startTo, .slotKey, .railLowSince, .railOut, .tempWarn, .tempCrit, .refLost, .sensorTrim, .recSlot] → t.aux a p q = State.reset.aux a p q))
  ∧ (∀ (s : State) (b : BootIn) (k : Nat),
    s.phase = .starting →
    s.get 0x1301 0 1 = k →
    k < 2 →
    s.aux .slotTried k = 1 →
    s.aux .slotTried (1 - k) = 0 →
    let s0 := (restart s).setAux .startTo k 0 (s.get 0x1301 0 3)
    (imageCause s (if (1 - k) = 0 then b.imageA else b.imageB) = 0) →
    s.get 0x1300 (1 - k) 2 ≠ 3 →
    b.onLine = false →
    let h := (if (1 - k) = 0 then b.imageA else b.imageB).header
    Runs (.startTimeout b) s fun t => t = { ((slotValid (1 - k) h ((s0.setAux .recSlot 0 0 k).setAux .slotTried (1 - k) 0 1)).put 0x1301 0 1 (1 - k)).put 0x1301 0 2 1 with phase := .starting } ∧ t.get 0x1301 0 1 = 1 - k ∧ t.get 0x1301 0 2 = 1 ∧ t.aux .startTo k = s.get 0x1301 0 3 ∧ t.mem = [] ∧ t.pending = s.pending ∧ t.now = s.now)
  ∧ (∀ (s : State) (b : BootIn) (k : Nat),
    s.phase = .starting →
    s.get 0x1301 0 1 = k →
    k < 2 →
    s.aux .slotTried k = 1 →
    s.aux .slotTried (1 - k) = 0 →
    let s0 := (restart s).setAux .startTo k 0 (s.get 0x1301 0 3)
    let c2 : Nat := (match imageCause s (if (1 - k) = 0 then b.imageA else b.imageB) with
        | 0 => if s.get 0x1300 ((1 - k)) 2 = 3 then 9 else 0
        | c => c)
    c2 ≠ 0 →
    Runs (.startTimeout b) s fun t => t = waitRecovery (1 - k) (((((s0.setAux .recSlot 0 0 k).setAux .slotTried (1 - k) 0 1).put 0x1300 (1 - k) 2 2).put 0x1300 (1 - k) 6 (c2)).setAux .slotCause (1 - k) 0 (c2) |>.setAux .recSlot 0 0 (1 - k)) ∧ t.phase = .recovery ∧ t.aux .recSlot = 1 - k ∧ t.get 0x1300 (1 - k) 2 = 2 ∧ t.get 0x1300 (1 - k) 6 = c2 ∧ t.aux .startTo k = s.get 0x1301 0 3 ∧ t.mem = [] ∧ t.pending = s.pending ∧ t.now = s.now
    ∧ (∀ i n c, ¬(i = 0x1300 ∧ n = 1 - k ∧ (c = 2 ∨ c = 6)) → t.get i n c = if survives ⟨i, n, c⟩ then s.get i n c else Objects.dflt ⟨i, n, c⟩)
    ∧ (∀ a p q, a ∉ [.bootSel, .bootTest, .slotTried, .slotCause, .startTo, .slotKey, .railLowSince, .railOut, .tempWarn, .tempCrit, .refLost, .sensorTrim, .recSlot] → t.aux a p q = State.reset.aux a p q))
  ∧ (∀ (s : State) (b : BootIn),
    s.phase ≠ .starting →
    Runs (.startTimeout b) s fun t => t = s)
  ∧ (∀ (s : State) (addr length : Nat) (image : ImageIn) (b : BootIn),
    s.phase = .recovery →
    let cause := (if length < 515 ∨ 3146240 < length then 2 else imageCause s { image with bytes := min image.bytes length })
    cause = 0 →
    b.onLine = false →
    let s0 := (((s.setAux .recAddr 0 0 (addr % 2 ^ 64)).setAux .recLen 0 0 length).setAux .recCause 0 0 cause).setAux .recOk 0 0 (if cause = 0 then 1 else 0)
    Runs (.recoveryLoad addr length image b) s fun t => t = { s0.put 0x1301 0 1 2 with phase := .starting } ∧ t.get 0x1301 0 1 = 2 ∧ t.aux .recAddr = addr % 2 ^ 64 ∧ t.aux .recLen = length ∧ t.aux .recCause = 0 ∧ t.aux .recOk = 1)
  ∧ (∀ (s : State) (addr length : Nat) (image : ImageIn) (b : BootIn),
    s.phase = .recovery →
    let cause := (if length < 515 ∨ 3146240 < length then 2 else imageCause s { image with bytes := min image.bytes length })
    cause ≠ 0 →
    let s0 := (((s.setAux .recAddr 0 0 (addr % 2 ^ 64)).setAux .recLen 0 0 length).setAux .recCause 0 0 cause).setAux .recOk 0 0 (if cause = 0 then 1 else 0)
    Runs (.recoveryLoad addr length image b) s fun t => t = s0 ∧ t.phase = .recovery ∧ t.aux .recCause = cause ∧ t.aux .recOk = 0)
  ∧ (∀ (s : State) (addr length : Nat) (image : ImageIn) (b : BootIn),
    s.phase ≠ .recovery →
    Runs (.recoveryLoad addr length image b) s fun t => t = s)

/-- When the image that a start accepts brings the dictionary on line, the device runs (R482, R483, R505): after POWER_ON_RESET,
JTAG_RESET, START_TIMEOUT and RECOVERY_LOAD with an accepted image and every sensor below 135 °C, the phase is running, event
3976 reports the cause, every engine and cluster shows the image's level and slot, the calibration set, the board identity
memory, the modules and the stack pages found bad have left their results, the reference clocks and sensors read as found, and
the clock identity stands in 0x5C80.02 (assumption log, entry 107). With a sensor at 135 °C or above the device is held for a
thermal shutdown (R42, R43). -/
def Obligations.WhatStartsBring : Prop :=
  (∀ (s : State) (b : BootIn),
    (s.phase = .heldBrownOut → 10000 ≤ b.width) →
    (s.phase = .heldThermal → (b.sensors.zipIdx.all fun r => r.1 + sensorTrim s r.2 < 12000) = true) →
    let cause := (if s.phase = .heldBrownOut then 1 else if s.phase = .heldThermal then 2 else 0)
    let s0 := readTrims (newStart cause ((s.setAux .bootSel 0 0 (b.straps % 4)).setAux .bootTest 0 0 0))
    b.testEn = false →
    b.straps % 4 ≠ 2 →
    let k : Nat := (if b.straps % 4 = 1 then 1 else 0)
    let i := (if k = 0 then b.imageA else b.imageB)
    imageCause s i = 0 →
    s.get 0x1300 k 2 ≠ 3 →
    b.onLine = true →
    (b.sensors.take 10).zipIdx.all (fun r => decide (r.1 + sensorTrim s0 r.2 < 13500)) = true →
    let s1 := (slotValid k i.header (s0.setAux .slotTried k 0 1)).put 0x1301 0 1 k
    Runs (.powerOnReset b) s fun t => t = goReady b k i s1 ∧ t.phase = .running ∧ t.get 0x1301 0 1 = k ∧ t.aux .slotKey k = numAt i.header 56 64 ∧ t.get 0x5C80 0 2 = Config.clockIdentity (s.get 0x1000 0 1) % 2 ^ 64 ∧ t.get 0x1200 3976 3 = 1 ∧ ((List.range 216).filter (Objects.engine t.trees)).all (fun e => t.get 0x5400 e 7 == numAt i.header 4 2 && t.aux .engImg e == k) = true ∧ (∀ c ∈ clusters t, t.get 0x5510 c 1 = numAt i.header 4 2 ∧ t.get 0x5510 c 2 = k))
  ∧ (∀ (s : State) (b : BootIn),
    (s.phase = .heldBrownOut → 10000 ≤ b.width) →
    (s.phase = .heldThermal → (b.sensors.zipIdx.all fun r => r.1 + sensorTrim s r.2 < 12000) = true) →
    let cause := (if s.phase = .heldBrownOut then 1 else if s.phase = .heldThermal then 2 else 0)
    let s0 := readTrims (newStart cause ((s.setAux .bootSel 0 0 (b.straps % 4)).setAux .bootTest 0 0 0))
    b.testEn = false →
    b.straps % 4 ≠ 2 →
    let k : Nat := (if b.straps % 4 = 1 then 1 else 0)
    let i := (if k = 0 then b.imageA else b.imageB)
    imageCause s i = 0 →
    s.get 0x1300 k 2 ≠ 3 →
    b.onLine = true →
    (b.sensors.take 10).zipIdx.any (fun r => decide (13500 ≤ r.1 + sensorTrim s0 r.2)) = true →
    let s1 := (slotValid k i.header (s0.setAux .slotTried k 0 1)).put 0x1301 0 1 k
    Runs (.powerOnReset b) s fun t => t = readEnvironment b { s1 with phase := .starting } ∧ t.phase = .heldThermal ∧ t.out = s.out ++ [⟨.shutOff, []⟩] ∧ t.get 0x1301 0 1 = k ∧ t.mem = [] ∧ t.pending = s.pending ∧ t.now = s.now)
  ∧ (∀ (s : State) (b : BootIn) (n : Nat),
    (s.phase = .heldBrownOut → 10000 ≤ b.width) →
    (s.phase = .heldThermal → (b.sensors.zipIdx.all fun r => r.1 + sensorTrim s r.2 < 12000) = true) →
    let cause := (if s.phase = .heldBrownOut then 1 else if s.phase = .heldThermal then 2 else 0)
    let s0 := readTrims (newStart cause ((s.setAux .bootSel 0 0 (b.straps % 4)).setAux .bootTest 0 0 0))
    b.testEn = false →
    b.straps % 4 ≠ 2 →
    let k : Nat := (if b.straps % 4 = 1 then 1 else 0)
    let i := (if k = 0 then b.imageA else b.imageB)
    imageCause s i = 0 →
    s.get 0x1300 k 2 ≠ 3 →
    b.onLine = true →
    (b.sensors.take 10).zipIdx.all (fun r => decide (r.1 + sensorTrim s0 r.2 < 13500)) = true →
    n < b.sensors.length →
    n < 10 →
    let s1 := (slotValid k i.header (s0.setAux .slotTried k 0 1)).put 0x1301 0 1 k
    Runs (.powerOnReset b) s fun t => t = goReady b k i s1 ∧ t.get 0x1042 n 1 = ofInt 32 ((b.sensors.getD n 0) + sensorTrim s0 n) ∧ t.get 0x1040 0 5 = ofInt 32 (hottest t) ∧ (9500 ≤ (b.sensors.getD n 0) + sensorTrim s0 n → (n = 8 → 2 ≤ t.get 0x1040 0 9) ∧ (n = 9 → 2 ≤ t.get 0x1040 0 0x0A)))
  ∧ (∀ (s : State) (b : BootIn) (n : Nat),
    (s.phase = .heldBrownOut → 10000 ≤ b.width) →
    (s.phase = .heldThermal → (b.sensors.zipIdx.all fun r => r.1 + sensorTrim s r.2 < 12000) = true) →
    let cause := (if s.phase = .heldBrownOut then 1 else if s.phase = .heldThermal then 2 else 0)
    let s0 := readTrims (newStart cause ((s.setAux .bootSel 0 0 (b.straps % 4)).setAux .bootTest 0 0 0))
    b.testEn = false →
    b.straps % 4 ≠ 2 →
    let k : Nat := (if b.straps % 4 = 1 then 1 else 0)
    let i := (if k = 0 then b.imageA else b.imageB)
    imageCause s i = 0 →
    s.get 0x1300 k 2 ≠ 3 →
    b.onLine = true →
    (b.sensors.take 10).zipIdx.all (fun r => decide (r.1 + sensorTrim s0 r.2 < 13500)) = true →
    n < b.refs.length →
    n < 4 →
    let m := (b.refs.getD n (0, 0)).1 % 3
    let off := (b.refs.getD n (0, 0)).2
    let s1 := (slotValid k i.header (s0.setAux .slotTried k 0 1)).put 0x1301 0 1 k
    Runs (.powerOnReset b) s fun t => t = goReady b k i s1 ∧ t.get 0x1050 n 1 = m ∧ (m ≠ 0 → t.get 0x1050 n 2 = ofInt 32 off) ∧ isPending t 3973 n = (m == 0) ∧ isPending t 3974 n = (m == 1) ∧ t.aux .refLost n = (if m = 0 then 1 else 0))
  ∧ (∀ (s : State) (b : BootIn) (n : Nat),
    (s.phase = .heldBrownOut → 10000 ≤ b.width) →
    (s.phase = .heldThermal → (b.sensors.zipIdx.all fun r => r.1 + sensorTrim s r.2 < 12000) = true) →
    let cause := (if s.phase = .heldBrownOut then 1 else if s.phase = .heldThermal then 2 else 0)
    let s0 := readTrims (newStart cause ((s.setAux .bootSel 0 0 (b.straps % 4)).setAux .bootTest 0 0 0))
    b.testEn = false →
    b.straps % 4 ≠ 2 →
    let k : Nat := (if b.straps % 4 = 1 then 1 else 0)
    let i := (if k = 0 then b.imageA else b.imageB)
    imageCause s i = 0 →
    s.get 0x1300 k 2 ≠ 3 →
    b.onLine = true →
    (b.sensors.take 10).zipIdx.all (fun r => decide (r.1 + sensorTrim s0 r.2 < 13500)) = true →
    Objects.hasInst s.trees 0x1051 n = true →
    n < 142 →
    (b.clocks.all fun c => c.1 != n) = true →
    let s1 := (slotValid k i.header (s0.setAux .slotTried k 0 1)).put 0x1301 0 1 k
    Runs (.powerOnReset b) s fun t => t = goReady b k i s1 ∧ t.get 0x1051 n 1 = islandNominal n ∧ t.get 0x5C00 0 0x12 = b.fref % 3 ∧ t.aux .frefLost = (if b.fref % 3 = 0 then 1 else 0))
  ∧ (∀ (s : State) (b : BootIn),
    (s.phase = .heldBrownOut → 10000 ≤ b.width) →
    (s.phase = .heldThermal → (b.sensors.zipIdx.all fun r => r.1 + sensorTrim s r.2 < 12000) = true) →
    let cause := (if s.phase = .heldBrownOut then 1 else if s.phase = .heldThermal then 2 else 0)
    let s0 := readTrims (newStart cause ((s.setAux .bootSel 0 0 (b.straps % 4)).setAux .bootTest 0 0 0))
    b.testEn = false →
    b.straps % 4 ≠ 2 →
    let k : Nat := (if b.straps % 4 = 1 then 1 else 0)
    let i := (if k = 0 then b.imageA else b.imageB)
    imageCause s i = 0 →
    s.get 0x1300 k 2 ≠ 3 →
    b.onLine = true →
    (b.sensors.take 10).zipIdx.all (fun r => decide (r.1 + sensorTrim s0 r.2 < 13500)) = true →
    boardResult b.board ≠ 0 →
    let s1 := (slotValid k i.header (s0.setAux .slotTried k 0 1)).put 0x1301 0 1 k
    Runs (.powerOnReset b) s fun t => t = goReady b k i s1 ∧ t.get 0x5E00 0 1 = boardResult b.board ∧ t.get 0x5010 0 1 = 1 ∧ t.get 0x1200 3980 3 = 1)
  ∧ (∀ (s : State) (b : BootIn),
    (s.phase = .heldBrownOut → 10000 ≤ b.width) →
    (s.phase = .heldThermal → (b.sensors.zipIdx.all fun r => r.1 + sensorTrim s r.2 < 12000) = true) →
    let cause := (if s.phase = .heldBrownOut then 1 else if s.phase = .heldThermal then 2 else 0)
    let s0 := readTrims (newStart cause ((s.setAux .bootSel 0 0 (b.straps % 4)).setAux .bootTest 0 0 0))
    b.testEn = false →
    b.straps % 4 ≠ 2 →
    let k : Nat := (if b.straps % 4 = 1 then 1 else 0)
    let i := (if k = 0 then b.imageA else b.imageB)
    imageCause s i = 0 →
    s.get 0x1300 k 2 ≠ 3 →
    b.onLine = true →
    (b.sensors.take 10).zipIdx.all (fun r => decide (r.1 + sensorTrim s0 r.2 < 13500)) = true →
    boardResult b.board = 0 →
    let x := b.board.bytes.take (numAt b.board.bytes 4 2)
    let recs := (recordsOf (min 8 (numAt x 30 2)) (x.drop 32)).1
    let s1 := (slotValid k i.header (s0.setAux .slotTried k 0 1)).put 0x1301 0 1 k
    Runs (.powerOnReset b) s fun t => t = goReady b k i s1 ∧ t.get 0x5E00 0 1 = 0 ∧ t.get 0x5E00 0 2 = numAt x 12 16 ∧ t.get 0x5E00 0 3 = numAt x 28 2 ∧ (recordOf recs 3).all (fun r => decide (t.get 0x5E00 0 4 = numAt r 0 16)) = true ∧ (recordOf recs 1).all (fun r => decide (t.get 0x5010 0 1 = tableResult r)) = true ∧ (recordOf recs 1 = none → t.get 0x5010 0 1 = 1) ∧ t.get 0x5E00 0 5 = Config.sm3 b.board.bytes % 2 ^ 256)
  ∧ (∀ (s : State) (b : BootIn) (n : Nat) (m : ModuleIn),
    (s.phase = .heldBrownOut → 10000 ≤ b.width) →
    (s.phase = .heldThermal → (b.sensors.zipIdx.all fun r => r.1 + sensorTrim s r.2 < 12000) = true) →
    let cause := (if s.phase = .heldBrownOut then 1 else if s.phase = .heldThermal then 2 else 0)
    let s0 := readTrims (newStart cause ((s.setAux .bootSel 0 0 (b.straps % 4)).setAux .bootTest 0 0 0))
    b.testEn = false →
    b.straps % 4 ≠ 2 →
    let k : Nat := (if b.straps % 4 = 1 then 1 else 0)
    let i := (if k = 0 then b.imageA else b.imageB)
    imageCause s i = 0 →
    s.get 0x1300 k 2 ≠ 3 →
    b.onLine = true →
    (b.sensors.take 10).zipIdx.all (fun r => decide (r.1 + sensorTrim s0 r.2 < 13500)) = true →
    b.modules = [(n, m)] →
    n < s.trees →
    let s1 := (slotValid k i.header (s0.setAux .slotTried k 0 1)).put 0x1301 0 1 k
    Runs (.powerOnReset b) s fun t => t = goReady b k i s1 ∧ t.get 0x5E10 n 1 = 1 ∧ t.get 0x5E10 n 2 = modStandard m ∧ t.get 0x5E10 n 3 = modText m 20 129 ∧ t.get 0x5E10 n 4 = modText m 40 148 ∧ t.get 0x5E10 n 5 = modText m 68 166 ∧ t.get 0x5E10 n 6 = (if modStandard m = 2 ∧ m.pam4 = true then 1 else 0) ∧ t.get 0x1200 3981 3 = 1)
  ∧ (∀ (s : State) (b : BootIn) (n : Nat),
    (s.phase = .heldBrownOut → 10000 ≤ b.width) →
    (s.phase = .heldThermal → (b.sensors.zipIdx.all fun r => r.1 + sensorTrim s r.2 < 12000) = true) →
    let cause := (if s.phase = .heldBrownOut then 1 else if s.phase = .heldThermal then 2 else 0)
    let s0 := readTrims (newStart cause ((s.setAux .bootSel 0 0 (b.straps % 4)).setAux .bootTest 0 0 0))
    b.testEn = false →
    b.straps % 4 ≠ 2 →
    let k : Nat := (if b.straps % 4 = 1 then 1 else 0)
    let i := (if k = 0 then b.imageA else b.imageB)
    imageCause s i = 0 →
    s.get 0x1300 k 2 ≠ 3 →
    b.onLine = true →
    (b.sensors.take 10).zipIdx.all (fun r => decide (r.1 + sensorTrim s0 r.2 < 13500)) = true →
    n < Objects.poolSize 3 →
    n ∈ b.pages →
    let s1 := (slotValid k i.header (s0.setAux .slotTried k 0 1)).put 0x1301 0 1 k
    Runs (.powerOnReset b) s fun t => t = goReady b k i s1 ∧ t.aux .pageHeld n = 1 ∧ t.get 0x4C00 3 2 = t.get 0x4C00 3 1 - ((b.pages.filter fun k => k < Objects.poolSize 3).eraseDups).length ∧ t.get 0x4C00 3 5 = t.get 0x4C00 3 2 ∧ t.get 0x1200 3996 3 = [0, 1].countP (fun m => ((b.pages.filter fun k => k < Objects.poolSize 3).eraseDups).any fun k => k % 2 == m))
  ∧ (∀ (s : State) (b : BootIn) (ty : Nat),
    (s.phase = .heldBrownOut → 10000 ≤ b.width) →
    (s.phase = .heldThermal → (b.sensors.zipIdx.all fun r => r.1 + sensorTrim s r.2 < 12000) = true) →
    let cause := (if s.phase = .heldBrownOut then 1 else if s.phase = .heldThermal then 2 else 0)
    let s0 := readTrims (newStart cause ((s.setAux .bootSel 0 0 (b.straps % 4)).setAux .bootTest 0 0 0))
    b.testEn = false →
    b.straps % 4 ≠ 2 →
    let k : Nat := (if b.straps % 4 = 1 then 1 else 0)
    let i := (if k = 0 then b.imageA else b.imageB)
    imageCause s i = 0 →
    s.get 0x1300 k 2 ≠ 3 →
    b.onLine = true →
    (b.sensors.take 10).zipIdx.all (fun r => decide (r.1 + sensorTrim s0 r.2 < 13500)) = true →
    ty ∈ [2, 3, 4, 6] →
    (calRecords s (s.get 0x1400 0 3)).all (fun r => r.1 != 5) = true →
    let s1 := (slotValid k i.header (s0.setAux .slotTried k 0 1)).put 0x1301 0 1 k
    Runs (.powerOnReset b) s fun t => t = goReady b k i s1 ∧ t.get 0x1200 3992 3 = [2, 3, 4, 6].countP (fun y => (recordOf (calRecords s (s.get 0x1400 0 3)) y).isNone))
  ∧ (∀ (s : State) (b : BootIn),
    (s.phase ≠ .heldPorst ∧ s.phase ≠ .heldBrownOut ∧ s.phase ≠ .heldThermal) →
    let s0 := readTrims (newStart 3 s)
    s.aux .bootTest ≠ 1 →
    s.aux .bootSel ≠ 2 →
    let k : Nat := (if s.aux .bootSel = 1 then 1 else 0)
    let i := (if k = 0 then b.imageA else b.imageB)
    imageCause s i = 0 →
    s.get 0x1300 k 2 ≠ 3 →
    b.onLine = true →
    (b.sensors.take 10).zipIdx.all (fun r => decide (r.1 + sensorTrim s0 r.2 < 13500)) = true →
    let s1 := (slotValid k i.header (s0.setAux .slotTried k 0 1)).put 0x1301 0 1 k
    Runs (.jtagReset b) s fun t => t = goReady b k i s1 ∧ t.phase = .running ∧ t.get 0x1301 0 1 = k ∧ t.aux .slotKey k = numAt i.header 56 64 ∧ t.get 0x5C80 0 2 = Config.clockIdentity (s.get 0x1000 0 1) % 2 ^ 64 ∧ t.get 0x1200 3976 3 = 1 ∧ ((List.range 216).filter (Objects.engine t.trees)).all (fun e => t.get 0x5400 e 7 == numAt i.header 4 2 && t.aux .engImg e == k) = true ∧ (∀ c ∈ clusters t, t.get 0x5510 c 1 = numAt i.header 4 2 ∧ t.get 0x5510 c 2 = k))
  ∧ (∀ (s : State) (b : BootIn) (k : Nat),
    s.phase = .starting →
    s.get 0x1301 0 1 = k →
    k < 2 →
    s.aux .slotTried k = 1 →
    s.aux .slotTried (1 - k) = 0 →
    let i := (if (1 - k) = 0 then b.imageA else b.imageB)
    imageCause s i = 0 →
    s.get 0x1300 (1 - k) 2 ≠ 3 →
    b.onLine = true →
    (b.sensors.take 10).zipIdx.all (fun r => decide (r.1 + sensorTrim s r.2 < 13500)) = true →
    let s0 := (restart s).setAux .startTo k 0 (s.get 0x1301 0 3)
    let s1 := ((slotValid (1 - k) i.header ((s0.setAux .recSlot 0 0 k).setAux .slotTried (1 - k) 0 1)).put 0x1301 0 1 (1 - k)).put 0x1301 0 2 1
    Runs (.startTimeout b) s fun t => t = goReady b (1 - k) i s1 ∧ t.get 0x1200 3978 3 = 1 ∧ t.phase = .running ∧ t.get 0x1301 0 1 = (1 - k) ∧ t.aux .slotKey (1 - k) = numAt i.header 56 64 ∧ t.get 0x5C80 0 2 = Config.clockIdentity (s.get 0x1000 0 1) % 2 ^ 64 ∧ t.get 0x1200 3976 3 = 1 ∧ ((List.range 216).filter (Objects.engine t.trees)).all (fun e => t.get 0x5400 e 7 == numAt i.header 4 2 && t.aux .engImg e == (1 - k)) = true ∧ (∀ c ∈ clusters t, t.get 0x5510 c 1 = numAt i.header 4 2 ∧ t.get 0x5510 c 2 = (1 - k)))
  ∧ (∀ (s : State) (addr length : Nat) (image : ImageIn) (b : BootIn),
    s.phase = .recovery →
    let cause := (if length < 515 ∨ 3146240 < length then 2 else imageCause s { image with bytes := min image.bytes length })
    cause = 0 →
    b.onLine = true →
    let s0 := (((s.setAux .recAddr 0 0 (addr % 2 ^ 64)).setAux .recLen 0 0 length).setAux .recCause 0 0 cause).setAux .recOk 0 0 (if cause = 0 then 1 else 0)
    (b.sensors.take 10).zipIdx.all (fun r => decide (r.1 + sensorTrim s r.2 < 13500)) = true →
    Runs (.recoveryLoad addr length image b) s fun t => t = goReady b 2 image (s0.put 0x1301 0 1 2) ∧ t.phase = .running ∧ t.get 0x1301 0 1 = 2 ∧ t.aux .slotKey 2 = numAt image.header 56 64 ∧ t.get 0x5C80 0 2 = Config.clockIdentity (s.get 0x1000 0 1) % 2 ^ 64 ∧ t.get 0x1200 3979 3 = wrapAdd 64 (s.get 0x1200 3979 3) 1 ∧ ((List.range 216).filter (Objects.engine t.trees)).all (fun e => t.get 0x5400 e 7 == numAt image.header 4 2 && t.aux .engImg e == 2) = true ∧ (∀ c ∈ clusters t, t.get 0x5510 c 1 = numAt image.header 4 2 ∧ t.get 0x5510 c 2 = 2))

/-- OBJECT_WRITE (R20, R449, R450): where the address names the object, the value has the length of its type, and the checks of
R20, R21, R392 and R480 pass, an object whose chapter gives no rule of its own (the list plainObjects) takes the value, the
answer is "done", and nothing else changes. A write of any other object has the effect that its own rule gives it (writeRule,
which names the operation of that object's command; for key material, KEY_WRITE). -/
def Obligations.DictionaryWritesComplete : Prop :=
  (∀ (s : State) (acc : Acc) (raw inst i n sub : Nat) (data : List Nat) (x : WriteIn) (r : Row),
    Up s →
    Objects.locate raw inst = some (i, n) →
    (i, sub) ∈ plainObjects →
    Objects.row i sub = some r →
    r.ty.lengthOk data.length = true →
    mayWrite acc i n sub (r.ty.fill data.length (ofBytes data)) s = true →
    Runs (.objectWrite acc raw inst sub data x) s fun t => t = { s.put i n sub (r.ty.fill data.length (ofBytes data)) with answer := ⟨0, 0⟩ } ∧ t.get i n sub = r.ty.fill data.length (ofBytes data)
    ∧ Only (fun ix k sb => ix = i ∧ k = n ∧ sb = sub) (fun _ _ _ => False) s t
    ∧ t = { s with objs := t.objs, regs := t.regs, answer := t.answer })
  ∧ (∀ (s : State) (acc : Acc) (raw inst i n sub : Nat) (data : List Nat) (x : WriteIn) (r : Row),
    Up s →
    Objects.locate raw inst = some (i, n) →
    sub ≠ 0 →
    mayAccess acc true i n sub s = true →
    Objects.row i sub = some r →
    (r.acc ≠ .ro ∧ roAt i n sub = false) →
    (¬(i = 0x4000 ∧ sub = 2)) →
    r.ty.lengthOk data.length = true →
    Runs (.objectWrite acc raw inst sub data x) s fun t => t = writeRule acc i n sub (r.ty.fill data.length (ofBytes data)) x s)
  ∧ (∀ (s : State) (acc : Acc) (raw inst n : Nat) (data : List Nat) (x : WriteIn),
    Up s →
    Objects.locate raw inst = some (0x4000, n) →
    mayAccess acc true 0x4000 n 2 s = true →
    Runs (.objectWrite acc raw inst 2 data x) s fun t => t = keyWrite acc n data.length (ofBytes data) s)

/-- A write answers "no object" where the address names none (R19), "access denied" where the object is read-only (R20) or the
vendor role is disabled (R506), "frozen" where its master is frozen (R392, "its accesses are refused"), "type mismatch" where
the data do not have the length of the type (R450), and for the plain objects named "busy" where the owning function of an RWD
object is not disabled (R20) and "out of range" outside the stated range and orderings (R480); in each case the state is
otherwise unchanged. The order in which these checks are made is the model's (assumption log, entry 38). -/
def Obligations.RefusedWritesChangeNothing : Prop :=
  (∀ (s : State) (acc : Acc) (raw inst sub : Nat) (data : List Nat) (x : WriteIn),
    Up s →
    Objects.locate raw inst = none →
    frozen s acc.master = false →
    acc.role ≠ .vendor →
    Runs (.objectWrite acc raw inst sub data x) s fun t => t = { s with answer := ⟨1, 0⟩ })
  ∧ (∀ (s : State) (acc : Acc) (raw inst i n sub : Nat) (data : List Nat) (x : WriteIn),
    Up s →
    Objects.locate raw inst = some (i, n) →
    sub ≠ 0 →
    frozen s acc.master = true →
    Runs (.objectWrite acc raw inst sub data x) s fun t => t = { s with answer := ⟨9, 0⟩ })
  ∧ (∀ (s : State) (acc : Acc) (raw inst i n sub : Nat) (data : List Nat) (x : WriteIn),
    Up s →
    Objects.locate raw inst = some (i, n) →
    sub ≠ 0 →
    frozen s acc.master = false →
    acc.role = .vendor →
    s.aux .vendorOn = 0 →
    Runs (.objectWrite acc raw inst sub data x) s fun t => t = { s with answer := ⟨2, 0⟩ })
  ∧ (∀ (s : State) (acc : Acc) (raw inst i n sub : Nat) (data : List Nat) (x : WriteIn),
    Up s →
    Objects.locate raw inst = some (i, n) →
    sub ≠ 0 →
    frozen s acc.master = false →
    (acc.role = .vendor → s.aux .vendorOn ≠ 0) →
    Objects.has s.trees i n sub = false →
    Runs (.objectWrite acc raw inst sub data x) s fun t => t = { s with answer := ⟨1, 0⟩ })
  ∧ (∀ (s : State) (acc : Acc) (raw inst i n sub : Nat) (data : List Nat) (x : WriteIn) (r : Row),
    Up s →
    Objects.locate raw inst = some (i, n) →
    sub ≠ 0 →
    mayAccess acc true i n sub s = true →
    Objects.row i sub = some r →
    (r.acc = .ro ∨ roAt i n sub = true) →
    Runs (.objectWrite acc raw inst sub data x) s fun t => t = { s with answer := ⟨2, 0⟩ })
  ∧ (∀ (s : State) (acc : Acc) (raw inst i n sub : Nat) (data : List Nat) (x : WriteIn) (r : Row),
    Up s →
    Objects.locate raw inst = some (i, n) →
    sub ≠ 0 →
    mayAccess acc true i n sub s = true →
    Objects.row i sub = some r →
    r.acc ≠ .ro →
    roAt i n sub = false →
    (¬(i = 0x4000 ∧ sub = 2)) →
    r.ty.lengthOk data.length = false →
    Runs (.objectWrite acc raw inst sub data x) s fun t => t = { s with answer := ⟨8, 0⟩ })
  ∧ (∀ (s : State) (acc : Acc) (raw inst i n sub : Nat) (data : List Nat) (x : WriteIn) (r : Row),
    Up s →
    Objects.locate raw inst = some (i, n) →
    (i, sub) ∈ plainObjects →
    mayAccess acc true i n sub s = true →
    Objects.row i sub = some r →
    r.ty.lengthOk data.length = true →
    rwdBusy s i n sub = true →
    Runs (.objectWrite acc raw inst sub data x) s fun t => t = { s with answer := ⟨3, 0⟩ })
  ∧ (∀ (s : State) (acc : Acc) (raw inst i n sub : Nat) (data : List Nat) (x : WriteIn) (r : Row),
    Up s →
    Objects.locate raw inst = some (i, n) →
    (i, sub) ∈ plainObjects →
    mayAccess acc true i n sub s = true →
    Objects.row i sub = some r →
    r.ty.lengthOk data.length = true →
    (r.valueOk (r.ty.fill data.length (ofBytes data)) = false ∨ orderOk s i n sub (r.ty.fill data.length (ofBytes data)) = false) →
    rwdBusy s i n sub = false →
    Runs (.objectWrite acc raw inst sub data x) s fun t => t = { s with answer := ⟨4, 0⟩ })
  ∧ (∀ (s : State) (acc : Acc) (raw inst i n : Nat) (data : List Nat) (x : WriteIn),
    Up s →
    Objects.locate raw inst = some (i, n) →
    reachable s i n = true →
    frozen s acc.master = false →
    (acc.role = .vendor → s.aux .vendorOn ≠ 0) →
    rights s acc.role true i n 0 = 0 →
    Runs (.objectWrite acc raw inst 0 data x) s fun t => t = { s with answer := ⟨2, 0⟩ })

/-- Bit n of 0x1211[g].01 is set exactly while number 64g + n is unmasked and has a pending instance; bit g of 0x1210.09 exactly
while group word g is not zero; ALARM_N (the view alarm) is asserted exactly while a number that is unmasked and of severity 2
or more has a pending instance; and for every pending unmasked number both its bits are set, so two reads from the root find it
(R474). -/
def Obligations.EventTreeShowsWhatIsPending : Prop :=
  (∀ (s : State) (g n : Nat),
    n < 64 →
    ((shown s 0x1211 g 1).testBit n = true ↔ s.get 0x1200 (64 * g + n) 1 = 0 ∧ ∃ r ∈ s.evPending, r.num = 64 * g + n))
  ∧ (∀ (s : State) (g : Nat),
    g < 64 →
    ((shown s 0x1210 0 9).testBit g = true ↔ shown s 0x1211 g 1 ≠ 0))
  ∧ (∀ (s : State),
    (alarm s = true ↔ ∃ r ∈ s.evPending, s.get 0x1200 r.num 1 = 0 ∧ 2 ≤ s.get 0x1200 r.num 2))
  ∧ (∀ (s : State) (num : Nat),
    num < 4096 →
    s.get 0x1200 num 1 = 0 →
    (∃ r ∈ s.evPending, r.num = num) →
    (shown s 0x1210 0 9).testBit (num / 64) = true ∧ (shown s 0x1211 (num / 64) 1).testBit (num % 64) = true)

/-- A raised record of an event that lasts makes its instance pending, and its clearing record ends that (R472); a self-clearing
event is never made pending; the other instances and, but for the forerunner alias (R479), the other numbers stay as they are.
ALARM_N is asserted while any number that is unmasked and of severity 2 or more has a pending instance. -/
def Obligations.PendingFromRaisedRecordToClearing : Prop :=
  (∀ (s : State) (num inst a1 a2 : Nat),
    Objects.lasting num = true →
    isPending (raise num inst a1 a2 s) num inst = true ∧ isPending (clear num inst (raise num inst a1 a2 s)) num inst = false)
  ∧ (∀ (s : State) (num inst a1 a2 n i : Nat),
    (n ≠ num ∨ i ≠ inst) →
    Objects.aliasOf num ≠ some n →
    isPending (raise num inst a1 a2 s) n i = isPending s n i ∧ isPending (clear num inst s) n i = isPending s n i)
  ∧ (∀ (s : State) (num inst a1 a2 n i : Nat),
    Objects.lasting n = false →
    isPending (raise num inst a1 a2 s) n i = isPending s n i)
  ∧ (∀ (s : State),
    (alarm s = true ↔ ∃ num inst, isPending s num inst = true ∧ s.get 0x1200 num 1 = 0 ∧ 2 ≤ s.get 0x1200 num 2))

/-- A record of one number (R471, R473, R476, R477) adds 1 to the number's count; unmasked and with fewer than 8,192 records
waiting it goes to the end of the queue, with its number's severity, the time, its arguments as 32-bit values and the next
sequence number; with the queue full it is dropped and counted in 0x1210.03; masked it leaves the queue as it is, and the
number's sequence with it (the model's choice, assumption log entry 34). -/
def Obligations.RecordsEnterTheQueue : Prop :=
  (∀ (s : State) (num inst a1 a2 : Nat),
    s.get 0x1200 num 1 = 0 →
    s.evQueue.length < 8192 →
    (raiseOne num inst a1 a2 s).evQueue = s.evQueue ++ [⟨num, s.get 0x1200 num 2, inst, s.now, a1 % 2 ^ 32, a2 % 2 ^ 32, wrapAdd 32 (s.aux .evSeq num) 1⟩] ∧ (raiseOne num inst a1 a2 s).get 0x1200 num 3 = wrapAdd 64 (s.get 0x1200 num 3) 1 ∧ (raiseOne num inst a1 a2 s).get 0x1210 0 3 = s.get 0x1210 0 3)
  ∧ (∀ (s : State) (num inst a1 a2 : Nat),
    s.get 0x1200 num 1 = 0 →
    8192 ≤ s.evQueue.length →
    (raiseOne num inst a1 a2 s).evQueue = s.evQueue ∧ (raiseOne num inst a1 a2 s).get 0x1210 0 3 = wrapAdd 64 (s.get 0x1210 0 3) 1 ∧ (raiseOne num inst a1 a2 s).get 0x1200 num 3 = wrapAdd 64 (s.get 0x1200 num 3) 1)
  ∧ (∀ (s : State) (num inst a1 a2 : Nat),
    s.get 0x1200 num 1 = 1 →
    (raiseOne num inst a1 a2 s).evQueue = s.evQueue ∧ (raiseOne num inst a1 a2 s).aux .evSeq num = s.aux .evSeq num ∧ (raiseOne num inst a1 a2 s).get 0x1200 num 3 = wrapAdd 64 (s.get 0x1200 num 3) 1 ∧ (Objects.lasting num = true → isPending (raiseOne num inst a1 a2 s) num inst = true))

/-- A write outside the rights of its role is refused with "access denied" and its master is frozen (R21, R203, R392): the
freeze record takes the cause (1 outside the role, 2 a tenant's reach), the access and the time, its count rises, and the buffer
requester of the same engine or DMA channel is frozen with it. The object written is not touched: outside the records of
freezes, knells, requesters, channels, rings, sessions, tenants' refusals, self-tests (abandoned when their engine is knelled)
and events nothing changes. -/
def Obligations.AccessOutsideItsRoleFreezesTheMaster : Prop :=
  (∀ (s : State) (acc : Acc) (raw inst i n sub : Nat) (data : List Nat) (x : WriteIn),
    Up s →
    Objects.locate raw inst = some (i, n) →
    sub ≠ 0 →
    frozen s acc.master = false →
    (acc.role = .vendor → s.aux .vendorOn ≠ 0) →
    Objects.has s.trees i n sub = true →
    access.present s i n = true →
    rights s acc.role true i n sub ≠ 0 →
    let code := rights s acc.role true i n sub
    Runs (.objectWrite acc raw inst sub data x) s fun t => t.answer = ⟨2, 0⟩ ∧ frozen t acc.master = true ∧ t.get 0x5480 acc.master 2 = code ∧ t.get 0x5480 acc.master 3 = accessWord i sub ∧ t.get 0x5480 acc.master 4 = time80 s.now ∧ t.get 0x5480 acc.master 6 = wrapAdd 32 (s.get 0x5480 acc.master 6) 1 ∧ (∀ r, requesterOf acc.master = some r → t.get 0x4C10 r 9 = 1)
    ∧ OnlyEv (fun ix k sb => ix = 0x5480 ∧ k = acc.master ∧ sb ∈ [1, 2, 3, 4, 6] ∨ ix = 0x4C10 ∧ requesterOf acc.master = some k ∧ sb = 9 ∨ ix = 0x3810 ∧ acc.role = .tenant k ∧ sb ∈ [4, 5] ∨ ix = 0x1150 ∧ acc.master = 256 + k ∧ sb = 2 ∨ ix = 0x4380 ∧ acc.master = 272 + k ∧ sb = 2 ∨ ix = 0x1120 ∧ acc.master = 280 + k ∧ sb = 1 ∨ ix = 0x5400 ∧ (k = acc.master ∧ sb ∈ [1, 2, 3, 4] ∨ k ∈ roleSpares (s.get 0x5400 acc.master 1) ∧ sb = 1) ∨ ix = 0x5900 ∧ diagnostic k = s.get 0x5400 acc.master 1 ∧ sb ∈ [2, 5, 6, 8, 9] ∨ ix = 0x5940 ∧ sb = 5 ∧ diagnostic (k / 16) = s.get 0x5400 acc.master 1) (fun a p q => a ∈ [.knellAt, .safePoint] ∧ p = acc.master ∨ a = .engVac ∧ (p, q) ∈ roleStages s (s.get 0x5400 acc.master 1) ∨ a ∈ [.knellBy, .unserved] ∧ p = s.get 0x5400 acc.master 1 ∨ a = .unservedN ∨ a = .stAban ∧ diagnostic p = s.get 0x5400 acc.master 1) s t
    ∧ t = { s with objs := t.objs, regs := t.regs, evQueue := t.evQueue, evPending := t.evPending, answer := t.answer })

/-- On a tree whose cage is not fitted (bit 7 of 0x5E01[t].01 is 0), MAIN_LANE_ENABLE and COEX_LANE_ENABLE by one who may write
the enable are refused with "not supported", status 5, and so is COEX_LANE_ENABLE where the coexistence pair is not wired (bit 6
is 0); the command object shows that status (R452), and nothing else changes (R495). -/
def Obligations.UnfittedTreesRefuseTheirLanes : Prop :=
  (∀ (s : State) (acc : Acc) (tree : Nat),
    Up s →
    mayWrite acc 0x2000 tree 2 1 s = true →
    bit 7 (s.get 0x5E01 tree 1) = false →
    Runs (.mainLaneEnable acc tree) s fun t => t.answer = ⟨5, 0⟩ ∧ t.get 0x2000 tree 2 = 5
    ∧ Only (fun ix k sb => ix = 0x2000 ∧ k = tree ∧ sb = 2) (fun _ _ _ => False) s t
    ∧ t = { s with objs := t.objs, regs := t.regs, answer := t.answer })
  ∧ (∀ (s : State) (acc : Acc) (tree : Nat),
    Up s →
    mayWrite acc 0x2002 tree 2 1 s = true →
    (bit 7 (s.get 0x5E01 tree 1) = false ∨ bit 6 (s.get 0x5E01 tree 1) = false) →
    Runs (.coexLaneEnable acc tree) s fun t => t.answer = ⟨5, 0⟩ ∧ t.get 0x2002 tree 2 = 5
    ∧ Only (fun ix k sb => ix = 0x2002 ∧ k = tree ∧ sb = 2) (fun _ _ _ => False) s t
    ∧ t = { s with objs := t.objs, regs := t.regs, answer := t.answer })

/-- A rule matches a key when it is valid and the key equals the rule's value in every bit where the rule's mask is 1; of the
valid matching rules of a coat the lowest-numbered one decides, whoever owns it, and where none matches none decides (R274). The
packet's coat is the slot of rules 65536 slot to 65536 slot + 65535. The objects are in their canonical form. -/
def Obligations.LowestMatchingRuleDecides : Prop :=
  (∀ (s : State) (i key : Nat),
    key < 2 ^ 576 →
    (ruleMatches s i key = true ↔ ∀ b, (ruleMask s i).testBit b = true → key.testBit b = (ruleValue s i).testBit b))
  ∧ (∀ (s : State) (slot key i : Nat),
    Store.wf Objects.dflt s.objs = true →
    (decidingRule s slot key = some i ↔ (s.get 0x4400 i 4 = 1 ∧ i / 65536 = slot ∧ ruleMatches s i key = true) ∧ ∀ j < i, ¬(s.get 0x4400 j 4 = 1 ∧ j / 65536 = slot ∧ ruleMatches s j key = true)))
  ∧ (∀ (s : State) (slot key : Nat),
    Store.wf Objects.dflt s.objs = true →
    (decidingRule s slot key = none ↔ ∀ i, ¬(s.get 0x4400 i 4 = 1 ∧ i / 65536 = slot ∧ ruleMatches s i key = true)))

/-- A stored word reads back as its data; with any one of its 72 bits inverted it is correctable and reads back as its data
still; with any two inverted it is never taken as clean or correctable; and a word stored with its check bits XOR 0x60 reads as
poisoned (R409, R410). -/
def Obligations.OneBitErrorsAreCorrected : Prop :=
  (∀ (data : Nat),
    data < 2 ^ 64 →
    classOf (syndrome (codeWord data 0)) = .clean ∧ deliver (codeWord data 0) = data ∧ classOf (syndrome (codeWord data 0x60)) = .poisoned)
  ∧ (∀ (data i : Nat),
    data < 2 ^ 64 →
    i < 72 →
    classOf (syndrome (Nat.xor (codeWord data 0) (2 ^ i))) = .correctable ∧ deliver (Nat.xor (codeWord data 0) (2 ^ i)) = data)
  ∧ (∀ (data i j : Nat),
    data < 2 ^ 64 →
    i < j →
    j < 72 →
    (classOf (syndrome (Nat.xor (Nat.xor (codeWord data 0) (2 ^ i)) (2 ^ j)))).bad = true)

/-- For every command c and state s, the step of s with c at the front of its queue is exec of c at s with the queue's rest;
with an empty queue the time base counts 1 ns on (the model's choice, assumption log entry 4, from R428's 1 GHz count) and the
events 1552 and 2308 that a second without their cause ends are cleared (R228, R299); where none of them is due, nothing but the
time base changes. -/
def Obligations.StepRunsTheFrontCommand : Prop :=
  (∀ (c : Instr) (s : State), step { s with pending := c :: s.pending } = exec c s)
  ∧ ∀ s : State, s.pending = [] → step s = .next (quietEvents { s with now := s.now + 1 })
    ∧ ((∀ r ∈ s.evPending, r.num = 1552 ∨ r.num = 2308 → lastSecond { s with now := s.now + 1 } r.num r.inst 0 ≠ 0) →
      step s = .next { s with now := s.now + 1 })

/-- Every step answers a next state: the spec gives each command an effect, and refuses by a status, a count or an event, never
by stopping (R20, R452). -/
def Obligations.EveryStepAnswersANextState : Prop :=
  ∀ s : State, ∃ t, step s = .next t

/-- Whatever command runs, the commands that wait stay as they are, and everything that the block had sent stays in front of
what the command sends. (The queue and the record of what is sent are the model's own: assumption log, entries 9 and 11.) -/
def Obligations.CommandsLeaveTheQueueAndTheLog : Prop :=
  ∀ (c : Instr) (s t : State), exec c s = .next t → t.pending = s.pending ∧ s.out <+: t.out

/-- While the device starts or waits for a recovery image, no engine runs and nothing is answered (R36, R37, R483): every
command but POWER_ON_RESET, JTAG_RESET, START_TIMEOUT and RECOVERY_LOAD, and what the monitors of rails, temperatures and
reference clocks see (R39, R42, R46: RAIL_SAMPLE, RAIL_EXCURSION, RAIL_EXCURSION_CLEAR, BROWN_OUT, TEMPERATURE_SAMPLE,
REFERENCE_LOST, REFERENCE_OFFSET, REFERENCE_RESTORED), leaves the state as it is. While it is held in reset these monitors too
leave the state as it is. -/
def Obligations.HeldDeviceIgnoresCommands : Prop :=
  ∀ (c : Instr) (s : State), s.phase ≠ .running →
    (match c with
      | .powerOnReset .. | .jtagReset .. | .startTimeout .. | .recoveryLoad .. => False
      | .railSample .. | .railExcursion .. | .railExcursionClear .. | .brownOut .. | .temperatureSample ..
      | .referenceLost .. | .referenceOffset .. | .referenceRestored .. => s.phase ≠ .starting ∧ s.phase ≠ .recovery
      | _ => True) →
    exec c s = .next s

/-- Right after reset PORST_N is low (R49, the model's reading: assumption log, entry 1), no command waits, no event is pending
and ALARM_N is not asserted, every table has its canonical form, the event path is sound, and objects read the defaults of their
tables (R54, R301, R471): the core set point and floor 800 and 720 mV, the shutdown threshold 135.00 °C, the drain limits 1,000,
the low marks of the four pools, a terminal without ONU-ID, the severity of events 1537 and 3971. -/
def Obligations.ResetStateHolds : Prop :=
  Canonical State.reset ∧ EventsSound State.reset ∧ alarm State.reset = false ∧ State.reset.phase = .heldPorst
  ∧ State.reset.pending = [] ∧ State.reset.get 0x1040 0 1 = 800 ∧ State.reset.get 0x1040 0 3 = 720
  ∧ State.reset.get 0x1040 0 8 = 13500 ∧ State.reset.get 0x2000 47 6 = 1000
  ∧ (∀ p < 4, State.reset.get 0x4C00 p 3 = [9472, 2304, 64, 98304].getD p 0)
  ∧ State.reset.get 0x3000 24575 5 = 0xFFFF ∧ State.reset.get 0x1200 1537 2 = 3 ∧ State.reset.get 0x1200 3971 2 = 2

/-- From every state whose tables of objects, hidden registers and memory words have their canonical form (the keys strictly
rising, nothing listed that an unlisted entry reads as), every step of the block, whatever command waits in front, leads to such
a state: so equal contents are equal states throughout every run. -/
def Obligations.StepsKeepTheCanonicalForm : Prop :=
  ∀ s t : State, Canonical s → step s = .next t → Canonical t

/-- From every state in which no self-clearing event number has a pending instance (R472) and the hardware queue holds at most
8,192 records (R477), every step of the block, whatever command waits in front, leads to such a state. -/
def Obligations.StepsKeepTheEventPathSound : Prop :=
  ∀ s t : State, EventsSound s → step s = .next t → EventsSound t
end

