-- ==== Sys2Proof/Laws/State.lean ====
section
/-!
SUPPORT. Laws/State.lean: what each named update of State leaves, field by field, so that no proof unfolds a record update.
-/
namespace Sys2Proof.Machine

@[simp] theorem State.put_phase (s : State) (i n b : Nat) (v : Reg) : (s.put i n b v).phase = s.phase := (rfl)
@[simp] theorem State.put_now (s : State) (i n b : Nat) (v : Reg) : (s.put i n b v).now = s.now := (rfl)
@[simp] theorem State.put_regs (s : State) (i n b : Nat) (v : Reg) : (s.put i n b v).regs = s.regs := (rfl)
@[simp] theorem State.put_mem (s : State) (i n b : Nat) (v : Reg) : (s.put i n b v).mem = s.mem := (rfl)
@[simp] theorem State.put_evQueue (s : State) (i n b : Nat) (v : Reg) : (s.put i n b v).evQueue = s.evQueue := (rfl)
@[simp] theorem State.put_evPending (s : State) (i n b : Nat) (v : Reg) : (s.put i n b v).evPending = s.evPending := (rfl)
@[simp] theorem State.put_pkts (s : State) (i n b : Nat) (v : Reg) : (s.put i n b v).pkts = s.pkts := (rfl)
@[simp] theorem State.put_rounds (s : State) (i n b : Nat) (v : Reg) : (s.put i n b v).rounds = s.rounds := (rfl)
@[simp] theorem State.put_ploams (s : State) (i n b : Nat) (v : Reg) : (s.put i n b v).ploams = s.ploams := (rfl)
@[simp] theorem State.put_keyWaits (s : State) (i n b : Nat) (v : Reg) : (s.put i n b v).keyWaits = s.keyWaits := (rfl)
@[simp] theorem State.put_jobs (s : State) (i n b : Nat) (v : Reg) : (s.put i n b v).jobs = s.jobs := (rfl)
@[simp] theorem State.put_staged (s : State) (i n b : Nat) (v : Reg) : (s.put i n b v).staged = s.staged := (rfl)
@[simp] theorem State.put_sealedMaps (s : State) (i n b : Nat) (v : Reg) : (s.put i n b v).sealedMaps = s.sealedMaps := (rfl)
@[simp] theorem State.put_sentMaps (s : State) (i n b : Nat) (v : Reg) : (s.put i n b v).sentMaps = s.sentMaps := (rfl)
@[simp] theorem State.put_quiets (s : State) (i n b : Nat) (v : Reg) : (s.put i n b v).quiets = s.quiets := (rfl)
@[simp] theorem State.put_bulletins (s : State) (i n b : Nat) (v : Reg) : (s.put i n b v).bulletins = s.bulletins := (rfl)
@[simp] theorem State.put_muted (s : State) (i n b : Nat) (v : Reg) : (s.put i n b v).muted = s.muted := (rfl)
@[simp] theorem State.put_offsets (s : State) (i n b : Nat) (v : Reg) : (s.put i n b v).offsets = s.offsets := (rfl)
@[simp] theorem State.put_words (s : State) (i n b : Nat) (v : Reg) : (s.put i n b v).words = s.words := (rfl)
@[simp] theorem State.put_stamps (s : State) (i n b : Nat) (v : Reg) : (s.put i n b v).stamps = s.stamps := (rfl)
@[simp] theorem State.put_vframes (s : State) (i n b : Nat) (v : Reg) : (s.put i n b v).vframes = s.vframes := (rfl)
@[simp] theorem State.put_viothIn (s : State) (i n b : Nat) (v : Reg) : (s.put i n b v).viothIn = s.viothIn := (rfl)
@[simp] theorem State.put_pipeIn (s : State) (i n b : Nat) (v : Reg) : (s.put i n b v).pipeIn = s.pipeIn := (rfl)
@[simp] theorem State.put_recirc (s : State) (i n b : Nat) (v : Reg) : (s.put i n b v).recirc = s.recirc := (rfl)
@[simp] theorem State.put_frags (s : State) (i n b : Nat) (v : Reg) : (s.put i n b v).frags = s.frags := (rfl)
@[simp] theorem State.put_held (s : State) (i n b : Nat) (v : Reg) : (s.put i n b v).held = s.held := (rfl)
@[simp] theorem State.put_routes (s : State) (i n b : Nat) (v : Reg) : (s.put i n b v).routes = s.routes := (rfl)
@[simp] theorem State.put_learns (s : State) (i n b : Nat) (v : Reg) : (s.put i n b v).learns = s.learns := (rfl)
@[simp] theorem State.put_templates (s : State) (i n b : Nat) (v : Reg) : (s.put i n b v).templates = s.templates := (rfl)
@[simp] theorem State.put_plan (s : State) (i n b : Nat) (v : Reg) : (s.put i n b v).plan = s.plan := (rfl)
@[simp] theorem State.put_dues (s : State) (i n b : Nat) (v : Reg) : (s.put i n b v).dues = s.dues := (rfl)
@[simp] theorem State.put_skews (s : State) (i n b : Nat) (v : Reg) : (s.put i n b v).skews = s.skews := (rfl)
@[simp] theorem State.put_beats (s : State) (i n b : Nat) (v : Reg) : (s.put i n b v).beats = s.beats := (rfl)
@[simp] theorem State.put_energy (s : State) (i n b : Nat) (v : Reg) : (s.put i n b v).energy = s.energy := (rfl)
@[simp] theorem State.put_noDelims (s : State) (i n b : Nat) (v : Reg) : (s.put i n b v).noDelims = s.noDelims := (rfl)
@[simp] theorem State.put_probes (s : State) (i n b : Nat) (v : Reg) : (s.put i n b v).probes = s.probes := (rfl)
@[simp] theorem State.put_fifo (s : State) (i n b : Nat) (v : Reg) : (s.put i n b v).fifo = s.fifo := (rfl)
@[simp] theorem State.put_sdus (s : State) (i n b : Nat) (v : Reg) : (s.put i n b v).sdus = s.sdus := (rfl)
@[simp] theorem State.put_coexStage (s : State) (i n b : Nat) (v : Reg) : (s.put i n b v).coexStage = s.coexStage := (rfl)
@[simp] theorem State.put_notices (s : State) (i n b : Nat) (v : Reg) : (s.put i n b v).notices = s.notices := (rfl)
@[simp] theorem State.put_transfers (s : State) (i n b : Nat) (v : Reg) : (s.put i n b v).transfers = s.transfers := (rfl)
@[simp] theorem State.put_replies (s : State) (i n b : Nat) (v : Reg) : (s.put i n b v).replies = s.replies := (rfl)
@[simp] theorem State.put_subs (s : State) (i n b : Nat) (v : Reg) : (s.put i n b v).subs = s.subs := (rfl)
@[simp] theorem State.put_notifies (s : State) (i n b : Nat) (v : Reg) : (s.put i n b v).notifies = s.notifies := (rfl)
@[simp] theorem State.put_backlog (s : State) (i n b : Nat) (v : Reg) : (s.put i n b v).backlog = s.backlog := (rfl)
@[simp] theorem State.put_relays (s : State) (i n b : Nat) (v : Reg) : (s.put i n b v).relays = s.relays := (rfl)
@[simp] theorem State.put_hostWaits (s : State) (i n b : Nat) (v : Reg) : (s.put i n b v).hostWaits = s.hostWaits := (rfl)
@[simp] theorem State.put_out (s : State) (i n b : Nat) (v : Reg) : (s.put i n b v).out = s.out := (rfl)
@[simp] theorem State.put_answer (s : State) (i n b : Nat) (v : Reg) : (s.put i n b v).answer = s.answer := (rfl)
@[simp] theorem State.put_freeCtr (s : State) (i n b : Nat) (v : Reg) : (s.put i n b v).freeCtr = s.freeCtr := (rfl)
@[simp] theorem State.put_pending (s : State) (i n b : Nat) (v : Reg) : (s.put i n b v).pending = s.pending := (rfl)
@[simp] theorem State.put_fsFrames (s : State) (i n b : Nat) (v : Reg) : (s.put i n b v).fsFrames = s.fsFrames := (rfl)
@[simp] theorem State.put_downWait (s : State) (i n b : Nat) (v : Reg) : (s.put i n b v).downWait = s.downWait := (rfl)
@[simp] theorem State.put_recent (s : State) (i n b : Nat) (v : Reg) : (s.put i n b v).recent = s.recent := (rfl)
@[simp] theorem State.put_early (s : State) (i n b : Nat) (v : Reg) : (s.put i n b v).early = s.early := (rfl)

@[simp] theorem State.setAux_phase (s : State) (a : Aux) (i j : Nat) (v : Reg) : (s.setAux a i j v).phase = s.phase := (rfl)
@[simp] theorem State.setAux_now (s : State) (a : Aux) (i j : Nat) (v : Reg) : (s.setAux a i j v).now = s.now := (rfl)
@[simp] theorem State.setAux_objs (s : State) (a : Aux) (i j : Nat) (v : Reg) : (s.setAux a i j v).objs = s.objs := (rfl)
@[simp] theorem State.setAux_mem (s : State) (a : Aux) (i j : Nat) (v : Reg) : (s.setAux a i j v).mem = s.mem := (rfl)
@[simp] theorem State.setAux_evQueue (s : State) (a : Aux) (i j : Nat) (v : Reg) : (s.setAux a i j v).evQueue = s.evQueue := (rfl)
@[simp] theorem State.setAux_evPending (s : State) (a : Aux) (i j : Nat) (v : Reg) : (s.setAux a i j v).evPending = s.evPending := (rfl)
@[simp] theorem State.setAux_pkts (s : State) (a : Aux) (i j : Nat) (v : Reg) : (s.setAux a i j v).pkts = s.pkts := (rfl)
@[simp] theorem State.setAux_rounds (s : State) (a : Aux) (i j : Nat) (v : Reg) : (s.setAux a i j v).rounds = s.rounds := (rfl)
@[simp] theorem State.setAux_ploams (s : State) (a : Aux) (i j : Nat) (v : Reg) : (s.setAux a i j v).ploams = s.ploams := (rfl)
@[simp] theorem State.setAux_keyWaits (s : State) (a : Aux) (i j : Nat) (v : Reg) : (s.setAux a i j v).keyWaits = s.keyWaits := (rfl)
@[simp] theorem State.setAux_jobs (s : State) (a : Aux) (i j : Nat) (v : Reg) : (s.setAux a i j v).jobs = s.jobs := (rfl)
@[simp] theorem State.setAux_staged (s : State) (a : Aux) (i j : Nat) (v : Reg) : (s.setAux a i j v).staged = s.staged := (rfl)
@[simp] theorem State.setAux_sealedMaps (s : State) (a : Aux) (i j : Nat) (v : Reg) : (s.setAux a i j v).sealedMaps = s.sealedMaps := (rfl)
@[simp] theorem State.setAux_sentMaps (s : State) (a : Aux) (i j : Nat) (v : Reg) : (s.setAux a i j v).sentMaps = s.sentMaps := (rfl)
@[simp] theorem State.setAux_quiets (s : State) (a : Aux) (i j : Nat) (v : Reg) : (s.setAux a i j v).quiets = s.quiets := (rfl)
@[simp] theorem State.setAux_bulletins (s : State) (a : Aux) (i j : Nat) (v : Reg) : (s.setAux a i j v).bulletins = s.bulletins := (rfl)
@[simp] theorem State.setAux_muted (s : State) (a : Aux) (i j : Nat) (v : Reg) : (s.setAux a i j v).muted = s.muted := (rfl)
@[simp] theorem State.setAux_offsets (s : State) (a : Aux) (i j : Nat) (v : Reg) : (s.setAux a i j v).offsets = s.offsets := (rfl)
@[simp] theorem State.setAux_words (s : State) (a : Aux) (i j : Nat) (v : Reg) : (s.setAux a i j v).words = s.words := (rfl)
@[simp] theorem State.setAux_stamps (s : State) (a : Aux) (i j : Nat) (v : Reg) : (s.setAux a i j v).stamps = s.stamps := (rfl)
@[simp] theorem State.setAux_vframes (s : State) (a : Aux) (i j : Nat) (v : Reg) : (s.setAux a i j v).vframes = s.vframes := (rfl)
@[simp] theorem State.setAux_viothIn (s : State) (a : Aux) (i j : Nat) (v : Reg) : (s.setAux a i j v).viothIn = s.viothIn := (rfl)
@[simp] theorem State.setAux_pipeIn (s : State) (a : Aux) (i j : Nat) (v : Reg) : (s.setAux a i j v).pipeIn = s.pipeIn := (rfl)
@[simp] theorem State.setAux_recirc (s : State) (a : Aux) (i j : Nat) (v : Reg) : (s.setAux a i j v).recirc = s.recirc := (rfl)
@[simp] theorem State.setAux_frags (s : State) (a : Aux) (i j : Nat) (v : Reg) : (s.setAux a i j v).frags = s.frags := (rfl)
@[simp] theorem State.setAux_held (s : State) (a : Aux) (i j : Nat) (v : Reg) : (s.setAux a i j v).held = s.held := (rfl)
@[simp] theorem State.setAux_routes (s : State) (a : Aux) (i j : Nat) (v : Reg) : (s.setAux a i j v).routes = s.routes := (rfl)
@[simp] theorem State.setAux_learns (s : State) (a : Aux) (i j : Nat) (v : Reg) : (s.setAux a i j v).learns = s.learns := (rfl)
@[simp] theorem State.setAux_templates (s : State) (a : Aux) (i j : Nat) (v : Reg) : (s.setAux a i j v).templates = s.templates := (rfl)
@[simp] theorem State.setAux_plan (s : State) (a : Aux) (i j : Nat) (v : Reg) : (s.setAux a i j v).plan = s.plan := (rfl)
@[simp] theorem State.setAux_dues (s : State) (a : Aux) (i j : Nat) (v : Reg) : (s.setAux a i j v).dues = s.dues := (rfl)
@[simp] theorem State.setAux_skews (s : State) (a : Aux) (i j : Nat) (v : Reg) : (s.setAux a i j v).skews = s.skews := (rfl)
@[simp] theorem State.setAux_beats (s : State) (a : Aux) (i j : Nat) (v : Reg) : (s.setAux a i j v).beats = s.beats := (rfl)
@[simp] theorem State.setAux_energy (s : State) (a : Aux) (i j : Nat) (v : Reg) : (s.setAux a i j v).energy = s.energy := (rfl)
@[simp] theorem State.setAux_noDelims (s : State) (a : Aux) (i j : Nat) (v : Reg) : (s.setAux a i j v).noDelims = s.noDelims := (rfl)
@[simp] theorem State.setAux_probes (s : State) (a : Aux) (i j : Nat) (v : Reg) : (s.setAux a i j v).probes = s.probes := (rfl)
@[simp] theorem State.setAux_fifo (s : State) (a : Aux) (i j : Nat) (v : Reg) : (s.setAux a i j v).fifo = s.fifo := (rfl)
@[simp] theorem State.setAux_sdus (s : State) (a : Aux) (i j : Nat) (v : Reg) : (s.setAux a i j v).sdus = s.sdus := (rfl)
@[simp] theorem State.setAux_coexStage (s : State) (a : Aux) (i j : Nat) (v : Reg) : (s.setAux a i j v).coexStage = s.coexStage := (rfl)
@[simp] theorem State.setAux_notices (s : State) (a : Aux) (i j : Nat) (v : Reg) : (s.setAux a i j v).notices = s.notices := (rfl)
@[simp] theorem State.setAux_transfers (s : State) (a : Aux) (i j : Nat) (v : Reg) : (s.setAux a i j v).transfers = s.transfers := (rfl)
@[simp] theorem State.setAux_replies (s : State) (a : Aux) (i j : Nat) (v : Reg) : (s.setAux a i j v).replies = s.replies := (rfl)
@[simp] theorem State.setAux_subs (s : State) (a : Aux) (i j : Nat) (v : Reg) : (s.setAux a i j v).subs = s.subs := (rfl)
@[simp] theorem State.setAux_notifies (s : State) (a : Aux) (i j : Nat) (v : Reg) : (s.setAux a i j v).notifies = s.notifies := (rfl)
@[simp] theorem State.setAux_backlog (s : State) (a : Aux) (i j : Nat) (v : Reg) : (s.setAux a i j v).backlog = s.backlog := (rfl)
@[simp] theorem State.setAux_relays (s : State) (a : Aux) (i j : Nat) (v : Reg) : (s.setAux a i j v).relays = s.relays := (rfl)
@[simp] theorem State.setAux_hostWaits (s : State) (a : Aux) (i j : Nat) (v : Reg) : (s.setAux a i j v).hostWaits = s.hostWaits := (rfl)
@[simp] theorem State.setAux_out (s : State) (a : Aux) (i j : Nat) (v : Reg) : (s.setAux a i j v).out = s.out := (rfl)
@[simp] theorem State.setAux_answer (s : State) (a : Aux) (i j : Nat) (v : Reg) : (s.setAux a i j v).answer = s.answer := (rfl)
@[simp] theorem State.setAux_freeCtr (s : State) (a : Aux) (i j : Nat) (v : Reg) : (s.setAux a i j v).freeCtr = s.freeCtr := (rfl)
@[simp] theorem State.setAux_pending (s : State) (a : Aux) (i j : Nat) (v : Reg) : (s.setAux a i j v).pending = s.pending := (rfl)
@[simp] theorem State.setAux_fsFrames (s : State) (a : Aux) (i j : Nat) (v : Reg) : (s.setAux a i j v).fsFrames = s.fsFrames := (rfl)
@[simp] theorem State.setAux_downWait (s : State) (a : Aux) (i j : Nat) (v : Reg) : (s.setAux a i j v).downWait = s.downWait := (rfl)
@[simp] theorem State.setAux_recent (s : State) (a : Aux) (i j : Nat) (v : Reg) : (s.setAux a i j v).recent = s.recent := (rfl)
@[simp] theorem State.setAux_early (s : State) (a : Aux) (i j : Nat) (v : Reg) : (s.setAux a i j v).early = s.early := (rfl)

@[simp] theorem State.bump_phase (s : State) (i n b k : Nat) : (s.bump i n b k).phase = s.phase := (rfl)
@[simp] theorem State.bump_now (s : State) (i n b k : Nat) : (s.bump i n b k).now = s.now := (rfl)
@[simp] theorem State.bump_regs (s : State) (i n b k : Nat) : (s.bump i n b k).regs = s.regs := (rfl)
@[simp] theorem State.bump_mem (s : State) (i n b k : Nat) : (s.bump i n b k).mem = s.mem := (rfl)
@[simp] theorem State.bump_evQueue (s : State) (i n b k : Nat) : (s.bump i n b k).evQueue = s.evQueue := (rfl)
@[simp] theorem State.bump_evPending (s : State) (i n b k : Nat) : (s.bump i n b k).evPending = s.evPending := (rfl)
@[simp] theorem State.bump_pkts (s : State) (i n b k : Nat) : (s.bump i n b k).pkts = s.pkts := (rfl)
@[simp] theorem State.bump_rounds (s : State) (i n b k : Nat) : (s.bump i n b k).rounds = s.rounds := (rfl)
@[simp] theorem State.bump_ploams (s : State) (i n b k : Nat) : (s.bump i n b k).ploams = s.ploams := (rfl)
@[simp] theorem State.bump_keyWaits (s : State) (i n b k : Nat) : (s.bump i n b k).keyWaits = s.keyWaits := (rfl)
@[simp] theorem State.bump_jobs (s : State) (i n b k : Nat) : (s.bump i n b k).jobs = s.jobs := (rfl)
@[simp] theorem State.bump_staged (s : State) (i n b k : Nat) : (s.bump i n b k).staged = s.staged := (rfl)
@[simp] theorem State.bump_sealedMaps (s : State) (i n b k : Nat) : (s.bump i n b k).sealedMaps = s.sealedMaps := (rfl)
@[simp] theorem State.bump_sentMaps (s : State) (i n b k : Nat) : (s.bump i n b k).sentMaps = s.sentMaps := (rfl)
@[simp] theorem State.bump_quiets (s : State) (i n b k : Nat) : (s.bump i n b k).quiets = s.quiets := (rfl)
@[simp] theorem State.bump_bulletins (s : State) (i n b k : Nat) : (s.bump i n b k).bulletins = s.bulletins := (rfl)
@[simp] theorem State.bump_muted (s : State) (i n b k : Nat) : (s.bump i n b k).muted = s.muted := (rfl)
@[simp] theorem State.bump_offsets (s : State) (i n b k : Nat) : (s.bump i n b k).offsets = s.offsets := (rfl)
@[simp] theorem State.bump_words (s : State) (i n b k : Nat) : (s.bump i n b k).words = s.words := (rfl)
@[simp] theorem State.bump_stamps (s : State) (i n b k : Nat) : (s.bump i n b k).stamps = s.stamps := (rfl)
@[simp] theorem State.bump_vframes (s : State) (i n b k : Nat) : (s.bump i n b k).vframes = s.vframes := (rfl)
@[simp] theorem State.bump_viothIn (s : State) (i n b k : Nat) : (s.bump i n b k).viothIn = s.viothIn := (rfl)
@[simp] theorem State.bump_pipeIn (s : State) (i n b k : Nat) : (s.bump i n b k).pipeIn = s.pipeIn := (rfl)
@[simp] theorem State.bump_recirc (s : State) (i n b k : Nat) : (s.bump i n b k).recirc = s.recirc := (rfl)
@[simp] theorem State.bump_frags (s : State) (i n b k : Nat) : (s.bump i n b k).frags = s.frags := (rfl)
@[simp] theorem State.bump_held (s : State) (i n b k : Nat) : (s.bump i n b k).held = s.held := (rfl)
@[simp] theorem State.bump_routes (s : State) (i n b k : Nat) : (s.bump i n b k).routes = s.routes := (rfl)
@[simp] theorem State.bump_learns (s : State) (i n b k : Nat) : (s.bump i n b k).learns = s.learns := (rfl)
@[simp] theorem State.bump_templates (s : State) (i n b k : Nat) : (s.bump i n b k).templates = s.templates := (rfl)
@[simp] theorem State.bump_plan (s : State) (i n b k : Nat) : (s.bump i n b k).plan = s.plan := (rfl)
@[simp] theorem State.bump_dues (s : State) (i n b k : Nat) : (s.bump i n b k).dues = s.dues := (rfl)
@[simp] theorem State.bump_skews (s : State) (i n b k : Nat) : (s.bump i n b k).skews = s.skews := (rfl)
@[simp] theorem State.bump_beats (s : State) (i n b k : Nat) : (s.bump i n b k).beats = s.beats := (rfl)
@[simp] theorem State.bump_energy (s : State) (i n b k : Nat) : (s.bump i n b k).energy = s.energy := (rfl)
@[simp] theorem State.bump_noDelims (s : State) (i n b k : Nat) : (s.bump i n b k).noDelims = s.noDelims := (rfl)
@[simp] theorem State.bump_probes (s : State) (i n b k : Nat) : (s.bump i n b k).probes = s.probes := (rfl)
@[simp] theorem State.bump_fifo (s : State) (i n b k : Nat) : (s.bump i n b k).fifo = s.fifo := (rfl)
@[simp] theorem State.bump_sdus (s : State) (i n b k : Nat) : (s.bump i n b k).sdus = s.sdus := (rfl)
@[simp] theorem State.bump_coexStage (s : State) (i n b k : Nat) : (s.bump i n b k).coexStage = s.coexStage := (rfl)
@[simp] theorem State.bump_notices (s : State) (i n b k : Nat) : (s.bump i n b k).notices = s.notices := (rfl)
@[simp] theorem State.bump_transfers (s : State) (i n b k : Nat) : (s.bump i n b k).transfers = s.transfers := (rfl)
@[simp] theorem State.bump_replies (s : State) (i n b k : Nat) : (s.bump i n b k).replies = s.replies := (rfl)
@[simp] theorem State.bump_subs (s : State) (i n b k : Nat) : (s.bump i n b k).subs = s.subs := (rfl)
@[simp] theorem State.bump_notifies (s : State) (i n b k : Nat) : (s.bump i n b k).notifies = s.notifies := (rfl)
@[simp] theorem State.bump_backlog (s : State) (i n b k : Nat) : (s.bump i n b k).backlog = s.backlog := (rfl)
@[simp] theorem State.bump_relays (s : State) (i n b k : Nat) : (s.bump i n b k).relays = s.relays := (rfl)
@[simp] theorem State.bump_hostWaits (s : State) (i n b k : Nat) : (s.bump i n b k).hostWaits = s.hostWaits := (rfl)
@[simp] theorem State.bump_out (s : State) (i n b k : Nat) : (s.bump i n b k).out = s.out := (rfl)
@[simp] theorem State.bump_answer (s : State) (i n b k : Nat) : (s.bump i n b k).answer = s.answer := (rfl)
@[simp] theorem State.bump_freeCtr (s : State) (i n b k : Nat) : (s.bump i n b k).freeCtr = s.freeCtr := (rfl)
@[simp] theorem State.bump_pending (s : State) (i n b k : Nat) : (s.bump i n b k).pending = s.pending := (rfl)
@[simp] theorem State.bump_fsFrames (s : State) (i n b k : Nat) : (s.bump i n b k).fsFrames = s.fsFrames := (rfl)
@[simp] theorem State.bump_downWait (s : State) (i n b k : Nat) : (s.bump i n b k).downWait = s.downWait := (rfl)
@[simp] theorem State.bump_recent (s : State) (i n b k : Nat) : (s.bump i n b k).recent = s.recent := (rfl)
@[simp] theorem State.bump_early (s : State) (i n b k : Nat) : (s.bump i n b k).early = s.early := (rfl)

@[simp] theorem State.bump32_phase (s : State) (i n b k : Nat) : (s.bump32 i n b k).phase = s.phase := (rfl)
@[simp] theorem State.bump32_now (s : State) (i n b k : Nat) : (s.bump32 i n b k).now = s.now := (rfl)
@[simp] theorem State.bump32_regs (s : State) (i n b k : Nat) : (s.bump32 i n b k).regs = s.regs := (rfl)
@[simp] theorem State.bump32_mem (s : State) (i n b k : Nat) : (s.bump32 i n b k).mem = s.mem := (rfl)
@[simp] theorem State.bump32_evQueue (s : State) (i n b k : Nat) : (s.bump32 i n b k).evQueue = s.evQueue := (rfl)
@[simp] theorem State.bump32_evPending (s : State) (i n b k : Nat) : (s.bump32 i n b k).evPending = s.evPending := (rfl)
@[simp] theorem State.bump32_pkts (s : State) (i n b k : Nat) : (s.bump32 i n b k).pkts = s.pkts := (rfl)
@[simp] theorem State.bump32_rounds (s : State) (i n b k : Nat) : (s.bump32 i n b k).rounds = s.rounds := (rfl)
@[simp] theorem State.bump32_ploams (s : State) (i n b k : Nat) : (s.bump32 i n b k).ploams = s.ploams := (rfl)
@[simp] theorem State.bump32_keyWaits (s : State) (i n b k : Nat) : (s.bump32 i n b k).keyWaits = s.keyWaits := (rfl)
@[simp] theorem State.bump32_jobs (s : State) (i n b k : Nat) : (s.bump32 i n b k).jobs = s.jobs := (rfl)
@[simp] theorem State.bump32_staged (s : State) (i n b k : Nat) : (s.bump32 i n b k).staged = s.staged := (rfl)
@[simp] theorem State.bump32_sealedMaps (s : State) (i n b k : Nat) : (s.bump32 i n b k).sealedMaps = s.sealedMaps := (rfl)
@[simp] theorem State.bump32_sentMaps (s : State) (i n b k : Nat) : (s.bump32 i n b k).sentMaps = s.sentMaps := (rfl)
@[simp] theorem State.bump32_quiets (s : State) (i n b k : Nat) : (s.bump32 i n b k).quiets = s.quiets := (rfl)
@[simp] theorem State.bump32_bulletins (s : State) (i n b k : Nat) : (s.bump32 i n b k).bulletins = s.bulletins := (rfl)
@[simp] theorem State.bump32_muted (s : State) (i n b k : Nat) : (s.bump32 i n b k).muted = s.muted := (rfl)
@[simp] theorem State.bump32_offsets (s : State) (i n b k : Nat) : (s.bump32 i n b k).offsets = s.offsets := (rfl)
@[simp] theorem State.bump32_words (s : State) (i n b k : Nat) : (s.bump32 i n b k).words = s.words := (rfl)
@[simp] theorem State.bump32_stamps (s : State) (i n b k : Nat) : (s.bump32 i n b k).stamps = s.stamps := (rfl)
@[simp] theorem State.bump32_vframes (s : State) (i n b k : Nat) : (s.bump32 i n b k).vframes = s.vframes := (rfl)
@[simp] theorem State.bump32_viothIn (s : State) (i n b k : Nat) : (s.bump32 i n b k).viothIn = s.viothIn := (rfl)
@[simp] theorem State.bump32_pipeIn (s : State) (i n b k : Nat) : (s.bump32 i n b k).pipeIn = s.pipeIn := (rfl)
@[simp] theorem State.bump32_recirc (s : State) (i n b k : Nat) : (s.bump32 i n b k).recirc = s.recirc := (rfl)
@[simp] theorem State.bump32_frags (s : State) (i n b k : Nat) : (s.bump32 i n b k).frags = s.frags := (rfl)
@[simp] theorem State.bump32_held (s : State) (i n b k : Nat) : (s.bump32 i n b k).held = s.held := (rfl)
@[simp] theorem State.bump32_routes (s : State) (i n b k : Nat) : (s.bump32 i n b k).routes = s.routes := (rfl)
@[simp] theorem State.bump32_learns (s : State) (i n b k : Nat) : (s.bump32 i n b k).learns = s.learns := (rfl)
@[simp] theorem State.bump32_templates (s : State) (i n b k : Nat) : (s.bump32 i n b k).templates = s.templates := (rfl)
@[simp] theorem State.bump32_plan (s : State) (i n b k : Nat) : (s.bump32 i n b k).plan = s.plan := (rfl)
@[simp] theorem State.bump32_dues (s : State) (i n b k : Nat) : (s.bump32 i n b k).dues = s.dues := (rfl)
@[simp] theorem State.bump32_skews (s : State) (i n b k : Nat) : (s.bump32 i n b k).skews = s.skews := (rfl)
@[simp] theorem State.bump32_beats (s : State) (i n b k : Nat) : (s.bump32 i n b k).beats = s.beats := (rfl)
@[simp] theorem State.bump32_energy (s : State) (i n b k : Nat) : (s.bump32 i n b k).energy = s.energy := (rfl)
@[simp] theorem State.bump32_noDelims (s : State) (i n b k : Nat) : (s.bump32 i n b k).noDelims = s.noDelims := (rfl)
@[simp] theorem State.bump32_probes (s : State) (i n b k : Nat) : (s.bump32 i n b k).probes = s.probes := (rfl)
@[simp] theorem State.bump32_fifo (s : State) (i n b k : Nat) : (s.bump32 i n b k).fifo = s.fifo := (rfl)
@[simp] theorem State.bump32_sdus (s : State) (i n b k : Nat) : (s.bump32 i n b k).sdus = s.sdus := (rfl)
@[simp] theorem State.bump32_coexStage (s : State) (i n b k : Nat) : (s.bump32 i n b k).coexStage = s.coexStage := (rfl)
@[simp] theorem State.bump32_notices (s : State) (i n b k : Nat) : (s.bump32 i n b k).notices = s.notices := (rfl)
@[simp] theorem State.bump32_transfers (s : State) (i n b k : Nat) : (s.bump32 i n b k).transfers = s.transfers := (rfl)
@[simp] theorem State.bump32_replies (s : State) (i n b k : Nat) : (s.bump32 i n b k).replies = s.replies := (rfl)
@[simp] theorem State.bump32_subs (s : State) (i n b k : Nat) : (s.bump32 i n b k).subs = s.subs := (rfl)
@[simp] theorem State.bump32_notifies (s : State) (i n b k : Nat) : (s.bump32 i n b k).notifies = s.notifies := (rfl)
@[simp] theorem State.bump32_backlog (s : State) (i n b k : Nat) : (s.bump32 i n b k).backlog = s.backlog := (rfl)
@[simp] theorem State.bump32_relays (s : State) (i n b k : Nat) : (s.bump32 i n b k).relays = s.relays := (rfl)
@[simp] theorem State.bump32_hostWaits (s : State) (i n b k : Nat) : (s.bump32 i n b k).hostWaits = s.hostWaits := (rfl)
@[simp] theorem State.bump32_out (s : State) (i n b k : Nat) : (s.bump32 i n b k).out = s.out := (rfl)
@[simp] theorem State.bump32_answer (s : State) (i n b k : Nat) : (s.bump32 i n b k).answer = s.answer := (rfl)
@[simp] theorem State.bump32_freeCtr (s : State) (i n b k : Nat) : (s.bump32 i n b k).freeCtr = s.freeCtr := (rfl)
@[simp] theorem State.bump32_pending (s : State) (i n b k : Nat) : (s.bump32 i n b k).pending = s.pending := (rfl)
@[simp] theorem State.bump32_fsFrames (s : State) (i n b k : Nat) : (s.bump32 i n b k).fsFrames = s.fsFrames := (rfl)
@[simp] theorem State.bump32_downWait (s : State) (i n b k : Nat) : (s.bump32 i n b k).downWait = s.downWait := (rfl)
@[simp] theorem State.bump32_recent (s : State) (i n b k : Nat) : (s.bump32 i n b k).recent = s.recent := (rfl)
@[simp] theorem State.bump32_early (s : State) (i n b k : Nat) : (s.bump32 i n b k).early = s.early := (rfl)

@[simp] theorem State.incAux_phase (s : State) (a : Aux) (i j k : Nat) : (s.incAux a i j k).phase = s.phase := (rfl)
@[simp] theorem State.incAux_now (s : State) (a : Aux) (i j k : Nat) : (s.incAux a i j k).now = s.now := (rfl)
@[simp] theorem State.incAux_objs (s : State) (a : Aux) (i j k : Nat) : (s.incAux a i j k).objs = s.objs := (rfl)
@[simp] theorem State.incAux_mem (s : State) (a : Aux) (i j k : Nat) : (s.incAux a i j k).mem = s.mem := (rfl)
@[simp] theorem State.incAux_evQueue (s : State) (a : Aux) (i j k : Nat) : (s.incAux a i j k).evQueue = s.evQueue := (rfl)
@[simp] theorem State.incAux_evPending (s : State) (a : Aux) (i j k : Nat) : (s.incAux a i j k).evPending = s.evPending := (rfl)
@[simp] theorem State.incAux_pkts (s : State) (a : Aux) (i j k : Nat) : (s.incAux a i j k).pkts = s.pkts := (rfl)
@[simp] theorem State.incAux_rounds (s : State) (a : Aux) (i j k : Nat) : (s.incAux a i j k).rounds = s.rounds := (rfl)
@[simp] theorem State.incAux_ploams (s : State) (a : Aux) (i j k : Nat) : (s.incAux a i j k).ploams = s.ploams := (rfl)
@[simp] theorem State.incAux_keyWaits (s : State) (a : Aux) (i j k : Nat) : (s.incAux a i j k).keyWaits = s.keyWaits := (rfl)
@[simp] theorem State.incAux_jobs (s : State) (a : Aux) (i j k : Nat) : (s.incAux a i j k).jobs = s.jobs := (rfl)
@[simp] theorem State.incAux_staged (s : State) (a : Aux) (i j k : Nat) : (s.incAux a i j k).staged = s.staged := (rfl)
@[simp] theorem State.incAux_sealedMaps (s : State) (a : Aux) (i j k : Nat) : (s.incAux a i j k).sealedMaps = s.sealedMaps := (rfl)
@[simp] theorem State.incAux_sentMaps (s : State) (a : Aux) (i j k : Nat) : (s.incAux a i j k).sentMaps = s.sentMaps := (rfl)
@[simp] theorem State.incAux_quiets (s : State) (a : Aux) (i j k : Nat) : (s.incAux a i j k).quiets = s.quiets := (rfl)
@[simp] theorem State.incAux_bulletins (s : State) (a : Aux) (i j k : Nat) : (s.incAux a i j k).bulletins = s.bulletins := (rfl)
@[simp] theorem State.incAux_muted (s : State) (a : Aux) (i j k : Nat) : (s.incAux a i j k).muted = s.muted := (rfl)
@[simp] theorem State.incAux_offsets (s : State) (a : Aux) (i j k : Nat) : (s.incAux a i j k).offsets = s.offsets := (rfl)
@[simp] theorem State.incAux_words (s : State) (a : Aux) (i j k : Nat) : (s.incAux a i j k).words = s.words := (rfl)
@[simp] theorem State.incAux_stamps (s : State) (a : Aux) (i j k : Nat) : (s.incAux a i j k).stamps = s.stamps := (rfl)
@[simp] theorem State.incAux_vframes (s : State) (a : Aux) (i j k : Nat) : (s.incAux a i j k).vframes = s.vframes := (rfl)
@[simp] theorem State.incAux_viothIn (s : State) (a : Aux) (i j k : Nat) : (s.incAux a i j k).viothIn = s.viothIn := (rfl)
@[simp] theorem State.incAux_pipeIn (s : State) (a : Aux) (i j k : Nat) : (s.incAux a i j k).pipeIn = s.pipeIn := (rfl)
@[simp] theorem State.incAux_recirc (s : State) (a : Aux) (i j k : Nat) : (s.incAux a i j k).recirc = s.recirc := (rfl)
@[simp] theorem State.incAux_frags (s : State) (a : Aux) (i j k : Nat) : (s.incAux a i j k).frags = s.frags := (rfl)
@[simp] theorem State.incAux_held (s : State) (a : Aux) (i j k : Nat) : (s.incAux a i j k).held = s.held := (rfl)
@[simp] theorem State.incAux_routes (s : State) (a : Aux) (i j k : Nat) : (s.incAux a i j k).routes = s.routes := (rfl)
@[simp] theorem State.incAux_learns (s : State) (a : Aux) (i j k : Nat) : (s.incAux a i j k).learns = s.learns := (rfl)
@[simp] theorem State.incAux_templates (s : State) (a : Aux) (i j k : Nat) : (s.incAux a i j k).templates = s.templates := (rfl)
@[simp] theorem State.incAux_plan (s : State) (a : Aux) (i j k : Nat) : (s.incAux a i j k).plan = s.plan := (rfl)
@[simp] theorem State.incAux_dues (s : State) (a : Aux) (i j k : Nat) : (s.incAux a i j k).dues = s.dues := (rfl)
@[simp] theorem State.incAux_skews (s : State) (a : Aux) (i j k : Nat) : (s.incAux a i j k).skews = s.skews := (rfl)
@[simp] theorem State.incAux_beats (s : State) (a : Aux) (i j k : Nat) : (s.incAux a i j k).beats = s.beats := (rfl)
@[simp] theorem State.incAux_energy (s : State) (a : Aux) (i j k : Nat) : (s.incAux a i j k).energy = s.energy := (rfl)
@[simp] theorem State.incAux_noDelims (s : State) (a : Aux) (i j k : Nat) : (s.incAux a i j k).noDelims = s.noDelims := (rfl)
@[simp] theorem State.incAux_probes (s : State) (a : Aux) (i j k : Nat) : (s.incAux a i j k).probes = s.probes := (rfl)
@[simp] theorem State.incAux_fifo (s : State) (a : Aux) (i j k : Nat) : (s.incAux a i j k).fifo = s.fifo := (rfl)
@[simp] theorem State.incAux_sdus (s : State) (a : Aux) (i j k : Nat) : (s.incAux a i j k).sdus = s.sdus := (rfl)
@[simp] theorem State.incAux_coexStage (s : State) (a : Aux) (i j k : Nat) : (s.incAux a i j k).coexStage = s.coexStage := (rfl)
@[simp] theorem State.incAux_notices (s : State) (a : Aux) (i j k : Nat) : (s.incAux a i j k).notices = s.notices := (rfl)
@[simp] theorem State.incAux_transfers (s : State) (a : Aux) (i j k : Nat) : (s.incAux a i j k).transfers = s.transfers := (rfl)
@[simp] theorem State.incAux_replies (s : State) (a : Aux) (i j k : Nat) : (s.incAux a i j k).replies = s.replies := (rfl)
@[simp] theorem State.incAux_subs (s : State) (a : Aux) (i j k : Nat) : (s.incAux a i j k).subs = s.subs := (rfl)
@[simp] theorem State.incAux_notifies (s : State) (a : Aux) (i j k : Nat) : (s.incAux a i j k).notifies = s.notifies := (rfl)
@[simp] theorem State.incAux_backlog (s : State) (a : Aux) (i j k : Nat) : (s.incAux a i j k).backlog = s.backlog := (rfl)
@[simp] theorem State.incAux_relays (s : State) (a : Aux) (i j k : Nat) : (s.incAux a i j k).relays = s.relays := (rfl)
@[simp] theorem State.incAux_hostWaits (s : State) (a : Aux) (i j k : Nat) : (s.incAux a i j k).hostWaits = s.hostWaits := (rfl)
@[simp] theorem State.incAux_out (s : State) (a : Aux) (i j k : Nat) : (s.incAux a i j k).out = s.out := (rfl)
@[simp] theorem State.incAux_answer (s : State) (a : Aux) (i j k : Nat) : (s.incAux a i j k).answer = s.answer := (rfl)
@[simp] theorem State.incAux_freeCtr (s : State) (a : Aux) (i j k : Nat) : (s.incAux a i j k).freeCtr = s.freeCtr := (rfl)
@[simp] theorem State.incAux_pending (s : State) (a : Aux) (i j k : Nat) : (s.incAux a i j k).pending = s.pending := (rfl)
@[simp] theorem State.incAux_fsFrames (s : State) (a : Aux) (i j k : Nat) : (s.incAux a i j k).fsFrames = s.fsFrames := (rfl)
@[simp] theorem State.incAux_downWait (s : State) (a : Aux) (i j k : Nat) : (s.incAux a i j k).downWait = s.downWait := (rfl)
@[simp] theorem State.incAux_recent (s : State) (a : Aux) (i j k : Nat) : (s.incAux a i j k).recent = s.recent := (rfl)
@[simp] theorem State.incAux_early (s : State) (a : Aux) (i j k : Nat) : (s.incAux a i j k).early = s.early := (rfl)

@[simp] theorem State.send_phase (s : State) (k : OutKind) (l : List Reg) : (s.send k l).phase = s.phase := (rfl)
@[simp] theorem State.send_now (s : State) (k : OutKind) (l : List Reg) : (s.send k l).now = s.now := (rfl)
@[simp] theorem State.send_objs (s : State) (k : OutKind) (l : List Reg) : (s.send k l).objs = s.objs := (rfl)
@[simp] theorem State.send_regs (s : State) (k : OutKind) (l : List Reg) : (s.send k l).regs = s.regs := (rfl)
@[simp] theorem State.send_mem (s : State) (k : OutKind) (l : List Reg) : (s.send k l).mem = s.mem := (rfl)
@[simp] theorem State.send_evQueue (s : State) (k : OutKind) (l : List Reg) : (s.send k l).evQueue = s.evQueue := (rfl)
@[simp] theorem State.send_evPending (s : State) (k : OutKind) (l : List Reg) : (s.send k l).evPending = s.evPending := (rfl)
@[simp] theorem State.send_pkts (s : State) (k : OutKind) (l : List Reg) : (s.send k l).pkts = s.pkts := (rfl)
@[simp] theorem State.send_rounds (s : State) (k : OutKind) (l : List Reg) : (s.send k l).rounds = s.rounds := (rfl)
@[simp] theorem State.send_ploams (s : State) (k : OutKind) (l : List Reg) : (s.send k l).ploams = s.ploams := (rfl)
@[simp] theorem State.send_keyWaits (s : State) (k : OutKind) (l : List Reg) : (s.send k l).keyWaits = s.keyWaits := (rfl)
@[simp] theorem State.send_jobs (s : State) (k : OutKind) (l : List Reg) : (s.send k l).jobs = s.jobs := (rfl)
@[simp] theorem State.send_staged (s : State) (k : OutKind) (l : List Reg) : (s.send k l).staged = s.staged := (rfl)
@[simp] theorem State.send_sealedMaps (s : State) (k : OutKind) (l : List Reg) : (s.send k l).sealedMaps = s.sealedMaps := (rfl)
@[simp] theorem State.send_sentMaps (s : State) (k : OutKind) (l : List Reg) : (s.send k l).sentMaps = s.sentMaps := (rfl)
@[simp] theorem State.send_quiets (s : State) (k : OutKind) (l : List Reg) : (s.send k l).quiets = s.quiets := (rfl)
@[simp] theorem State.send_bulletins (s : State) (k : OutKind) (l : List Reg) : (s.send k l).bulletins = s.bulletins := (rfl)
@[simp] theorem State.send_muted (s : State) (k : OutKind) (l : List Reg) : (s.send k l).muted = s.muted := (rfl)
@[simp] theorem State.send_offsets (s : State) (k : OutKind) (l : List Reg) : (s.send k l).offsets = s.offsets := (rfl)
@[simp] theorem State.send_words (s : State) (k : OutKind) (l : List Reg) : (s.send k l).words = s.words := (rfl)
@[simp] theorem State.send_stamps (s : State) (k : OutKind) (l : List Reg) : (s.send k l).stamps = s.stamps := (rfl)
@[simp] theorem State.send_vframes (s : State) (k : OutKind) (l : List Reg) : (s.send k l).vframes = s.vframes := (rfl)
@[simp] theorem State.send_viothIn (s : State) (k : OutKind) (l : List Reg) : (s.send k l).viothIn = s.viothIn := (rfl)
@[simp] theorem State.send_pipeIn (s : State) (k : OutKind) (l : List Reg) : (s.send k l).pipeIn = s.pipeIn := (rfl)
@[simp] theorem State.send_recirc (s : State) (k : OutKind) (l : List Reg) : (s.send k l).recirc = s.recirc := (rfl)
@[simp] theorem State.send_frags (s : State) (k : OutKind) (l : List Reg) : (s.send k l).frags = s.frags := (rfl)
@[simp] theorem State.send_held (s : State) (k : OutKind) (l : List Reg) : (s.send k l).held = s.held := (rfl)
@[simp] theorem State.send_routes (s : State) (k : OutKind) (l : List Reg) : (s.send k l).routes = s.routes := (rfl)
@[simp] theorem State.send_learns (s : State) (k : OutKind) (l : List Reg) : (s.send k l).learns = s.learns := (rfl)
@[simp] theorem State.send_templates (s : State) (k : OutKind) (l : List Reg) : (s.send k l).templates = s.templates := (rfl)
@[simp] theorem State.send_plan (s : State) (k : OutKind) (l : List Reg) : (s.send k l).plan = s.plan := (rfl)
@[simp] theorem State.send_dues (s : State) (k : OutKind) (l : List Reg) : (s.send k l).dues = s.dues := (rfl)
@[simp] theorem State.send_skews (s : State) (k : OutKind) (l : List Reg) : (s.send k l).skews = s.skews := (rfl)
@[simp] theorem State.send_beats (s : State) (k : OutKind) (l : List Reg) : (s.send k l).beats = s.beats := (rfl)
@[simp] theorem State.send_energy (s : State) (k : OutKind) (l : List Reg) : (s.send k l).energy = s.energy := (rfl)
@[simp] theorem State.send_noDelims (s : State) (k : OutKind) (l : List Reg) : (s.send k l).noDelims = s.noDelims := (rfl)
@[simp] theorem State.send_probes (s : State) (k : OutKind) (l : List Reg) : (s.send k l).probes = s.probes := (rfl)
@[simp] theorem State.send_fifo (s : State) (k : OutKind) (l : List Reg) : (s.send k l).fifo = s.fifo := (rfl)
@[simp] theorem State.send_sdus (s : State) (k : OutKind) (l : List Reg) : (s.send k l).sdus = s.sdus := (rfl)
@[simp] theorem State.send_coexStage (s : State) (k : OutKind) (l : List Reg) : (s.send k l).coexStage = s.coexStage := (rfl)
@[simp] theorem State.send_notices (s : State) (k : OutKind) (l : List Reg) : (s.send k l).notices = s.notices := (rfl)
@[simp] theorem State.send_transfers (s : State) (k : OutKind) (l : List Reg) : (s.send k l).transfers = s.transfers := (rfl)
@[simp] theorem State.send_replies (s : State) (k : OutKind) (l : List Reg) : (s.send k l).replies = s.replies := (rfl)
@[simp] theorem State.send_subs (s : State) (k : OutKind) (l : List Reg) : (s.send k l).subs = s.subs := (rfl)
@[simp] theorem State.send_notifies (s : State) (k : OutKind) (l : List Reg) : (s.send k l).notifies = s.notifies := (rfl)
@[simp] theorem State.send_backlog (s : State) (k : OutKind) (l : List Reg) : (s.send k l).backlog = s.backlog := (rfl)
@[simp] theorem State.send_relays (s : State) (k : OutKind) (l : List Reg) : (s.send k l).relays = s.relays := (rfl)
@[simp] theorem State.send_hostWaits (s : State) (k : OutKind) (l : List Reg) : (s.send k l).hostWaits = s.hostWaits := (rfl)
@[simp] theorem State.send_answer (s : State) (k : OutKind) (l : List Reg) : (s.send k l).answer = s.answer := (rfl)
@[simp] theorem State.send_freeCtr (s : State) (k : OutKind) (l : List Reg) : (s.send k l).freeCtr = s.freeCtr := (rfl)
@[simp] theorem State.send_pending (s : State) (k : OutKind) (l : List Reg) : (s.send k l).pending = s.pending := (rfl)
@[simp] theorem State.send_fsFrames (s : State) (k : OutKind) (l : List Reg) : (s.send k l).fsFrames = s.fsFrames := (rfl)
@[simp] theorem State.send_downWait (s : State) (k : OutKind) (l : List Reg) : (s.send k l).downWait = s.downWait := (rfl)
@[simp] theorem State.send_recent (s : State) (k : OutKind) (l : List Reg) : (s.send k l).recent = s.recent := (rfl)
@[simp] theorem State.send_early (s : State) (k : OutKind) (l : List Reg) : (s.send k l).early = s.early := (rfl)

@[simp] theorem refuse_phase (s : State) (k : Nat) : (refuse k s).phase = s.phase := (rfl)
@[simp] theorem refuse_now (s : State) (k : Nat) : (refuse k s).now = s.now := (rfl)
@[simp] theorem refuse_objs (s : State) (k : Nat) : (refuse k s).objs = s.objs := (rfl)
@[simp] theorem refuse_regs (s : State) (k : Nat) : (refuse k s).regs = s.regs := (rfl)
@[simp] theorem refuse_mem (s : State) (k : Nat) : (refuse k s).mem = s.mem := (rfl)
@[simp] theorem refuse_evQueue (s : State) (k : Nat) : (refuse k s).evQueue = s.evQueue := (rfl)
@[simp] theorem refuse_evPending (s : State) (k : Nat) : (refuse k s).evPending = s.evPending := (rfl)
@[simp] theorem refuse_pkts (s : State) (k : Nat) : (refuse k s).pkts = s.pkts := (rfl)
@[simp] theorem refuse_rounds (s : State) (k : Nat) : (refuse k s).rounds = s.rounds := (rfl)
@[simp] theorem refuse_ploams (s : State) (k : Nat) : (refuse k s).ploams = s.ploams := (rfl)
@[simp] theorem refuse_keyWaits (s : State) (k : Nat) : (refuse k s).keyWaits = s.keyWaits := (rfl)
@[simp] theorem refuse_jobs (s : State) (k : Nat) : (refuse k s).jobs = s.jobs := (rfl)
@[simp] theorem refuse_staged (s : State) (k : Nat) : (refuse k s).staged = s.staged := (rfl)
@[simp] theorem refuse_sealedMaps (s : State) (k : Nat) : (refuse k s).sealedMaps = s.sealedMaps := (rfl)
@[simp] theorem refuse_sentMaps (s : State) (k : Nat) : (refuse k s).sentMaps = s.sentMaps := (rfl)
@[simp] theorem refuse_quiets (s : State) (k : Nat) : (refuse k s).quiets = s.quiets := (rfl)
@[simp] theorem refuse_bulletins (s : State) (k : Nat) : (refuse k s).bulletins = s.bulletins := (rfl)
@[simp] theorem refuse_muted (s : State) (k : Nat) : (refuse k s).muted = s.muted := (rfl)
@[simp] theorem refuse_offsets (s : State) (k : Nat) : (refuse k s).offsets = s.offsets := (rfl)
@[simp] theorem refuse_words (s : State) (k : Nat) : (refuse k s).words = s.words := (rfl)
@[simp] theorem refuse_stamps (s : State) (k : Nat) : (refuse k s).stamps = s.stamps := (rfl)
@[simp] theorem refuse_vframes (s : State) (k : Nat) : (refuse k s).vframes = s.vframes := (rfl)
@[simp] theorem refuse_viothIn (s : State) (k : Nat) : (refuse k s).viothIn = s.viothIn := (rfl)
@[simp] theorem refuse_pipeIn (s : State) (k : Nat) : (refuse k s).pipeIn = s.pipeIn := (rfl)
@[simp] theorem refuse_recirc (s : State) (k : Nat) : (refuse k s).recirc = s.recirc := (rfl)
@[simp] theorem refuse_frags (s : State) (k : Nat) : (refuse k s).frags = s.frags := (rfl)
@[simp] theorem refuse_held (s : State) (k : Nat) : (refuse k s).held = s.held := (rfl)
@[simp] theorem refuse_routes (s : State) (k : Nat) : (refuse k s).routes = s.routes := (rfl)
@[simp] theorem refuse_learns (s : State) (k : Nat) : (refuse k s).learns = s.learns := (rfl)
@[simp] theorem refuse_templates (s : State) (k : Nat) : (refuse k s).templates = s.templates := (rfl)
@[simp] theorem refuse_plan (s : State) (k : Nat) : (refuse k s).plan = s.plan := (rfl)
@[simp] theorem refuse_dues (s : State) (k : Nat) : (refuse k s).dues = s.dues := (rfl)
@[simp] theorem refuse_skews (s : State) (k : Nat) : (refuse k s).skews = s.skews := (rfl)
@[simp] theorem refuse_beats (s : State) (k : Nat) : (refuse k s).beats = s.beats := (rfl)
@[simp] theorem refuse_energy (s : State) (k : Nat) : (refuse k s).energy = s.energy := (rfl)
@[simp] theorem refuse_noDelims (s : State) (k : Nat) : (refuse k s).noDelims = s.noDelims := (rfl)
@[simp] theorem refuse_probes (s : State) (k : Nat) : (refuse k s).probes = s.probes := (rfl)
@[simp] theorem refuse_fifo (s : State) (k : Nat) : (refuse k s).fifo = s.fifo := (rfl)
@[simp] theorem refuse_sdus (s : State) (k : Nat) : (refuse k s).sdus = s.sdus := (rfl)
@[simp] theorem refuse_coexStage (s : State) (k : Nat) : (refuse k s).coexStage = s.coexStage := (rfl)
@[simp] theorem refuse_notices (s : State) (k : Nat) : (refuse k s).notices = s.notices := (rfl)
@[simp] theorem refuse_transfers (s : State) (k : Nat) : (refuse k s).transfers = s.transfers := (rfl)
@[simp] theorem refuse_replies (s : State) (k : Nat) : (refuse k s).replies = s.replies := (rfl)
@[simp] theorem refuse_subs (s : State) (k : Nat) : (refuse k s).subs = s.subs := (rfl)
@[simp] theorem refuse_notifies (s : State) (k : Nat) : (refuse k s).notifies = s.notifies := (rfl)
@[simp] theorem refuse_backlog (s : State) (k : Nat) : (refuse k s).backlog = s.backlog := (rfl)
@[simp] theorem refuse_relays (s : State) (k : Nat) : (refuse k s).relays = s.relays := (rfl)
@[simp] theorem refuse_hostWaits (s : State) (k : Nat) : (refuse k s).hostWaits = s.hostWaits := (rfl)
@[simp] theorem refuse_out (s : State) (k : Nat) : (refuse k s).out = s.out := (rfl)
@[simp] theorem refuse_freeCtr (s : State) (k : Nat) : (refuse k s).freeCtr = s.freeCtr := (rfl)
@[simp] theorem refuse_pending (s : State) (k : Nat) : (refuse k s).pending = s.pending := (rfl)
@[simp] theorem refuse_fsFrames (s : State) (k : Nat) : (refuse k s).fsFrames = s.fsFrames := (rfl)
@[simp] theorem refuse_downWait (s : State) (k : Nat) : (refuse k s).downWait = s.downWait := (rfl)
@[simp] theorem refuse_recent (s : State) (k : Nat) : (refuse k s).recent = s.recent := (rfl)
@[simp] theorem refuse_early (s : State) (k : Nat) : (refuse k s).early = s.early := (rfl)

@[simp] theorem done_phase (s : State) (v : Reg) : (done s v).phase = s.phase := (rfl)
@[simp] theorem done_now (s : State) (v : Reg) : (done s v).now = s.now := (rfl)
@[simp] theorem done_objs (s : State) (v : Reg) : (done s v).objs = s.objs := (rfl)
@[simp] theorem done_regs (s : State) (v : Reg) : (done s v).regs = s.regs := (rfl)
@[simp] theorem done_mem (s : State) (v : Reg) : (done s v).mem = s.mem := (rfl)
@[simp] theorem done_evQueue (s : State) (v : Reg) : (done s v).evQueue = s.evQueue := (rfl)
@[simp] theorem done_evPending (s : State) (v : Reg) : (done s v).evPending = s.evPending := (rfl)
@[simp] theorem done_pkts (s : State) (v : Reg) : (done s v).pkts = s.pkts := (rfl)
@[simp] theorem done_rounds (s : State) (v : Reg) : (done s v).rounds = s.rounds := (rfl)
@[simp] theorem done_ploams (s : State) (v : Reg) : (done s v).ploams = s.ploams := (rfl)
@[simp] theorem done_keyWaits (s : State) (v : Reg) : (done s v).keyWaits = s.keyWaits := (rfl)
@[simp] theorem done_jobs (s : State) (v : Reg) : (done s v).jobs = s.jobs := (rfl)
@[simp] theorem done_staged (s : State) (v : Reg) : (done s v).staged = s.staged := (rfl)
@[simp] theorem done_sealedMaps (s : State) (v : Reg) : (done s v).sealedMaps = s.sealedMaps := (rfl)
@[simp] theorem done_sentMaps (s : State) (v : Reg) : (done s v).sentMaps = s.sentMaps := (rfl)
@[simp] theorem done_quiets (s : State) (v : Reg) : (done s v).quiets = s.quiets := (rfl)
@[simp] theorem done_bulletins (s : State) (v : Reg) : (done s v).bulletins = s.bulletins := (rfl)
@[simp] theorem done_muted (s : State) (v : Reg) : (done s v).muted = s.muted := (rfl)
@[simp] theorem done_offsets (s : State) (v : Reg) : (done s v).offsets = s.offsets := (rfl)
@[simp] theorem done_words (s : State) (v : Reg) : (done s v).words = s.words := (rfl)
@[simp] theorem done_stamps (s : State) (v : Reg) : (done s v).stamps = s.stamps := (rfl)
@[simp] theorem done_vframes (s : State) (v : Reg) : (done s v).vframes = s.vframes := (rfl)
@[simp] theorem done_viothIn (s : State) (v : Reg) : (done s v).viothIn = s.viothIn := (rfl)
@[simp] theorem done_pipeIn (s : State) (v : Reg) : (done s v).pipeIn = s.pipeIn := (rfl)
@[simp] theorem done_recirc (s : State) (v : Reg) : (done s v).recirc = s.recirc := (rfl)
@[simp] theorem done_frags (s : State) (v : Reg) : (done s v).frags = s.frags := (rfl)
@[simp] theorem done_held (s : State) (v : Reg) : (done s v).held = s.held := (rfl)
@[simp] theorem done_routes (s : State) (v : Reg) : (done s v).routes = s.routes := (rfl)
@[simp] theorem done_learns (s : State) (v : Reg) : (done s v).learns = s.learns := (rfl)
@[simp] theorem done_templates (s : State) (v : Reg) : (done s v).templates = s.templates := (rfl)
@[simp] theorem done_plan (s : State) (v : Reg) : (done s v).plan = s.plan := (rfl)
@[simp] theorem done_dues (s : State) (v : Reg) : (done s v).dues = s.dues := (rfl)
@[simp] theorem done_skews (s : State) (v : Reg) : (done s v).skews = s.skews := (rfl)
@[simp] theorem done_beats (s : State) (v : Reg) : (done s v).beats = s.beats := (rfl)
@[simp] theorem done_energy (s : State) (v : Reg) : (done s v).energy = s.energy := (rfl)
@[simp] theorem done_noDelims (s : State) (v : Reg) : (done s v).noDelims = s.noDelims := (rfl)
@[simp] theorem done_probes (s : State) (v : Reg) : (done s v).probes = s.probes := (rfl)
@[simp] theorem done_fifo (s : State) (v : Reg) : (done s v).fifo = s.fifo := (rfl)
@[simp] theorem done_sdus (s : State) (v : Reg) : (done s v).sdus = s.sdus := (rfl)
@[simp] theorem done_coexStage (s : State) (v : Reg) : (done s v).coexStage = s.coexStage := (rfl)
@[simp] theorem done_notices (s : State) (v : Reg) : (done s v).notices = s.notices := (rfl)
@[simp] theorem done_transfers (s : State) (v : Reg) : (done s v).transfers = s.transfers := (rfl)
@[simp] theorem done_replies (s : State) (v : Reg) : (done s v).replies = s.replies := (rfl)
@[simp] theorem done_subs (s : State) (v : Reg) : (done s v).subs = s.subs := (rfl)
@[simp] theorem done_notifies (s : State) (v : Reg) : (done s v).notifies = s.notifies := (rfl)
@[simp] theorem done_backlog (s : State) (v : Reg) : (done s v).backlog = s.backlog := (rfl)
@[simp] theorem done_relays (s : State) (v : Reg) : (done s v).relays = s.relays := (rfl)
@[simp] theorem done_hostWaits (s : State) (v : Reg) : (done s v).hostWaits = s.hostWaits := (rfl)
@[simp] theorem done_out (s : State) (v : Reg) : (done s v).out = s.out := (rfl)
@[simp] theorem done_freeCtr (s : State) (v : Reg) : (done s v).freeCtr = s.freeCtr := (rfl)
@[simp] theorem done_pending (s : State) (v : Reg) : (done s v).pending = s.pending := (rfl)
@[simp] theorem done_fsFrames (s : State) (v : Reg) : (done s v).fsFrames = s.fsFrames := (rfl)
@[simp] theorem done_downWait (s : State) (v : Reg) : (done s v).downWait = s.downWait := (rfl)
@[simp] theorem done_recent (s : State) (v : Reg) : (done s v).recent = s.recent := (rfl)
@[simp] theorem done_early (s : State) (v : Reg) : (done s v).early = s.early := (rfl)

@[simp] theorem State.fresh_phase (s : State) : s.fresh.2.phase = s.phase := (rfl)
@[simp] theorem State.fresh_now (s : State) : s.fresh.2.now = s.now := (rfl)
@[simp] theorem State.fresh_objs (s : State) : s.fresh.2.objs = s.objs := (rfl)
@[simp] theorem State.fresh_regs (s : State) : s.fresh.2.regs = s.regs := (rfl)
@[simp] theorem State.fresh_mem (s : State) : s.fresh.2.mem = s.mem := (rfl)
@[simp] theorem State.fresh_evQueue (s : State) : s.fresh.2.evQueue = s.evQueue := (rfl)
@[simp] theorem State.fresh_evPending (s : State) : s.fresh.2.evPending = s.evPending := (rfl)
@[simp] theorem State.fresh_pkts (s : State) : s.fresh.2.pkts = s.pkts := (rfl)
@[simp] theorem State.fresh_rounds (s : State) : s.fresh.2.rounds = s.rounds := (rfl)
@[simp] theorem State.fresh_ploams (s : State) : s.fresh.2.ploams = s.ploams := (rfl)
@[simp] theorem State.fresh_keyWaits (s : State) : s.fresh.2.keyWaits = s.keyWaits := (rfl)
@[simp] theorem State.fresh_jobs (s : State) : s.fresh.2.jobs = s.jobs := (rfl)
@[simp] theorem State.fresh_staged (s : State) : s.fresh.2.staged = s.staged := (rfl)
@[simp] theorem State.fresh_sealedMaps (s : State) : s.fresh.2.sealedMaps = s.sealedMaps := (rfl)
@[simp] theorem State.fresh_sentMaps (s : State) : s.fresh.2.sentMaps = s.sentMaps := (rfl)
@[simp] theorem State.fresh_quiets (s : State) : s.fresh.2.quiets = s.quiets := (rfl)
@[simp] theorem State.fresh_bulletins (s : State) : s.fresh.2.bulletins = s.bulletins := (rfl)
@[simp] theorem State.fresh_muted (s : State) : s.fresh.2.muted = s.muted := (rfl)
@[simp] theorem State.fresh_offsets (s : State) : s.fresh.2.offsets = s.offsets := (rfl)
@[simp] theorem State.fresh_words (s : State) : s.fresh.2.words = s.words := (rfl)
@[simp] theorem State.fresh_stamps (s : State) : s.fresh.2.stamps = s.stamps := (rfl)
@[simp] theorem State.fresh_vframes (s : State) : s.fresh.2.vframes = s.vframes := (rfl)
@[simp] theorem State.fresh_viothIn (s : State) : s.fresh.2.viothIn = s.viothIn := (rfl)
@[simp] theorem State.fresh_pipeIn (s : State) : s.fresh.2.pipeIn = s.pipeIn := (rfl)
@[simp] theorem State.fresh_recirc (s : State) : s.fresh.2.recirc = s.recirc := (rfl)
@[simp] theorem State.fresh_frags (s : State) : s.fresh.2.frags = s.frags := (rfl)
@[simp] theorem State.fresh_held (s : State) : s.fresh.2.held = s.held := (rfl)
@[simp] theorem State.fresh_routes (s : State) : s.fresh.2.routes = s.routes := (rfl)
@[simp] theorem State.fresh_learns (s : State) : s.fresh.2.learns = s.learns := (rfl)
@[simp] theorem State.fresh_templates (s : State) : s.fresh.2.templates = s.templates := (rfl)
@[simp] theorem State.fresh_plan (s : State) : s.fresh.2.plan = s.plan := (rfl)
@[simp] theorem State.fresh_dues (s : State) : s.fresh.2.dues = s.dues := (rfl)
@[simp] theorem State.fresh_skews (s : State) : s.fresh.2.skews = s.skews := (rfl)
@[simp] theorem State.fresh_beats (s : State) : s.fresh.2.beats = s.beats := (rfl)
@[simp] theorem State.fresh_energy (s : State) : s.fresh.2.energy = s.energy := (rfl)
@[simp] theorem State.fresh_noDelims (s : State) : s.fresh.2.noDelims = s.noDelims := (rfl)
@[simp] theorem State.fresh_probes (s : State) : s.fresh.2.probes = s.probes := (rfl)
@[simp] theorem State.fresh_fifo (s : State) : s.fresh.2.fifo = s.fifo := (rfl)
@[simp] theorem State.fresh_sdus (s : State) : s.fresh.2.sdus = s.sdus := (rfl)
@[simp] theorem State.fresh_coexStage (s : State) : s.fresh.2.coexStage = s.coexStage := (rfl)
@[simp] theorem State.fresh_notices (s : State) : s.fresh.2.notices = s.notices := (rfl)
@[simp] theorem State.fresh_transfers (s : State) : s.fresh.2.transfers = s.transfers := (rfl)
@[simp] theorem State.fresh_replies (s : State) : s.fresh.2.replies = s.replies := (rfl)
@[simp] theorem State.fresh_subs (s : State) : s.fresh.2.subs = s.subs := (rfl)
@[simp] theorem State.fresh_notifies (s : State) : s.fresh.2.notifies = s.notifies := (rfl)
@[simp] theorem State.fresh_backlog (s : State) : s.fresh.2.backlog = s.backlog := (rfl)
@[simp] theorem State.fresh_relays (s : State) : s.fresh.2.relays = s.relays := (rfl)
@[simp] theorem State.fresh_hostWaits (s : State) : s.fresh.2.hostWaits = s.hostWaits := (rfl)
@[simp] theorem State.fresh_out (s : State) : s.fresh.2.out = s.out := (rfl)
@[simp] theorem State.fresh_answer (s : State) : s.fresh.2.answer = s.answer := (rfl)
@[simp] theorem State.fresh_pending (s : State) : s.fresh.2.pending = s.pending := (rfl)
@[simp] theorem State.fresh_fsFrames (s : State) : s.fresh.2.fsFrames = s.fsFrames := (rfl)
@[simp] theorem State.fresh_downWait (s : State) : s.fresh.2.downWait = s.downWait := (rfl)
@[simp] theorem State.fresh_recent (s : State) : s.fresh.2.recent = s.recent := (rfl)
@[simp] theorem State.fresh_early (s : State) : s.fresh.2.early = s.early := (rfl)
@[simp] theorem State.fresh_freeCtr (s : State) : s.fresh.2.freeCtr = s.freeCtr + 1 := (rfl)
@[simp] theorem State.fresh_value (s : State) : s.fresh.1 = Config.freeValue s.freeCtr := (rfl)
@[simp] theorem refuse_answer (k : Nat) (s : State) : (refuse k s).answer = ⟨k, 0⟩ := (rfl)
@[simp] theorem done_answer (s : State) (v : Reg) : (done s v).answer = ⟨0, v⟩ := (rfl)
@[simp] theorem State.send_out (s : State) (k : OutKind) (l : List Reg) : (s.send k l).out = s.out ++ [⟨k, l⟩] := (rfl)

end Sys2Proof.Machine
end

