-- ==== Sys2Proof/Laws/Store.lean ====
section
/-!
SUPPORT. Laws/Store.lean: what reading a table gives after a write, and that every table operation keeps the canonical form.
-/
namespace Sys2Proof.Machine

/-! ## Reads after writes -/

theorem Store.find_erase_self (k : Key) (t : Store) : Store.find k (Store.erase k t) = none := by
  induction t with
  | nil => rfl
  | cons e r ih =>
    obtain ⟨k', v⟩ := e
    by_cases h : k' = k
    · simpa [Store.erase, h] using ih
    · simpa [Store.erase, Store.find, h] using ih

theorem Store.find_erase_ne {k k' : Key} (h : k' ≠ k) (t : Store) : Store.find k' (Store.erase k t) = Store.find k' t := by
  induction t with
  | nil => rfl
  | cons e r ih =>
    obtain ⟨q, v⟩ := e
    by_cases hq : q = k
    · have : q ≠ k' := fun e => h (e ▸ hq ▸ rfl)
      simpa [Store.erase, Store.find, hq, this, Ne.symm h] using ih
    · by_cases hk : q = k'
      · simp [Store.erase, Store.find, hk, h]
      · simpa [Store.erase, Store.find, hq, hk] using ih

theorem Store.find_place_ne {k k' : Key} (h : k' ≠ k) (v : Reg) (t : Store) :
    Store.find k' (Store.place k v t) = Store.find k' t := by
  induction t with
  | nil => simp [Store.place, Store.find, Ne.symm h]
  | cons e r ih =>
    obtain ⟨q, w⟩ := e
    by_cases hl : k.lt q = true
    · simp [Store.place, Store.find, hl, Ne.symm h]
    · by_cases hk : q = k'
      · subst hk
        simp [Store.place, Store.find, hl]
      · simpa [Store.place, Store.find, hl, hk] using ih

theorem Store.find_place_self (k : Key) (v : Reg) (t : Store) (h : Store.find k t = none) :
    Store.find k (Store.place k v t) = some v := by
  induction t with
  | nil => simp [Store.place, Store.find]
  | cons e r ih =>
    obtain ⟨q, w⟩ := e
    have hq : q ≠ k := by
      intro e
      simp [Store.find, e] at h
    have hr : Store.find k r = none := by simpa [Store.find, hq] using h
    by_cases hl : k.lt q = true
    · simp [Store.place, Store.find, hl]
    · simpa [Store.place, Store.find, hl, hq] using ih hr

/-- A register reads what was written to it. -/
theorem Store.read_write_self (d : Key → Reg) (t : Store) (k : Key) (v : Reg) : Store.read d (Store.write d t k v) k = v := by
  by_cases h : v = d k
  · simp [Store.read, Store.write, h, Store.find_erase_self]
  · simp [Store.read, Store.write, h, Store.find_place_self k v _ (Store.find_erase_self k t)]

/-- Every other register reads as before. -/
theorem Store.read_write_ne (d : Key → Reg) (t : Store) {k k' : Key} (h : k' ≠ k) (v : Reg) :
    Store.read d (Store.write d t k v) k' = Store.read d t k' := by
  by_cases hv : v = d k
  · simp [Store.read, Store.write, hv, Store.find_erase_ne h]
  · simp [Store.read, Store.write, hv, Store.find_place_ne h, Store.find_erase_ne h]

/-! ## The canonical form -/

theorem Key.lt_trans {a b c : Key} (h : a.lt b = true) (g : b.lt c = true) : a.lt c = true := by
  simp only [Key.lt, Bool.or_eq_true, Bool.and_eq_true, decide_eq_true_eq, beq_iff_eq] at *
  omega

theorem Key.lt_of_not {a b : Key} (h : a.lt b = false) (n : b ≠ a) : b.lt a = true := by
  have n' : ¬(b.index = a.index ∧ b.inst = a.inst ∧ b.sub = a.sub) := by
    rintro ⟨x, y, z⟩
    apply n
    cases a; cases b; simp_all
  simp only [Key.lt, Bool.or_eq_false_iff, Bool.and_eq_false_iff, Bool.or_eq_true, Bool.and_eq_true, decide_eq_true_eq,
    beq_iff_eq, decide_eq_false_iff_not, beq_eq_false_iff_ne] at *
  omega

/-- Rising keys, as a statement about every pair. -/
theorem Store.rising_iff (t : Store) : Store.rising t = true ↔ t.Pairwise fun a b => a.1.lt b.1 = true := by
  induction t with
  | nil => simp [Store.rising]
  | cons a r ih =>
    cases r with
    | nil => simp [Store.rising]
    | cons b r =>
      rw [Store.rising, Bool.and_eq_true, ih]
      constructor
      · intro ⟨h, p⟩
        refine List.pairwise_cons.2 ⟨fun c hc => ?_, p⟩
        rcases List.mem_cons.1 hc with rfl | hc
        · exact h
        · exact Key.lt_trans h ((List.pairwise_cons.1 p).1 c hc)
      · intro q
        have q := List.pairwise_cons.1 q
        exact ⟨q.1 b (by simp), q.2⟩

theorem Store.wf_iff (d : Key → Reg) (t : Store) :
    Store.wf d t = true ↔ (t.Pairwise fun a b => a.1.lt b.1 = true) ∧ ∀ e ∈ t, e.2 ≠ d e.1 := by
  simp [Store.wf, Store.rising_iff]

theorem Store.erase_sublist (k : Key) (t : Store) : (Store.erase k t).Sublist t := by
  induction t with
  | nil => exact .slnil
  | cons e r ih =>
    obtain ⟨q, v⟩ := e
    by_cases h : q = k
    · simpa [Store.erase, h] using ih.cons (k, v)
    · simpa [Store.erase, h] using ih.cons_cons (q, v)

theorem Store.mem_place {k : Key} {v : Reg} {t : Store} {e : Key × Reg} (h : e ∈ Store.place k v t) : e = (k, v) ∨ e ∈ t := by
  induction t with
  | nil => simpa [Store.place] using h
  | cons x r ih =>
    by_cases hl : k.lt x.1 = true
    · simpa [Store.place, hl] using h
    · simp only [Store.place, hl, Bool.false_eq_true, if_false, List.mem_cons] at h
      rcases h with h | h
      · exact .inr (by simp [h])
      · rcases ih h with h | h
        · exact .inl h
        · exact .inr (by simp [h])

theorem Store.not_mem_erase {k : Key} {t : Store} {e : Key × Reg} (h : e ∈ Store.erase k t) : e.1 ≠ k := by
  induction t with
  | nil => simp [Store.erase] at h
  | cons x r ih =>
    obtain ⟨q, v⟩ := x
    by_cases hq : q = k
    · simp only [Store.erase, hq, if_true] at h
      exact ih h
    · simp only [Store.erase, hq, if_false, List.mem_cons] at h
      rcases h with rfl | h
      · exact hq
      · exact ih h

theorem Store.place_pairwise {k : Key} {v : Reg} {t : Store} (p : t.Pairwise fun a b => a.1.lt b.1 = true)
    (n : ∀ e ∈ t, e.1 ≠ k) : (Store.place k v t).Pairwise fun a b => a.1.lt b.1 = true := by
  induction t with
  | nil => simp [Store.place]
  | cons x r ih =>
    rw [List.pairwise_cons] at p
    by_cases hl : k.lt x.1 = true
    · simp only [Store.place, hl, if_true, List.pairwise_cons]
      refine ⟨fun e he => ?_, p⟩
      rcases List.mem_cons.1 he with rfl | he
      · exact hl
      · exact Key.lt_trans hl (p.1 e he)
    · simp only [Store.place, hl, Bool.false_eq_true, if_false, List.pairwise_cons]
      refine ⟨fun e he => ?_, ih p.2 fun e he => n e (by simp [he])⟩
      rcases Store.mem_place he with rfl | he
      · exact Key.lt_of_not (by simpa using hl) (n x (by simp))
      · exact p.1 e he

/-- A write keeps the canonical form. -/
theorem Store.wf_write {d : Key → Reg} {t : Store} (h : Store.wf d t = true) (k : Key) (v : Reg) :
    Store.wf d (Store.write d t k v) = true := by
  rw [Store.wf_iff] at h ⊢
  have p := h.1.sublist (Store.erase_sublist k t)
  have m : ∀ e ∈ Store.erase k t, e.2 ≠ d e.1 := fun e he => h.2 e ((Store.erase_sublist k t).mem he)
  by_cases hv : v = d k
  · simp only [Store.write, hv, if_true]
    exact ⟨p, m⟩
  · simp only [Store.write, hv, if_false]
    refine ⟨Store.place_pairwise p fun e he => Store.not_mem_erase he, fun e he => ?_⟩
    rcases Store.mem_place he with rfl | he
    · exact hv
    · exact m e he

/-- Leaving registers out keeps the canonical form. -/
theorem Store.wf_filter {d : Key → Reg} {t : Store} (h : Store.wf d t = true) (p : Key × Reg → Bool) :
    Store.wf d (t.filter p) = true := by
  rw [Store.wf_iff] at h ⊢
  exact ⟨h.1.sublist List.filter_sublist, fun e he => h.2 e (List.mem_filter.1 he).1⟩

theorem Store.wf_forget {d : Key → Reg} {t : Store} (h : Store.wf d t = true) (p : Key → Bool) :
    Store.wf d (Store.forget p t) = true := Store.wf_filter h _

theorem Store.wf_nil (d : Key → Reg) : Store.wf d [] = true := rfl

/-- The memories' table: zero words are unlisted. -/
theorem Store.find_forget (p : Key → Bool) (t : Store) (k : Key) :
    Store.find k (Store.forget p t) = if p k then none else Store.find k t := by
  induction t with
  | nil => simp [Store.forget, Store.find]
  | cons e r ih =>
    obtain ⟨q, v⟩ := e
    by_cases hp : p q = true <;> by_cases hq : q = k
    · subst hq
      simpa [Store.forget, Store.find, hp] using ih
    · have : Store.find k (Store.forget p ((q, v) :: r)) = Store.find k (Store.forget p r) := by simp [Store.forget, hp]
      rw [this, ih]
      simp [Store.find, hq]
    · subst hq
      simp [Store.forget, Store.find, hp]
    · have : Store.find k (Store.forget p ((q, v) :: r)) = Store.find k (Store.forget p r) := by
        simp [Store.forget, Store.find, hp, hq]
      rw [this, ih]
      simp [Store.find, hq]

/-- A register that is forgotten reads as an unlisted one; every other register reads as before. -/
theorem Store.read_forget (d : Key → Reg) (p : Key → Bool) (t : Store) (k : Key) :
    Store.read d (Store.forget p t) k = if p k then d k else Store.read d t k := by
  by_cases h : p k = true <;> simp [Store.read, Store.find_forget, h]

end Sys2Proof.Machine
end

