-- ==== Sys2Proof/Laws/Ops.lean ====
section
/-!
SUPPORT. Laws/Ops.lean: what each shared operation does, said once: objects and hidden registers read back as written, an event
changes event objects only, and an admitted write runs its object's rule.
-/
namespace Sys2Proof.Machine

/-! ## Objects and hidden registers -/

@[simp] theorem State.get_put_self (s : State) (i n b : Nat) (v : Reg) : (s.put i n b v).get i n b = v :=
  Store.read_write_self _ _ _ _

theorem State.get_put_ne (s : State) {i n b i' n' b' : Nat} (v : Reg) (h : i' ≠ i ∨ n' ≠ n ∨ b' ≠ b) :
    (s.put i n b v).get i' n' b' = s.get i' n' b' := by
  apply Store.read_write_ne
  intro e
  simp only [Key.mk.injEq] at e
  rcases h with h | h | h
  · exact h e.1
  · exact h e.2.1
  · exact h e.2.2

theorem State.get_put (s : State) (i n b i' n' b' : Nat) (v : Reg) :
    (s.put i n b v).get i' n' b' = if i' = i ∧ n' = n ∧ b' = b then v else s.get i' n' b' := by
  by_cases h : i' = i ∧ n' = n ∧ b' = b
  · obtain ⟨rfl, rfl, rfl⟩ := h
    simp
  · rw [if_neg h, State.get_put_ne]
    omega

theorem Aux.ctorIdx_injective {a b : Aux} (h : a.ctorIdx = b.ctorIdx) : a = b := by
  have := congrArg Aux.ofNat h
  rwa [Aux.ofNat_ctorIdx, Aux.ofNat_ctorIdx] at this

@[simp] theorem State.aux_setAux_self (s : State) (a : Aux) (i j : Nat) (v : Reg) : (s.setAux a i j v).aux a i j = v :=
  Store.read_write_self _ _ _ _

theorem State.aux_setAux_ne (s : State) {a a' : Aux} {i j i' j' : Nat} (v : Reg) (h : a' ≠ a ∨ i' ≠ i ∨ j' ≠ j) :
    (s.setAux a i j v).aux a' i' j' = s.aux a' i' j' := by
  apply Store.read_write_ne
  intro e
  simp only [Key.mk.injEq] at e
  rcases h with h | h | h
  · exact h (Aux.ctorIdx_injective e.1)
  · exact h e.2.1
  · exact h e.2.2

theorem State.aux_setAux (s : State) (a a' : Aux) (i j i' j' : Nat) (v : Reg) :
    (s.setAux a i j v).aux a' i' j' = if a' = a ∧ i' = i ∧ j' = j then v else s.aux a' i' j' := by
  by_cases h : a' = a ∧ i' = i ∧ j' = j
  · obtain ⟨rfl, rfl, rfl⟩ := h
    simp
  · rw [if_neg h, State.aux_setAux_ne]
    by_cases x : a' = a <;> by_cases y : i' = i <;> simp_all

@[simp] theorem State.get_setAux (s : State) (a : Aux) (i j : Nat) (v : Reg) (x y z : Nat) :
    (s.setAux a i j v).get x y z = s.get x y z := (rfl)
@[simp] theorem State.aux_put (s : State) (i n b : Nat) (v : Reg) (a : Aux) (x y : Nat) :
    (s.put i n b v).aux a x y = s.aux a x y := (rfl)
@[simp] theorem State.get_send (s : State) (k : OutKind) (l : List Reg) (x y z : Nat) : (s.send k l).get x y z = s.get x y z := (rfl)
@[simp] theorem State.aux_send (s : State) (k : OutKind) (l : List Reg) (a : Aux) (x y : Nat) :
    (s.send k l).aux a x y = s.aux a x y := (rfl)
@[simp] theorem get_refuse (k : Nat) (s : State) (x y z : Nat) : (refuse k s).get x y z = s.get x y z := (rfl)
@[simp] theorem aux_refuse (k : Nat) (s : State) (a : Aux) (x y : Nat) : (refuse k s).aux a x y = s.aux a x y := (rfl)
@[simp] theorem get_done (s : State) (v : Reg) (x y z : Nat) : (done s v).get x y z = s.get x y z := (rfl)
@[simp] theorem aux_done (s : State) (v : Reg) (a : Aux) (x y : Nat) : (done s v).aux a x y = s.aux a x y := (rfl)
@[simp] theorem get_fresh (s : State) (x y z : Nat) : s.fresh.2.get x y z = s.get x y z := (rfl)
@[simp] theorem aux_fresh (s : State) (a : Aux) (x y : Nat) : s.fresh.2.aux a x y = s.aux a x y := (rfl)

/-- The two stores decide what every object and every hidden register reads. -/
theorem State.get_congr {s t : State} (h : t.objs = s.objs) (i n b : Nat) : t.get i n b = s.get i n b := by
  simp [State.get, h]

theorem State.aux_congr {s t : State} (h : t.regs = s.regs) (a : Aux) (i j : Nat) : t.aux a i j = s.aux a i j := by
  simp [State.aux, h]

theorem State.get_bump (s : State) (i n b k i' n' b' : Nat) :
    (s.bump i n b k).get i' n' b' = if i' = i ∧ n' = n ∧ b' = b then wrapAdd 64 (s.get i n b) k else s.get i' n' b' :=
  State.get_put ..

theorem State.get_bump32 (s : State) (i n b k i' n' b' : Nat) :
    (s.bump32 i n b k).get i' n' b' = if i' = i ∧ n' = n ∧ b' = b then wrapAdd 32 (s.get i n b) k else s.get i' n' b' :=
  State.get_put ..

@[simp] theorem State.aux_bump (s : State) (i n b k : Nat) (a : Aux) (x y : Nat) : (s.bump i n b k).aux a x y = s.aux a x y := (rfl)
@[simp] theorem State.aux_bump32 (s : State) (i n b k : Nat) (a : Aux) (x y : Nat) :
    (s.bump32 i n b k).aux a x y = s.aux a x y := (rfl)
@[simp] theorem State.get_incAux (s : State) (a : Aux) (i j k x y z : Nat) : (s.incAux a i j k).get x y z = s.get x y z := (rfl)

theorem State.aux_incAux (s : State) (a : Aux) (i j k : Nat) (a' : Aux) (i' j' : Nat) :
    (s.incAux a i j k).aux a' i' j' = if a' = a ∧ i' = i ∧ j' = j then s.aux a i j + k else s.aux a' i' j' :=
  State.aux_setAux ..

/-! ## Folds -/

/-- What every step of a fold keeps, the fold keeps. -/
theorem overAll_induct {α : Type} (p : State → Prop) {l : List α} {f : α → State → State} {s : State} (h : p s)
    (step : ∀ a ∈ l, ∀ u, p u → p (f a u)) : p (overAll l f s) := by
  induction l generalizing s with
  | nil => exact h
  | cons a l ih =>
    exact ih (step a (by simp) s h) fun b hb u hu => step b (by simp [hb]) u hu

theorem overAll_get {α : Type} {l : List α} {f : α → State → State} {i n b : Nat}
    (step : ∀ a ∈ l, ∀ u : State, (f a u).get i n b = u.get i n b) (s : State) : (overAll l f s).get i n b = s.get i n b :=
  overAll_induct (fun u => u.get i n b = s.get i n b) rfl fun a ha u hu => (step a ha u).trans hu

theorem overAll_aux {α : Type} {l : List α} {f : α → State → State} {a : Aux} {i j : Nat}
    (step : ∀ x ∈ l, ∀ u : State, (f x u).aux a i j = u.aux a i j) (s : State) : (overAll l f s).aux a i j = s.aux a i j :=
  overAll_induct (fun u => u.aux a i j = s.aux a i j) rfl fun x hx u hu => (step x hx u).trans hu

@[simp] theorem overAll_nil {α : Type} (f : α → State → State) (s : State) : overAll [] f s = s := (rfl)
@[simp] theorem overAll_cons {α : Type} (x : α) (l : List α) (f : α → State → State) (s : State) :
    overAll (x :: l) f s = overAll l f (f x s) := (rfl)

/-! ## Events: what they leave unchanged -/

/-- An operation that touches event objects, event registers, the queue and the pending instances only. -/
structure EventOnly (s t : State) : Prop where
  get : ∀ i n b, i ≠ 0x1200 → i ≠ 0x1210 → t.get i n b = s.get i n b
  aux : ∀ a i j, a ≠ .evSeq → a ≠ .evLostRep → a ≠ .evLast → t.aux a i j = s.aux a i j
  rest : { t with objs := s.objs, regs := s.regs, evQueue := s.evQueue, evPending := s.evPending } = s

theorem EventOnly.refl (s : State) : EventOnly s s := ⟨fun _ _ _ _ _ => rfl, fun _ _ _ _ _ _ => rfl, rfl⟩

theorem EventOnly.trans {s t u : State} (h : EventOnly s t) (g : EventOnly t u) : EventOnly s u := by
  refine ⟨fun i n b x y => (g.get i n b x y).trans (h.get i n b x y),
    fun a i j w x y => (g.aux a i j w x y).trans (h.aux a i j w x y), ?_⟩
  have e := congrArg (fun t : State => { t with objs := s.objs, regs := s.regs, evQueue := s.evQueue, evPending := s.evPending }) g.rest
  exact e.trans h.rest

theorem EventOnly.put (s : State) {i : Nat} (h : i = 0x1200 ∨ i = 0x1210) (n b : Nat) (v : Reg) : EventOnly s (s.put i n b v) :=
  ⟨fun i' n' b' x y => State.get_put_ne s v (.inl (by rcases h with rfl | rfl <;> assumption)), fun _ _ _ _ _ _ => rfl, rfl⟩

theorem EventOnly.setAux (s : State) {a : Aux} (h : a = .evSeq ∨ a = .evLostRep ∨ a = .evLast) (i j : Nat) (v : Reg) :
    EventOnly s (s.setAux a i j v) :=
  ⟨fun _ _ _ _ _ => rfl, fun a' i' j' w x y => State.aux_setAux_ne s v (.inl (by rcases h with rfl | rfl | rfl <;> assumption)), rfl⟩

theorem EventOnly.queue (s : State) (q : List Rec) : EventOnly s { s with evQueue := q } :=
  ⟨fun _ _ _ _ _ => rfl, fun _ _ _ _ _ _ => rfl, rfl⟩

theorem EventOnly.pending (s : State) (q : List Rec) : EventOnly s { s with evPending := q } :=
  ⟨fun _ _ _ _ _ => rfl, fun _ _ _ _ _ _ => rfl, rfl⟩

theorem enqueueRec_only (num sev inst : Nat) (stamp : Ns) (a1 a2 : Reg) (s : State) : EventOnly s (enqueueRec num sev inst stamp a1 a2 s) := by
  unfold enqueueRec
  split
  · exact .refl s
  · dsimp only
    split
    · exact ((EventOnly.setAux s (.inl rfl) _ _ _).trans (.put _ (.inl rfl) _ _ _)).trans (.queue _ _)
    · exact (((EventOnly.setAux s (.inl rfl) _ _ _).trans (.put _ (.inl rfl) _ _ _)).trans (.put _ (.inr rfl) _ _ _)).trans
        (.setAux _ (.inr (.inl rfl)) _ _ _)

theorem raiseOne_only (num inst : Nat) (a1 a2 : Reg) (s : State) : EventOnly s (raiseOne num inst a1 a2 s) := by
  unfold raiseOne
  dsimp only
  split
  · exact ((EventOnly.put s (.inl rfl) _ _ _).trans ((EventOnly.pending _ _).trans (.put _ (.inl rfl) _ _ _))).trans
      (enqueueRec_only ..)
  · exact (EventOnly.put s (.inl rfl) _ _ _).trans (enqueueRec_only ..)

theorem clearOne_only (num inst : Nat) (s : State) : EventOnly s (clearOne num inst s) := by
  unfold clearOne
  split
  · exact ((EventOnly.pending s _).trans (.put _ (.inl rfl) _ _ _)).trans (enqueueRec_only ..)
  · exact .refl s

/-- An event changes the event objects and the event path only (R471 to R477). -/
theorem raise_only (num inst : Nat) (a1 a2 : Reg) (s : State) : EventOnly s (raise num inst a1 a2 s) := by
  unfold raise
  dsimp only
  split
  · split
    · exact (raiseOne_only ..).trans (raiseOne_only ..)
    · exact raiseOne_only ..
  · exact raiseOne_only ..

/-- So does its clearing. -/
theorem clear_only (num inst : Nat) (s : State) : EventOnly s (clear num inst s) := by
  unfold clear
  dsimp only
  split
  · exact (clearOne_only ..).trans (clearOne_only ..)
  · exact clearOne_only ..

/-- A summarised event changes what an event does. -/
theorem summarise_only (num key inst : Nat) (f : Nat → Nat → Reg × Reg) (s : State) : EventOnly s (summarise num key inst f s) := by
  unfold summarise
  dsimp only
  split
  · exact (EventOnly.setAux s (.inr (.inr rfl)) _ _ _).trans (raise_only ..)
  · exact .refl s

/-- An event raised at most once per second changes what an event does, and the occurrences of the last second. -/
theorem raiseSecAt_only (num key inst : Nat) (f : Nat → Reg × Reg) (s : State) (n : Nat) :
    EventOnly (noteHit num key 0 n s) (raiseSecAt num key inst f s n) := by
  unfold raiseSecAt
  exact summarise_only ..

theorem raiseSec_only (num inst : Nat) (f : Nat → Reg × Reg) (s : State) (n : Nat) :
    EventOnly (noteHit num inst 0 n s) (raiseSec num inst f s n) := by
  unfold raiseSec
  exact raiseSecAt_only ..

theorem raisePair_only (num inst arg n : Nat) (s : State) : EventOnly (noteHit num inst arg n s) (raisePair num inst arg n s) := by
  unfold raisePair
  exact summarise_only ..

@[simp] theorem get_noteHit (num key arg n : Nat) (s : State) (x y z : Nat) : (noteHit num key arg n s).get x y z = s.get x y z := (rfl)
@[simp] theorem aux_noteHit (num key arg n : Nat) (s : State) (a : Aux) (x y : Nat) :
    (noteHit num key arg n s).aux a x y = s.aux a x y := (rfl)

theorem raise_get (num inst : Nat) (a1 a2 : Reg) (s : State) {i n b : Nat} (h : i ≠ 0x1200) (g : i ≠ 0x1210) :
    (raise num inst a1 a2 s).get i n b = s.get i n b := (raise_only ..).get i n b h g
theorem clear_get (num inst : Nat) (s : State) {i n b : Nat} (h : i ≠ 0x1200) (g : i ≠ 0x1210) :
    (clear num inst s).get i n b = s.get i n b := (clear_only ..).get i n b h g
theorem raiseSec_get (num inst : Nat) (f : Nat → Reg × Reg) (s : State) (k : Nat) {i n b : Nat} (h : i ≠ 0x1200) (g : i ≠ 0x1210) :
    (raiseSec num inst f s k).get i n b = s.get i n b := (raiseSec_only ..).get i n b h g
theorem raiseSecAt_get (num key inst : Nat) (f : Nat → Reg × Reg) (s : State) (k : Nat) {i n b : Nat} (h : i ≠ 0x1200) (g : i ≠ 0x1210) :
    (raiseSecAt num key inst f s k).get i n b = s.get i n b := (raiseSecAt_only ..).get i n b h g
theorem raisePair_get (num inst arg k : Nat) (s : State) {i n b : Nat} (h : i ≠ 0x1200) (g : i ≠ 0x1210) :
    (raisePair num inst arg k s).get i n b = s.get i n b := (raisePair_only ..).get i n b h g
theorem raise_aux (num inst : Nat) (a1 a2 : Reg) (s : State) {a : Aux} (i j : Nat) (h : a ≠ .evSeq) (g : a ≠ .evLostRep)
    (k : a ≠ .evLast) : (raise num inst a1 a2 s).aux a i j = s.aux a i j := (raise_only ..).aux a i j h g k
theorem clear_aux (num inst : Nat) (s : State) {a : Aux} (i j : Nat) (h : a ≠ .evSeq) (g : a ≠ .evLostRep)
    (k : a ≠ .evLast) : (clear num inst s).aux a i j = s.aux a i j := (clear_only ..).aux a i j h g k
theorem raiseSec_aux (num inst : Nat) (f : Nat → Reg × Reg) (s : State) (n : Nat) {a : Aux} (i j : Nat) (h : a ≠ .evSeq)
    (g : a ≠ .evLostRep) (k : a ≠ .evLast) : (raiseSec num inst f s n).aux a i j = s.aux a i j := (raiseSec_only ..).aux a i j h g k
theorem raiseSecAt_aux (num key inst : Nat) (f : Nat → Reg × Reg) (s : State) (n : Nat) {a : Aux} (i j : Nat) (h : a ≠ .evSeq)
    (g : a ≠ .evLostRep) (k : a ≠ .evLast) : (raiseSecAt num key inst f s n).aux a i j = s.aux a i j :=
  (raiseSecAt_only ..).aux a i j h g k
theorem raisePair_aux (num inst arg n : Nat) (s : State) {a : Aux} (i j : Nat) (h : a ≠ .evSeq) (g : a ≠ .evLostRep)
    (k : a ≠ .evLast) : (raisePair num inst arg n s).aux a i j = s.aux a i j := (raisePair_only ..).aux a i j h g k

/-- Every field but the objects, the registers, the queue and the pending instances is as before an event. -/
theorem EventOnly.field {s t : State} (h : EventOnly s t) {α : Type} (f : State → α)
    (g : ∀ o r q p, f { t with objs := o, regs := r, evQueue := q, evPending := p } = f t) : f t = f s := by
  rw [← g s.objs s.regs s.evQueue s.evPending, h.rest]

/-- Before READY a cause waits: no object and no register changes (spec/15 R505). -/
theorem reportCause_get (num inst : Nat) (a1 a2 : Reg) (s : State) {i n b : Nat} (h : i ≠ 0x1200) (g : i ≠ 0x1210) :
    (reportCause num inst a1 a2 s).get i n b = s.get i n b := by
  unfold reportCause
  split
  · exact raise_get _ _ _ _ _ h g
  · split <;> rfl

/-! ## Accesses -/

/-- On a running device a command has its effect. -/
theorem whenUp_up {s : State} (h : Up s) (f : State → State) : whenUp s f = .next (f s) := by
  have h' : s.phase = .running := h
  simp [whenUp, h']

/-- The monitors see what they see whenever power is on and no reset is held. -/
theorem whenPowered_up {s : State} (h : powered s = true) (f : State → State) : whenPowered s f = .next (f s) := by
  have h' : s.phase = .running ∨ s.phase = .starting ∨ s.phase = .recovery := by
    simpa [powered, or_assoc] using h
  simp [whenPowered, h']

/-- On any other device it leaves the state as it is. -/
theorem whenUp_held {s : State} (h : ¬Up s) (f : State → State) : whenUp s f = .next s := by
  have h' : ¬s.phase = .running := h
  simp [whenUp, h']

/-- A command of the running device runs to the state that its operation gives. -/
theorem runs_of {c : Instr} {s : State} {f : State → State} {p : State → Prop} (h : exec c s = whenUp s f) (u : Up s)
    (g : p (f s)) : Runs c s p := ⟨f s, by rw [h, whenUp_up u], g⟩

/-- An admitted access runs its body. -/
theorem access_of_admits {acc : Acc} {w : Bool} {i n b : Nat} {s : State} (h : mayAccess acc w i n b s = true)
    (body : State → State) : access acc w i n b s body = body s := by
  simp only [mayAccess, Bool.and_eq_true, Bool.not_eq_true', beq_iff_eq] at h
  obtain ⟨⟨⟨⟨h1, h2⟩, h3⟩, h4⟩, h5⟩ := h
  have h2' : ¬(acc.role = .vendor ∧ s.aux .vendorOn = 0) := by
    intro c
    simp [c.1, c.2] at h2
  simp [access, h1, h2', h3, h4, h5]

/-- An admitted write runs its object's rule, and a command object then shows the status (R20). -/
theorem writeValue_of_mayWrite {acc : Acc} {i n b : Nat} {v : Reg} {s : State} {r : Row} (hr : Objects.row i b = some r)
    (h : mayWrite acc i n b v s = true) (body : State → State) :
    writeValue acc i n b v s body
      = if r.acc = .cmd ∧ i ≠ 0x5840 then (body s).put i n b (body s).answer.status else body s := by
  simp only [mayWrite, hr, Bool.and_eq_true, Bool.not_eq_true', bne_iff_ne, ne_eq] at h
  obtain ⟨ha, ⟨⟨h1, h2⟩, h3⟩, h4, h5⟩ := h
  have h3' : ¬(r.acc = .rwd ∧ rwdBusy s i n b = true) := by
    intro c
    simp [c.1, c.2] at h3
  simp [writeValue, access_of_admits ha, hr, h1, h2, h3', h4, h5]

/-! ## Operands that come in parts -/

@[simp] theorem turnsOf_nil : turnsOf [] [] [] = [] := rfl

@[simp] theorem turnsOf_single (picks : List Nat) : turnsOf [picks] [] [] = [⟨picks, [], []⟩] := rfl

@[simp] theorem lightIn_nil (levels : List Nat) : lightIn [] levels = [] := rfl

@[simp] theorem lightIn_cons (r : Nat × Nat) (runs : List (Nat × Nat)) (v : Nat) (levels : List Nat) :
    lightIn (r :: runs) (v :: levels) = ⟨r.1, r.2, v⟩ :: lightIn runs levels := rfl

@[simp] theorem blockRows_nil (blocks : List (List (List Nat))) : blockRows [] blocks = [] := rfl

@[simp] theorem upstreamPloam_length (onu : List Nat) (kind seq : Nat) (content check : List Nat) :
    (upstreamPloam onu kind seq content check).length = onu.length + content.length + check.length + 2 := by
  simp only [upstreamPloam, List.length_append, List.length_cons]
  omega

end Sys2Proof.Machine
end

