-- ==== Sys2Proof/Laws/Events.lean ====
section
/-!
SUPPORT. Laws/Events.lean: what a raised record and a clearing leave pending, and the count of raised records (spec/14 R471, R472).
-/
namespace Sys2Proof.Machine

theorem isPending_congr {s t : State} (h : t.evPending = s.evPending) (num inst : Nat) : isPending t num inst = isPending s num inst := by
  simp [isPending, h]

theorem addPending_any (r : Rec) (l : List Rec) : ((addPending r l).any fun x => x.num == r.num && x.inst == r.inst) = true := by
  induction l with
  | nil => simp [addPending]
  | cons x l ih =>
    by_cases h : x.num = r.num ∧ x.inst = r.inst
    · simp [addPending, h]
    · simp only [addPending, h, if_false, List.any_cons, Bool.or_eq_true]
      exact .inr ih

theorem addPending_keep (r : Rec) (l : List Rec) {num inst : Nat} (h : (l.any fun x => x.num == num && x.inst == inst) = true) :
    ((addPending r l).any fun x => x.num == num && x.inst == inst) = true := by
  induction l with
  | nil => simp at h
  | cons x l ih =>
    simp only [List.any_cons, Bool.or_eq_true, Bool.and_eq_true, beq_iff_eq] at h
    by_cases hx : x.num = r.num ∧ x.inst = r.inst
    · simp only [addPending, hx, and_self, if_true, List.any_cons, Bool.or_eq_true, Bool.and_eq_true, beq_iff_eq]
      rcases h with h | h
      · exact .inl ⟨hx.1.symm.trans h.1, hx.2.symm.trans h.2⟩
      · exact .inr h
    · simp only [addPending, hx, if_false, List.any_cons, Bool.or_eq_true, Bool.and_eq_true, beq_iff_eq]
      rcases h with h | h
      · exact .inl h
      · exact .inr (ih h)

theorem enqueueRec_evPending (num sev inst : Nat) (stamp : Ns) (a1 a2 : Reg) (s : State) :
    (enqueueRec num sev inst stamp a1 a2 s).evPending = s.evPending := by
  unfold enqueueRec
  split
  · rfl
  · dsimp only
    split <;> simp

theorem raiseOne_evPending (num inst : Nat) (a1 a2 : Reg) (s : State) :
    (raiseOne num inst a1 a2 s).evPending = if Objects.lasting num = true then
      addPending ⟨num, severity (s.bump 0x1200 num 3) num, inst, s.now, a1 % 2 ^ 32, a2 % 2 ^ 32, 0⟩ s.evPending else s.evPending := by
  unfold raiseOne
  dsimp only
  rw [enqueueRec_evPending]
  split <;> simp

/-- A lasting number is pending from its raised record (R472). -/
theorem raise_pending {num : Nat} (h : Objects.lasting num = true) (inst : Nat) (a1 a2 : Reg) (s : State) :
    isPending (raise num inst a1 a2 s) num inst = true := by
  have one : isPending (raiseOne num inst a1 a2 s) num inst = true := by
    unfold isPending
    rw [raiseOne_evPending, if_pos h]
    exact addPending_any ⟨num, _, inst, _, _, _, _⟩ _
  unfold raise
  dsimp only
  split
  · split
    · unfold isPending at one ⊢
      rw [raiseOne_evPending]
      split
      · exact addPending_keep _ _ one
      · exact one
    · exact one
  · exact one

theorem clearOne_pending_self (num inst : Nat) (s : State) : isPending (clearOne num inst s) num inst = false := by
  unfold clearOne
  split
  · unfold isPending
    rw [enqueueRec_evPending]
    simp only [State.put_evPending, List.any_eq_false, List.mem_filter, Bool.and_eq_true, beq_iff_eq]
    intro x hx c
    simp [c.1, c.2] at hx
  · rename_i h
    exact Bool.eq_false_iff.2 h

theorem clearOne_evPending (num inst : Nat) (s : State) :
    (clearOne num inst s).evPending = s.evPending.filter fun r => !(r.num == num && r.inst == inst) := by
  unfold clearOne
  split
  · rw [enqueueRec_evPending]
    simp
  · rename_i h
    simp only [isPending, Bool.not_eq_true, List.any_eq_false] at h
    symm
    rw [List.filter_eq_self]
    intro x hx
    rw [h x hx]
    rfl

/-- No number is pending after its clearing record (R472). -/
theorem clear_pending (num inst : Nat) (s : State) : isPending (clear num inst s) num inst = false := by
  have h := clearOne_pending_self num inst s
  unfold clear
  dsimp only
  split
  · unfold isPending at h ⊢
    rw [clearOne_evPending]
    rw [List.any_eq_false] at h ⊢
    exact fun x hx => h x (List.mem_filter.1 hx).1
  · exact h

theorem enqueueRec_get (num sev inst : Nat) (stamp : Ns) (a1 a2 : Reg) (s : State) (n b : Nat) (h : b ≠ 5) :
    (enqueueRec num sev inst stamp a1 a2 s).get 0x1200 n b = s.get 0x1200 n b := by
  unfold enqueueRec
  split
  · rfl
  · dsimp only
    split
    · exact (State.get_congr rfl ..).trans (State.get_put_ne _ _ (.inr (.inr h)))
    · rw [State.get_incAux, State.get_bump, if_neg (by omega), State.get_put_ne _ _ (.inr (.inr h)), State.get_setAux]

theorem raiseOne_count (num inst : Nat) (a1 a2 : Reg) (s : State) (n : Nat) :
    (raiseOne num inst a1 a2 s).get 0x1200 n 3 = if n = num then wrapAdd 64 (s.get 0x1200 num 3) 1 else s.get 0x1200 n 3 := by
  unfold raiseOne
  dsimp only
  rw [enqueueRec_get _ _ _ _ _ _ _ _ _ (by decide)]
  split
  · rw [State.get_put_ne _ _ (.inr (.inr (by decide)))]
    have e : ∀ q, ({ s.bump 0x1200 num 3 with evPending := q } : State).get 0x1200 n 3 = (s.bump 0x1200 num 3).get 0x1200 n 3 :=
      fun q => State.get_congr rfl ..
    rw [e, State.get_bump]
    simp
  · rw [State.get_bump]
    simp

/-- Every raised record is counted, masked or not (0x1200[num].03). -/
theorem raise_count {num : Nat} (h : num < 4032) (inst : Nat) (a1 a2 : Reg) (s : State) :
    (raise num inst a1 a2 s).get 0x1200 num 3 = wrapAdd 64 (s.get 0x1200 num 3) 1 := by
  have one := raiseOne_count num inst a1 a2 s num
  rw [if_pos rfl] at one
  unfold raise
  dsimp only
  split
  · rename_i a i ha hi
    split
    · have : num ≠ a := by
        unfold Objects.aliasOf at ha
        rw [Option.map_eq_some_iff] at ha
        obtain ⟨k, -, rfl⟩ := ha
        omega
      rw [raiseOne_count, if_neg this, one]
    · exact one
  · exact one

end Sys2Proof.Machine
end

