-- ==== Sys2Proof/Tests/Slice0.lean ====
section
/-!
SUPPORT. Tests/Slice0.lean: a witness for the hypotheses of every clause of every statement, the refusals of WellFormed, and single
steps against the words of the spec.
-/
namespace Sys2Proof.Machine
open Sys2Proof

set_option Elab.async false

/-! ## Small states and operands -/

/-- The device runs, everything else as after reset. -/
def base : State := { State.reset with phase := .running }

/-- The owner's access from the host interface's engine. -/
def own : Acc := ⟨.owner, 215⟩

/-- An image that an unowned device accepts: three sections of one byte. -/
def goodImage : ImageIn :=
  ⟨true, 516, [0x5A, 0x1A, 1, 0, 0, 0, 7, 0, 0, 0, 0, 3, 0, 0, 0, 1, 0, 0, 0, 1, 0, 0, 0, 1] ++ List.replicate 488 0, 0, true, true, true, []⟩

/-- A descriptor of an AES-GCM encryption of 32 bytes with slot 9. -/
def goodDesc : JobDesc := ⟨1, 0, 9, 32, 4096, 8192, 0, 0, 5, 0⟩

/-- Its 64 bytes (spec/07 R253). -/
def goodDescBytes : List Nat :=
  [1, 0, 9, 0, 32, 0, 0, 0, 0, 16, 0, 0, 0, 0, 0, 0, 0, 32] ++ List.replicate 29 0 ++ [5] ++ List.replicate 16 0

/-- An IPv6 frame whose options go on past the first 256 bytes. -/
def longPacket : List Nat :=
  [2, 0, 0, 0, 0, 1, 2, 0, 0, 0, 0, 2, 0x86, 0xDD, 0x60, 0, 0, 0, 1, 8, 0, 64] ++ List.replicate 32 1
    ++ [17, 31] ++ List.replicate 254 0 ++ [0, 7, 0, 9, 0, 8, 0, 0]

/-- A ROL message of session 69, which is slot 5, with a payload. -/
def rolMsg (type seq : Nat) (payload : List Nat) : RolIn :=
  let body := rolBody type 69 seq 0 0 payload
  ⟨0, 7, none, body ++ bytesOf 32 (rolTag 0 body)⟩

/-- The same without its tag. -/
def rolBare (type seq : Nat) (payload : List Nat) : RolIn := ⟨0, 7, none, rolBody type 69 seq 0 0 payload⟩

/-- Slot 5 holds an open session of the owner. -/
def sesBase : State := ((base.put 0x1120 5 1 2).put 0x1120 5 3 2).setAux .sesNonce 5 0 69

/-- A start that finds a good image in both slots, and no board memory. -/
def boot0 : BootIn := ⟨10000, 0, false, [], [], [], goodImage, goodImage, true, ⟨false, []⟩, [], [], 1⟩

/-- Nothing comes with a write beyond its value. -/
def noBeyond : WriteIn := ⟨0, [], ⟨false, 0, [], 0, false, false, false, []⟩, Sys2Proof.Machine.noFar⟩

/-- Channel 3 runs a ring of 8 entries with one descriptor posted. -/
def dmaBase : State :=
  (((base.put 0x1150 3 2 2).put 0x1150 3 3 2).put 0x1150 3 5 8).setAux .dmaProd 3 0 1

/-- A row that no object has. -/
def noRow : Row := ⟨0, 0, .u8, .ro, .any, 0⟩

/-! ## Witnesses: states and operands that meet all the hypotheses of a clause together -/

theorem wit_SupplyCommandsComplete :
    (∃ (s : State) (up : Bool),
      let want := if up then s.get 0x1040 0 1 + 5 else s.get 0x1040 0 1 - 5
      Up s ∧ s.aux .avsPaused = 0 ∧ s.aux .avsAsked = 0 ∧ ((s.aux .avsLastStep = 0 ∨ s.aux .avsLastStep - 1 + 1000000 ≤ s.now)) ∧ (((List.range 14).any fun c => testRunning s c) = false) ∧ s.get 0x1040 0 3 ≤ want ∧ want ≤ s.get 0x1040 0 4)
    ∧ (∃ (s : State),
      Up s ∧ s.aux .avsAsked ≠ 0)
    ∧ (∃ (s : State),
      Up s ∧ s.aux .avsAsked ≠ 0 ∧ s.aux .avsPaused = 0)
    ∧ (∃ (s : State),
      Up s ∧ s.aux .avsPaused = 1 ∧ s.get 0x1040 0 3 ≤ s.aux .avsAsked ∧ s.aux .avsAsked ≤ s.get 0x1040 0 4)
    ∧ (∃ (s : State),
      Up s ∧ s.aux .avsPaused = 1 ∧ ((s.aux .avsAsked < s.get 0x1040 0 3 ∨ s.get 0x1040 0 4 < s.aux .avsAsked)))
    ∧ (∃ (s : State) (rail : Nat),
      Up s ∧ rail < 10 ∧ s.aux .railLowSince rail ≠ 0 ∧ railBrownOut rail ≤ s.get 0x1041 rail 1 ∧ s.aux .railOut rail = 0)
    ∧ (∃ (s : State) (rail : Nat),
      Up s ∧ rail < 10 ∧ s.aux .railLowSince rail = 0)
    ∧ (∃ (s : State) (rail : Nat),
      Up s ∧ rail < 10 ∧ s.aux .railSeen rail = 1 ∧ s.get 0x1041 rail 1 < railBrownOut rail)
    ∧ (∃ (s : State) (acc : Acc) (rail : Nat),
      Up s ∧ mayWrite acc 0x1041 rail 5 1 s = true) :=
  ⟨⟨(base.put 0x1040 0 1 ((base.get 0x1040 0 4) - 5)), true, by decide +kernel⟩,
   ⟨(raise 3972 0 0 0 ((base.setAux .avsAsked 0 0 755).setAux .avsPaused 0 0 1)), by decide +kernel⟩,
   ⟨(base.setAux .avsAsked 0 0 755), by decide +kernel⟩,
   ⟨((base.setAux .avsAsked 0 0 755).setAux .avsPaused 0 0 1), by decide +kernel⟩,
   ⟨(((base.setAux .avsAsked 0 0 755).setAux .avsPaused 0 0 1).put 0x1040 0 3 760), by decide +kernel⟩,
   ⟨((base.setAux .railLowSince 9 0 1).put 0x1041 9 1 820), 9, by decide +kernel⟩,
   ⟨(raise 3971 9 0 0 base), 9, by decide +kernel⟩,
   ⟨((base.setAux .railSeen 0 0 1).put 0x1041 0 1 679), 0, by decide +kernel⟩,
   ⟨(base.put 0x1041 9 3 900), own, 9, by decide +kernel⟩⟩

theorem wit_MonitorCommandsComplete :
    (∃ (s : State) (_readings : List Nat),
      Up s)
    ∧ (∃ (s : State) (sensor : Nat) (_reading : Int),
      Up s ∧ sensor < 10)
    ∧ (∃ (s : State) (sensor : Nat) (_reading : Int),
      Up s ∧ sensor < 10)
    ∧ (∃ (s : State) (sensor : Nat) (_reading : Int),
      Up s ∧ sensor < 10)
    ∧ (∃ (s : State) (clock : Nat),
      Up s ∧ clock < 4 ∧ s.aux .refLost clock ≠ 1)
    ∧ (∃ (s : State) (clock : Nat),
      Up s ∧ clock < 4 ∧ s.aux .refLost clock ≠ 1)
    ∧ (∃ (s : State) (clock : Nat) (_offset : Int),
      Up s ∧ clock < 4) :=
  ⟨⟨base, ([750, 900, 1200, 900, 1200, 1100, 400, 1800, 1800, 70000]), by decide +kernel⟩,
   ⟨base, 9, 13500, by decide +kernel⟩,
   ⟨base, 9, -4000, by decide +kernel⟩,
   ⟨(base.setAux .sensorTrim 8 0 65286), 8, 10000, by decide +kernel⟩,
   ⟨((base.put 0x1050 3 1 1).put 0x1140 0 2 1), 3, by decide +kernel⟩,
   ⟨(base.put 0x1050 0 1 1), 0, by decide +kernel⟩,
   ⟨base, 3, -300, by decide +kernel⟩⟩

theorem wit_TimeSourceCommandsComplete :
    (∃ (s : State) (entry : Nat) (_offset _freq : Int),
      Up s ∧ entry < 8 ∧ (srcKind s entry = 1 ∨ srcKind s entry = 4 ∨ srcKind s entry = 5) ∧ entry ≠ tb s 4)
    ∧ (∃ (s : State) (entry : Nat) (offset _freq : Int),
      let m := filtered { s with offsets := (s.offsets ++ [offset]).drop (s.offsets.length + 1 - 16) }
      Up s ∧ entry < 8 ∧ (srcKind s entry = 1 ∨ srcKind s entry = 4 ∨ srcKind s entry = 5) ∧ entry = tb s 4 ∧ timeEngine s = true ∧ s.aux .slewing = 0 ∧ s.aux .pend3841 = 0 ∧ tb s 1 = 2 ∧ jump s m = false)
    ∧ (∃ (s : State) (acc : Acc) (value : Nat),
      Up s ∧ mayWrite acc 0x5C00 0 0x10 value s = true ∧ (tb s 0x0A = 0 ∨ lanesOff s = false))
    ∧ (∃ (s : State) (port ql : Nat) (_freq : Int),
      Up s ∧ port < 32 ∧ s.get 0x5090 port 2 = 4 ∧ timeEngine s = true ∧ ql % 16 ≠ 15)
    ∧ (∃ (s : State) (port ql : Nat) (_freq : Int),
      Up s ∧ port < 32 ∧ s.get 0x5090 port 2 = 4 ∧ timeEngine s = true ∧ ql % 16 = 15)
    ∧ (∃ (s : State) (entry : Nat),
      Up s ∧ entry < 8 ∧ (srcKind s entry = 1 ∨ srcKind s entry = 2 ∨ srcKind s entry = 4 ∨ srcKind s entry = 5))
    ∧ (∃ (s : State),
      Up s ∧ s.aux .frefLost ≠ 1)
    ∧ (∃ (s : State),
      Up s ∧ s.aux .frefLost ≠ 0) :=
  ⟨⟨(base.put 0x5C10 7 1 5), 7, -5, 3, by decide +kernel⟩,
   ⟨({ ((base.put 0x5C10 0 1 4).put 0x5C00 0 4 0).put 0x5C00 0 1 2 with offsets := [1, 2, 3, 4, 5, 6, 7, 8, 9, 10, 11, 12, 13, 14, 15, 16] }), 0, 17, 0, by decide +kernel⟩,
   ⟨((base.put 0x5C00 0 0x0A 0).put 0x5C10 7 1 5), own, (2 ^ 64 - 1), by decide +kernel⟩,
   ⟨(((base.put 0x5090 31 2 4).put 0x5C10 7 1 2).put 0x5C10 7 2 31), 31, 14, -7, by decide +kernel⟩,
   ⟨(((base.put 0x5090 31 2 4).put 0x5C10 7 1 2).put 0x5C10 7 2 31), 31, 15, -7, by decide +kernel⟩,
   ⟨((((base.put 0x5C10 7 1 5).setAux .hostOn 0 0 1).put 0x5C10 7 4 2).put 0x5C00 0 4 7), 7, by decide +kernel⟩,
   ⟨base, by decide +kernel⟩,
   ⟨(raise 3848 0 0 0 (base.setAux .frefLost 0 0 1)), by decide +kernel⟩⟩

theorem wit_TimeCorrectionCommandsComplete :
    (∃ (s : State) (acc : Acc),
      Up s ∧ mayWrite acc 0x5C00 0 8 1 s = true ∧ s.aux .pend3841 ≠ 0)
    ∧ (∃ (s : State) (acc : Acc),
      Up s ∧ mayWrite acc 0x5C00 0 8 2 s = true ∧ s.aux .pend3841 ≠ 0 ∧ lanesOff s = true)
    ∧ (∃ (s : State) (acc : Acc) (value : Nat),
      let diff := (ofTime80 value : Int) - (s.now : Int)
      Up s ∧ mayWrite acc 0x5C00 0 0x0E value s = true ∧ tb s 0x0A = 0 ∧ jump s diff = true)
    ∧ (∃ (s : State) (acc : Acc) (value : Nat),
      let diff := (ofTime80 value : Int) - (s.now : Int)
      Up s ∧ mayWrite acc 0x5C00 0 0x0E value s = true ∧ jump s diff = false)
    ∧ (∃ (s : State) (acc : Acc) (value : Nat),
      let diff := (ofTime80 value : Int) - (s.now : Int)
      Up s ∧ mayWrite acc 0x5C00 0 0x0E value s = true ∧ jump s diff = false)
    ∧ (∃ (s : State),
      Up s ∧ s.aux .slewing ≠ 0 ∧ slewRemaining s = 0)
    ∧ (∃ (s : State),
      Up s ∧ s.aux .slewing ≠ 0 ∧ slewRemaining s = 0)
    ∧ (∃ (s : State),
      Up s ∧ slewRemaining s ≠ 0)
    ∧ (∃ (s : State),
      Up s ∧ tb s 1 = 5 ∧ s.aux .pend3841 = 1 ∧ s.aux .timeFrom = 0 ∧ s.aux .okSince ≠ 0 ∧ s.aux .okSince - 1 + 10000000000 ≤ s.now)
    ∧ (∃ (s : State),
      Up s ∧ tb s 1 = 3 ∧ s.aux .holdAt + tb s 0x0D * 1000000000 < s.now) :=
  ⟨⟨(raise 3841 0 0 0 (((base.setAux .pend3841 0 0 1).put 0x5C00 0 7 (2 ^ 64 - 5000)).put 0x5C00 0 1 5)), own, by decide +kernel⟩,
   ⟨({ (base.setAux .pend3841 0 0 1).put 0x5C00 0 7 (2 ^ 64 - 5000) with now := 9000, offsets := [7] }), own, by decide +kernel⟩,
   ⟨(base.put 0x5C00 0 0x0A 0), own, (2 ^ 32), by decide +kernel⟩,
   ⟨(base.put 0x5C00 0 6 100), own, 100, by decide +kernel⟩,
   ⟨(base.put 0x5C00 0 6 100), own, 0, by decide +kernel⟩,
   ⟨(base.setAux .slewing 0 0 3), by decide +kernel⟩,
   ⟨(base.setAux .slewing 0 0 2), by decide +kernel⟩,
   ⟨((base.setAux .slewing 0 0 3).setAux .slewLeft 0 0 50), by decide +kernel⟩,
   ⟨({ (raise 3841 0 0 0 ((base.put 0x5C00 0 1 5).setAux .pend3841 0 0 1)).setAux .okSince 0 0 1 with now := 10000000000 }), by decide +kernel⟩,
   ⟨({ base.put 0x5C00 0 1 3 with now := 1000000000000000 }), by decide +kernel⟩⟩

theorem wit_PtpCommandsComplete :
    (∃ (s : State) (port dest domain _data _parent _cls _steps _utc _delay : Nat),
      Up s ∧ port < 32 ∧ s.get 0x5090 port 2 = 4 ∧ s.get 0x5C40 port 1 = 1 ∧ dest = s.get 0x5C40 port 3 ∧ domain = s.get 0x5C80 0 1 ∧ timeEngine s = true)
    ∧ (∃ (s : State) (port dest domain _delay : Nat) (_origin _correction _freq : Int),
      Up s ∧ port < 32 ∧ (s.get 0x5090 port 2 = 2 ∨ s.get 0x5090 port 2 = 3 ∨ s.get 0x5090 port 2 = 4) ∧ s.get 0x5C40 port 1 = 1 ∧ dest = s.get 0x5C40 port 3 ∧ domain = s.get 0x5C80 0 1 ∧ timeEngine s = true ∧ s.get 0x5C40 port 2 = 9)
    ∧ (∃ (s : State) (port dest domain _delay : Nat) (_origin _correction _freq : Int),
      Up s ∧ port < 32 ∧ (s.get 0x5090 port 2 = 2 ∨ s.get 0x5090 port 2 = 3 ∨ s.get 0x5090 port 2 = 4) ∧ s.get 0x5C40 port 1 = 1 ∧ dest = s.get 0x5C40 port 3 ∧ domain = s.get 0x5C80 0 1 ∧ timeEngine s = true ∧ s.get 0x5C40 port 2 = 9 ∧ (tb s 0x0A = 0 ∨ lanesOff s = false))
    ∧ (∃ (s : State) (port dest domain _delay : Nat) (_origin _correction _freq : Int),
      Up s ∧ port < 32 ∧ (s.get 0x5090 port 2 = 2 ∨ s.get 0x5090 port 2 = 3 ∨ s.get 0x5090 port 2 = 4) ∧ s.get 0x5C40 port 1 = 1 ∧ dest = s.get 0x5C40 port 3 ∧ domain = s.get 0x5C80 0 1 ∧ timeEngine s = true ∧ s.get 0x5C40 port 2 = 9 ∧ (tb s 0x0A = 0 ∨ lanesOff s = false))
    ∧ (∃ (s : State) (port dest domain _delay : Nat),
      Up s ∧ port < 32 ∧ (s.get 0x5090 port 2 = 2 ∨ s.get 0x5090 port 2 = 3 ∨ s.get 0x5090 port 2 = 4) ∧ s.get 0x5C40 port 1 = 1 ∧ dest = s.get 0x5C40 port 3 ∧ domain = s.get 0x5C80 0 1 ∧ timeEngine s = true ∧ s.get 0x5C40 port 2 = 6)
    ∧ (∃ (s : State) (port dest domain _delay : Nat) (_receive _correction : Int),
      Up s ∧ port < 32 ∧ (s.get 0x5090 port 2 = 2 ∨ s.get 0x5090 port 2 = 3 ∨ s.get 0x5090 port 2 = 4) ∧ s.get 0x5C40 port 1 = 1 ∧ dest = s.get 0x5C40 port 3 ∧ domain = s.get 0x5C80 0 1 ∧ timeEngine s = true ∧ (s.get 0x5C40 port 2 = 8 ∨ s.get 0x5C40 port 2 = 9))
    ∧ (∃ (s : State) (port _dest _domain : Nat) (_msg : PtpMsg) (_delay : Nat),
      Up s ∧ port < 32 ∧ (s.get 0x5090 port 2 = 2 ∨ s.get 0x5090 port 2 = 3 ∨ s.get 0x5090 port 2 = 4) ∧ s.get 0x5C40 port 1 = 2)
    ∧ (∃ (s : State) (port : Nat) (msg : PtpSend) (_delay : Nat),
      Up s ∧ port < 32 ∧ s.get 0x5C40 port 1 = 1 ∧ s.get 0x5090 port 2 = 4 ∧ timeEngine s = true ∧ ((msg = .delayReq ∧ (s.get 0x5C40 port 2 = 8 ∨ s.get 0x5C40 port 2 = 9)) ∨ (msg ≠ .delayReq ∧ s.get 0x5C40 port 2 = 6)))
    ∧ (∃ (s : State) (port : Nat) (msg : PtpSend) (_delay : Nat),
      Up s ∧ port < 32 ∧ s.get 0x5C40 port 1 = 1 ∧ s.get 0x5090 port 2 = 4 ∧ timeEngine s = true ∧ ((msg = .delayReq ∧ (s.get 0x5C40 port 2 = 8 ∨ s.get 0x5C40 port 2 = 9)) ∨ (msg ≠ .delayReq ∧ s.get 0x5C40 port 2 = 6)))
    ∧ (∃ (s : State) (port : Nat) (msg : PtpSend) (_delay : Nat),
      Up s ∧ port < 32 ∧ s.get 0x5C40 port 1 = 1 ∧ s.get 0x5090 port 2 = 4 ∧ timeEngine s = true ∧ ((msg = .delayReq ∧ (s.get 0x5C40 port 2 = 8 ∨ s.get 0x5C40 port 2 = 9)) ∨ (msg ≠ .delayReq ∧ s.get 0x5C40 port 2 = 6)))
    ∧ (∃ (s : State) (port : Nat) (msg : PtpSend) (_delay : Nat),
      Up s ∧ port < 32 ∧ s.get 0x5C40 port 1 = 1 ∧ s.get 0x5090 port 2 = 4 ∧ timeEngine s = true ∧ ((msg = .delayReq ∧ (s.get 0x5C40 port 2 = 8 ∨ s.get 0x5C40 port 2 = 9)) ∨ (msg ≠ .delayReq ∧ s.get 0x5C40 port 2 = 6)))
    ∧ (∃ (s : State) (port domain : Nat),
      Up s ∧ domain = s.get 0x5C80 0 1 ∧ port < 32 ∧ s.get 0x5090 port 2 = 4 ∧ s.get 0x5C40 port 1 = 1 ∧ timeEngine s = true)
    ∧ (∃ (s : State) (_port domain : Nat),
      Up s ∧ domain ≠ s.get 0x5C80 0 1)
    ∧ (∃ (s : State) (port : Nat),
      Up s ∧ port < 32 ∧ s.get 0x5090 port 2 = 4 ∧ timeEngine s = true)
    ∧ (∃ (s : State) (port : Nat),
      Up s ∧ port < 32 ∧ s.get 0x5090 port 2 = 4 ∧ timeEngine s = true) :=
  ⟨⟨((base.put 0x5090 31 2 4).put 0x5C40 31 1 1), 31, (base.get 0x5C40 31 3), (base.get 0x5C80 0 1), 900, 7, 6, 65535, 37, 0, by decide +kernel⟩,
   ⟨(((base.put 0x5090 31 2 4).put 0x5C40 31 1 1).put 0x5C40 31 2 9), 31, (base.get 0x5C40 31 3), (base.get 0x5C80 0 1), 9, 5, -3, 0, by decide +kernel⟩,
   ⟨(((((base.put 0x5C00 0 0x0A 0).put 0x5090 31 2 4).put 0x5C40 31 1 1).put 0x5C40 31 2 9).put 0x5C10 7 1 1), 31, (base.get 0x5C40 31 3), (base.get 0x5C80 0 1), 9, 50, -3, 0, by decide +kernel⟩,
   ⟨(((((base.put 0x5C00 0 0x0A 0).put 0x5090 0 2 2).put 0x5C40 0 1 1).put 0x5C40 0 2 9).put 0x5C10 7 1 1), 0, (base.get 0x5C40 0 3), (base.get 0x5C80 0 1), 0, 5, -30, 0, by decide +kernel⟩,
   ⟨(((base.put 0x5090 31 2 4).put 0x5C40 31 1 1).put 0x5C40 31 2 6), 31, (base.get 0x5C40 31 3), (base.get 0x5C80 0 1), 4, by decide +kernel⟩,
   ⟨(((base.put 0x5090 31 2 4).put 0x5C40 31 1 1).put 0x5C40 31 2 8), 31, (base.get 0x5C40 31 3), (base.get 0x5C80 0 1), 0, 100, 4, by decide +kernel⟩,
   ⟨((base.put 0x5090 31 2 3).put 0x5C40 31 1 2), 31, 1, 255, .delayReq, 7, by decide +kernel⟩,
   ⟨(((base.put 0x5090 31 2 4).put 0x5C40 31 1 1).put 0x5C40 31 2 6), 31, .sync, 4, by decide +kernel⟩,
   ⟨(((base.put 0x5090 31 2 4).put 0x5C40 31 1 1).put 0x5C40 31 2 9), 31, .delayReq, 4, by decide +kernel⟩,
   ⟨((((base.put 0x5090 31 2 4).put 0x5C40 31 1 1).put 0x5C40 31 2 6).put 0x5C40 31 4 1), 31, .sync, 4, by decide +kernel⟩,
   ⟨(((base.put 0x5090 31 2 4).put 0x5C40 31 1 1).put 0x5C40 31 2 6), 31, .announce, 4, by decide +kernel⟩,
   ⟨(((base.put 0x5090 31 2 4).put 0x5C40 31 1 1).setAux .announceIn 31 0 5), 31, (base.get 0x5C80 0 1), by decide +kernel⟩,
   ⟨base, 31, 255, by decide +kernel⟩,
   ⟨(((base.put 0x5090 31 2 4).put 0x5C00 0 5 7).put 0x5C10 7 1 2), 31, by decide +kernel⟩,
   ⟨(base.put 0x5090 31 2 4), 31, by decide +kernel⟩⟩

theorem wit_TimeStampCommandsComplete :
    (∃ (s : State) (input : Nat) (falling : Bool),
      Up s ∧ input < 8 ∧ s.get 0x5D00 input 1 ≠ 0 ∧ ((if falling then s.get 0x5D00 input 2 ≠ 0 else s.get 0x5D00 input 2 ≠ 1)) ∧ (s.aux .edgeAt input = 0 ∨ s.aux .edgeAt input - 1 + 5 < s.now) ∧ (stampQueue s true input).length < 16 ∧ (tb s 0x0A = 0 ∨ lanesOff s = false))
    ∧ (∃ (s : State) (input : Nat) (falling : Bool),
      Up s ∧ input < 8 ∧ s.get 0x5D00 input 1 ≠ 0 ∧ ((if falling then s.get 0x5D00 input 2 ≠ 0 else s.get 0x5D00 input 2 ≠ 1)) ∧ (s.aux .edgeAt input = 0 ∨ s.aux .edgeAt input - 1 + 5 < s.now) ∧ (stampQueue s true input).length < 16 ∧ (tb s 0x0A = 0 ∨ lanesOff s = false))
    ∧ (∃ (s : State) (input : Nat) (falling : Bool),
      Up s ∧ input < 8 ∧ s.get 0x5D00 input 1 ≠ 0 ∧ ((if falling then s.get 0x5D00 input 2 ≠ 0 else s.get 0x5D00 input 2 ≠ 1)) ∧ (s.aux .edgeAt input = 0 ∨ s.aux .edgeAt input - 1 + 5 < s.now) ∧ 16 ≤ (stampQueue s true input).length ∧ (tb s 0x0A = 0 ∨ lanesOff s = false))
    ∧ (∃ (s : State) (acc : Acc) (input : Nat),
      Up s ∧ mayAccess acc false 0x5D00 input 3 s = true)
    ∧ (∃ (s : State) (acc : Acc) (port : Nat),
      Up s ∧ mayAccess acc false 0x5D40 port 1 s = true ∧ s.get 0x5C40 port 1 = 2)
    ∧ (∃ (s : State) (acc : Acc) (port : Nat),
      Up s ∧ mayAccess acc false 0x5D40 port 1 s = true ∧ s.get 0x5C40 port 1 ≠ 2)
    ∧ (∃ (s : State) (port _ident _seq : Nat) (_oneStep : Bool) (_delay : Nat),
      Up s ∧ port < 32 ∧ s.aux .upQuad port ≠ 0 ∧ (stampQueue s false port).length < 64 ∧ s.get 0x5C40 port 1 ≠ 1)
    ∧ (∃ (s : State) (output : Nat),
      Up s ∧ output < 2 ∧ ppsValue s output 1 = 1 ∧ (s.get 0x5D20 output 4 = 0 ∨ (s.get 0x5C00 0 1 ≠ 0 ∧ s.get 0x5C00 0 1 ≠ 4)))
    ∧ (∃ (s : State),
      Up s) :=
  ⟨⟨({ (base.put 0x5C00 0 0x0A 0).put 0x5D00 7 1 1 with now := 5000000000 }), 7, false, by decide +kernel⟩,
   ⟨({ ((base.put 0x5C00 0 0x0A 0).put 0x5D00 7 1 1).put 0x5D00 7 2 2 with now := 5000000000 }), 7, true, by decide +kernel⟩,
   ⟨({ (base.put 0x5C00 0 0x0A 0).put 0x5D00 7 1 1 with now := 5000000000, stamps := List.replicate 16 ⟨true, 7, 9⟩ }), 7, false, by decide +kernel⟩,
   ⟨({ base with stamps := [⟨true, 7, 99⟩, ⟨false, 7, 5⟩] }), own, 7, by decide +kernel⟩,
   ⟨({ (base.put 0x5C40 31 1 2).setAux .upQuad 31 0 1 with stamps := [⟨true, 31, 99⟩, ⟨false, 31, 5⟩] }), own, 31, by decide +kernel⟩,
   ⟨(base.setAux .upQuad 31 0 1), own, 31, by decide +kernel⟩,
   ⟨(base.setAux .upQuad 31 0 1), 31, 65535, 70000, true, 3, by decide +kernel⟩,
   ⟨(base.put 0x5D20 1 1 1 |>.put 0x5C00 0 1 2), 1, by decide +kernel⟩,
   ⟨((base.put 0x2000 47 1 4).put 0x2000 0 1 4), by decide +kernel⟩⟩

theorem wit_IdentityCommandsComplete :
    (∃ (s : State) (acc : Acc) (slot : Nat) (image : ImageIn),
      Up s ∧ mayAccess acc true 0x1300 slot 1 s = true ∧ (((clusters s).any fun c => s.get 0x5510 c 2 == slot) = false) ∧ upgradeUses s slot = false ∧ s.get 0x1300 0 2 ≠ 3 ∧ s.get 0x1300 1 2 ≠ 3 ∧ slot < 2 ∧ imageCause s image = 0)
    ∧ (∃ (s : State) (acc : Acc) (slot : Nat) (image : ImageIn),
      Up s ∧ mayAccess acc true 0x1300 slot 1 s = true ∧ (((clusters s).any fun c => s.get 0x5510 c 2 == slot) = false) ∧ upgradeUses s slot = false ∧ s.get 0x1300 0 2 ≠ 3 ∧ s.get 0x1300 1 2 ≠ 3 ∧ slot < 2 ∧ imageCause s image ≠ 0)
    ∧ (∃ (s : State) (slot : Nat) (_verified : Bool),
      Up s ∧ slot < 2 ∧ s.get 0x1300 slot 2 = 3)
    ∧ (∃ (s : State) (slot : Nat) (_verified : Bool),
      Up s ∧ slot < 2 ∧ s.get 0x1300 slot 2 = 3)
    ∧ (∃ (s : State) (acc : Acc) (value : Nat),
      Up s ∧ mayWrite acc 0x1320 0 2 value s = true ∧ s.get 0x1320 0 1 = 0)
    ∧ (∃ (s : State) (acc : Acc),
      let slot := runningSlot s
      Up s ∧ mayWrite acc 0x1320 0 4 1 s = true ∧ slot ≠ 2 ∧ (((clusters s).any fun c => s.get 0x5510 c 2 != slot) = false) ∧ s.get 0x1320 0 3 < s.get 0x1300 slot 4 ∧ (s.get 0x1300 (1 - slot) 2 ≠ 1 ∨ s.get 0x1300 slot 4 ≤ s.get 0x1300 (1 - slot) 4))
    ∧ (∃ (s : State) (tree : Nat) (m : ModuleIn) (_took : Nat),
      Up s ∧ s.treeUp tree = true ∧ s.get 0x5E10 tree 1 = 0 ∧ modFault m = false ∧ s.get 0x5E10 tree 8 = 0)
    ∧ (∃ (s : State) (tree : Nat) (m : ModuleIn) (_took : Nat),
      Up s ∧ s.treeUp tree = true ∧ s.get 0x5E10 tree 1 = 0 ∧ modFault m = false ∧ s.get 0x5E10 tree 8 = 0)
    ∧ (∃ (s : State) (tree : Nat) (m : ModuleIn) (_took : Nat),
      Up s ∧ s.treeUp tree = true ∧ s.get 0x5E10 tree 1 = 0 ∧ modFault m = false ∧ s.get 0x5E10 tree 8 = 0)
    ∧ (∃ (s : State) (tree : Nat) (_took : Nat),
      Up s ∧ s.treeUp tree = true ∧ s.get 0x5E10 tree 1 = 1 ∧ s.aux .modMiss tree = 2)
    ∧ (∃ (s : State) (acc : Acc),
      Up s ∧ mayWrite acc 0x1400 0 2 1 s = true ∧ transferOpen s 0x1400 0 1 = false ∧ s.aux .calBusy = 0)
    ∧ (∃ (s : State) (acc : Acc),
      Up s ∧ mayWrite acc 0x1400 0 2 1 s = true ∧ transferOpen s 0x1400 0 1 = false ∧ s.aux .calBusy = 0)
    ∧ (∃ (s : State),
      Up s ∧ s.aux .calBusy ≠ 0)
    ∧ (∃ (s : State) (acc : Acc),
      Up s ∧ mayWrite acc 0x1010 0 2 1 s = true)
    ∧ (∃ (s : State) (up : Bool) (_lanes _generation : Nat),
      Up s ∧ (s.get 0x1140 0 2 ≠ (if up then 1 else 0)))
    ∧ (∃ (s : State) (up : Bool) (_lanes _generation : Nat),
      Up s ∧ (s.get 0x1140 0 2 ≠ (if up then 1 else 0))) :=
  ⟨⟨(base.put 0x5510 13 2 0), own, 1, goodImage, by decide +kernel⟩,
   ⟨(base.put 0x5510 13 2 0), own, 1, ({ goodImage with knabexOk := false }), by decide +kernel⟩,
   ⟨((base.put 0x1300 1 2 3).setAux .imgHead 1 0 0x120), 1, true, by decide +kernel⟩,
   ⟨(base.put 0x1300 1 2 3), 1, false, by decide +kernel⟩,
   ⟨(base.setAux .slotKey (runningSlot base) 0 77), own, 77, by decide +kernel⟩,
   ⟨(base.put 0x1300 (runningSlot base) 4 5), own, by decide +kernel⟩,
   ⟨base, 47, (⟨24 :: List.replicate 255 7, true, true, 2⟩), 3, by decide +kernel⟩,
   ⟨base, 0, (⟨99 :: List.replicate 255 7, false, true, 4⟩), 3, by decide +kernel⟩,
   ⟨base, 0, (⟨3 :: List.replicate 255 7, false, true, 0⟩), 3, by decide +kernel⟩,
   ⟨((base.put 0x5E10 47 1 1).setAux .modMiss 47 0 2), 47, 3, by decide +kernel⟩,
   ⟨(base.setAux .calStaged 0 0 (0xCA1B01070000004066ACE5C3 * 2 ^ (8 * (65536 - 12)))), own, by decide +kernel⟩,
   ⟨base, own, by decide +kernel⟩,
   ⟨((base.setAux .calBusy 0 0 1).setAux .calStaged 0 0 5), by decide +kernel⟩,
   ⟨base, own, by decide +kernel⟩,
   ⟨base, true, 16, 5, by decide +kernel⟩,
   ⟨(base.put 0x1140 0 2 1), false, 0, 0, by decide +kernel⟩⟩

theorem wit_IslandCommandsComplete :
    (∃ (s : State) (island : Nat),
      Up s ∧ islandExists s island = true)
    ∧ (∃ (s : State) (island : Nat),
      Up s ∧ islandExists s island = true)
    ∧ (∃ (s : State) (island : Nat),
      Up s ∧ islandExists s island = true)
    ∧ (∃ (s : State) (memory : Nat),
      Up s ∧ s.aux .zeroing memory ≠ 0 ∧ s.get 0x1051 (memIsland memory) 2 = 2 ∧ ((islandMemories s (memIsland memory)).all (fun m => m == memory || s.aux .zeroing m == 0) = true))
    ∧ (∃ (s : State) (island : Nat),
      Up s ∧ islandExists s island = true ∧ s.get 0x1051 island 2 = 0)
    ∧ (∃ (s : State) (island : Nat),
      Up s ∧ islandExists s island = true ∧ s.get 0x1051 island 2 = 1)
    ∧ (∃ (s : State) (island : Nat),
      Up s ∧ islandExists s island = true ∧ s.get 0x1051 island 2 = 1) :=
  ⟨⟨base, 13, by decide +kernel⟩,
   ⟨((base.setWord 16 5 9)), 16, by decide +kernel⟩,
   ⟨base, 64, by decide +kernel⟩,
   ⟨((base.setAux .zeroing 13 0 1).put 0x1051 13 2 2), 13, by decide +kernel⟩,
   ⟨base, 64, by decide +kernel⟩,
   ⟨(base.put 0x1051 64 2 1), 64, by decide +kernel⟩,
   ⟨((base.put 0x1051 0 2 1).put 0x5900 0 2 1), 0, by decide +kernel⟩⟩

theorem wit_LaneCommandsComplete :
    (∃ (s : State) (lane : Nat),
      Up s ∧ laneWanted s lane = true ∧ s.get 0x5000 lane 1 = 0 ∧ s.aux .laneByRef lane = 0)
    ∧ (∃ (s : State) (lane : Nat),
      Up s ∧ lane < 70 ∧ s.get 0x5000 lane 1 = 1)
    ∧ (∃ (s : State) (lane : Nat),
      Up s ∧ lane < 70 ∧ s.get 0x5000 lane 1 = 1)
    ∧ (∃ (s : State) (lane : Nat),
      Up s ∧ lane < 70 ∧ s.get 0x5000 lane 1 = 2)
    ∧ (∃ (s : State) (lane : Nat),
      Up s ∧ lane < 70 ∧ s.get 0x5000 lane 1 = 2)
    ∧ (∃ (s : State) (lane : Nat),
      Up s ∧ lane < 70 ∧ s.get 0x5000 lane 1 = 2 ∧ s.aux .lane2817 lane = 0)
    ∧ (∃ (s : State) (acc : Acc) (lane : Nat),
      Up s ∧ mayWrite acc 0x5000 lane 0x0F 1 s = true ∧ s.get 0x5000 lane 1 = 4)
    ∧ (∃ (s : State) (acc : Acc) (lane sub value : Nat),
      Up s ∧ 2 ≤ sub ∧ sub ≤ 9 ∧ mayWrite acc 0x5000 lane sub value s = true ∧ (s.get 0x5000 lane 1 = 0 ∨ (s.get 0x5000 lane 1 = 4 ∧ 32 ≤ lane)))
    ∧ (∃ (s : State) (acc : Acc) (quad value : Nat),
      let pair := quad / 2 * 2 + (1 - quad % 2)
      Up s ∧ mayWrite acc 0x5080 quad 1 value s = true ∧ value < 4 ∧ quadBusy s quad = false ∧ quadBusy s pair = false ∧ ¬(quad % 2 = 1 ∧ s.get 0x5080 pair 1 = 4))
    ∧ (∃ (s : State) (acc : Acc) (quad value : Nat),
      let pair := quad / 2 * 2 + (1 - quad % 2)
      Up s ∧ mayWrite acc 0x5080 quad 1 value s = true ∧ value < 4 ∧ quadBusy s quad = false ∧ quadBusy s pair = false ∧ ¬(quad % 2 = 1 ∧ s.get 0x5080 pair 1 = 4)) :=
  ⟨⟨(base.put 0x50C0 1 3 2), 69, by decide +kernel⟩,
   ⟨(raise 2816 69 0 0 (base.put 0x5000 69 1 1)), 69, by decide +kernel⟩,
   ⟨((base.put 0x5000 69 1 1).setAux .laneTries 69 0 2), 69, by decide +kernel⟩,
   ⟨(((base.put 0x5000 69 1 2).put 0x50C0 1 3 2).setAux .laneSince 69 0 1), 69, by decide +kernel⟩,
   ⟨((base.put 0x5000 40 1 2).setAux .laneSpare 40 0 1), 40, by decide +kernel⟩,
   ⟨(base.put 0x5000 69 1 2), 69, by decide +kernel⟩,
   ⟨(base.put 0x5000 67 1 4), own, 67, by decide +kernel⟩,
   ⟨(base.put 0x5000 67 1 4), own, 67, 9, (base.get 0x5000 67 9), by decide +kernel⟩,
   ⟨base, own, 7, 2, by decide +kernel⟩,
   ⟨(base.put 0x5080 6 1 4), own, 6, 3, by decide +kernel⟩⟩

theorem wit_UplinkCommandsComplete :
    (∃ (s : State) (acc : Acc) (port : Nat),
      Up s ∧ mayWrite acc 0x5090 port 1 1 s = true ∧ s.get 0x5090 port 2 = 0)
    ∧ (∃ (s : State) (acc : Acc) (port : Nat),
      Up s ∧ mayWrite acc 0x5090 port 1 0 s = true ∧ 2 ≤ s.get 0x5090 port 2)
    ∧ (∃ (s : State) (acc : Acc) (port : Nat),
      Up s ∧ mayWrite acc 0x5090 port 1 0 s = true ∧ 2 ≤ s.get 0x5090 port 2)
    ∧ (∃ (s : State) (port : Nat),
      Up s ∧ port < 32 ∧ s.get 0x5090 port 2 = 1)
    ∧ (∃ (s : State) (port corrected : Nat),
      Up s ∧ port < 32 ∧ s.get 0x5090 port 2 = 2 ∧ ((uplinkLanes s port).all (fun x => laneSt s x == 3) = true) ∧ (s.get 0x5090 port 5 = 0 ∨ corrected ≤ s.get 0x5090 port 5))
    ∧ (∃ (s : State) (port corrected : Nat),
      Up s ∧ port < 32 ∧ s.get 0x5090 port 2 = 2 ∧ ((uplinkLanes s port).all (fun x => laneSt s x == 3) = true) ∧ (s.get 0x5090 port 5 = 0 ∨ corrected ≤ s.get 0x5090 port 5))
    ∧ (∃ (s : State) (port : Nat),
      Up s ∧ port < 32 ∧ s.get 0x5090 port 2 = 3)
    ∧ (∃ (s : State) (port : Nat),
      Up s ∧ port < 32 ∧ s.get 0x5090 port 2 = 3)
    ∧ (∃ (s : State) (port cause corrected : Nat),
      Up s ∧ port < 32 ∧ cause ≤ 3 ∧ (s.get 0x5090 port 2 = 3 ∨ s.get 0x5090 port 2 = 4) ∧ (cause = 3 → s.get 0x5090 port 5 ≠ 0 ∧ s.get 0x5090 port 5 < corrected))
    ∧ (∃ (s : State) (port cause corrected : Nat),
      Up s ∧ port < 32 ∧ cause ≤ 3 ∧ (s.get 0x5090 port 2 = 3 ∨ s.get 0x5090 port 2 = 4) ∧ (cause = 3 → s.get 0x5090 port 5 ≠ 0 ∧ s.get 0x5090 port 5 < corrected))
    ∧ (∃ (s : State) (port cause corrected : Nat),
      Up s ∧ port < 32 ∧ cause ≤ 3 ∧ (s.get 0x5090 port 2 = 3 ∨ s.get 0x5090 port 2 = 4) ∧ (cause = 3 → s.get 0x5090 port 5 ≠ 0 ∧ s.get 0x5090 port 5 < corrected))
    ∧ (∃ (s : State) (port : Nat) (_addresses _payload _fcs _corrected : List Nat) (_uncorrectable : Nat),
      Up s ∧ port < 32 ∧ s.aux .upQuad port ≠ 0 ∧ (s.get 0x5090 port 2 = 1 ∨ s.get 0x5090 port 2 = 3 ∨ s.get 0x5090 port 2 = 4))
    ∧ (∃ (s : State) (port : Nat) (_addresses _payload _fcs _corrected : List Nat) (_uncorrectable : Nat),
      Up s ∧ port < 32 ∧ s.aux .upQuad port ≠ 0 ∧ (s.get 0x5090 port 2 = 1 ∨ s.get 0x5090 port 2 = 3 ∨ s.get 0x5090 port 2 = 4))
    ∧ (∃ (s : State) (port : Nat) (_addresses _payload _fcs _corrected : List Nat) (_uncorrectable : Nat),
      Up s ∧ port < 32 ∧ s.aux .upQuad port ≠ 0 ∧ (s.get 0x5090 port 2 = 1 ∨ s.get 0x5090 port 2 = 3 ∨ s.get 0x5090 port 2 = 4))
    ∧ (∃ (s : State) (acc : Acc) (port : Nat),
      Up s ∧ mayWrite acc 0x50C0 port 1 1 s = true ∧ s.get 0x50C0 port 3 = 0)
    ∧ (∃ (s : State) (acc : Acc) (port : Nat),
      Up s ∧ mayWrite acc 0x50C0 port 1 0 s = true ∧ s.get 0x50C0 port 3 ≠ 0)
    ∧ (∃ (s : State) (port : Nat) (v6 : Bool) (address : Nat),
      Up s ∧ port < 2 ∧ s.get 0x50C0 port 3 = 4 ∧ address ≠ 0 ∧ (address = s.get 0x1101 port (if v6 then 1 else 3)))
    ∧ (∃ (s : State) (port : Nat),
      Up s ∧ port < 2 ∧ s.get 0x50C0 port 3 = 4) :=
  ⟨⟨(base.setAux .upQuad 28 0 4), own, 28, by decide +kernel⟩,
   ⟨((base.setAux .upQuad 28 0 4).put 0x5090 28 2 4), own, 28, by decide +kernel⟩,
   ⟨({ (base.setAux .upQuad 31 0 1).put 0x5090 31 2 3 with pkts := [⟨true, 31 * 256, 100, 0, 0, 5, 0, false, []⟩] }), own, 31, by decide +kernel⟩,
   ⟨({ (base.setAux .upQuad 31 0 1).put 0x5090 31 2 1 with pkts := [⟨true, 31 * 256, 100, 0, 0, 5, 0, false, []⟩, ⟨true, 5, 100, 0, 0, 6, 0, false, []⟩] }), 31, by decide +kernel⟩,
   ⟨(((base.setAux .upQuad 31 0 1).put 0x5090 31 2 2).put 0x5000 31 1 3), 31, 5, by decide +kernel⟩,
   ⟨(((((base.setAux .upQuad 31 0 1).put 0x5090 31 2 2).put 0x5000 31 1 3).put 0x5090 31 4 0).put 0x5090 31 5 5), 31, 5, by decide +kernel⟩,
   ⟨(base.put 0x5090 31 2 3), 31, by decide +kernel⟩,
   ⟨((base.put 0x5090 31 2 3).put 0x5C40 31 1 1), 31, by decide +kernel⟩,
   ⟨((base.put 0x5090 31 2 4).put 0x5090 31 5 9), 31, 3, 10, by decide +kernel⟩,
   ⟨(base.put 0x5090 0 2 3), 0, 2, 0, by decide +kernel⟩,
   ⟨((base.put 0x5090 1 2 4).setAux .upAlign 1 0 1), 1, 1, 0, by decide +kernel⟩,
   ⟨((base.setAux .upQuad 28 0 4).put 0x5090 28 2 4), 28, (List.replicate 12 0), (List.replicate 48 0), (List.replicate 4 0), ([1, 2, 3, 4]), 2, by decide +kernel⟩,
   ⟨((base.setAux .upQuad 28 0 4).put 0x5090 28 2 3), 28, (List.replicate 12 7), (List.replicate 47 7), (leBytes 4 (crc32 (List.replicate 59 7))), [], 0, by decide +kernel⟩,
   ⟨((base.setAux .upQuad 28 0 4).put 0x5090 28 2 3), 28, (List.replicate 12 7), (List.replicate 48 7), (leBytes 4 (crc32 (List.replicate 60 7))), [], 0, by decide +kernel⟩,
   ⟨base, own, 1, by decide +kernel⟩,
   ⟨(base.put 0x50C0 1 3 4), own, 1, by decide +kernel⟩,
   ⟨((base.put 0x50C0 1 3 4).put 0x1101 1 3 0x0A000001), 1, false, 0x0A000001, by decide +kernel⟩,
   ⟨(base.put 0x50C0 1 3 4), 1, by decide +kernel⟩⟩

theorem wit_BufferAndQueueCommandsComplete :
    (∃ (s : State) (requester pool _pick : Nat),
      Up s ∧ Objects.requesterOk s.trees requester = true ∧ 256 ≤ requester ∧ pool < 4 ∧ mayTake s requester pool = true)
    ∧ (∃ (s : State) (requester pool _pick : Nat),
      Up s ∧ Objects.requesterOk s.trees requester = true ∧ 256 ≤ requester ∧ pool < 4 ∧ mayTake s requester pool = false)
    ∧ (∃ (s : State) (pool : Nat),
      Up s ∧ s.aux .poolLow pool = 1 ∧ s.get 0x4C00 pool 3 < s.get 0x4C00 pool 2)
    ∧ (∃ (s : State) (acc : Acc) (up : Bool) (queue : Nat),
      Up s ∧ mayWrite acc (qIndex up) queue 0x10 1 s = true ∧ s.get (qIndex up) queue 0x11 = 0)
    ∧ (∃ (s : State) (acc : Acc) (up : Bool) (queue : Nat),
      Up s ∧ mayWrite acc (qIndex up) queue 0x10 1 s = true ∧ s.get (qIndex up) queue 0x11 = 0)
    ∧ (∃ (s : State) (acc : Acc) (up : Bool) (queue : Nat),
      Up s ∧ mayWrite acc (qIndex up) queue 0x10 0 s = true ∧ s.get (qIndex up) queue 0x11 = 2)
    ∧ (∃ (s : State) (acc : Acc) (up : Bool) (queue : Nat),
      Up s ∧ mayWrite acc (qIndex up) queue 0x10 0 s = true ∧ s.get (qIndex up) queue 0x11 = 2)
    ∧ (∃ (s : State) (up : Bool) (queue : Nat),
      Up s ∧ s.get (qIndex up) queue 0x11 = 1)
    ∧ (∃ (s : State) (acc : Acc) (flow sub value : Nat),
      Up s ∧ mayWrite acc 0x4D00 flow sub value s = true ∧ flowMapFault (s.put 0x4D00 flow sub value) flow = 0)
    ∧ (∃ (s : State) (acc : Acc) (flow sub value : Nat),
      Up s ∧ mayWrite acc 0x4D00 flow sub value s = true ∧ flowMapFault (s.put 0x4D00 flow sub value) flow = 1)
    ∧ (∃ (s : State) (acc : Acc) (meter sub value : Nat),
      let s1 := s.put 0x4F00 meter sub value
      Up s ∧ sub ≤ 5 ∧ mayWrite acc 0x4F00 meter sub value s = true ∧ s1.get 0x4F00 meter 2 ≤ s1.get 0x4F00 meter 4 ∧ (s1.get 0x4F00 meter 1 = 0 ∨ (s1.get 0x4F00 meter 3 ≠ 0 ∧ s1.get 0x4F00 meter 5 ≠ 0)))
    ∧ (∃ (s : State) (acc : Acc) (meter value : Nat),
      Up s ∧ mayWrite acc 0x4F00 meter 0x0E value s = true) :=
  ⟨⟨((base.setAux .bufWord 3 65535 (mkOwn 300 1 0)).put 0x4C10 471 4 9), 471, 3, 65535, by decide +kernel⟩,
   ⟨(base.put 0x4C10 471 9 1), 471, 3, 0, by decide +kernel⟩,
   ⟨(raise 2562 3 0 0 (base.setAux .poolLow 3 0 1)), 3, by decide +kernel⟩,
   ⟨base, own, true, 8191, by decide +kernel⟩,
   ⟨base, own, false, 131071, by decide +kernel⟩,
   ⟨(base.put 0x4C80 8191 0x11 2), own, true, 8191, by decide +kernel⟩,
   ⟨({ base.put 0x4C40 7 0x11 2 with pkts := [⟨false, 7, 64, 0, 0, 0, 0, false, []⟩] }), own, false, 7, by decide +kernel⟩,
   ⟨({ base.put 0x4C40 7 0x11 1 with pkts := [⟨false, 7, 64, 0, 0, 0, 0, false, []⟩, ⟨false, 8, 64, 0, 3, 0, 0, false, []⟩, ⟨false, 7, 65, 0, 3, 0, 64, false, []⟩] }), false, 7, by decide +kernel⟩,
   ⟨base, own, 131071, 5, 262143, by decide +kernel⟩,
   ⟨base, own, 0, 1, 131072, by decide +kernel⟩,
   ⟨((base.put 0x4F00 262143 3 100).put 0x4F00 262143 5 100), own, 262143, 1, 2, by decide +kernel⟩,
   ⟨(base.put 0x4F00 262143 0x0D 7), own, 262143, 1, by decide +kernel⟩⟩

theorem wit_SchedulerAndBulkCommandsComplete :
    (∃ (s s' : State) (port : Nat) (x : Pkt) (path : List Nat),
      Up s ∧ 96 ≤ port ∧ portOpen s port = true ∧ nextPacket port s = some (x, s') ∧ x.up = true ∧ queuePath s' true x.queue = some path)
    ∧ (∃ (s s' : State) (port : Nat) (x : Pkt) (path : List Nat),
      Up s ∧ port < 96 ∧ portOpen s port = true ∧ nextPacket port s = some (x, s') ∧ x.up = false ∧ queuePath s' false x.queue = some path ∧ s.aux .flowEff x.flow 1 = 0)
    ∧ (∃ (s s' : State) (port : Nat) (x : Pkt) (path : List Nat),
      Up s ∧ portOpen s port = true ∧ nextPacket port s = some (x, s') ∧ (port < 96 ∧ x.up = false ∨ 96 ≤ port ∧ x.up = true) ∧ queuePath s' x.up x.queue = some path)
    ∧ (∃ (s s' : State) (port : Nat) (x : Pkt) (path : List Nat),
      Up s ∧ portOpen s port = true ∧ nextPacket port s = some (x, s') ∧ (port < 96 ∧ x.up = false ∨ 96 ≤ port ∧ x.up = true) ∧ queuePath s' x.up x.queue = some path)
    ∧ (∃ (s : State) (port : Nat) (poison : List Poison) (_bad : Bool),
      let s0 := overAll poison schedulerPoison s
      Up s ∧ portOpen s port = true ∧ portOpen s0 port = true)
    ∧ (∃ (s : State) (port : Nat) (_poison : List Poison) (_bad : Bool),
      Up s ∧ portOpen s port = false)
    ∧ (∃ (s : State) (port : Nat) (_bad : Bool),
      Up s ∧ portOpen s port = true ∧ nextPacket port s = none)
    ∧ (∃ (s : State) (index inst : Nat),
      let rate := s.get index inst 4
      Up s ∧ Store.wf Objects.dflt s.objs = true ∧ (index = 0x4E00 ∨ index = 0x4E20 ∨ index = 0x4E40 ∨ index = 0x4E60 ∨ index = 0x4C40 ∨ index = 0x4C80) ∧ s.get index inst 3 = 1 ∧ rate ≠ 0 ∧ rate ≠ 0xFFFFFFFF ∧ rate ≠ Objects.dflt ⟨index, inst, 4⟩)
    ∧ (∃ (s : State) (acc : Acc) (index inst sub value : Nat),
      let s1 := s.put index inst sub value
      Up s ∧ (index = 0x4E00 ∨ index = 0x4E20 ∨ index = 0x4E40 ∨ index = 0x4E60 ∨ index = 0x4C40 ∨ index = 0x4C80) ∧ 4 ≤ sub ∧ sub ≤ 7 ∧ mayWrite acc index inst sub value s = true ∧ s1.get index inst 4 ≤ s1.get index inst 6 ∧ (s1.get index inst 4 = 0 ∨ s1.get index inst 5 ≠ 0) ∧ (s1.get index inst 6 = 0 ∨ s1.get index inst 7 ≠ 0))
    ∧ (∃ (s : State) (acc : Acc) (index inst sub value : Nat),
      Up s ∧ (index = 0x4E00 ∨ index = 0x4E20 ∨ index = 0x4E40 ∨ index = 0x4E60 ∨ index = 0x4C40 ∨ index = 0x4C80) ∧ 1 ≤ sub ∧ sub ≤ 2 ∧ mayWrite acc index inst sub value s = true ∧ (¬(sub = 1 ∧ value ≠ 0xFF ∧ (anyObj s index 1 fun i w => i != inst && w == value && (parentOf s index i).isSome && parentOf s index i == parentOf s index inst) = true)))
    ∧ (∃ (s : State) (acc : Acc) (ring : Nat),
      Up s ∧ mayWrite acc 0x4380 ring 1 1 s = true ∧ s.get 0x4380 ring 2 = 0)
    ∧ (∃ (s : State) (acc : Acc) (ring : Nat),
      Up s ∧ mayWrite acc 0x4380 ring 1 0 s = true ∧ s.get 0x4380 ring 2 = 2)
    ∧ (∃ (s : State) (acc : Acc) (ring : Nat),
      Up s ∧ mayWrite acc 0x4380 ring 1 0 s = true ∧ s.get 0x4380 ring 2 = 2)
    ∧ (∃ (s : State) (ring : Nat) (_aad _data : List Nat),
      Up s ∧ s.get 0x4380 ring 2 = 1)
    ∧ (∃ (s : State) (acc : Acc) (ring value : Nat),
      Up s ∧ mayWrite acc 0x4380 ring 7 value s = true)
    ∧ (∃ (s : State) (ring : Nat) (bytes : List Nat),
      let position := s.get 0x4380 ring 8
      let desc := jobDesc bytes
      let next := (position + 1) % s.get 0x4380 ring 5
      let s1 := readSlot desc.slot ((s.put 0x4380 ring 8 next).setAux .bulkTurn 0 0 ((ring + 1) % 8))
      Up s ∧ ringTurn s = some ring ∧ descStatus s1 ring desc = 0)
    ∧ (∃ (s : State) (ring : Nat) (bytes : List Nat),
      let position := s.get 0x4380 ring 8
      let desc := jobDesc bytes
      let next := (position + 1) % s.get 0x4380 ring 5
      let s1 := readSlot desc.slot ((s.put 0x4380 ring 8 next).setAux .bulkTurn 0 0 ((ring + 1) % 8))
      let status := descStatus s1 ring desc
      Up s ∧ ringTurn s = some ring ∧ status ≠ 0 ∧ status ≠ 9)
    ∧ (∃ (s : State) (ring fault : Nat) (aad data : List Nat) (j : Job),
      Up s ∧ jobOf s ring = some j ∧ (fault = 5 ∨ fault = 7 ∨ fault = 0 ∧ data.length = j.desc.length ∧ aad.length = j.desc.aadLength))
    ∧ (∃ (s : State) (ring fault : Nat) (aad data : List Nat) (j : Job),
      Up s ∧ jobOf s ring = some j ∧ (fault = 5 ∨ fault = 7 ∨ fault = 0 ∧ data.length = j.desc.length ∧ aad.length = j.desc.aadLength)) :=
  ⟨⟨({ ((base.put 0x5090 31 2 4).put 0x4C80 7936 0x11 2).put 0x4C80 7936 0x12 0 with pkts := [⟨true, 7936, 64, 3, 0, 0, 0, true, List.replicate 12 1 ++ [0x81, 0, 0, 5, 8, 0]⟩] }), (((nextPacket 127 ({ ((base.put 0x5090 31 2 4).put 0x4C80 7936 0x11 2).put 0x4C80 7936 0x12 0 with pkts := [⟨true, 7936, 64, 3, 0, 0, 0, true, List.replicate 12 1 ++ [0x81, 0, 0, 5, 8, 0]⟩] })).getD (⟨true, 7936, 64, 3, 0, 0, 0, true, List.replicate 12 1 ++ [0x81, 0, 0, 5, 8, 0]⟩, base)).2), 127, (⟨true, 7936, 64, 3, 0, 0, 0, true, List.replicate 12 1 ++ [0x81, 0, 0, 5, 8, 0]⟩), ([127, 17 * 127 + 16, 0, 196608 + 8 * (17 * 127 + 16 - 1632)]), by decide +kernel⟩,
   ⟨({ ((base.put 0x4C40 6 0x11 2).put 0x4C40 6 0x12 0).put 0x2000 0 1 2 with pkts := [⟨false, 6, 64, 3, 0, 0, 0, true, List.replicate 64 1⟩] }), (((nextPacket 0 ({ ((base.put 0x4C40 6 0x11 2).put 0x4C40 6 0x12 0).put 0x2000 0 1 2 with pkts := [⟨false, 6, 64, 3, 0, 0, 0, true, List.replicate 64 1⟩] })).getD (⟨false, 6, 64, 3, 0, 0, 0, true, List.replicate 64 1⟩, base)).2), 0, (⟨false, 6, 64, 3, 0, 0, 0, true, List.replicate 64 1⟩), ([0, 16, 0, 0]), by decide +kernel⟩,
   ⟨({ ((base.put 0x4C40 6 0x11 2).put 0x4C40 6 0x12 0).put 0x2000 0 1 2 with pkts := [⟨false, 6, 64, 3, 0, 0, 0, true, List.replicate 64 1⟩] }), (((nextPacket 0 ({ ((base.put 0x4C40 6 0x11 2).put 0x4C40 6 0x12 0).put 0x2000 0 1 2 with pkts := [⟨false, 6, 64, 3, 0, 0, 0, true, List.replicate 64 1⟩] })).getD (⟨false, 6, 64, 3, 0, 0, 0, true, List.replicate 64 1⟩, base)).2), 0, (⟨false, 6, 64, 3, 0, 0, 0, true, List.replicate 64 1⟩), ([0, 16, 0, 0]), by decide +kernel⟩,
   ⟨({ ((base.put 0x5090 31 2 4).put 0x4C80 7936 0x11 2).put 0x4C80 7936 0x12 0 with pkts := [⟨true, 7936, 64, 3, 0, 0, 0, true, List.replicate 12 1 ++ [0x81, 0, 0, 5, 8, 0]⟩] }), (((nextPacket 127 ({ ((base.put 0x5090 31 2 4).put 0x4C80 7936 0x11 2).put 0x4C80 7936 0x12 0 with pkts := [⟨true, 7936, 64, 3, 0, 0, 0, true, List.replicate 12 1 ++ [0x81, 0, 0, 5, 8, 0]⟩] })).getD (⟨true, 7936, 64, 3, 0, 0, 0, true, List.replicate 12 1 ++ [0x81, 0, 0, 5, 8, 0]⟩, base)).2), 127, (⟨true, 7936, 64, 3, 0, 0, 0, true, List.replicate 12 1 ++ [0x81, 0, 0, 5, 8, 0]⟩), ([127, 17 * 127 + 16, 0, 196608 + 8 * (17 * 127 + 16 - 1632)]), by decide +kernel⟩,
   ⟨(base.put 0x5090 31 2 4), 127, ([.token 0x4C80 7936 0]), false, by decide +kernel⟩,
   ⟨base, 5, ([.slotCopy 3]), true, by decide +kernel⟩,
   ⟨(base.put 0x5090 31 2 4), 127, false, by decide +kernel⟩,
   ⟨((((base.put 0x4C80 8191 3 1).put 0x4C80 8191 4 1000000).put 0x4C80 8191 5 1500).put 0x4C80 8191 8 1499), 0x4C80, 8191, by decide +kernel⟩,
   ⟨((base.put 0x4C80 8191 8 7).put 0x4C80 8191 5 7), own, 0x4C80, 8191, 4, 1000, by decide +kernel⟩,
   ⟨base, own, 0x4C80, 8191, 1, 3, by decide +kernel⟩,
   ⟨base, own, 7, by decide +kernel⟩,
   ⟨(base.put 0x4380 7 2 2), own, 7, by decide +kernel⟩,
   ⟨({ base.put 0x4380 7 2 2 with jobs := [⟨7, 0, goodDesc, 1, 16, 5⟩] }), own, 7, by decide +kernel⟩,
   ⟨({ base.put 0x4380 7 2 1 with jobs := [⟨7, 0, goodDesc, 1, 16, 5⟩, ⟨6, 0, goodDesc, 1, 16, 5⟩] }), 7, [1], ([2, 3]), by decide +kernel⟩,
   ⟨base, own, 7, 3, by decide +kernel⟩,
   ⟨(((((((base.put 0x4380 7 2 2).put 0x4380 7 3 0xFF).put 0x4380 7 5 256).put 0x4380 7 7 1).put 0x4000 9 1 5).put 0x4000 9 4 1).setAux .engVac 1 12 1), 7, goodDescBytes, by decide +kernel⟩,
   ⟨(((((((base.put 0x4380 7 2 2).put 0x4380 7 3 0xFF).put 0x4380 7 5 256).put 0x4380 7 7 1).put 0x4000 9 1 5)).setAux .engVac 1 12 1), 7, goodDescBytes, by decide +kernel⟩,
   ⟨({ base.put 0x4380 7 2 1 with jobs := [⟨7, 0, goodDesc, 1, 16, 5⟩] }), 7, 0, [], (List.replicate 32 1), (⟨7, 0, goodDesc, 1, 16, 5⟩), by decide +kernel⟩,
   ⟨({ base.put 0x4380 7 2 1 with jobs := [⟨7, 0, goodDesc, 1, 16, 5⟩] }), 7, 7, [], ([1, 2]), (⟨7, 0, goodDesc, 1, 16, 5⟩), by decide +kernel⟩⟩

theorem wit_ViothLaneCommandsComplete :
    (∃ (s : State) (lane : Nat),
      Up s ∧ lane < 70 ∧ (s.get 0x5000 lane 1 = 3 ∨ s.get 0x5000 lane 1 = 4))
    ∧ (∃ (s : State) (lane : Nat),
      Up s ∧ lane < 70 ∧ (s.get 0x5000 lane 1 = 3 ∨ s.get 0x5000 lane 1 = 4))
    ∧ (∃ (s : State) (v p hd : Nat),
      Up s ∧ v < 4 ∧ p < 8 ∧ s.aux .blockLock (viothLane v p) = 1 ∧ laneUsed s v p = true ∧ portSt s v = 4 ∧ hasDefect s v 1 = false ∧ laneHeard s (viothLane v p) = true ∧ hd ≠ 1 ∧ hd ≠ 2 ∧ 16 ≤ popCount 64 ((2 * s.aux .syncHist (viothLane v p) + 1) % 2 ^ 64))
    ∧ (∃ (s : State) (v p hd : Nat),
      let hist := (2 * s.aux .syncHist (viothLane v p) + if hd = 1 ∨ hd = 2 then 0 else 1) % 2 ^ 64
      Up s ∧ v < 4 ∧ p < 9 ∧ laneHeard s (viothLane v p) = true ∧ s.aux .blockLock (viothLane v p) = 1 ∧ popCount 64 hist < 16)
    ∧ (∃ (s : State) (v p hd : Nat),
      let run := if hd = 1 ∨ hd = 2 then s.aux .syncRun (viothLane v p) + 1 else 0
      Up s ∧ v < 4 ∧ p < 9 ∧ laneHeard s (viothLane v p) = true ∧ s.aux .blockLock (viothLane v p) = 0 ∧ run < 64)
    ∧ (∃ (s : State) (v p hd : Nat),
      let run := if hd = 1 ∨ hd = 2 then s.aux .syncRun (viothLane v p) + 1 else 0
      Up s ∧ v < 4 ∧ p < 9 ∧ laneHeard s (viothLane v p) = true ∧ s.aux .blockLock (viothLane v p) = 0 ∧ run < 64)
    ∧ (∃ (s : State) (v pl hd : Nat),
      Up s ∧ v < 4 ∧ pl < 9 ∧ laneHeard s (viothLane v pl) = true ∧ s.aux .blockLock (viothLane v pl) = 0 ∧ (hd = 1 ∨ hd = 2) ∧ 63 ≤ s.aux .syncRun (viothLane v pl))
    ∧ (∃ (s : State) (v : Nat) (sync marks counts bip : List (List Nat)) (_skew : List Int),
      let row := markerRow sync marks counts bip
      let r := takeRow v row s
      let s2 := overAll r.1 (fun e s => takeMarker v e.1 e.2 s) r.2
      Up s ∧ v < 4 ∧ (portSt s2 v = 1 ∨ 3 ≤ portSt s2 v) ∧ allLocked s2 v = true ∧ portSt s v ≠ 0)
    ∧ (∃ (s : State) (v : Nat) (sync marks counts bip : List (List Nat)) (_skew : List Int),
      let row := markerRow sync marks counts bip
      let r := takeRow v row s
      let s2 := overAll r.1 (fun e s => takeMarker v e.1 e.2 s) r.2
      Up s ∧ v < 4 ∧ (portSt s2 v = 1 ∨ 3 ≤ portSt s2 v) ∧ allLocked s2 v = true ∧ portSt s v ≠ 0)
    ∧ (∃ (s : State) (v : Nat) (sync marks counts bip : List (List Nat)) (_skew : List Int),
      let row := markerRow sync marks counts bip
      let r := takeRow v row s
      let s2 := overAll r.1 (fun e s => takeMarker v e.1 e.2 s) r.2
      Up s ∧ v < 4 ∧ (portSt s2 v = 1 ∨ 3 ≤ portSt s2 v) ∧ allLocked s2 v = true ∧ portSt s v ≠ 0)
    ∧ (∃ (s : State) (acc : Acc) (v l : Nat),
      Up s ∧ l < 8 ∧ mayWrite acc 0x5100 v 0x0E l s = true ∧ portSt s v = 4 ∧ s.get 0x5100 v 0x0F = 0 ∧ s.get 0x5100 v 3 ≠ 1 ∧ s.aux .spareWant v = 0)
    ∧ (∃ (s : State) (acc : Acc) (v l : Nat),
      Up s ∧ l < 8 ∧ mayWrite acc 0x5100 v 0x0E (0x80 + l) s = true ∧ s.get 0x5100 v 0x0F = 2 ∧ s.get 0x5100 v 0x10 = l ∧ s.get 0x5000 (viothLane v l) 1 = 4)
    ∧ (∃ (s : State) (acc : Acc) (v : Nat),
      Up s ∧ mayWrite acc 0x5100 v 0x0E 0xFF s = true ∧ 2 ≤ s.get 0x5100 v 0x0F)
    ∧ (∃ (s : State) (v l : Nat),
      Up s ∧ v < 4 ∧ l < 8 ∧ s.aux .spareRx v = l + 1 ∧ s.get 0x5000 (viothLane v l) 1 = 4 ∧ s.aux .blockLock (viothLane v l) = 1 ∧ bit l (s.aux .bipLast v) = false)
    ∧ (∃ (s : State) (clock : Nat),
      Up s ∧ s.aux .refLost clock = 1)
    ∧ (∃ (s : State) (clock : Nat) (_offset : Int),
      Up s ∧ clock < 4) :=
  ⟨⟨((base.put 0x5000 69 1 3).put 0x50C0 1 3 4), 69, by decide +kernel⟩,
   ⟨(((base.put 0x5000 40 1 3).put 0x5100 0 2 67).setAux .spareRx 0 0 1), 40, by decide +kernel⟩,
   ⟨((((base.setAux .blockLock 66 0 1).put 0x5100 3 2 67).put 0x5000 66 1 3).setAux .syncHist 66 0 (2 ^ 15 - 1)), 3, 7, 0, by decide +kernel⟩,
   ⟨(((base.setAux .blockLock 67 0 1).put 0x5000 67 1 3).setAux .syncHist 67 0 (2 ^ 15 - 1)), 3, 8, 2, by decide +kernel⟩,
   ⟨((base.put 0x5000 67 1 4).setAux .syncRun 67 0 62), 3, 8, 1, by decide +kernel⟩,
   ⟨((base.put 0x5000 32 1 3).setAux .syncRun 32 0 62), 0, 0, 3, by decide +kernel⟩,
   ⟨((overAll (List.range 7) (fun l s => s.setAux .blockLock (59 + l) 0 1) ((base.put 0x5000 66 1 3).put 0x5100 3 2 32)).setAux .syncRun 66 0 63), 3, 7, 2, by decide +kernel⟩,
   ⟨(overAll (List.range 8) (fun l s => (s.setAux .blockLock (59 + l) 0 1).put 0x5000 (59 + l) 1 3) ((base.put 0x5100 3 2 67).put 0x5100 3 3 1)), 3, (List.replicate 8 [1, 0]), ((List.range 8).map fun p => lineBits [0xD2, 17 * p, 0xF0, 0xF0]), (List.replicate 8 (lineBits [0, 7])), (List.replicate 8 (lineBits [0, 255])), [], by decide +kernel⟩,
   ⟨(overAll (List.range 8) (fun l s => (s.setAux .blockLock (59 + l) 0 1).put 0x5000 (59 + l) 1 3) ((((base.put 0x5100 3 2 67).put 0x5100 3 3 1).setAux .markOk 3 0 1).setAux .markCnt 3 0 7)), 3, (List.replicate 8 [1, 0]), ((List.range 8).map fun p => lineBits [0xD2, 17 * p, 0xF0, 0xF0]), (List.replicate 8 (lineBits [0, 7])), (List.replicate 8 (lineBits [0, 255])), ([256, -256]), by decide +kernel⟩,
   ⟨(overAll (List.range 8) (fun l s => (s.setAux .blockLock (59 + l) 0 1).put 0x5000 (59 + l) 1 3) ((((base.put 0x5100 3 2 67).put 0x5100 3 3 1).setAux .markOk 3 0 1).setAux .markCnt 3 0 7)), 3, (List.replicate 8 [1, 0]), ((List.range 8).map fun p => lineBits [0xD2, 17 * p, 0xF0, 0xF0]), (List.replicate 8 (lineBits [0, 7])), (List.replicate 8 (lineBits [0, 255])), [257], by decide +kernel⟩,
   ⟨(base.put 0x5100 3 2 67), own, 3, 7, by decide +kernel⟩,
   ⟨(((base.put 0x5100 3 0x0F 2).put 0x5100 3 0x10 7).put 0x5000 66 1 4), own, 3, 7, by decide +kernel⟩,
   ⟨(((base.put 0x5100 3 0x0F 3).put 0x5100 3 0x10 7).put 0x5000 66 1 5), own, 3, by decide +kernel⟩,
   ⟨(((base.setAux .spareRx 3 0 8).put 0x5000 66 1 4).setAux .blockLock 66 0 1), 3, 7, by decide +kernel⟩,
   ⟨((((((base.setAux .refLost 2 0 1).put 0x5000 69 1 3).put 0x5000 40 1 3).put 0x5000 33 1 4).setAux .spareRx 0 0 2).setAux .blockLock 33 0 1), 2, by decide +kernel⟩,
   ⟨(raise 3973 1 0 0 (((base.setAux .refLost 1 0 1).setAux .laneByRef 31 0 1).setAux .upQuad 31 0 1 |>.put 0x5090 31 2 2)), 1, -7, by decide +kernel⟩⟩

theorem wit_ViothPortCommandsComplete :
    (∃ (s : State) (acc : Acc) (v : Nat),
      Up s ∧ mayWrite acc 0x5100 v 1 1 s = true ∧ portSt s v = 0)
    ∧ (∃ (s : State) (acc : Acc) (v : Nat),
      Up s ∧ mayWrite acc 0x5100 v 1 0 s = true ∧ 2 ≤ portSt s v)
    ∧ (∃ (s : State) (v : Nat),
      Up s ∧ v < 4 ∧ portSt s v = 1)
    ∧ (∃ (s : State) (v : Nat),
      Up s ∧ v < 4 ∧ portSt s v ≠ 0 ∧ nextFrame s v = none ∧ (portSt s v = 1 → s.now + 1 < s.aux .drainFrom v + 250000))
    ∧ (∃ (s : State) (v : Nat),
      Up s ∧ v < 4 ∧ portSt s v = 1 ∧ nextFrame s v = none ∧ s.aux .drainFrom v + 250000 ≤ s.now + 1)
    ∧ (∃ (s : State) (v : Nat) (f : VFrame),
      Up s ∧ v < 4 ∧ portSt s v ≠ 0 ∧ nextFrame s v = some f)
    ∧ (∃ (s : State) (v _w : Nat),
      let n := s.aux .rowLen v
      n < 7)
    ∧ (∃ (s : State) (v _w p : Nat),
      s.aux .rowLen v = 7 ∧ s.aux .rowsTx v < 16383 ∧ p < 8 ∧ forerunner s v = true ∧ (∀ x ∈ portLanes s v, laneSt s (viothLane v x) = 3 ∧ laneFlag s (viothLane v x) 7 = false))
    ∧ (∃ (s : State) (v : Nat),
      Up s ∧ v < 4 ∧ portSt s v ≠ 0)
    ∧ (∃ (s : State) (v : Nat) (b : List Nat) (_beyond : List (Nat × Nat × Nat)),
      Up s ∧ v < 4 ∧ 3 ≤ portSt s v ∧ framer s v = 3 ∧ numAt b 16 1 = 1)
    ∧ (∃ (s : State) (v : Nat),
      Up s ∧ v < 4 ∧ framer s v = 3 ∧ portSt s v = 4 ∧ hasDefect s v 3 = false)
    ∧ (∃ (s : State) (v code : Nat),
      Up s ∧ v < 4 ∧ ((code = 1 ∧ allLocked s v = true ∧ s.aux .deskew v = 1) ∨ (code = 2 ∧ framer s v = 3) ∨ (code = 3 ∧ s.aux .lomBack v = 1)) ∧ hasDefect s v code = true)
    ∧ (∃ (s : State) (v : Nat),
      Up s ∧ v < 4 ∧ portSt s v = 4 ∧ s.get 0x5100 v 9 < s.aux .bipSec v ∧ hasDefect s v 6 = false)
    ∧ (∃ (s : State) (v : Nat),
      Up s ∧ v < 4 ∧ s.aux .primer v ≠ 0 ∧ anyConsequent s v = true)
    ∧ (∃ (s : State) (_v : Nat),
      Up s)
    ∧ (∃ (s : State) (acc : Acc) (m sub value : Nat),
      Up s ∧ (sub = 1 ∨ sub = 2) ∧ mayWrite acc 0x5140 m sub value s = true ∧ s.aux .engVac 4 0 ≠ 0) :=
  ⟨⟨base, own, 3, by decide +kernel⟩,
   ⟨(base.put 0x5100 3 2 67), own, 3, by decide +kernel⟩,
   ⟨({ base.put 0x5100 3 2 19 with vframes := [⟨3, 4, 1, 7, 0, 1, 63, 64, 0, 0, []⟩, ⟨2, 4, 1, 7, 0, 1, 63, 64, 0, 0, []⟩] }), 3, by decide +kernel⟩,
   ⟨((base.put 0x5100 3 2 67).put 0x5100 3 7 1), 3, by decide +kernel⟩,
   ⟨({ (base.put 0x5100 3 2 19).setAux .drainFrom 3 0 1 with now := 250000 }), 3, by decide +kernel⟩,
   ⟨({ base.put 0x5100 3 2 67 with vframes := [⟨3, 4, 1, 0, 0, 1, 63, 64, 0, 0, [1]⟩, ⟨3, 4, 1, 7, 0, 1, 63, 64, 0, 0, [2]⟩] }), 3, (⟨3, 4, 1, 7, 0, 1, 63, 64, 0, 0, [2]⟩), by decide +kernel⟩,
   ⟨(base.setAux .rowLen 3 0 6), 3, (2 ^ 64 - 1), by decide +kernel⟩,
   ⟨(overAll (List.range 8) (fun l s => s.put 0x5000 (59 + l) 1 3) ((base.put 0x5100 3 3 1).setAux .rowLen 3 0 7)), 3, (2 ^ 64 - 1), 7, by decide +kernel⟩,
   ⟨((base.put 0x5100 3 2 67).put 0x51C0 0 1 63), 3, by decide +kernel⟩,
   ⟨(base.put 0x5100 3 2 51), 3, (bytesOf 16 5 ++ [1, 64, 7, 0xFE] ++ bytesOf 4 9 ++ bytesOf 8 100 ++ bytesOf 8 0 ++ bytesOf 8 0 ++ bytesOf 8 6 ++ bytesOf 8 0), ([(1, 300000, 2)]), by decide +kernel⟩,
   ⟨(base.put 0x5100 3 2 67), 3, by decide +kernel⟩,
   ⟨((base.put 0x5100 3 2 83).put 0x5100 3 7 2), 3, 2, by decide +kernel⟩,
   ⟨((base.put 0x5100 3 2 67).setAux .bipSec 3 0 (base.get 0x5100 3 9 + 1)), 3, by decide +kernel⟩,
   ⟨((((base.put 0x5100 3 7 1).setAux .primer 3 0 1).setAux .primerFor 3 0 (2 ^ 63 + 1)).put 0x5140 63 3 2), 3, by decide +kernel⟩,
   ⟨(base.setAux .primer 3 0 1), 3, by decide +kernel⟩,
   ⟨(((base.setAux .engVac 4 0 1).put 0x5100 3 2 67).setAux .reachIn 3 0 (2 ^ 63)), own, 63, 2, 3, by decide +kernel⟩⟩

theorem wit_ViothHeadersRoundTrip :
    (∃ (f : VFrame) (_rdi : Bool),
      f.kind < 16 ∧ f.cls < 8 ∧ f.source < 64 ∧ f.dest < 64 ∧ f.hops < 64 ∧ f.len = f.payload.length ∧ f.len ≤ 10240 ∧ f.context < 2 ^ 17 ∧ f.colour < 4)
    ∧ (∃ (f : VFrame) (_rdi : Bool),
      f.kind < 16 ∧ f.cls < 8 ∧ f.source < 64 ∧ f.dest < 64 ∧ f.hops < 64 ∧ f.len = f.payload.length ∧ f.len ≤ 10240 ∧ f.context < 2 ^ 17 ∧ f.colour < 4)
    ∧ (∃ (st : Nat) (l : List Nat),
      st < 2 ^ 58 ∧ (∀ b ∈ l, b < 2))
    ∧ (∃ (l : List Nat),
      (∀ b ∈ l, b < 256))
    ∧ (∃ (p : Nat) (g : List Nat),
      p < 4 ∧ (∀ x ∈ g, x < 4))
    ∧ (∃ (a b : Nat),
      a < 2 ∧ b < 2) :=
  ⟨⟨(⟨3, 4, 15, 7, 63, 63, 63, 3, 131071, 3, [1, 255, 3]⟩), true, by decide +kernel⟩,
   ⟨(⟨3, 4, 0, 0, 0, 0, 0, 0, 0, 0, []⟩), false, by decide +kernel⟩,
   ⟨(2 ^ 58 - 1), ([1, 0, 1, 1]), by decide +kernel⟩,
   ⟨([255, 0, 128]), by decide +kernel⟩,
   ⟨3, ([3, 1, 0, 2]), by decide +kernel⟩,
   ⟨1, 0, by decide +kernel⟩⟩

theorem wit_CoatAndRouteCommandsComplete :
    (∃ (s : State) (acc : Acc) (rule sub value : Nat),
      Up s ∧ mayWrite acc 0x4400 rule sub value s = true ∧ slotCode s (rule / 65536) = 2 ∧ (sub = 2 → field 15 0 value = 0 ∧ bit 518 value = false) ∧ (sub = 3 → actionOk value = true ∧ actionOwned s (ownerOf s 8 (rule % 65536)) value = true))
    ∧ (∃ (s : State) (acc : Acc),
      Up s ∧ mayWrite acc 0x4480 0 4 1 s = true ∧ slotCode s (otherSlot s) = 2)
    ∧ (∃ (s : State),
      Up s ∧ slotCode s (otherSlot s) = 1 ∧ oldPackets s = 0)
    ∧ (∃ (s : State) (acc : Acc),
      Up s ∧ mayWrite acc 0x4480 0 5 1 s = true ∧ slotCode s (otherSlot s) = 2 ∧ Store.wf Objects.dflt s.objs = true)
    ∧ (∃ (s : State),
      Up s ∧ slotCode s (otherSlot s) = 3)
    ∧ (∃ (s : State) (acc : Acc) (v6 : Bool) (table len pfx hop : Nat),
      let family := if v6 then 6 else 4
      let r := (⟨v6, table, len, pfx, hop⟩ : Route)
      Up s ∧ mayWrite acc 0x4600 0 1 (routeRecord 1 family table len pfx hop) s = true ∧ table < 32 ∧ len ≤ addrWidth v6 ∧ pfx < 2 ^ addrWidth v6 ∧ pfx % 2 ^ (addrWidth v6 - len) = 0 ∧ hop < 65536 ∧ (s.routes.find? (fun x => x.same r) = none) ∧ s.get 0x4600 0 4 < 524288 ∧ s.get 0x4600 0 3 < 1048576)
    ∧ (∃ (s : State) (acc : Acc) (v6 : Bool) (table len pfx hop : Nat),
      let family := if v6 then 6 else 4
      let r := (⟨v6, table, len, pfx, hop⟩ : Route)
      Up s ∧ mayWrite acc 0x4600 0 1 (routeRecord 1 family table len pfx hop) s = true ∧ table < 32 ∧ len ≤ addrWidth v6 ∧ pfx < 2 ^ addrWidth v6 ∧ pfx % 2 ^ (addrWidth v6 - len) = 0 ∧ hop < 65536 ∧ (s.routes.find? (fun x => x.same r) = none) ∧ s.get 0x4600 0 4 < 524288 ∧ s.get 0x4600 0 3 < 1048576)
    ∧ (∃ (s : State) (acc : Acc) (v6 : Bool) (table len pfx : Nat),
      let family := if v6 then 6 else 4
      let r := (⟨v6, table, len, pfx, 0⟩ : Route)
      Up s ∧ mayWrite acc 0x4600 0 1 (routeRecord 2 family table len pfx 0) s = true ∧ table < 32 ∧ len ≤ addrWidth v6 ∧ pfx < 2 ^ addrWidth v6 ∧ pfx % 2 ^ (addrWidth v6 - len) = 0 ∧ ((s.routes.find? (fun x => x.same r)).isSome = true))
    ∧ (∃ (s : State) (acc : Acc) (domain : Nat),
      Up s ∧ mayWrite acc 0x4900 domain 1 1 s = true ∧ s.get 0x4900 domain 2 = 0)
    ∧ (∃ (s : State) (acc : Acc) (domain : Nat),
      Up s ∧ mayWrite acc 0x4900 domain 1 0 s = true ∧ s.get 0x4900 domain 2 = 2)
    ∧ (∃ (s : State) (acc : Acc) (domain : Nat),
      Up s ∧ mayWrite acc 0x4900 domain 1 0 s = true ∧ s.get 0x4900 domain 2 = 2)
    ∧ (∃ (s : State) (domain : Nat),
      Up s ∧ s.get 0x4900 domain 2 = 1)
    ∧ (∃ (s : State) (acc : Acc) (domain : Nat),
      Up s ∧ mayWrite acc 0x4900 domain 0x0B 1 s = true ∧ Store.wf Aux.dflt s.regs = true) :=
  ⟨⟨base, own, 131071, 3, (2 ^ 24 + 131071 * 32), by decide +kernel⟩,
   ⟨(base.put 0x4480 0 1 65535 |>.put 0x4480 0 2 2 |>.put 0x4480 0 3 0), own, by decide +kernel⟩,
   ⟨(base.put 0x4480 0 3 1), by decide +kernel⟩,
   ⟨(((base.put 0x4400 7 1 5).put 0x4400 65543 2 9).put 0x4400 7 4 1), own, by decide +kernel⟩,
   ⟨(base.put 0x4480 0 3 3), by decide +kernel⟩,
   ⟨base, own, true, 31, 128, (2 ^ 128 - 1), 65535, by decide +kernel⟩,
   ⟨base, own, false, 31, 32, (2 ^ 32 - 1), 65535, by decide +kernel⟩,
   ⟨({ base with routes := [⟨false, 31, 8, 0x0A000000, 4⟩] }), own, false, 31, 8, 0x0A000000, by decide +kernel⟩,
   ⟨base, own, 4095, by decide +kernel⟩,
   ⟨(base.put 0x4900 4095 2 2), own, 4095, by decide +kernel⟩,
   ⟨({ base.put 0x4900 4095 2 2 with held := [⟨⟨true, 4095, false, 1, 2, 17, 5⟩, ⟨true, 0, 1, [], 0, 0, 0, 0, []⟩, 0⟩] }), own, 4095, by decide +kernel⟩,
   ⟨({ base.put 0x4900 4095 2 1 with held := [⟨⟨true, 4095, false, 1, 2, 17, 5⟩, ⟨true, 0, 1, [], 0, 0, 0, 0, []⟩, 0⟩] }), 4095, by decide +kernel⟩,
   ⟨(setMac (9, 3) (newEntry base 1 4095 5 6) (setMac (9, 2) (newEntry base 0 4095 5 6) base)), own, 4095, by decide +kernel⟩⟩

theorem wit_MacAndPipeCommandsComplete :
    (∃ (s : State) (acc : Acc) (domain mac dest : Nat) (pl : Nat × Nat),
      Up s ∧ mayWrite acc 0x4B00 0 1 (entryRecord 1 domain mac dest) s = true ∧ (acc.role = .operator ∨ acc.role = .owner) ∧ domain < 4096 ∧ mac < 2 ^ 48 ∧ dest < 2 ^ 18 ∧ destOk dest = true ∧ macFind s domain mac = none ∧ ((macPlaces s domain mac).find? (fun q => !macValid (macAt s q)) = some pl))
    ∧ (∃ (s : State) (acc : Acc) (domain mac dest : Nat) (pl : Nat × Nat),
      Up s ∧ mayWrite acc 0x4B00 0 1 (entryRecord 2 domain mac dest) s = true ∧ (acc.role = .operator ∨ acc.role = .owner) ∧ domain < 4096 ∧ mac < 2 ^ 48 ∧ dest < 2 ^ 18 ∧ destOk dest = true ∧ macFind s domain mac = none ∧ ((macPlaces s domain mac).find? (fun q => !macValid (macAt s q)) = some pl))
    ∧ (∃ (s : State) (acc : Acc) (domain mac dest : Nat) (pl : Nat × Nat),
      Up s ∧ mayWrite acc 0x4B00 0 1 (entryRecord 1 domain mac dest) s = true ∧ (acc.role = .operator ∨ acc.role = .owner) ∧ domain < 4096 ∧ mac < 2 ^ 48 ∧ dest < 2 ^ 18 ∧ destOk dest = true ∧ macFind s domain mac = some pl)
    ∧ (∃ (s : State) (acc : Acc) (domain mac dest : Nat) (pl : Nat × Nat),
      Up s ∧ mayWrite acc 0x4B00 0 1 (entryRecord 2 domain mac dest) s = true ∧ (acc.role = .operator ∨ acc.role = .owner) ∧ domain < 4096 ∧ mac < 2 ^ 48 ∧ dest < 2 ^ 18 ∧ destOk dest = true ∧ macFind s domain mac = some pl)
    ∧ (∃ (s : State) (acc : Acc) (domain mac : Nat) (pl : Nat × Nat),
      Up s ∧ mayWrite acc 0x4B00 0 1 (entryRecord 3 domain mac 0) s = true ∧ (acc.role = .operator ∨ acc.role = .owner) ∧ domain < 4096 ∧ mac < 2 ^ 48 ∧ macFind s domain mac = some pl)
    ∧ (∃ (s : State) (acc : Acc) (value : Nat),
      Up s ∧ mayWrite acc 0x4B10 0 0x0A value s = true)
    ∧ (∃ (s : State) (acc : Acc) (value : Nat),
      Up s ∧ mayWrite acc 0x4B10 0 0x0A value s = true)
    ∧ (∃ (s : State) (acc : Acc) (value : Nat) (pl : Nat × Nat),
      Up s ∧ mayWrite acc 0x4B10 0 0x0A value s = true ∧ Store.wf Aux.dflt s.regs = true ∧ macList s = [pl])
    ∧ (∃ (s : State) (engine : Nat) (r : LearnReq) (rest : List LearnReq) (pl : Nat × Nat),
      Up s ∧ engine < 6 ∧ (carrierOf s (192 + engine)).isSome = true ∧ takeLearn engine s.learns = some (r, rest) ∧ s.get 0x4900 r.domain 2 = 2 ∧ macFind s r.domain r.mac = none ∧ limitAt s r.dest = none ∧ ((macPlaces s r.domain r.mac).find? (fun q => !macValid (macAt s q)) = some pl))
    ∧ (∃ (s : State) (engine : Nat),
      Up s ∧ engine < 6 ∧ ((carrierOf s (192 + engine)).isSome = false ∨ takeLearn engine s.learns = none))
    ∧ (∃ (s : State),
      Up s ∧ Store.wf Aux.dflt s.regs = true)
    ∧ (∃ (s : State) (up : Bool) (port xgem : Nat) (bytes : List Nat) (_picks : List Nat) (f d c : Nat),
      let pr := parse (s.get 0x4490 0 2) 256 bytes
      let h := flowHash (s.get 0x4490 0 1) pr
      let s1 := s.bump 0x4491 c 1
      let m := (⟨⟨true, port, xgem, bytes, pipeOf h, c, h, s.get 0x4480 0 1, drainingDomains s⟩, pr, f, d, false⟩ : Meet)
      let found := lookups m s1
      Up s ∧ up = true ∧ port < s.trees ∧ s.islandUp 14 = true ∧ carrierPipe s (pipeOf h) h = some c ∧ pr.more = false ∧ pr.malformed = false ∧ pr.incomplete = false ∧ pr.later = false ∧ pr.first = false ∧ flowOfPort s1 port xgem = some f ∧ s.get 0x4800 f 4 = d ∧ d < 4096 ∧ s.get 0x4900 d 2 = 2 ∧ s.get 0x4900 d 3 = 1 ∧ found.1.isSome = true ∧ pipeQueue s c = [] ∧ ((s.recirc.any fun y => y.carrier == c) = false))
    ∧ (∃ (s : State) (up : Bool) (port _xgem : Nat) (bytes : List Nat) (_picks : List Nat) (c : Nat),
      let pr := parse (s.get 0x4490 0 2) 256 bytes
      let h := flowHash (s.get 0x4490 0 1) pr
      Up s ∧ (port < (if up then s.trees else 32)) ∧ s.islandUp 14 = true ∧ carrierPipe s (pipeOf h) h = some c ∧ pr.more = true ∧ pr.malformed = false ∧ pipeQueue s c = [] ∧ ((s.recirc.any fun y => y.carrier == c) = false))
    ∧ (∃ (s : State) (up : Bool) (port _xgem : Nat) (bytes : List Nat) (_ps : List (List Nat)) (_ws : List (List MemWrite)) (_os : List (List Poison)) (c : Nat),
      let h := flowHash (s.get 0x4490 0 1) (parse (s.get 0x4490 0 2) 256 bytes)
      Up s ∧ (port < (if up then s.trees else 32)) ∧ s.islandUp 14 = true ∧ carrierPipe s (pipeOf h) h = some c ∧ (pipeQueue s c).length < 2048)
    ∧ (∃ (s : State) (up : Bool) (port _xgem : Nat) (bytes : List Nat) (_wait : Bool) (_ps : List (List Nat)) (_ws : List (List MemWrite)) (_os : List (List Poison)) (c : Nat),
      let h := flowHash (s.get 0x4490 0 1) (parse (s.get 0x4490 0 2) 256 bytes)
      let pipe := carrierPipe s (pipeOf h) h
      Up s ∧ (port < (if up then s.trees else 32)) ∧ s.islandUp 14 = true ∧ c = pipe.getD (pipeOf h) ∧ (pipe = none ∨ 2048 ≤ (pipeQueue s c).length))
    ∧ (∃ (s : State) (pipe : Nat) (_picks : List Nat) (x : InPkt),
      Up s ∧ (s.recirc.find? (fun y => y.carrier == pipe) = some x) ∧ x.coat = s.get 0x4480 0 1 ∧ pipeQueue s pipe = [])
    ∧ (∃ (s : State) (pipe : Nat) (_ps : List (List Nat)) (_ws : List (List MemWrite)) (_os : List (List Poison)),
      Up s ∧ ((s.recirc.any fun y => y.carrier == pipe) = false))
    ∧ (∃ (s : State) (entry : Nat) (_picks : List Nat) (x : HeldFrag),
      Up s ∧ s.held[entry]? = some x)
    ∧ (∃ (s : State) (_entry : Nat),
      Up s) :=
  ⟨⟨base, own, 4095, (2 ^ 48 - 1), (2 ^ 17 + 63), ((macBucket base 4095 (2 ^ 48 - 1) 0, 0)), by decide +kernel⟩,
   ⟨base, own, 4095, (2 ^ 48 - 1), (2 ^ 17 + 63), ((macBucket base 4095 (2 ^ 48 - 1) 0, 0)), by decide +kernel⟩,
   ⟨(setMac (macBucket base 1 2 0, 0) (newEntry base 1 1 2 3) base), own, 1, 2, 131071, ((macBucket base 1 2 0, 0)), by decide +kernel⟩,
   ⟨(setMac (macBucket base 1 2 0, 0) (newEntry base 1 1 2 3) base), own, 1, 2, 131071, ((macBucket base 1 2 0, 0)), by decide +kernel⟩,
   ⟨(setMac (macBucket base 1 2 0, 0) (newEntry base 1 1 2 3) base), own, 1, 2, ((macBucket base 1 2 0, 0)), by decide +kernel⟩,
   ⟨base, own, (2 ^ 32 - 1), by decide +kernel⟩,
   ⟨(setMac (macBucket base 1 2 0, 0) (newEntry base 1 1 2 3) base), own, 1, by decide +kernel⟩,
   ⟨(setMac (macBucket base 1 2 0, 0) (newEntry base 1 1 2 3) base), own, 1, ((macBucket base 1 2 0, 0)), by decide +kernel⟩,
   ⟨({ base.put 0x4900 1 2 2 with learns := [⟨4, 9, 9, 9⟩, ⟨5, 1, 2, 2 ^ 17 + 3⟩] }), 5, (⟨5, 1, 2, 2 ^ 17 + 3⟩), ([⟨4, 9, 9, 9⟩]), ((macBucket base 1 2 0, 0)), by decide +kernel⟩,
   ⟨base, 5, by decide +kernel⟩,
   ⟨(setMac (9, 3) (newEntry base 0 1 5 6 + 2 ^ 14 + 7 * 2 ^ 16) (setMac (9, 2) (newEntry base 0 4095 5 6 + 1023 * 2 ^ 16) base)), by decide +kernel⟩,
   ⟨((((((((base.put 0x4800 5 1 0).put 0x4800 5 2 1100).put 0x4800 5 4 7).put 0x4900 7 2 2).put 0x4900 7 4 3).put 0x4D00 5 3 0).put 0x4C80 768 0x11 2).put 0x4900 7 3 1), true, 0, 1100, ([2, 0, 0, 0, 0, 1, 2, 0, 0, 0, 0, 2, 0x88, 0xB5] ++ List.replicate 50 7), [4], 5, 7, (pipeOf (flowHash (base.get 0x4490 0 1) (parse (base.get 0x4490 0 2) 256 ([2, 0, 0, 0, 0, 1, 2, 0, 0, 0, 0, 2, 0x88, 0xB5] ++ List.replicate 50 7)))), by decide +kernel⟩,
   ⟨base, false, 31, 0, longPacket, [], (pipeOf (flowHash (base.get 0x4490 0 1) (parse (base.get 0x4490 0 2) 256 longPacket))), by decide +kernel⟩,
   ⟨base, false, 31, 0, longPacket, [], [], [], (pipeOf (flowHash (base.get 0x4490 0 1) (parse (base.get 0x4490 0 2) 256 longPacket))), by decide +kernel⟩,
   ⟨({ base with pipeIn := List.replicate 2048 ⟨true, 0, 1, [], 0, pipeOf (flowHash (base.get 0x4490 0 1) (parse (base.get 0x4490 0 2) 256 longPacket)), 0, 0, []⟩ }), false, 31, 0, longPacket, false, [], [], [], (pipeOf (flowHash (base.get 0x4490 0 1) (parse (base.get 0x4490 0 2) 256 longPacket))), by decide +kernel⟩,
   ⟨({ base with recirc := [⟨true, 0, 1, [1], 0, 4, 0, 0, []⟩, ⟨true, 0, 1, [2], 0, 5, 0, 0, []⟩] }), 5, [], (⟨true, 0, 1, [2], 0, 5, 0, 0, []⟩), by decide +kernel⟩,
   ⟨base, 5, [], [], [], by decide +kernel⟩,
   ⟨({ base with held := [⟨⟨true, 7, false, 1, 2, 17, 5⟩, ⟨true, 0, 1100, [], 0, 0, 0, 0, []⟩, 0⟩, ⟨⟨true, 8, false, 1, 2, 17, 5⟩, ⟨true, 0, 1100, [], 0, 0, 0, 0, []⟩, 0⟩] }), 1, [], (⟨⟨true, 8, false, 1, 2, 17, 5⟩, ⟨true, 0, 1100, [], 0, 0, 0, 0, []⟩, 0⟩), by decide +kernel⟩,
   ⟨({ base with frags := [⟨⟨true, 8, false, 1, 2, 17, 5⟩, bareFate [] false 0 none, 0⟩] }), 0, by decide +kernel⟩⟩

theorem wit_GrantMapCommandsComplete :
    (∃ (s : State) (tree lane frame _unit : Nat) (entry : MapEntry) (es : List Grant),
      let g := (mapOf s.staged tree lane frame).getD ⟨tree, lane, frame, []⟩
      Up s ∧ tree < s.trees ∧ lane < 2 ∧ s.aux .engVac 0 tree = 1 ∧ entry.kind ≠ 1 ∧ ((match placeEntry s tree lane frame g.entries (withProfile s tree entry) with | .ok (l : List Grant) => l == es | .error _ => false) = true))
    ∧ (∃ (s : State) (tree lane frame _unit : Nat) (entry : MapEntry) (es : List Grant),
      let g := (mapOf s.staged tree lane frame).getD ⟨tree, lane, frame, []⟩
      Up s ∧ tree < s.trees ∧ lane < 2 ∧ s.aux .engVac 0 tree = 1 ∧ entry.kind = 1 ∧ ((match placeEntry s tree lane frame g.entries entry with | .ok (l : List Grant) => l == es | .error _ => false) = true))
    ∧ (∃ (s : State) (tree lane frame _unit cause : Nat) (entry : MapEntry),
      let g := (mapOf s.staged tree lane frame).getD ⟨tree, lane, frame, []⟩
      Up s ∧ tree < s.trees ∧ lane < 2 ∧ s.aux .engVac 0 tree = 1 ∧ cause ≠ 2 ∧ cause ≠ 4 ∧ ((match placeEntry s tree lane frame g.entries (withProfile s tree entry) with | .ok _ => false | .error c => c == cause) = true))
    ∧ (∃ (s : State) (tree lane frame _unit cause : Nat) (entry : MapEntry),
      let g := (mapOf s.staged tree lane frame).getD ⟨tree, lane, frame, []⟩
      Up s ∧ tree < s.trees ∧ lane < 2 ∧ s.aux .engVac 0 tree = 1 ∧ (cause = 2 ∨ cause = 4) ∧ ((match placeEntry s tree lane frame g.entries (withProfile s tree entry) with | .ok _ => false | .error c => c == cause) = true) ∧ (s.aux .mapWhole tree lane = 0 ∨ frameAdd (s.aux .mapWhole tree lane - 1) 1 ≠ frame))
    ∧ (∃ (s : State) (tree lane count _unit : Nat),
      let next := frameAdd (frameNow s tree) 1
      let g := (mapOf s.staged tree lane next).getD ⟨tree, lane, next, []⟩
      let g' := ({ g with entries := g.entries.filter fun e => !drains s tree e } : GrantMap)
      let role := tree / 4 * 16 + tree % 4
      Up s ∧ tree < s.trees ∧ lane < 2 ∧ s.aux .engVac 0 tree = 1 ∧ s.aux .holdFor tree lane ≠ next + 1 ∧ (s.now : Int) ≤ frameStart s tree + 117000 ∧ g.entries.length = count ∧ (carrierOf s role = none ∨ s.aux .safePoint ((carrierOf s role).getD 0) ≠ 1) ∧ s.aux .safePoint role ≠ 2)
    ∧ (∃ (s : State) (tree lane _count _unit : Nat),
      Up s ∧ tree < s.trees ∧ lane < 2 ∧ s.aux .engVac 0 tree = 1 ∧ frameStart s tree + 117000 < (s.now : Int))
    ∧ (∃ (s : State) (tree lane : Nat),
      let next := frameAdd (frameNow s tree) 1
      Up s ∧ tree < s.trees ∧ lane < 2 ∧ mapsRun s tree lane = true ∧ mapOf s.sealedMaps tree lane next = none ∧ s.aux .holdFor tree lane ≠ next + 1)
    ∧ (∃ (s : State) (tree onu : Nat) (_set : Bool),
      Up s ∧ tree < s.trees ∧ onu < 1024)
    ∧ (∃ (s : State) (tree onu : Nat) (_set : Bool),
      Up s ∧ tree < s.trees ∧ onu < 1024)
    ∧ (∃ (s : State) (tree : Nat),
      Up s ∧ (s.treeUp tree = false ∨ s.aux .engVac 0 tree = 0))
    ∧ (∃ (s : State) (tree : Nat),
      Up s ∧ s.treeUp tree = true ∧ s.aux .engVac 0 tree ≠ 0)
    ∧ (∃ (s : State) (tree l n : Nat),
      let next := frameAdd (frameNow s tree) 1
      Up s ∧ s.treeUp tree = true ∧ l < 2 ∧ mapsRun s tree l = true ∧ blank s tree l next = false ∧ mapOf s.staged tree l next = none ∧ n / 512 = tree ∧ termState s n = 4 ∧ laneOf s n = l ∧ s.aux .keepAlive n = 1 ∧ s.aux .engVac 0 tree ≠ 0) :=
  ⟨⟨(((base.setAux .engVac 0 47 1).put 0x3000 (512 * 47 + 5) 4 3).put 0x2000 47 1 2), 47, 0, 9, 1, (⟨5, 5, 100, 0, false, false, 6, none, 0, 0⟩), (match placeEntry (((base.setAux .engVac 0 47 1).put 0x3000 (512 * 47 + 5) 4 3).put 0x2000 47 1 2) 47 0 9 [] ⟨5, 5, 100, 0, false, false, 6, none, 0, 0⟩ with | .ok l => l | .error _ => []), by decide +kernel⟩,
   ⟨({ (base.setAux .engVac 0 47 1).put 0x2000 47 1 2 with staged := [⟨47, 0, 9, [⟨5, 5, 100, 0, false, false, 6, 3000, 2000, 5000, false⟩]⟩] }), 47, 0, 9, 1, (⟨1023, 0, 0, 0, false, false, 1, none, 4000, 9000⟩), ([⟨5, 5, 100, 0, false, false, 6, 3000, 2000, 5000, false⟩, ⟨1023, 0, 0, 0, false, false, 1, 4000, 4000, 9000, false⟩]), by decide +kernel⟩,
   ⟨(base.setAux .engVac 0 47 1), 47, 0, 9, 1, 5, (⟨5, 5, 100, 0, false, false, 6, none, 0, 0⟩), by decide +kernel⟩,
   ⟨(((base.setAux .engVac 0 47 1).put 0x3000 (512 * 47 + 5) 4 3).put 0x2000 47 1 2), 47, 0, 9, 1, 2, (⟨5, 5, 100, 0, false, false, 6, some 6220000, 0, 0⟩), by decide +kernel⟩,
   ⟨({ base.setAux .engVac 0 47 1 with now := 117000, staged := [⟨47, 1, 1, [⟨5, 5, 100, 0, false, false, 6, 3000, 2000, 5000, false⟩]⟩] }), 47, 1, 1, 1, by decide +kernel⟩,
   ⟨({ base.setAux .engVac 0 47 1 with now := 117001 }), 47, 1, 1, 1, by decide +kernel⟩,
   ⟨(base.put 0x2002 47 1 3), 47, 1, by decide +kernel⟩,
   ⟨({ base with muted := [(47, 3), (47, 1023), (2, 1023)] }), 47, 1023, false, by decide +kernel⟩,
   ⟨base, 0, 0, true, by decide +kernel⟩,
   ⟨(base.put 0x2000 47 1 2), 47, by decide +kernel⟩,
   ⟨(((base.put 0x2000 47 1 2).put 0x2002 47 1 5).setAux .engVac 0 47 1), 47, by decide +kernel⟩,
   ⟨((((base.put 0x2000 47 1 2).put 0x3000 24575 4 4).setAux .keepAlive 24575 0 1).setAux .engVac 0 47 1), 47, 0, 24575, by decide +kernel⟩⟩

theorem wit_LevelAndCascadeCommandsComplete :
    (∃ (s : State),
      Up s)
    ∧ (∃ (s : State) (m : Nat),
      Up s ∧ s.aux .lvlIn m ≠ 0)
    ∧ (∃ (s : State) (m : Nat),
      Up s ∧ s.aux .lvlIn m = 0)
    ∧ (∃ (s : State) (lead : Nat),
      Up s ∧ leader s = member s ∧ s.aux .lvlAbove ≠ 0 ∧ s.aux .lvlAbove - 1 + 1000000000 ≤ s.now ∧ 20000000 ≤ lead)
    ∧ (∃ (s : State),
      Up s ∧ s.aux .lvlNew ≠ 0 ∧ s.aux .lvlAt ≤ s.now)
    ∧ (∃ (s : State),
      Up s ∧ s.aux .lvlNew ≠ 0 ∧ s.aux .lvlAt ≤ s.now)
    ∧ (∃ (s : State) (feature : Nat),
      Up s ∧ (features s).contains feature = true ∧ s.get 0x55C0 feature 4 ≠ 1 ∧ s.aux .featMet feature - 1 + 1000000000 ≤ s.now ∧ s.aux .featMet feature ≠ 0)
    ∧ (∃ (s : State) (v _took : Nat) (_picks : List Nat),
      let ws := (portWords s v).drop (s.aux .framePos v)
      let h := ws.headD 0 * 2 ^ 64 + ws.getD 1 0
      Up s ∧ v < 4 ∧ portSt s v ≠ 0 ∧ s.aux .deskew v ≠ 0 ∧ (framer s v = 0 ∨ framer s v = 1) ∧ (framer s v = 0 → s.aux .framePos v = 0) ∧ ws.length = 2 ∧ headerOk h = true)
    ∧ (∃ (s : State) (v w _took : Nat) (_picks : List Nat),
      let ws := portWords s v
      let h := ws.headD 0 * 2 ^ 64 + ws.getD 1 0
      let frame := viothIn h ((ws.drop 2).flatMap (bytesOf 8))
      Up s ∧ v < 4 ∧ s.aux .deskew v ≠ 0 ∧ framer s v = 3 ∧ s.aux .framePos v = 0 ∧ headerOk h = true ∧ ws.length = chainWords h ∧ portSt s v = 4 ∧ frame.crcOk = true ∧ frame.kind < 8 ∧ frame.kind ≠ 2 ∧ frame.kind ≠ 4 ∧ frame.rdi = false ∧ hasDefect s v 7 = false ∧ frame.dest ≠ member s ∧ 2 ≤ frame.hops ∧ activePort s frame.dest = some w)
    ∧ (∃ (s : State) (v _took : Nat) (_picks : List Nat),
      let ws := portWords s v
      let h := ws.headD 0 * 2 ^ 64 + ws.getD 1 0
      let frame := viothIn h ((ws.drop 2).flatMap (bytesOf 8))
      Up s ∧ v < 4 ∧ s.aux .deskew v ≠ 0 ∧ framer s v = 3 ∧ s.aux .framePos v = 0 ∧ headerOk h = true ∧ ws.length = chainWords h ∧ portSt s v ≠ 0 ∧ frame.crcOk = false)
    ∧ (∃ (s : State) (v _took : Nat) (_sync _blocks : List (List (List Nat))) (_picks : List Nat),
      Up s ∧ v < 4 ∧ portSt s v ≠ 0)
    ∧ (∃ (s : State) (v p word : Nat),
      word < 2 ^ 64 ∧ s.aux .scramRx (viothLane v p) < 2 ^ 58 ∧ forerunner s v = true)
    ∧ (∃ (s : State),
      Up s)
    ∧ (∃ (s : State) (source _took : Nat) (r : SigRecord),
      Up s ∧ r.partner < s.trees ∧ remotePartner s r.partner = some (source, r.sender))
    ∧ (∃ (s : State) (source _took : Nat) (r : SigRecord),
      Up s ∧ r.partner < s.trees ∧ remotePartner s r.partner = some (source, r.sender) ∧ claimHigher r.claim (stageClaim s 2 r.partner) = false ∧ (r.state / 64 % 4 ≠ 1 ∨ protRole s r.partner ≠ 2) ∧ (r.state % 16 = 0 ∨ protRole s r.partner ≠ 2)) :=
  ⟨⟨((base.put 0x51C0 0 4 (2 ^ 63)).put 0x5140 63 3 1), by decide +kernel⟩,
   ⟨((base.setAux .lvlIn 63 0 1).put 0x5590 63 1 5), 63, by decide +kernel⟩,
   ⟨base, 63, by decide +kernel⟩,
   ⟨({ base.setAux .lvlAbove 0 0 1 with now := 1000000000 }), 20000000, by decide +kernel⟩,
   ⟨(base.setAux .lvlNew 0 0 (lowestLevel base + 1)), by decide +kernel⟩,
   ⟨(base.setAux .lvlNew 0 0 (lowestLevel base + 2)), by decide +kernel⟩,
   ⟨({ raise 3088 63 0 0 ((base.put 0x55C0 63 2 1).setAux .featMet 63 0 2) with now := 1000000001 }), 63, by decide +kernel⟩,
   ⟨({ (base.put 0x5100 3 2 48).setAux .deskew 3 0 1 with viothIn := (wordsOf ((viothWire ⟨0, 4, 0, 7, 1, 2, 63, 1, 5, 0, [1]⟩ false).take 16)).map fun w => (3, w) }), 3, 0, [], by decide +kernel⟩,
   ⟨({ ((base.put 0x5100 3 2 67).setAux .deskew 3 0 1).put 0x5140 2 3 1 with viothIn := (wordsOf (viothWire ⟨0, 4, 0, 7, 1, 2, 2, 1, 5, 0, [1]⟩ false)).map fun w => (3, w) }), 3, 1, 0, [], by decide +kernel⟩,
   ⟨({ ((base.put 0x5100 3 2 67).setAux .deskew 3 0 1).put 0x5140 2 3 1 with viothIn := (wordsOf (((viothWire ⟨0, 4, 0, 7, 1, 2, 2, 1, 5, 0, [1]⟩ true).take 16) ++ [2, 0, 0, 0, 0, 0, 0, 0])).map fun w => (3, w) }), 3, 0, [], by decide +kernel⟩,
   ⟨(base.put 0x5100 3 2 48), 3, 0, ([[[1, 0]]]), [[[]]], [], by decide +kernel⟩,
   ⟨(base.put 0x5100 3 3 1), 3, 7, (2 ^ 64 - 2), by decide +kernel⟩,
   ⟨((base.put 0x2003 47 1 1).put 0x2003 47 2 (256 * 7 + 3)), by decide +kernel⟩,
   ⟨((base.put 0x2003 47 1 2).put 0x2003 47 2 (256 * 7 + 3)), 7, 9, (⟨3, 47, 0x45, 9, 65535, none⟩), by decide +kernel⟩,
   ⟨((base.put 0x2003 47 1 1).put 0x2003 47 2 (256 * 7 + 3)), 7, 9, (⟨3, 47, 0x80, 0, 1, none⟩), by decide +kernel⟩⟩

theorem wit_ClaimAndKnellCommandsComplete :
    (∃ (s : State) (stage inst claim _unit : Nat),
      Up s ∧ stageOk s stage inst = true ∧ claim % 65536 = stageClaim s stage inst ∧ s.aux .engVac stage inst = 1)
    ∧ (∃ (s : State) (stage inst claim _unit : Nat),
      Up s ∧ stageOk s stage inst = true ∧ claimHigher (claim % 65536) (stageClaim s stage inst) = true)
    ∧ (∃ (s : State) (stage inst claim _unit : Nat),
      Up s ∧ stageOk s stage inst = true ∧ claimHigher (claim % 65536) (stageClaim s stage inst) = true)
    ∧ (∃ (s : State) (stage inst claim _unit : Nat),
      Up s ∧ stageOk s stage inst = true ∧ claimHigher (claim % 65536) (stageClaim s stage inst) = true)
    ∧ (∃ (s : State) (stage inst claim _unit : Nat),
      Up s ∧ stageOk s stage inst = true ∧ claimHigher (claim % 65536) (stageClaim s stage inst) = false ∧ ¬(claim % 65536 = stageClaim s stage inst ∧ s.aux .engVac stage inst = 1))
    ∧ (∃ (s : State) (stage inst claim _unit : Nat),
      Up s ∧ stageOk s stage inst = true ∧ claimHigher (claim % 65536) (stageClaim s stage inst) = false ∧ ¬(claim % 65536 = stageClaim s stage inst ∧ s.aux .engVac stage inst = 1))
    ∧ (∃ (s : State) (e : Nat),
      Up s ∧ Objects.engine s.trees e = true ∧ s.get 0x5400 e 2 ≠ 2 ∧ s.get 0x5400 e 2 ≠ 4 ∧ s.get 0x5400 e 2 ≠ 5)
    ∧ (∃ (s : State) (e : Nat),
      Up s ∧ Objects.engine s.trees e = true ∧ s.get 0x5400 e 2 ≠ 2 ∧ s.get 0x5400 e 2 ≠ 4 ∧ s.get 0x5400 e 2 ≠ 5)
    ∧ (∃ (s : State) (e : Nat),
      Up s ∧ Objects.engine s.trees e = true ∧ s.get 0x5400 e 2 ≠ 2 ∧ s.get 0x5400 e 2 ≠ 4 ∧ s.get 0x5400 e 2 ≠ 5)
    ∧ (∃ (s : State) (e : Nat),
      Up s ∧ Objects.engine s.trees e = true ∧ s.get 0x5400 e 2 ≠ 2 ∧ s.get 0x5400 e 2 ≠ 4 ∧ s.get 0x5400 e 2 ≠ 5)
    ∧ (∃ (s : State) (e : Nat),
      Up s ∧ Objects.engine s.trees e = true ∧ s.get 0x5400 e 2 ≠ 2 ∧ s.get 0x5400 e 2 ≠ 4 ∧ s.get 0x5400 e 2 ≠ 5)
    ∧ (∃ (s : State) (e : Nat),
      Up s ∧ Objects.engine s.trees e = true ∧ s.get 0x5400 e 2 ≠ 2 ∧ s.get 0x5400 e 2 ≠ 4 ∧ s.get 0x5400 e 2 ≠ 5)
    ∧ (∃ (s : State) (reader memory word _area flips : Nat),
      let r := readWord memory word flips s
      Up s ∧ Objects.engine s.trees reader = true ∧ memory = 256 + reader ∧ word < 8192 ∧ r.1.bad = true ∧ s.get 0x5400 reader 2 ≠ 2 ∧ s.get 0x5400 reader 2 ≠ 4 ∧ s.get 0x5400 reader 2 ≠ 5)
    ∧ (∃ (s : State) (reader memory word _area flips : Nat),
      let r := readWord memory word flips s
      Up s ∧ Objects.engine s.trees reader = true ∧ ((memory = 256 + reader ∧ word < 8192) ∨ (memory = reader / 16 ∧ memory < 14 ∧ word < 524288)) ∧ r.1.bad = false)
    ∧ (∃ (s : State) (e : Nat),
      Up s ∧ Objects.engine s.trees e = true ∧ s.get 0x5400 e 2 = 1 ∧ s.get 0x5400 e 1 ≠ 0xFF)
    ∧ (∃ (s : State) (acc : Acc) (e : Nat),
      Up s ∧ mayWrite acc 0x5400 e 5 1 s = true ∧ s.get 0x5400 e 2 ≠ 2 ∧ s.get 0x5400 e 2 ≠ 4 ∧ s.get 0x5400 e 2 ≠ 5 ∧ (s.get 0x5400 e 2 ≠ 0 ∨ sealTree s (s.get 0x5400 e 1) = none))
    ∧ (∃ (s : State) (acc : Acc) (e : Nat),
      Up s ∧ mayWrite acc 0x5400 e 5 2 s = true ∧ (s.get 0x5400 e 2 = 3 ∨ s.get 0x5400 e 2 = 4 ∨ (s.get 0x5400 e 2 = 1 ∧ s.get 0x5400 e 1 = 0xFF)))
    ∧ (∃ (s : State) (acc : Acc) (e role : Nat),
      Up s ∧ mayWrite acc 0x5400 e 5 3 s = true ∧ s.get 0x5400 e 2 = 3 ∧ homeRole e = some role ∧ sealTree s e = none)
    ∧ (∃ (s : State) (e role : Nat),
      Up s ∧ Objects.engine s.trees e = true ∧ s.get 0x5400 e 2 = 3 ∧ homeRole e = some role)
    ∧ (∃ (s : State) (e : Nat),
      Up s ∧ Objects.engine s.trees e = true ∧ s.get 0x5400 e 2 = 2)
    ∧ (∃ (s : State) (e : Nat),
      Up s ∧ Objects.engine s.trees e = true ∧ s.get 0x5400 e 2 = 2 ∧ (((List.range 16).find? fun n => s.aux .unserved (e / 16 * 16 + n) != 0 && s.aux .knellBy (e / 16 * 16 + n) == e + 1) = none) ∧ (∀ role ∈ homeRole e, roleSpares role ≠ []))
    ∧ (∃ (s : State) (e : Nat),
      Up s ∧ Objects.engine s.trees e = true ∧ s.get 0x5400 e 2 = 2 ∧ (((List.range 16).find? fun n => s.aux .unserved (e / 16 * 16 + n) != 0 && s.aux .knellBy (e / 16 * 16 + n) == e + 1) = none) ∧ (∀ role ∈ homeRole e, roleSpares role ≠ []))
    ∧ (∃ (s : State) (acc : Acc) (e : Nat),
      Up s ∧ mayWrite acc 0x5400 e 5 1 s = true ∧ s.get 0x5400 e 2 = 0 ∧ (sealTree s (s.get 0x5400 e 1)).isSome = true)
    ∧ (∃ (s : State) (acc : Acc) (e : Nat),
      Up s ∧ mayWrite acc 0x5400 e 5 3 s = true ∧ s.get 0x5400 e 2 = 3 ∧ (homeRole e).isSome = true ∧ (sealTree s e).isSome = true)
    ∧ (∃ (s : State) (acc : Acc) (e : Nat),
      let st := s.get 0x5400 e 2
      Up s ∧ mayWrite acc 0x5400 e 5 1 s = true ∧ (st = 2 ∨ st = 4 ∨ st = 5))
    ∧ (∃ (s : State) (acc : Acc) (e : Nat),
      let st := s.get 0x5400 e 2
      Up s ∧ mayWrite acc 0x5400 e 5 2 s = true ∧ st ≠ 3 ∧ st ≠ 4 ∧ ¬(st = 1 ∧ s.get 0x5400 e 1 = 0xFF))
    ∧ (∃ (s : State) (acc : Acc) (e : Nat),
      Up s ∧ mayWrite acc 0x5400 e 5 3 s = true ∧ (s.get 0x5400 e 2 ≠ 3 ∨ homeRole e = none))
    ∧ (∃ (s : State) (tree lane e : Nat) (g : GrantMap),
      let next := frameAdd (frameNow s tree) 1
      let g' := ({ g with entries := g.entries.filter fun x => !drains s tree x } : GrantMap)
      let role := tree / 4 * 16 + tree % 4
      Up s ∧ tree < s.trees ∧ lane < 2 ∧ s.aux .engVac 0 tree = 1 ∧ (s.now : Int) ≤ frameStart s tree + 117000 ∧ mapOf s.staged tree lane next = some g ∧ carrierOf s role = some e ∧ s.aux .safePoint e = 1 ∧ e ≠ role ∧ s.aux .safePoint role ≠ 2) :=
  ⟨⟨((base.setAux .engVac 4 0 1).setAux .engClaim 4 0 9), 4, 0, 65545, 1024, by decide +kernel⟩,
   ⟨base, 0, 47, 32767, 5, by decide +kernel⟩,
   ⟨(base.setAux .engClaim 2 47 65535), 2, 47, 0, 5, by decide +kernel⟩,
   ⟨({ base with staged := [⟨47, 0, 9, []⟩, ⟨46, 0, 9, []⟩] }), 0, 47, 32767, 5, by decide +kernel⟩,
   ⟨base, 0, 47, 32768, 5, by decide +kernel⟩,
   ⟨base, 1, 12, 0, 5, by decide +kernel⟩,
   ⟨base, 215, by decide +kernel⟩,
   ⟨(base.setAux .knellAt 0 2 1), 0, by decide +kernel⟩,
   ⟨base, 215, by decide +kernel⟩,
   ⟨(base.setAux .knellAt 0 2 1), 0, by decide +kernel⟩,
   ⟨base, 215, by decide +kernel⟩,
   ⟨(base.setAux .knellAt 0 2 1), 0, by decide +kernel⟩,
   ⟨base, 215, 471, 8191, 0, 3, by decide +kernel⟩,
   ⟨base, 215, 13, 524287, 0, 1, by decide +kernel⟩,
   ⟨((base.put 0x5400 4 2 1).put 0x5400 4 1 3), 4, by decide +kernel⟩,
   ⟨base, own, 0, by decide +kernel⟩,
   ⟨(base.put 0x5400 0 2 4), own, 0, by decide +kernel⟩,
   ⟨(((base.put 0x5400 0 2 3).put 0x5400 4 1 0).put 0x5400 4 2 0), own, 0, 0, by decide +kernel⟩,
   ⟨(((base.put 0x5400 0 2 3).put 0x5400 4 1 0).put 0x5400 4 2 0), 0, 0, by decide +kernel⟩,
   ⟨(base.put 0x5400 215 2 2), 215, by decide +kernel⟩,
   ⟨(base.put 0x5400 0 2 2), 0, by decide +kernel⟩,
   ⟨(base.put 0x5400 4 2 2), 4, by decide +kernel⟩,
   ⟨(base.put 0x2000 0 1 2), own, 0, by decide +kernel⟩,
   ⟨((base.put 0x5400 0 2 3).put 0x2000 0 1 2), own, 0, by decide +kernel⟩,
   ⟨(base.put 0x5400 0 2 4), own, 0, by decide +kernel⟩,
   ⟨base, own, 0, by decide +kernel⟩,
   ⟨base, own, 0, by decide +kernel⟩,
   ⟨({ ((((((base.put 0x2000 47 1 2).setAux .engVac 0 47 1).put 0x5400 179 1 255).put 0x5400 179 2 2).put 0x5400 180 1 179).put 0x5400 180 2 0).setAux .safePoint 180 0 1 with staged := [⟨47, 0, 1, []⟩] }), 47, 0, 180, (⟨47, 0, 1, []⟩), by decide +kernel⟩⟩

theorem wit_UnitAndReleaseCommandsComplete :
    (∃ (s : State) (u : Nat),
      Up s ∧ u < 12 ∧ s.get 0x5460 u 1 ≠ 2 ∧ (u < 6 ∨ ((s.recirc.any fun x => x.carrier == u) = false ∧ (s.pipeIn.any fun x => x.carrier == u) = false)))
    ∧ (∃ (s : State) (u : Nat),
      Up s ∧ u < 12 ∧ s.get 0x5460 u 1 ≠ 2 ∧ (u < 6 ∨ ((s.recirc.any fun x => x.carrier == u) = false ∧ (s.pipeIn.any fun x => x.carrier == u) = false)))
    ∧ (∃ (s : State) (p : Nat),
      Up s ∧ p < 6 ∧ s.get 0x5460 p 1 = 2 ∧ (((s.pipeIn ++ s.recirc).any fun x => x.pipe == p) = false))
    ∧ (∃ (s : State) (acc : Acc) (pl : Nat),
      Up s ∧ mayWrite acc 0x5480 pl 5 1 s = true ∧ frozen s pl = true)
    ∧ (∃ (s : State) (acc : Acc) (pl : Nat),
      Up s ∧ mayWrite acc 0x5480 pl 5 1 s = true ∧ frozen s pl = true)
    ∧ (∃ (s : State) (acc : Acc) (r : Nat),
      Up s ∧ mayWrite acc 0x4C10 r 0x0A 1 s = true ∧ s.get 0x4C10 r 9 = 1)
    ∧ (∃ (s : State) (acc : Acc) (r : Nat),
      Up s ∧ mayWrite acc 0x4C10 r 0x0A 1 s = true ∧ s.get 0x4C10 r 9 = 1)
    ∧ (∃ (s : State) (r ptr : Nat),
      Up s ∧ Objects.requesterOk s.trees r = true ∧ s.get 0x4C10 r 9 ≠ 1 ∧ returnCause s r ptr = 0)
    ∧ (∃ (s : State) (r ptr : Nat),
      Up s ∧ Objects.requesterOk s.trees r = true ∧ s.get 0x4C10 r 9 ≠ 1 ∧ returnCause s r ptr ≠ 0) :=
  ⟨⟨({ base with recirc := [⟨true, 0, 1, [], 5, 5, 0, 0, []⟩, ⟨true, 0, 1, [], 4, 4, 0, 0, []⟩] }), 5, by decide +kernel⟩,
   ⟨base, 11, by decide +kernel⟩,
   ⟨(base.put 0x5460 5 1 2), 5, by decide +kernel⟩,
   ⟨(freeze 0 2 5 base), own, 0, by decide +kernel⟩,
   ⟨((base.put 0x5480 343 1 1).put 0x1120 63 1 3), own, 343, by decide +kernel⟩,
   ⟨((base.put 0x4C10 527 9 1).setAux .bufWord 0 5 (mkOwn 527 1 0)), own, 527, by decide +kernel⟩,
   ⟨((freeze 0 2 5 base).setAux .bufWord 0 5 (mkOwn 256 1 0)), own, 256, by decide +kernel⟩,
   ⟨(base.setAux .bufWord 3 65535 (mkOwn 471 1 0)), 471, (pointerOf 3 65535), by decide +kernel⟩,
   ⟨base, 471, (pointerOf 3 65535), by decide +kernel⟩⟩

theorem wit_ProtectionCommandsComplete :
    (∃ (s : State) (acc : Acc) (tree pl : Nat) (_far : FarPort),
      Up s ∧ mayWrite acc 0x2003 tree 3 1 s = true ∧ inPair s tree = false ∧ s.get 0x2003 tree 2 ≠ 0xFFFF ∧ s.get 0x2003 tree 2 / 256 = member s ∧ s.get 0x2003 tree 2 % 256 = pl ∧ pairFits s tree pl = true ∧ inPair s pl = false)
    ∧ (∃ (s : State) (acc : Acc) (tree : Nat) (far : FarPort),
      Up s ∧ mayWrite acc 0x2003 tree 3 1 s = true ∧ inPair s tree = false ∧ s.get 0x2003 tree 2 ≠ 0xFFFF ∧ s.get 0x2003 tree 2 / 256 ≠ member s ∧ s.get 0x2003 tree 2 / 256 < 64 ∧ s.get 0x2003 tree 2 % 256 < 48 ∧ farFits s tree far = true)
    ∧ (∃ (s : State) (acc : Acc) (tree : Nat) (far : FarPort),
      Up s ∧ mayWrite acc 0x2003 tree 3 1 s = true ∧ inPair s tree = false ∧ s.get 0x2003 tree 2 ≠ 0xFFFF ∧ s.get 0x2003 tree 2 / 256 ≠ member s ∧ s.get 0x2003 tree 2 / 256 < 64 ∧ s.get 0x2003 tree 2 % 256 < 48 ∧ farFits s tree far = true)
    ∧ (∃ (s : State) (acc : Acc) (tree : Nat) (far : FarPort),
      let w := s.get 0x2003 tree 2
      Up s ∧ mayWrite acc 0x2003 tree 3 1 s = true ∧ inPair s tree = false ∧ (w = 0xFFFF ∨ (w ≠ 0xFFFF ∧ w / 256 = member s ∧ pairFits s tree (w % 256) = false) ∨ (w ≠ 0xFFFF ∧ w / 256 ≠ member s ∧ (64 ≤ w / 256 ∨ 48 ≤ w % 256 ∨ farFits s tree far = false))))
    ∧ (∃ (s : State) (acc : Acc) (tree : Nat) (far : FarPort),
      let w := s.get 0x2003 tree 2
      Up s ∧ mayWrite acc 0x2003 tree 3 1 s = true ∧ inPair s tree = false ∧ (w = 0xFFFF ∨ (w ≠ 0xFFFF ∧ w / 256 = member s ∧ pairFits s tree (w % 256) = false) ∨ (w ≠ 0xFFFF ∧ w / 256 ≠ member s ∧ (64 ≤ w / 256 ∨ 48 ≤ w % 256 ∨ farFits s tree far = false))))
    ∧ (∃ (s : State) (acc : Acc) (tree : Nat),
      Up s ∧ mayWrite acc 0x2003 tree 3 0 s = true)
    ∧ (∃ (s : State) (tree : Nat),
      Up s ∧ protRole s tree = 2 ∧ s.get 0x2003 tree 5 = 1 ∧ standbyFit s tree = false)
    ∧ (∃ (s : State) (tree pl _took : Nat),
      Up s ∧ protRole s tree = 1 ∧ s.islandUp (16 + tree) = false ∧ lockedOut s tree = false ∧ localPartner s tree = some pl ∧ pl ≠ tree ∧ protRole s pl = 2)
    ∧ (∃ (s : State) (tree pl _took : Nat),
      Up s ∧ protRole s tree = 1 ∧ s.get 0x2003 tree 9 ≤ s.aux .silentRun tree ∧ termsIn s tree 3 ≠ [] ∧ lockedOut s tree = false ∧ localPartner s tree = some pl ∧ pl ≠ tree ∧ protRole s pl = 2)
    ∧ (∃ (s : State) (tree pl _took : Nat),
      Up s ∧ protRole s tree = 1 ∧ s.get 0x2003 tree 9 ≤ s.aux .silentRun tree ∧ termsIn s tree 3 ≠ [] ∧ lockedOut s tree = false ∧ localPartner s tree = some pl ∧ pl ≠ tree ∧ protRole s pl = 2)
    ∧ (∃ (s : State) (tree _took : Nat) (far : Nat × Nat),
      Up s ∧ remotePartner s tree = some far ∧ protRole s tree = 2 ∧ lockedOut s tree = false)
    ∧ (∃ (s : State) (acc : Acc) (tree pl _took : Nat),
      Up s ∧ mayWrite acc 0x2003 tree 7 1 s = true ∧ localPartner s tree = some pl ∧ pl ≠ tree ∧ (protRole s tree = 1 ∨ protRole s tree = 2) ∧ protRole s pl = 3 - protRole s tree)
    ∧ (∃ (s : State) (acc : Acc) (tree pl _took : Nat),
      Up s ∧ mayWrite acc 0x2003 tree 7 1 s = true ∧ localPartner s tree = some pl ∧ pl ≠ tree ∧ (protRole s tree = 1 ∨ protRole s tree = 2) ∧ protRole s pl = 3 - protRole s tree)
    ∧ (∃ (s : State) (tree : Nat),
      Up s ∧ s.aux .resumeLeft tree ≠ 0)
    ∧ (∃ (s : State) (tree _took : Nat),
      Up s ∧ (lockedOut s tree = true ∨ canSwitch s tree = false ∨ (protRole s tree ≠ 1 ∨ s.islandUp (16 + tree) = true)))
    ∧ (∃ (s : State) (tree _took : Nat),
      Up s ∧ (lockedOut s tree = true ∨ canSwitch s tree = false ∨ protRole s tree ≠ 1 ∨ s.aux .silentRun tree < s.get 0x2003 tree 9 ∨ termsIn s tree 3 = []))
    ∧ (∃ (s : State) (acc : Acc) (tree _took : Nat),
      Up s ∧ mayWrite acc 0x2003 tree 7 1 s = true ∧ canSwitch s tree = false)
    ∧ (∃ (s : State) (acc : Acc) (tree _took : Nat) (far : Nat × Nat),
      Up s ∧ mayWrite acc 0x2003 tree 7 1 s = true ∧ remotePartner s tree = some far ∧ protRole s tree = 1 ∧ canSwitch s tree = true)
    ∧ (∃ (s : State) (tree _took : Nat),
      Up s ∧ s.aux .resumeLeft tree = 0) :=
  ⟨⟨(base.put 0x2003 47 2 3), own, 47, 3, noFar, by decide +kernel⟩,
   ⟨(base.put 0x2003 47 2 (256 * 7 + 3)), own, 47, (⟨base.get 0x2001 47 1, base.get 0x2001 47 2, base.get 0x2000 47 3, base.get 0x2000 47 4, 0, 0, 0, 0, 0⟩), by decide +kernel⟩,
   ⟨((base.put 0x2003 47 2 (256 * 7 + 3)).setAux .farSig 47 0 64), own, 47, (⟨base.get 0x2001 47 1, base.get 0x2001 47 2, base.get 0x2000 47 3, base.get 0x2000 47 4, 0, 0, 0, 0, 0⟩), by decide +kernel⟩,
   ⟨(base.put 0x2003 47 2 47), own, 47, noFar, by decide +kernel⟩,
   ⟨(base.put 0x2003 47 2 (256 * 64)), own, 47, noFar, by decide +kernel⟩,
   ⟨((((base.put 0x2003 47 2 3).put 0x2003 47 1 2).put 0x2003 3 2 47).put 0x2003 3 1 1), own, 47, by decide +kernel⟩,
   ⟨((base.put 0x2003 47 1 2).put 0x2003 47 5 1), 47, by decide +kernel⟩,
   ⟨(((((base.put 0x2003 47 2 3).put 0x2003 47 1 1).put 0x2003 3 2 47).put 0x2003 3 1 2).put 0x1051 63 2 1), 47, 3, (2 ^ 32), by decide +kernel⟩,
   ⟨((((((base.put 0x2003 47 2 3).put 0x2003 47 1 1).put 0x2003 3 2 47).put 0x2003 3 1 2).put 0x3000 (512 * 47 + 511) 4 3).setAux .silentRun 47 0 255), 47, 3, 5, by decide +kernel⟩,
   ⟨(((((((base.put 0x2003 47 2 3).put 0x2003 47 1 1).put 0x2003 3 2 47).put 0x2003 3 1 2).put 0x3000 (512 * 47 + 511) 4 3).setAux .silentRun 47 0 255).put 0x5E10 47 8 1), 47, 3, 5, by decide +kernel⟩,
   ⟨((base.put 0x2003 47 1 2).put 0x2003 47 2 (256 * 7 + 3)), 47, 5, ((7, 3)), by decide +kernel⟩,
   ⟨(((((base.put 0x2003 47 2 3).put 0x2003 47 1 2).put 0x2003 3 2 47).put 0x2003 3 1 1).put 0x2003 47 8 1), own, 47, 3, 5, by decide +kernel⟩,
   ⟨(((((base.put 0x2003 47 2 3).put 0x2003 47 1 1).put 0x2003 3 2 47).put 0x2003 3 1 2).put 0x2003 47 8 1), own, 47, 3, 5, by decide +kernel⟩,
   ⟨((base.setAux .resumeLeft 47 0 1).put 0x3000 (512 * 47 + 511) 4 3), 47, by decide +kernel⟩,
   ⟨base, 47, 5, by decide +kernel⟩,
   ⟨base, 47, 5, by decide +kernel⟩,
   ⟨base, own, 47, 5, by decide +kernel⟩,
   ⟨((base.put 0x2003 47 1 1).put 0x2003 47 2 (256 * 7 + 3)), own, 47, 5, ((7, 3)), by decide +kernel⟩,
   ⟨base, 47, 5, by decide +kernel⟩⟩

theorem wit_TreeLaneCommandsComplete :
    (∃ (s : State) (acc : Acc) (tree : Nat),
      Up s ∧ mayWrite acc 0x2000 tree 2 1 s = true ∧ bit 7 (s.get 0x5E01 tree 1) = true ∧ laneState s tree 0 = 0)
    ∧ (∃ (s : State) (acc : Acc) (tree : Nat),
      Up s ∧ mayWrite acc 0x2002 tree 2 1 s = true ∧ bit 7 (s.get 0x5E01 tree 1) = true ∧ bit 6 (s.get 0x5E01 tree 1) = true ∧ laneState s tree 1 = 0)
    ∧ (∃ (s : State) (acc : Acc) (tree : Nat),
      Up s ∧ mayWrite acc 0x2000 tree 2 0 s = true ∧ laneState s tree 0 = 2)
    ∧ (∃ (s : State) (acc : Acc) (tree : Nat),
      Up s ∧ mayWrite acc 0x2000 tree 2 0 s = true ∧ laneState s tree 0 = 2)
    ∧ (∃ (s : State) (acc : Acc) (tree : Nat),
      Up s ∧ mayWrite acc 0x2002 tree 2 0 s = true ∧ laneState s tree 1 = 2)
    ∧ (∃ (s : State) (tree lane : Nat),
      Up s ∧ lane ≤ 1 ∧ laneState s tree lane = 1 ∧ s.aux .drainOver tree lane = 0)
    ∧ (∃ (s : State) (tree lane : Nat),
      Up s ∧ lane ≤ 1 ∧ laneState s tree lane = 1 ∧ (waitingFrames s tree lane = 0 ∨ s.aux .drainOver tree lane = 1))
    ∧ (∃ (s : State) (tree lane : Nat),
      Up s ∧ lane ≤ 1 ∧ laneState s tree lane = 1 ∧ (waitingFrames s tree lane = 0 ∨ s.aux .drainOver tree lane = 1))
    ∧ (∃ (s : State) (tree : Nat) (_runs : List (Nat × Nat)) (_levels : List Nat),
      Up s ∧ s.treeUp tree = true ∧ frameNow s tree ≠ s.get 0x2000 tree 5)
    ∧ (∃ (s : State) (tree : Nat) (_runs : List (Nat × Nat)) (_levels : List Nat),
      let n := frameNow s tree
      Up s ∧ s.treeUp tree = true ∧ n ≠ s.get 0x2000 tree 5 ∧ s.aux .mainPend tree = 0 ∧ laneSends s tree 0 n = true)
    ∧ (∃ (s : State) (tree : Nat) (_runs : List (Nat × Nat)) (_levels : List Nat),
      Up s ∧ (s.treeUp tree = false ∨ frameNow s tree = s.get 0x2000 tree 5)) :=
  ⟨⟨(base.put 0x5E01 47 1 128), own, 47, by decide +kernel⟩,
   ⟨(base.put 0x5E01 47 1 192), own, 47, by decide +kernel⟩,
   ⟨(base.put 0x2000 47 1 2), own, 47, by decide +kernel⟩,
   ⟨(((base.put 0x2000 47 1 2).setAux .chgState 47 0 2).put 0x3200 47 7 2), own, 47, by decide +kernel⟩,
   ⟨(base.put 0x2002 47 1 2), own, 47, by decide +kernel⟩,
   ⟨({ base.put 0x2002 47 1 1 with downWait := [⟨47, 1, 5, [1, 2, 3], 3, 0, none, 0, 0, false, 0⟩, ⟨47, 0, 5, [1, 2, 3], 3, 0, none, 0, 0, false, 0⟩] }), 47, 1, by decide +kernel⟩,
   ⟨(base.put 0x2000 47 1 1), 47, 0, by decide +kernel⟩,
   ⟨((base.put 0x2002 47 1 1).put 0x3000 (512 * 47 + 9) 4 3 |>.put 0x3000 (512 * 47 + 9) 0x0F 1), 47, 1, by decide +kernel⟩,
   ⟨({ base.setAux .mainPend 47 0 1 with now := 125000 }), 47, [], [], by decide +kernel⟩,
   ⟨({ base.put 0x2000 47 1 2 with now := 125000 }), 47, [], [], by decide +kernel⟩,
   ⟨base, 47, [], [], by decide +kernel⟩⟩

theorem wit_ModeChangeCommandsComplete :
    (∃ (s : State) (acc : Acc) (tree : Nat),
      Up s ∧ mayWrite acc 0x2001 tree 7 1 s = true ∧ s.aux .chgState tree = 0 ∧ laneState s tree 0 = 2 ∧ ¬(s.get 0x2001 tree 3 = 0 ∧ s.get 0x2001 tree 4 = 1) ∧ ¬(s.get 0x2001 tree 3 = s.get 0x2001 tree 1 ∧ s.get 0x2001 tree 4 = s.get 0x2001 tree 2) ∧ (s.get 0x2001 tree 3 = 1 → bit 0 (s.get 0x5E10 tree 6) = true ∧ (mainTerminals s tree).countP (fun n => !capableOf s (s.get 0x2001 tree 4) n) = 0) ∧ ceilDiv (mainTerminals s tree).length 8 + 16 ≤ s.get 0x2001 tree 5)
    ∧ (∃ (s : State) (tree : Nat) (x : Notice),
      Up s ∧ s.aux .chgState tree = 1 ∧ 9 < framesTo (frameNow s tree) (switchFrame s tree) ∧ x ∈ s.notices ∧ x.tree = tree ∧ x.acked = false ∧ x.sent ≠ 0 ∧ 8 ≤ framesTo (x.sent - 1) (frameAdd (frameNow s tree) 1))
    ∧ (∃ (s : State) (tree : Nat) (x : Notice),
      Up s ∧ s.aux .chgState tree = 2 ∧ 1 < framesTo (frameNow s tree) (switchFrame s tree) ∧ x ∈ s.notices ∧ x.tree = tree ∧ x.acked = false ∧ x.sent ≠ 0 ∧ 8 ≤ framesTo (x.sent - 1) (frameAdd (frameNow s tree) 1))
    ∧ (∃ (s : State) (terminal seq : Nat) (cancel : Bool) (x : Notice),
      let tree := terminal / 512
      Up s ∧ (s.aux .chgState tree = (if cancel then 2 else 1)) ∧ laneState s tree 0 ≠ 4 ∧ x ∈ s.notices ∧ x.tree = tree ∧ x.onu = terminal % 512 ∧ x.sent ≠ 0 ∧ x.acked = false ∧ x.seq = seq)
    ∧ (∃ (s : State) (terminal seq : Nat) (cancel : Bool) (x : Notice),
      let tree := terminal / 512
      Up s ∧ (s.aux .chgState tree = (if cancel then 2 else 1)) ∧ laneState s tree 0 ≠ 4 ∧ x ∈ s.notices ∧ x.tree = tree ∧ x.onu = terminal % 512 ∧ x.sent ≠ 0 ∧ x.acked = false ∧ x.seq = seq)
    ∧ (∃ (s : State) (terminal seq : Nat) (_cancel : Bool),
      Up s ∧ termState s terminal = 3 ∧ ((s.notices.any fun x => x.tree == terminal / 512 && x.onu == terminal % 512 && x.seq == seq) = false) ∧ seq ≠ 0)
    ∧ (∃ (s : State) (terminal seq : Nat) (_cancel : Bool),
      Up s ∧ termState s terminal ≠ 3 ∧ ((s.notices.any fun x => x.tree == terminal / 512 && x.onu == terminal % 512 && x.seq == seq) = false))
    ∧ (∃ (s : State) (acc : Acc) (tree : Nat),
      let told := s.notices.filter fun x => x.tree == tree && x.sent != 0
      Up s ∧ mayWrite acc 0x2001 tree 7 0 s = true ∧ s.aux .chgState tree = 1 ∧ ((ceilDiv told.length 8 + 16 : Nat) : Int) ≤ framesTo (frameNow s tree) (switchFrame s tree))
    ∧ (∃ (s : State) (tree : Nat),
      Up s ∧ s.aux .chgState tree = 2 ∧ framesTo (frameNow s tree) (switchFrame s tree) ≤ 0)
    ∧ (∃ (s : State) (tree : Nat),
      Up s ∧ s.aux .chgState tree = 1 ∧ laneState s tree 0 = 3 ∧ framesTo (frameNow s tree) (switchFrame s tree) ≤ 0)
    ∧ (∃ (s : State) (tree : Nat),
      Up s ∧ s.aux .chgState tree = 1 ∧ laneState s tree 0 = 4 ∧ framesTo (frameNow s tree) (newModeFrame s tree) ≤ 0) :=
  ⟨⟨(((((base.put 0x2000 47 1 2).put 0x2001 47 3 1).put 0x2001 47 4 1).put 0x5E10 47 6 1).put 0x2001 47 5 16), own, 47, by decide +kernel⟩,
   ⟨({ (base.setAux .chgState 47 0 1).put 0x2001 47 8 100 with now := 125000 * 10, notices := [⟨47, 5, 2, false, false, 7⟩] }), 47, (⟨47, 5, 2, false, false, 7⟩), by decide +kernel⟩,
   ⟨({ (base.setAux .chgState 47 0 2).put 0x2001 47 8 100 with now := 125000 * 10, notices := [⟨47, 5, 2, false, false, 7⟩] }), 47, (⟨47, 5, 2, false, false, 7⟩), by decide +kernel⟩,
   ⟨({ base.setAux .chgState 47 0 1 with notices := [⟨47, 511, 2, true, false, 7⟩] }), (512 * 47 + 511), 7, false, (⟨47, 511, 2, true, false, 7⟩), by decide +kernel⟩,
   ⟨({ base.setAux .chgState 47 0 2 with notices := [⟨47, 511, 2, true, false, 7⟩] }), (512 * 47 + 511), 7, true, (⟨47, 511, 2, true, false, 7⟩), by decide +kernel⟩,
   ⟨(((((base.put 0x3000 24575 4 3).put 0x3400 49151 1 1).put 0x3400 49151 2 24575).setAux .allocSeq 49151 0 9)), 24575, 9, false, by decide +kernel⟩,
   ⟨base, 24575, 9, true, by decide +kernel⟩,
   ⟨({ ((base.setAux .chgState 47 0 1).put 0x2001 47 8 17).put 0x2000 47 1 3 with notices := [⟨47, 511, 2, true, true, 7⟩, ⟨47, 510, 0, true, false, 0⟩, ⟨4, 1, 0, true, false, 0⟩] }), own, 47, by decide +kernel⟩,
   ⟨({ base.setAux .chgState 47 0 2 with notices := [⟨47, 511, 2, true, true, 7⟩, ⟨47, 510, 3, true, false, 8⟩, ⟨4, 1, 0, true, false, 0⟩] }), 47, by decide +kernel⟩,
   ⟨((base.setAux .chgState 47 0 1).put 0x2000 47 1 3), 47, by decide +kernel⟩,
   ⟨({ ((((base.setAux .chgState 47 0 1).setAux .chgTarget 47 0 3).put 0x2000 47 1 4).put 0x2001 47 0x0B 65535) with notices := [⟨47, 511, 2, true, false, 7⟩] }), 47, by decide +kernel⟩⟩

theorem wit_BurstCommandsComplete :
    (∃ (s : State) (tree frame start _light : Nat) (b : BurstIn) (hit : DelimIn) (_writes : List MemWrite) (_poison : List Poison) (g : Grant) (r : List Grant),
      let fec := s.get (profileIndex 0) (1024 * tree + g.profile) 7 == 1
      Up s ∧ s.treeUp tree = true ∧ laneState s tree 0 ≠ 5 ∧ s.aux .upLane tree 0 ≠ 0 ∧ s.aux .upClosed tree 0 ≠ 1 ∧ burstEntries s tree 0 frame start = g :: r ∧ foundAt s tree 0 frame g.profile b = some hit ∧ headerRight g.onu fec b = true)
    ∧ (∃ (s : State) (tree frame start _light : Nat) (b : BurstIn) (hit : DelimIn) (_writes : List MemWrite) (_poison : List Poison) (g : Grant) (r : List Grant),
      let fec := s.get (profileIndex 0) (1024 * tree + g.profile) 7 == 1
      Up s ∧ s.treeUp tree = true ∧ laneState s tree 0 ≠ 5 ∧ s.aux .upLane tree 0 ≠ 0 ∧ s.aux .upClosed tree 0 ≠ 1 ∧ burstEntries s tree 0 frame start = g :: r ∧ foundAt s tree 0 frame g.profile b = some hit ∧ headerRight g.onu fec b = false)
    ∧ (∃ (s : State) (tree frame start _light : Nat) (b : BurstIn) (_writes : List MemWrite) (_poison : List Poison) (g : Grant) (r : List Grant),
      Up s ∧ s.treeUp tree = true ∧ laneState s tree 0 ≠ 5 ∧ s.aux .upLane tree 0 ≠ 0 ∧ s.aux .upClosed tree 0 ≠ 1 ∧ burstEntries s tree 0 frame start = g :: r ∧ foundAt s tree 0 frame g.profile b = none)
    ∧ (∃ (s : State) (tree frame start _light : Nat) (b : BurstIn) (_writes : List MemWrite) (_poison : List Poison) (g : Grant) (r : List Grant),
      Up s ∧ s.treeUp tree = true ∧ laneState s tree 0 ≠ 5 ∧ s.aux .upLane tree 0 ≠ 0 ∧ s.aux .upClosed tree 0 ≠ 1 ∧ burstEntries s tree 0 frame start = g :: r ∧ foundAt s tree 0 frame g.profile b = none)
    ∧ (∃ (s : State) (tree _frame _start _light : Nat) (b : BurstIn) (writes : List MemWrite) (poison : List Poison) (hit : DelimIn),
      let s1 := overAll poison copyPoison (writeWords writes s)
      Up s ∧ s.treeUp tree = true ∧ laneState s tree 0 = 5 ∧ standbyHit s1 tree b = some hit)
    ∧ (∃ (s : State) (tree frame start _light : Nat) (b : BurstIn) (writes : List MemWrite) (poison : List Poison),
      let s1 := overAll poison copyPoison (writeWords writes s)
      Up s ∧ (s.treeUp tree = false ∨ (laneState s1 tree 0 = 5 ∧ standbyHit s1 tree b = none) ∨ (laneState s1 tree 0 ≠ 5 ∧ (s1.aux .upLane tree 0 = 0 ∨ s1.aux .upClosed tree 0 = 1 ∨ burstEntries s1 tree 0 frame start = []))))
    ∧ (∃ (s : State) (tree frame start : Nat) (b : BurstIn) (hit : DelimIn) (_poison : List Poison) (g : Grant) (r : List Grant),
      let fec := s.get (profileIndex 1) (1024 * tree + g.profile) 7 == 1
      Up s ∧ s.treeUp tree = true ∧ laneState s tree 1 ≠ 5 ∧ s.aux .upLane tree 1 ≠ 0 ∧ s.aux .upClosed tree 1 ≠ 1 ∧ burstEntries s tree 1 frame start = g :: r ∧ foundAt s tree 1 frame g.profile b = some hit ∧ headerRight g.onu fec b = true)
    ∧ (∃ (s : State) (tree frame start : Nat) (b : BurstIn) (hit : DelimIn) (_poison : List Poison) (g : Grant) (r : List Grant),
      let fec := s.get (profileIndex 1) (1024 * tree + g.profile) 7 == 1
      Up s ∧ s.treeUp tree = true ∧ laneState s tree 1 ≠ 5 ∧ s.aux .upLane tree 1 ≠ 0 ∧ s.aux .upClosed tree 1 ≠ 1 ∧ burstEntries s tree 1 frame start = g :: r ∧ foundAt s tree 1 frame g.profile b = some hit ∧ headerRight g.onu fec b = false)
    ∧ (∃ (s : State) (tree frame start : Nat) (b : BurstIn) (_poison : List Poison) (g : Grant) (r : List Grant),
      Up s ∧ s.treeUp tree = true ∧ laneState s tree 1 ≠ 5 ∧ s.aux .upLane tree 1 ≠ 0 ∧ s.aux .upClosed tree 1 ≠ 1 ∧ burstEntries s tree 1 frame start = g :: r ∧ foundAt s tree 1 frame g.profile b = none)
    ∧ (∃ (s : State) (tree _frame _start : Nat) (_b : BurstIn) (_poison : List Poison),
      Up s ∧ s.treeUp tree = true ∧ laneState s tree 1 = 5)
    ∧ (∃ (s : State) (acc : Acc) (tree onu : Nat),
      Up s ∧ mayWrite acc 0x200A tree 1 onu s = true ∧ s.get 0x200A tree 4 ≠ 2 ∧ onu < 512 ∧ termState s (512 * tree + onu) = 3 ∧ laneOf s (512 * tree + onu) = 0)
    ∧ (∃ (s : State) (tree : Nat) (_power : Option Nat),
      Up s ∧ s.get 0x200A tree 4 = 2 ∧ s.aux .sigTrig tree ≠ 0)
    ∧ (∃ (s : State) (tree : Nat) (_power : Option Nat),
      Up s ∧ s.get 0x200A tree 4 = 2 ∧ s.aux .sigTrig tree ≠ 0)
    ∧ (∃ (s : State) (tree : Nat),
      Up s ∧ s.get 0x200A tree 4 = 2 ∧ s.aux .sigTrig tree = 0)
    ∧ (∃ (s : State) (acc : Acc) (tree onu : Nat),
      let o := 1024 * tree + onu
      Up s ∧ mayWrite acc 0x2010 o 8 1 s = true) :=
  ⟨⟨({ (base.put 0x2005 (1024 * 47) 6 2).setAux .upLane 47 0 2 with sentMaps := [⟨47, 0, 9, [⟨511, 77, 100, 0, false, false, 6, 3000, 2000, 5000, false⟩]⟩] }), 47, 9, 3000, 3, (⟨[⟨-5, 2⟩], 3, [], some 511, true, [], [], []⟩), (⟨-5, 2⟩), [], [], (⟨511, 77, 100, 0, false, false, 6, 3000, 2000, 5000, false⟩), [], by decide +kernel⟩,
   ⟨({ (base.put 0x2005 (1024 * 47) 6 2).setAux .upLane 47 0 2 with sentMaps := [⟨47, 0, 9, [⟨511, 77, 100, 0, false, false, 6, 3000, 2000, 5000, false⟩]⟩] }), 47, 9, 3000, 3, (⟨[⟨-5, 2⟩], 3, [], some 7, true, [], [], []⟩), (⟨-5, 2⟩), [], [], (⟨511, 77, 100, 0, false, false, 6, 3000, 2000, 5000, false⟩), [], by decide +kernel⟩,
   ⟨({ base.setAux .upLane 47 0 2 with sentMaps := [⟨47, 0, 9, [⟨511, 77, 100, 0, true, false, 6, 3000, 2000, 5000, false⟩]⟩] }), 47, 9, 3000, 3, (⟨[], 0, [], none, true, [], [], []⟩), [], [], (⟨511, 77, 100, 0, true, false, 6, 3000, 2000, 5000, false⟩), [], by decide +kernel⟩,
   ⟨({ base.setAux .upLane 47 0 2 with sentMaps := [⟨47, 0, 9, [⟨511, 77, 100, 0, true, false, 6, 3000, 2000, 5000, false⟩]⟩] }), 47, 9, 3000, 70000, (⟨[⟨-5, 200⟩], 0, [], none, true, [], [], []⟩), [], [], (⟨511, 77, 100, 0, true, false, 6, 3000, 2000, 5000, false⟩), [], by decide +kernel⟩,
   ⟨(base.put 0x2000 47 1 5), 47, 0, 0, 3, (⟨[⟨-5, 0⟩], 0, [], some 511, true, [], [], []⟩), [], [], (⟨-5, 0⟩), by decide +kernel⟩,
   ⟨base, 47, 0, 0, 3, (⟨[⟨-5, 0⟩], 0, [], some 511, true, [], [], []⟩), [], [], by decide +kernel⟩,
   ⟨({ (base.put 0x2006 (1024 * 47) 6 2).setAux .upLane 47 1 2 with sentMaps := [⟨47, 1, 9, [⟨511, 77, 100, 0, false, false, 6, 3000, 2000, 5000, false⟩]⟩] }), 47, 9, 3000, (⟨[⟨20, 2⟩], 3, [], some 511, true, [], [], []⟩), (⟨20, 2⟩), [], (⟨511, 77, 100, 0, false, false, 6, 3000, 2000, 5000, false⟩), [], by decide +kernel⟩,
   ⟨({ (base.put 0x2006 (1024 * 47) 6 2).setAux .upLane 47 1 2 with sentMaps := [⟨47, 1, 9, [⟨511, 77, 100, 0, false, false, 6, 3000, 2000, 5000, false⟩]⟩] }), 47, 9, 3000, (⟨[⟨20, 2⟩], 3, [], some 7, true, [], [], []⟩), (⟨20, 2⟩), [], (⟨511, 77, 100, 0, false, false, 6, 3000, 2000, 5000, false⟩), [], by decide +kernel⟩,
   ⟨({ base.setAux .upLane 47 1 2 with sentMaps := [⟨47, 1, 9, [⟨511, 77, 100, 0, true, false, 6, 3000, 2000, 5000, false⟩]⟩] }), 47, 9, 3000, (⟨[], 0, [], none, true, [], [], []⟩), [], (⟨511, 77, 100, 0, true, false, 6, 3000, 2000, 5000, false⟩), [], by decide +kernel⟩,
   ⟨(base.put 0x2002 47 1 5), 47, 0, 0, (⟨[⟨-5, 0⟩], 0, [], some 511, true, [], [], []⟩), [], by decide +kernel⟩,
   ⟨(base.put 0x3000 (512 * 47 + 511) 4 3), own, 47, 511, by decide +kernel⟩,
   ⟨(((base.put 0x200A 47 4 2).setAux .sigTrig 47 0 9).put 0x5E10 47 2 1), 47, (some 1234), by decide +kernel⟩,
   ⟨(((base.put 0x200A 47 4 2).setAux .sigTrig 47 0 9).put 0x5E10 47 2 3), 47, none, by decide +kernel⟩,
   ⟨(base.put 0x200A 47 4 2), 47, by decide +kernel⟩,
   ⟨(base.put 0x2010 (1024 * 47 + 511) 7 9), own, 47, 511, by decide +kernel⟩⟩

theorem wit_UpstreamStoreCommandsComplete :
    (∃ (s : State) (tree alloc xgem : Nat) (o : OpenSdu),
      Up s ∧ openSdu s tree alloc xgem = some o)
    ∧ (∃ (s : State) (tree alloc xgem : Nat) (o : OpenSdu),
      Up s ∧ openSdu s tree alloc xgem = some o)
    ∧ (∃ (s : State) (tree : Nat) (r : Record) (_writes : List MemWrite),
      let fill := fillBank s tree
      Up s ∧ (s.coexStage.find? (fun x => x.tree == tree) = some r) ∧ s.aux .fifoDrop tree = 0 ∧ recordWords r.bytes.length + 1 + s.aux .fifoNext tree fill ≤ 8192)
    ∧ (∃ (s : State) (tree : Nat) (r : Record) (_writes : List MemWrite),
      let fill := fillBank s tree
      Up s ∧ (s.coexStage.find? (fun x => x.tree == tree) = some r) ∧ (s.aux .fifoDrop tree ≠ 0 ∨ 8192 < recordWords r.bytes.length + 1 + s.aux .fifoNext tree fill) ∧ bankUnread s tree (1 - fill) = true)
    ∧ (∃ (s : State) (tree : Nat) (_writes : List MemWrite),
      Up s ∧ (s.coexStage.find? (fun x => x.tree == tree) = none))
    ∧ (∃ (s : State) (tree : Nat) (r : Record),
      Up s ∧ s.treeUp tree = true ∧ (s.fifo.find? (fun r => r.tree == tree && r.bank == drainBank s tree) = some r))
    ∧ (∃ (s : State) (tree : Nat) (r : Record),
      Up s ∧ s.treeUp tree = true ∧ (s.fifo.find? (fun r => r.tree == tree && r.bank == drainBank s tree) = some r))
    ∧ (∃ (s : State) (tree : Nat),
      Up s ∧ s.treeUp tree = true ∧ (s.fifo.any (fun r => r.tree == tree) = false))
    ∧ (∃ (s : State) (tree lane : Nat),
      Up s ∧ s.aux .upLane tree lane = 1 ∧ laneState s tree lane = 0 ∧ lane < 2 ∧ laneLeft s tree lane = false)
    ∧ (∃ (s : State) (tree lane : Nat),
      Up s ∧ s.aux .upLane tree lane = 1 ∧ laneState s tree lane = 0 ∧ lane < 2 ∧ laneLeft s tree lane = true)
    ∧ (∃ (s : State) (tree lane : Nat),
      Up s ∧ s.aux .upLane tree lane = 1 ∧ s.aux .upClosed tree lane = 1 ∧ lane < 2) :=
  ⟨⟨({ base with sdus := [⟨47, 1023, 65535, 5, 9, [1, 2], 0, false⟩, ⟨47, 1022, 65535, 5, 9, [1, 2], 0, false⟩] }), 47, 1023, 65535, (⟨47, 1023, 65535, 5, 9, [1, 2], 0, false⟩), by decide +kernel⟩,
   ⟨({ base with sdus := [⟨47, 1023, 65535, 5, 9, [], 0, true⟩] }), 47, 1023, 65535, (⟨47, 1023, 65535, 5, 9, [], 0, true⟩), by decide +kernel⟩,
   ⟨({ base with coexStage := [⟨46, 0, 0, 2, 0, false, 0, [1], 5, 9⟩, ⟨47, 0, 0, 2, 0, false, 0, [1], 5, 9⟩] }), 47, (⟨47, 0, 0, 2, 0, false, 0, [1], 5, 9⟩), [], by decide +kernel⟩,
   ⟨({ base.setAux .fifoNext 47 0 8190 with coexStage := [⟨47, 0, 0, 2, 0, false, 0, [1], 5, 9⟩], fifo := [⟨47, 1, 0, 2, 1, false, 0, [1], 5, 9⟩] }), 47, (⟨47, 0, 0, 2, 0, false, 0, [1], 5, 9⟩), [], by decide +kernel⟩,
   ⟨base, 47, [], by decide +kernel⟩,
   ⟨({ base with fifo := [⟨47, 1, 0, 2, 1, false, 0, [1], 5, 9⟩] }), 47, (⟨47, 1, 0, 2, 1, false, 0, [1], 5, 9⟩), by decide +kernel⟩,
   ⟨({ base with fifo := [⟨47, 1, 0, 2, 1, false, 0, [1], 5, 9⟩] }), 47, (⟨47, 1, 0, 2, 1, false, 0, [1], 5, 9⟩), by decide +kernel⟩,
   ⟨({ base with fifo := [⟨46, 1, 0, 2, 1, false, 0, [1], 5, 9⟩] }), 47, by decide +kernel⟩,
   ⟨((base.setAux .upLane 47 0 1).setAux .upLane 47 1 2), 47, 0, by decide +kernel⟩,
   ⟨({ base.setAux .upLane 47 1 1 with sdus := [⟨47, 1023, 65535, 5, 9, [1, 2], 0, false⟩], coexStage := [⟨47, 0, 0, 2, 0, false, 0, [1], 5, 9⟩] }), 47, 1, by decide +kernel⟩,
   ⟨({ (base.setAux .upLane 47 1 1).setAux .upClosed 47 1 1 with sdus := [⟨47, 1023, 65535, 5, 9, [1, 2], 0, false⟩], coexStage := [⟨47, 0, 0, 2, 0, false, 0, [1], 5, 9⟩] }), 47, 1, by decide +kernel⟩⟩

theorem wit_TerminalStateCommandsComplete :
    (∃ (s : State) (acc : Acc) (n : Nat),
      Up s ∧ mayWrite acc 0x3000 n 1 1 s = true ∧ termState s n = 0 ∧ s.get 0x3000 n 2 ≠ 0 ∧ s.get 0x3102 0 1 < 16384)
    ∧ (∃ (s : State) (acc : Acc) (n : Nat),
      Up s ∧ mayWrite acc 0x3000 n 1 0 s = true ∧ termState s n ≠ 0 ∧ termState s n ≠ 5 ∧ termState s n ≠ 7 ∧ terminalWork s n = true)
    ∧ (∃ (s : State) (acc : Acc) (n : Nat),
      Up s ∧ mayWrite acc 0x3000 n 1 0 s = true ∧ termState s n ≠ 0 ∧ termState s n ≠ 5 ∧ termState s n ≠ 7 ∧ terminalWork s n = false)
    ∧ (∃ (s : State) (acc : Acc) (n : Nat),
      Up s ∧ mayWrite acc 0x3000 n 0x0B 1 s = true ∧ termState s n ≠ 0 ∧ termState s n ≠ 5 ∧ termState s n ≠ 7)
    ∧ (∃ (s : State) (acc : Acc) (n : Nat),
      Up s ∧ mayWrite acc 0x3000 n 0x0B 1 s = true ∧ termState s n ≠ 0 ∧ termState s n ≠ 5 ∧ termState s n ≠ 7)
    ∧ (∃ (s : State) (acc : Acc) (n : Nat),
      Up s ∧ mayWrite acc 0x3000 n 0x0B 1 s = true ∧ termState s n = 5)
    ∧ (∃ (s : State) (n : Nat),
      Up s ∧ termState s n = 7)
    ∧ (∃ (s : State) (n : Nat),
      Up s ∧ termState s n = 7)
    ∧ (∃ (s : State) (acc : Acc) (n : Nat),
      Up s ∧ mayWrite acc 0x3000 n 0x0C 1 s = true ∧ (acc.role = .operator ∨ acc.role = .owner) ∧ termState s n = 6)
    ∧ (∃ (s : State) (n : Nat),
      Up s ∧ termState s n = 3 ∧ s.get 0x3100 (n / 512) 0x13 ≤ s.aux .lossRun n)
    ∧ (∃ (s : State) (n : Nat),
      Up s ∧ termState s n = 4)
    ∧ (∃ (s : State) (n : Nat),
      let lane := laneOf s n
      Up s ∧ termState s n = 4 ∧ s.aux .keepAlive n = 0 ∧ ((s.beats.any fun b => b.tree == n / 512 && b.lane == lane && b.kind == 2 && b.terminal == n) = false))
    ∧ (∃ (s : State) (n path : Nat) (phase : Int),
      Up s ∧ termState s n = 4 ∧ (path = 0 ∨ s.aux .beatOut n ≠ 0) ∧ phase.natAbs < s.get 0x3100 (n / 512) 0x18)
    ∧ (∃ (s : State) (n : Nat),
      Up s ∧ termState s n = 4)
    ∧ (∃ (s : State) (n path : Nat) (phase : Int),
      let corr := laneCorrection (laneOf s n) phase
      let eqd := (s.get 0x3000 n 6 : Int) - corr
      Up s ∧ termState s n = 4 ∧ (path = 0 ∨ s.aux .beatOut n ≠ 0) ∧ s.get 0x3100 (n / 512) 0x18 ≤ phase.natAbs ∧ corr ≠ 0 ∧ 0 ≤ eqd ∧ eqd ≤ (teqd s (n / 512) : Int))
    ∧ (∃ (s : State) (n path : Nat) (phase : Int),
      let corr := laneCorrection (laneOf s n) phase
      let eqd := (s.get 0x3000 n 6 : Int) - corr
      Up s ∧ termState s n = 4 ∧ (path = 0 ∨ s.aux .beatOut n ≠ 0) ∧ s.get 0x3100 (n / 512) 0x18 ≤ phase.natAbs ∧ corr ≠ 0 ∧ (eqd < 0 ∨ (teqd s (n / 512) : Int) < eqd))
    ∧ (∃ (s : State) (acc : Acc) (n : Nat),
      Up s ∧ mayWrite acc 0x3000 n 1 1 s = true ∧ 16384 ≤ s.get 0x3102 0 1)
    ∧ (∃ (s : State) (acc : Acc) (n : Nat),
      Up s ∧ mayWrite acc 0x3000 n 1 1 s = true ∧ s.get 0x3102 0 1 < 16384 ∧ termState s n ≠ 7 ∧ (termState s n ≠ 0 ∨ s.get 0x3000 n 2 = 0))
    ∧ (∃ (s : State) (n : Nat),
      Up s ∧ termState s n ≠ 4) :=
  ⟨⟨(base.put 0x3000 24575 2 77), own, 24575, by decide +kernel⟩,
   ⟨({ base.put 0x3000 24575 4 3 with fifo := [⟨47, 1, 0, 2, 1, false, 0, [1], 5, 511⟩] }), own, 24575, by decide +kernel⟩,
   ⟨(base.put 0x3000 24575 4 3), own, 24575, by decide +kernel⟩,
   ⟨(base.put 0x3000 24575 4 3), own, 24575, by decide +kernel⟩,
   ⟨({ base.put 0x3000 24575 4 3 with fifo := [⟨47, 1, 0, 2, 1, false, 0, [1], 5, 511⟩] }), own, 24575, by decide +kernel⟩,
   ⟨(base.put 0x3000 24575 4 5), own, 24575, by decide +kernel⟩,
   ⟨({ (base.put 0x3000 24575 4 7).setAux .drainTo 24575 0 2 with fifo := [⟨47, 1, 0, 2, 1, false, 0, [1], 5, 511⟩] }), 24575, by decide +kernel⟩,
   ⟨({ (base.put 0x3000 24575 4 7).setAux .drainTo 24575 0 1 with fifo := [⟨47, 1, 0, 2, 1, false, 0, [1], 5, 511⟩] }), 24575, by decide +kernel⟩,
   ⟨(base.put 0x3000 24575 4 6 |>.put 0x3000 24575 0x0A 1), own, 24575, by decide +kernel⟩,
   ⟨((base.put 0x3000 24575 4 3).setAux .lossRun 24575 0 255), 24575, by decide +kernel⟩,
   ⟨((base.put 0x3000 24575 4 4).setAux .keepAlive 24575 0 1), 24575, by decide +kernel⟩,
   ⟨(base.put 0x3000 24575 4 4), 24575, by decide +kernel⟩,
   ⟨((raise 1030 24575 1 0 (base.put 0x3000 24575 4 4)).put 0x3000 24575 6 5000), 24575, 0, -1, by decide +kernel⟩,
   ⟨(base.put 0x3000 24575 4 4), 24575, by decide +kernel⟩,
   ⟨((base.put 0x3000 24575 4 4).put 0x3000 24575 6 5000), 24575, 0, 300, by decide +kernel⟩,
   ⟨((base.put 0x3000 24575 4 4).put 0x3000 24575 6 50), 24575, 0, 300, by decide +kernel⟩,
   ⟨(base.put 0x3102 0 1 16384), own, 24575, by decide +kernel⟩,
   ⟨base, own, 24575, by decide +kernel⟩,
   ⟨base, 24575, by decide +kernel⟩⟩

theorem wit_ActivationCommandsComplete :
    (∃ (s : State) (tree lane serial n : Nat) (_phase : Int),
      Up s ∧ s.aux .discOut tree lane ≠ 0 ∧ serialHolder s tree serial = some n ∧ termState s n = 1)
    ∧ (∃ (s : State) (tree lane serial k : Nat) (_phase : Int),
      Up s ∧ s.aux .discOut tree lane ≠ 0 ∧ serialHolder s tree serial = none ∧ s.get 0x3100 tree 1 ≠ 0 ∧ freeTerminal s tree = some k ∧ s.get 0x3102 0 1 < 16384)
    ∧ (∃ (s : State) (tree lane serial : Nat) (_phase : Int),
      Up s ∧ s.aux .discOut tree lane ≠ 0 ∧ serialHolder s tree serial = none ∧ s.get 0x3100 tree 1 = 0)
    ∧ (∃ (s : State) (n : Nat) (_phase : Int),
      Up s ∧ termState s n = 2 ∧ s.aux .beatOut n ≠ 0)
    ∧ (∃ (s : State) (n : Nat),
      Up s ∧ termState s n = 2 ∧ s.aux .beatOut n ≠ 0 ∧ s.aux .attempts n + 1 < s.get 0x3100 (n / 512) 0x14)
    ∧ (∃ (s : State) (n : Nat),
      Up s ∧ termState s n = 2 ∧ s.aux .beatOut n ≠ 0 ∧ s.get 0x3100 (n / 512) 0x14 ≤ s.aux .attempts n + 1)
    ∧ (∃ (s : State) (n reg : Nat),
      Up s ∧ termState s n = 3 ∧ (s.get 0x3000 n 3 = 0 ∨ s.get 0x3000 n 3 = reg))
    ∧ (∃ (s : State) (n reg : Nat),
      Up s ∧ termState s n = 3 ∧ s.get 0x3000 n 3 ≠ 0 ∧ s.get 0x3000 n 3 ≠ reg)
    ∧ (∃ (s : State) (n : Nat),
      Up s ∧ s.aux .regTries n ≠ 0 ∧ s.aux .regTries n < 3)
    ∧ (∃ (s : State) (n : Nat),
      Up s ∧ 3 ≤ s.aux .regTries n ∧ termState s n = 3)
    ∧ (∃ (s : State) (n : Nat) (content : List Nat),
      Up s ∧ s.aux .capTries n ≠ 0 ∧ s.aux .capSeq n ≠ 0 ∧ content.length = 36)
    ∧ (∃ (s : State) (n : Nat) (content : List Nat),
      Up s ∧ s.aux .capTries n ≠ 0 ∧ s.aux .capSeq n ≠ 0 ∧ content.length = 36)
    ∧ (∃ (s : State) (n : Nat) (head content check : List Nat),
      let bytes := head ++ content ++ check
      Up s ∧ (bytes.getD 2 0 ≠ 0xE3 ∨ bytes.length ≠ 48 ∨ s.aux .capTries n = 0 ∨ s.aux .capSeq n = 0 ∨ bytes.getD 3 0 ≠ s.aux .capSeq n))
    ∧ (∃ (s : State) (n : Nat),
      Up s ∧ s.aux .capTries n ≠ 0 ∧ s.aux .capTries n < s.get 0x3100 (n / 512) 0x1A)
    ∧ (∃ (s : State) (n : Nat),
      Up s ∧ s.aux .capTries n ≠ 0 ∧ s.get 0x3100 (n / 512) 0x1A ≤ s.aux .capTries n)
    ∧ (∃ (s : State) (n onu : Nat) (_phase : Int),
      Up s ∧ (termState s n ≠ 2 ∨ s.aux .beatOut n = 0 ∨ onu ≠ n % 512))
    ∧ (∃ (s : State) (n : Nat),
      Up s ∧ (termState s n ≠ 2 ∨ s.aux .beatOut n = 0))
    ∧ (∃ (s : State) (n _reg : Nat),
      Up s ∧ termState s n ≠ 3) :=
  ⟨⟨(((base.setAux .discOut 47 1 1).put 0x3000 24575 2 77).put 0x3000 24575 4 1), 47, 1, 77, 24575, -5000, by decide +kernel⟩,
   ⟨((base.setAux .discOut 47 1 1).put 0x3100 47 1 1), 47, 1, 77, 0, -5000, by decide +kernel⟩,
   ⟨((base.setAux .discOut 47 1 1).put 0x3100 47 1 0), 47, 1, 77, -5000, by decide +kernel⟩,
   ⟨((base.put 0x3000 24575 4 2).setAux .beatOut 24575 0 1), 24575, -5000, by decide +kernel⟩,
   ⟨((base.put 0x3000 24575 4 2).setAux .beatOut 24575 0 1), 24575, by decide +kernel⟩,
   ⟨(((base.put 0x3000 24575 4 2).setAux .beatOut 24575 0 1).setAux .attempts 24575 0 9), 24575, by decide +kernel⟩,
   ⟨((base.put 0x3000 24575 4 3).put 0x3000 24575 3 9), 24575, 9, by decide +kernel⟩,
   ⟨((base.put 0x3000 24575 4 3).put 0x3000 24575 3 9), 24575, 8, by decide +kernel⟩,
   ⟨(base.setAux .regTries 24575 0 2), 24575, by decide +kernel⟩,
   ⟨((base.setAux .regTries 24575 0 3).put 0x3000 24575 4 3), 24575, by decide +kernel⟩,
   ⟨((base.setAux .capTries 24575 0 2).setAux .capSeq 24575 0 9), 24575, ([1, 255] ++ List.replicate 34 0), by decide +kernel⟩,
   ⟨(((base.setAux .capTries 24575 0 2).setAux .capSeq 24575 0 255).put 0x3000 24575 4 3), 24575, ([1, 2] ++ List.replicate 34 0), by decide +kernel⟩,
   ⟨base, 24575, [], [], [], by decide +kernel⟩,
   ⟨(base.setAux .capTries 24575 0 1), 24575, by decide +kernel⟩,
   ⟨(base.setAux .capTries 24575 0 10), 24575, by decide +kernel⟩,
   ⟨(base.put 0x3000 24575 4 2), 24575, 511, -5000, by decide +kernel⟩,
   ⟨base, 24575, by decide +kernel⟩,
   ⟨base, 24575, 8, by decide +kernel⟩⟩

theorem wit_RestBeatCommandsComplete :
    (∃ (s : State) (tree lane : Nat) (b : Beat),
      let m := nextBuild s tree lane
      Up s ∧ (s.beats.filter (fun b => b.tree == tree && b.lane == lane && b.kind != 3 && beatFree s b) = [b]) ∧ b.deferred = false ∧ (beatsHeld s tree lane m = true ∨ beatEntry s b m = none ∨ ∃ e ∈ beatEntry s b m, s.get 0x3100 tree 0x0A * frameBits lane < (beatTime s tree lane (upstreamAt s tree m (mainBits lane e.opens)) + beatStaged s tree lane + (e.closes - e.opens)) * 125))
    ∧ (∃ (s : State) (tree lane : Nat) (b : Beat) (e : MapEntry),
      let m := nextBuild s tree lane
      let s1 := stageEntry tree lane m e s
      Up s ∧ (s.beats.filter (fun b => b.tree == tree && b.lane == lane && b.kind != 3 && beatFree s b) = [b]) ∧ beatsHeld s tree lane m = false ∧ beatEntry s b m = some e ∧ (beatTime s tree lane (upstreamAt s tree m (mainBits lane e.opens)) + beatStaged s tree lane + (e.closes - e.opens)) * 125 ≤ s.get 0x3100 tree 0x0A * frameBits lane ∧ (((mapOf s1.staged tree lane m).map fun g => g.entries.length).getD 0 ≠ ((mapOf s.staged tree lane m).map fun g => g.entries.length).getD 0))
    ∧ (∃ (s : State) (tree lane : Nat),
      Up s ∧ (s.beats.filter (fun b => b.tree == tree && b.lane == lane && b.kind != 3 && beatFree s b) = []))
    ∧ (∃ (s : State) (tree lane : Nat),
      Up s ∧ tree < s.trees ∧ lane < 2 ∧ ((s.beats.any fun b => b.tree == tree && b.lane == lane && b.kind == 0 && b.terminal == 0xFFFF) = false) ∧ s.aux .discOut tree lane ≠ 1 ∧ s.aux .discNext tree lane ≤ s.now + 1 ∧ 2 ≤ laneState s tree lane)
    ∧ (∃ (s : State) (acc : Acc) (tree : Nat),
      Up s ∧ mayWrite acc 0x3100 tree 0x0E 1 s = true ∧ 2 ≤ laneState s tree 0 ∧ laneState s tree 1 < 2 ∧ ((s.beats.any fun b => b.tree == tree && b.lane == 0 && b.kind == 0 && b.terminal == 0xFFFF) = false))
    ∧ (∃ (s : State) (tree lane : Nat) (_light : Bool),
      Up s ∧ s.aux .discOut tree lane = 1 ∧ lane < 2 ∧ s.get 0x3100 tree 0x0B ≠ 0)
    ∧ (∃ (s : State) (tree lane : Nat) (_light : Bool),
      Up s ∧ s.aux .discOut tree lane = 1 ∧ lane < 2 ∧ s.get 0x3100 tree 0x0B ≠ 0)
    ∧ (∃ (s : State) (tree lane : Nat) (_light : Bool),
      Up s ∧ s.aux .discOut tree lane = 1 ∧ lane < 2 ∧ s.get 0x3100 tree 0x0B ≠ 0)
    ∧ (∃ (s : State) (tree lane : Nat) (_light : Bool),
      Up s ∧ s.aux .discOut tree lane ≠ 1)
    ∧ (∃ (s : State) (tree lane : Nat),
      Up s ∧ (s.trees ≤ tree ∨ 2 ≤ lane ∨ laneState s tree lane < 2 ∨ s.aux .discOut tree lane = 1 ∨ s.now + 1 < s.aux .discNext tree lane)) :=
  ⟨⟨({ base with beats := [⟨47, 1, 0, 0xFFFF, false, 0, false, 0⟩, ⟨47, 0, 0, 0xFFFF, false, 0, false, 0⟩] }), 47, 1, (⟨47, 1, 0, 0xFFFF, false, 0, false, 0⟩), by decide +kernel⟩,
   ⟨({ base.put 0x2000 47 1 2 with beats := [⟨47, 0, 0, 0xFFFF, false, 0, false, 0⟩] }), 47, 0, (⟨47, 0, 0, 0xFFFF, false, 0, false, 0⟩), ((beatEntry (base.put 0x2000 47 1 2) ⟨47, 0, 0, 0xFFFF, false, 0, false, 0⟩ 1).getD ⟨0, 0, 0, 0, false, false, 0, none, 0, 0⟩), by decide +kernel⟩,
   ⟨base, 47, 1, by decide +kernel⟩,
   ⟨(base.put 0x2002 47 1 2), 47, 1, by decide +kernel⟩,
   ⟨(base.put 0x2000 47 1 2), own, 47, by decide +kernel⟩,
   ⟨((base.setAux .discOut 47 1 1).setAux .discInt 47 0 5000), 47, 1, true, by decide +kernel⟩,
   ⟨((base.setAux .discOut 47 0 1).put 0x3100 47 0x0D 5000), 47, 0, false, by decide +kernel⟩,
   ⟨(((base.setAux .discOut 47 0 1).setAux .discHeard 47 0 1).put 0x3100 47 0x0D 5000), 47, 0, false, by decide +kernel⟩,
   ⟨(base.setAux .discOut 47 0 2), 47, 0, true, by decide +kernel⟩,
   ⟨base, 47, 1, by decide +kernel⟩⟩

theorem wit_MufflingCommandsComplete :
    (∃ (s : State) (acc : Acc) (tree : Nat),
      Up s ∧ mayWrite acc 0x3200 tree 9 1 s = true ∧ (s.get 0x3200 tree 7 = 0 ∨ s.get 0x3200 tree 7 = 6) ∧ suspects s tree = [])
    ∧ (∃ (s : State) (acc : Acc) (tree : Nat),
      Up s ∧ mayWrite acc 0x3200 tree 9 1 s = true ∧ (s.get 0x3200 tree 7 = 0 ∨ s.get 0x3200 tree 7 = 6) ∧ suspects s tree ≠ [])
    ∧ (∃ (s : State) (tree v : Nat),
      let n := 512 * tree + v
      Up s ∧ s.get 0x3200 tree 7 = 2 ∧ observed s tree = true ∧ s.get 0x3200 tree 8 = v ∧ s.aux .mufLit tree = 0 ∧ termState s n = 3 ∧ s.aux .heldCmd n = 0)
    ∧ (∃ (s : State) (tree c j : Nat) (rest : List Nat),
      Up s ∧ s.get 0x3200 tree 7 = 2 ∧ observed s tree = true ∧ s.get 0x3200 tree 8 = c ∧ s.aux .mufLit tree = 1 ∧ (probeOf s tree).withhold = j :: rest ∧ j ≠ c)
    ∧ (∃ (s : State) (tree v : Nat),
      let n := 512 * tree + v
      Up s ∧ s.get 0x3200 tree 7 = 3 ∧ observed s tree = true ∧ s.get 0x3200 tree 8 = v ∧ s.aux .mufLit tree = 0 ∧ s.aux .heldCmd n = 0)
    ∧ (∃ (s : State) (tree v : Nat),
      let n := 512 * tree + v
      Up s ∧ s.get 0x3200 tree 7 = 3 ∧ observed s tree = true ∧ s.get 0x3200 tree 8 = v ∧ v < 512 ∧ s.aux .mufLit tree = 1 ∧ termState s n = 5 ∧ s.aux .heldCmd n = 0 ∧ (probeOf s tree).order = [])
    ∧ (∃ (s : State) (tree : Nat),
      Up s ∧ s.get 0x3200 tree 7 = 4 ∧ observed s tree = true ∧ s.aux .mufLit tree = 0)
    ∧ (∃ (s : State) (tree : Nat),
      let last := s.aux .recAt tree
      Up s ∧ s.get 0x3200 tree 7 = 5 ∧ adaptUp s tree = true ∧ (last = 0 ∨ 4 ≤ framesTo (last - 1) (nextBuild s tree 0)) ∧ ((s.beats.any fun b => b.tree == tree && b.kind == 3 && !beatFree s b) = false) ∧ (16 ≤ s.aux .recBeats tree ∨ (s.aux .recBeats tree ≠ 0 ∧ s.aux .recHeard tree ≠ 1 ∧ 1 ≤ s.aux .recEmpty tree)))
    ∧ (∃ (s : State) (tree : Nat),
      let last := s.aux .recAt tree
      Up s ∧ s.get 0x3200 tree 7 = 5 ∧ adaptUp s tree = true ∧ (last = 0 ∨ 4 ≤ framesTo (last - 1) (nextBuild s tree 0)) ∧ ((s.beats.any fun b => b.tree == tree && b.kind == 3) = false) ∧ s.aux .recBeats tree < 16 ∧ (s.aux .recBeats tree = 0 ∨ s.aux .recHeard tree = 1 ∨ s.aux .recEmpty tree = 0) ∧ beatsHeld s tree 0 (nextBuild s tree 0) = true)
    ∧ (∃ (s : State) (tree : Nat) (e : MapEntry),
      let last := s.aux .recAt tree
      let m := nextBuild s tree 0
      let b := (⟨tree, 0, 3, 0xFFFF, false, s.now, false, 0⟩ : Beat)
      let s0 := ({ s with beats := s.beats ++ [b] } : State)
      let s1 := stageEntry tree 0 m e s0
      Up s ∧ s.get 0x3200 tree 7 = 5 ∧ adaptUp s tree = true ∧ (last = 0 ∨ 4 ≤ framesTo (last - 1) (nextBuild s tree 0)) ∧ ((s.beats.any fun b => b.tree == tree && b.kind == 3) = false) ∧ s.aux .recBeats tree < 16 ∧ (s.aux .recBeats tree = 0 ∨ s.aux .recHeard tree = 1 ∨ s.aux .recEmpty tree = 0) ∧ beatsHeld s0 tree 0 m = false ∧ beatEntry s0 b m = some e ∧ (((mapOf s1.staged tree 0 m).map fun g => g.entries.length).getD 0 ≠ ((mapOf s.staged tree 0 m).map fun g => g.entries.length).getD 0))
    ∧ (∃ (s : State) (tree : Nat),
      Up s ∧ s.get 0x3200 tree 7 = 4 ∧ observed s tree = true ∧ s.aux .mufLit tree = 1)
    ∧ (∃ (s : State) (tree : Nat),
      Up s ∧ s.get 0x3200 tree 7 = 6)
    ∧ (∃ (s : State) (acc : Acc) (tree : Nat),
      Up s ∧ mayWrite acc 0x3200 tree 0x0A 1 s = true ∧ s.get 0x3200 tree 7 ≠ 0 ∧ s.get 0x3200 tree 7 ≠ 6)
    ∧ (∃ (s : State) (acc : Acc) (tree : Nat),
      Up s ∧ mayWrite acc 0x3200 tree 1 0 s = true ∧ s.get 0x3200 tree 7 ≠ 6)
    ∧ (∃ (s : State) (acc : Acc) (tree : Nat),
      Up s ∧ mayWrite acc 0x3200 tree 9 1 s = true ∧ s.get 0x3200 tree 7 ≠ 0 ∧ s.get 0x3200 tree 7 ≠ 6)
    ∧ (∃ (s : State) (acc : Acc) (tree : Nat),
      Up s ∧ mayWrite acc 0x3200 tree 0x0A 1 s = true ∧ (s.get 0x3200 tree 7 = 0 ∨ s.get 0x3200 tree 7 = 6))
    ∧ (∃ (s : State) (tree : Nat),
      let n := 512 * tree + s.get 0x3200 tree 8
      Up s ∧ s.get 0x3200 tree 7 = 2 ∧ observed s tree = true ∧ s.aux .mufLit tree ≠ 1 ∧ termState s n ≠ 3 ∧ (probeOf s tree).withhold = [] ∧ (probeOf s tree).order = []) :=
  ⟨⟨base, own, 47, by decide +kernel⟩,
   ⟨((base.put 0x3000 24575 4 3).put 0x3000 24575 2 77), own, 47, by decide +kernel⟩,
   ⟨(((base.put 0x3200 47 7 2).put 0x3200 47 8 511).put 0x3000 24575 4 3), 47, 511, by decide +kernel⟩,
   ⟨({ (((base.put 0x3200 47 7 2).put 0x3200 47 8 511).put 0x3000 24575 4 3).setAux .mufLit 47 0 1 with muted := [(47, 511)], probes := [⟨47, [511, 3], [3]⟩] }), 47, 511, 3, [], by decide +kernel⟩,
   ⟨(((base.put 0x3200 47 7 3).put 0x3200 47 8 511).put 0x3000 24575 4 5), 47, 511, by decide +kernel⟩,
   ⟨((((base.put 0x3200 47 7 3).put 0x3200 47 8 511).put 0x3000 24575 4 5).setAux .mufLit 47 0 1), 47, 511, by decide +kernel⟩,
   ⟨((base.put 0x3200 47 7 4).setAux .recBeats 47 0 9), 47, by decide +kernel⟩,
   ⟨((raise 1040 47 0 0 (base.put 0x3200 47 7 5)).setAux .recBeats 47 0 16), 47, by decide +kernel⟩,
   ⟨(((base.put 0x3200 47 7 5).setAux .recBeats 47 0 15).setAux .recHeard 47 0 1), 47, by decide +kernel⟩,
   ⟨((base.put 0x2000 47 1 2).put 0x3200 47 7 5), 47, ((beatEntry (base.put 0x2000 47 1 2) ⟨47, 0, 3, 0xFFFF, false, 0, false, 0⟩ 1).getD ⟨0, 0, 0, 0, false, false, 0, none, 0, 0⟩), by decide +kernel⟩,
   ⟨((base.put 0x3200 47 7 4).setAux .mufLit 47 0 1), 47, by decide +kernel⟩,
   ⟨({ base.put 0x3200 47 7 6 with energy := [⟨47, 3, 5, 90, []⟩, ⟨4, 3, 5, 90, []⟩] }), 47, by decide +kernel⟩,
   ⟨(((base.put 0x3200 47 7 3).put 0x3200 47 8 511).put 0x3000 24575 4 5), own, 47, by decide +kernel⟩,
   ⟨(((base.put 0x3200 47 7 3).put 0x3200 47 8 511).put 0x3000 24575 4 5), own, 47, by decide +kernel⟩,
   ⟨(base.put 0x3200 47 7 3), own, 47, by decide +kernel⟩,
   ⟨base, own, 47, by decide +kernel⟩,
   ⟨(((base.put 0x3200 47 7 2).put 0x3200 47 8 511).put 0x3000 24575 4 4), 47, by decide +kernel⟩⟩

theorem wit_BulletinAndReportCommandsComplete :
    (∃ (s : State) (tree point _unit : Nat) (_l : List FlamGrant),
      Up s ∧ tree < s.trees ∧ point ≤ 3 ∧ s.aux .engVac 0 tree = 1 ∧ ((s.now : Int) - frameStart s tree ≤ (if point = 0 then (123000 : Int) else 31250 * point - 2000)))
    ∧ (∃ (s : State) (tree point : Nat),
      Up s ∧ s.treeUp tree = true ∧ 1 ≤ point ∧ point ≤ 3 ∧ mapsRun s tree 0 = true ∧ (templateFor s tree (flamTarget s tree point).1).2 ≠ 0 ∧ blank s tree 0 (flamTarget s tree point).1 = false ∧ (s.bulletins.find? (fun b => b.1 == 4 * tree + point) = none ∨ broadcastSlot s tree (doubleStroke s tree 0) = none))
    ∧ (∃ (s : State) (tree point b cause : Nat) (l : List FlamGrant),
      Up s ∧ s.treeUp tree = true ∧ 1 ≤ point ∧ point ≤ 3 ∧ mapsRun s tree 0 = true ∧ (templateFor s tree (flamTarget s tree point).1).2 ≠ 0 ∧ blank s tree 0 (flamTarget s tree point).1 = false ∧ (s.bulletins.find? (fun b => b.1 == 4 * tree + point) = some (4 * tree + point, l)) ∧ broadcastSlot s tree (doubleStroke s tree 0) = some b ∧ (flamCause s tree point (flamSlot s tree point) [] (l.filter fun g => !isMuted s tree g.onu) = cause) ∧ cause ≠ 0)
    ∧ (∃ (s : State) (tree point b : Nat) (l : List FlamGrant),
      Up s ∧ s.treeUp tree = true ∧ 1 ≤ point ∧ point ≤ 3 ∧ mapsRun s tree 0 = true ∧ (templateFor s tree (flamTarget s tree point).1).2 ≠ 0 ∧ blank s tree 0 (flamTarget s tree point).1 = false ∧ (s.bulletins.find? (fun b => b.1 == 4 * tree + point) = some (4 * tree + point, l)) ∧ broadcastSlot s tree (doubleStroke s tree 0) = some b ∧ (flamCause s tree point (flamSlot s tree point) [] (l.filter fun g => !isMuted s tree g.onu) = 0) ∧ slotLive (readSlot b s) b = true)
    ∧ (∃ (s : State) (tree point b : Nat) (l : List FlamGrant),
      Up s ∧ s.treeUp tree = true ∧ 1 ≤ point ∧ point ≤ 3 ∧ mapsRun s tree 0 = true ∧ (templateFor s tree (flamTarget s tree point).1).2 ≠ 0 ∧ blank s tree 0 (flamTarget s tree point).1 = false ∧ (s.bulletins.find? (fun b => b.1 == 4 * tree + point) = some (4 * tree + point, l)) ∧ broadcastSlot s tree (doubleStroke s tree 0) = some b ∧ (flamCause s tree point (flamSlot s tree point) [] (l.filter fun g => !isMuted s tree g.onu) = 0) ∧ slotLive (readSlot b s) b = false)
    ∧ (∃ (s : State) (tree point : Nat),
      Up s ∧ s.treeUp tree = true ∧ 1 ≤ point ∧ point ≤ 3 ∧ (mapsRun s tree 0 = false ∨ (templateFor s tree (flamTarget s tree point).1).2 = 0 ∨ blank s tree 0 (flamTarget s tree point).1 = true))
    ∧ (∃ (s : State) (tree point _claim _unit : Nat) (_grants : Option (List FlamGrant)),
      Up s ∧ (s.trees ≤ tree ∨ 3 < point))
    ∧ (∃ (s : State) (tree point : Nat),
      Up s ∧ (s.treeUp tree = false ∨ point = 0 ∨ 3 < point))
    ∧ (∃ (s : State) (id : Nat) (report : Bool) (_windows : List Forecast),
      Up s ∧ (report = false ∨ bindingFor s id = none))
    ∧ (∃ (s : State) (id c : Nat) (_windows : List Forecast),
      Up s ∧ bindingFor s id = some c)
    ∧ (∃ (s : State) (id c : Nat) (windows : List Forecast),
      Up s ∧ bindingFor s id = some c ∧ (s.get 0x3700 c 3 = 0xFFFFFFFF ∨ s.get 0x3400 (s.get 0x3700 c 3) 2 = 0xFFFF ∨ windows = [])) :=
  ⟨⟨({ base.setAux .engVac 0 47 1 with now := 91750, bulletins := [(191, [])] }), 47, 3, 5, ([⟨5, 6, 70, 8, 0, true⟩, ⟨5, 6, 7, 8, 0, true⟩]), by decide +kernel⟩,
   ⟨({ base.put 0x2000 47 1 2 with templates := [⟨47, 0, 0, 4000⟩] }), 47, 3, by decide +kernel⟩,
   ⟨({ (base.put 0x2000 47 1 2).put 0x4100 47 1 3 with templates := [⟨47, 0, 0, 4000⟩], bulletins := [(191, [⟨5, 6, 7, 8, 0, true⟩])] }), 47, 3, 3, 8, ([⟨5, 6, 7, 8, 0, true⟩]), by decide +kernel⟩,
   ⟨({ ((base.put 0x2000 47 1 2).put 0x4100 47 1 3).put 0x4000 3 4 2 with templates := [⟨47, 0, 0, 4000⟩], bulletins := [(191, [])] }), 47, 3, 3, [], by decide +kernel⟩,
   ⟨({ (base.put 0x2000 47 1 2).put 0x4100 47 1 3 with templates := [⟨47, 0, 0, 4000⟩], bulletins := [(191, [])] }), 47, 3, 3, [], by decide +kernel⟩,
   ⟨({ base with bulletins := [(191, [])] }), 47, 3, by decide +kernel⟩,
   ⟨base, 47, 4, 1, 3, none, by decide +kernel⟩,
   ⟨base, 47, 0, by decide +kernel⟩,
   ⟨base, 9, true, [], by decide +kernel⟩,
   ⟨(((base.put 0x3700 1023 1 1).put 0x3700 1023 2 9).put 0x3700 1023 3 77), 9, 1023, [], by decide +kernel⟩,
   ⟨((base.put 0x3700 1023 1 1).put 0x3700 1023 2 9), 9, 1023, ([⟨5, 100⟩]), by decide +kernel⟩⟩

theorem wit_AllocationCommandsComplete :
    (∃ (s : State) (acc : Acc) (al : Nat),
      Up s ∧ mayWrite acc 0x3400 al 1 1 s = true ∧ s.get 0x3400 al 1 = 0 ∧ s.aux .allocDrain al ≠ 1 ∧ contractFits (s.put 0x3400 al 1 1) al = true ∧ s.get 0x3500 0 1 < 32768)
    ∧ (∃ (s : State) (acc : Acc) (al : Nat),
      Up s ∧ mayWrite acc 0x3400 al 1 1 s = true ∧ s.get 0x3400 al 1 = 0 ∧ s.aux .allocDrain al ≠ 1 ∧ contractFits (s.put 0x3400 al 1 1) al = true ∧ s.get 0x3500 0 1 < 32768)
    ∧ (∃ (s : State) (acc : Acc) (al pt : Nat),
      Up s ∧ mayWrite acc 0x3400 al 1 1 s = true ∧ s.get 0x3400 al 1 = 0 ∧ s.aux .allocDrain al ≠ 1 ∧ contractFits (s.put 0x3400 al 1 1) al = true ∧ s.get 0x3500 0 1 < 32768 ∧ s.get 0x2003 (al / 1024) 1 = 1 ∧ localPartner s (al / 1024) = some pt ∧ pt ≠ al / 1024)
    ∧ (∃ (s : State) (acc : Acc) (al : Nat),
      Up s ∧ mayWrite acc 0x3400 al 1 1 s = true ∧ s.get 0x3400 al 1 = 0 ∧ s.aux .allocDrain al ≠ 1 ∧ 32768 ≤ s.get 0x3500 0 1)
    ∧ (∃ (s : State) (acc : Acc) (al : Nat),
      Up s ∧ mayWrite acc 0x3400 al 1 1 s = true ∧ s.get 0x3400 al 1 = 0 ∧ s.aux .allocDrain al ≠ 1 ∧ s.get 0x3500 0 1 < 32768 ∧ contractFits (s.put 0x3400 al 1 1) al = false)
    ∧ (∃ (s : State) (acc : Acc) (al : Nat),
      Up s ∧ mayWrite acc 0x3400 al 1 1 s = true ∧ (s.aux .allocDrain al = 1 ∨ s.get 0x3400 al 1 = 1))
    ∧ (∃ (s : State) (acc : Acc) (al : Nat),
      Up s ∧ mayWrite acc 0x3400 al 1 0 s = true ∧ (s.aux .allocDrain al = 1 ∨ s.get 0x3400 al 1 ≠ 1))
    ∧ (∃ (s : State) (acc : Acc) (al : Nat),
      Up s ∧ mayWrite acc 0x3400 al 1 0 s = true ∧ s.get 0x3400 al 1 = 1 ∧ s.aux .allocDrain al ≠ 1)
    ∧ (∃ (s : State) (acc : Acc) (al : Nat),
      Up s ∧ mayWrite acc 0x3400 al 1 0 s = true ∧ s.get 0x3400 al 1 = 1 ∧ s.aux .allocDrain al ≠ 1)
    ∧ (∃ (s : State) (al : Nat),
      Up s ∧ s.aux .allocDrain al = 1)
    ∧ (∃ (s : State) (al : Nat),
      Up s ∧ s.aux .allocDrain al ≠ 1)
    ∧ (∃ (s : State) (acc : Acc) (al sub v : Nat),
      Up s ∧ (sub = 7 ∨ sub = 8) ∧ mayWrite acc 0x3400 al sub v s = true ∧ ((sub = 7 ∧ v = 0) ∨ (sub = 8 ∧ v ≤ s.get 0x3400 al 8) ∨ flamFits (s.put 0x3400 al sub v) (al / 1024) = true))
    ∧ (∃ (s : State) (acc : Acc) (al sub v : Nat),
      Up s ∧ (sub = 7 ∨ sub = 8) ∧ mayWrite acc 0x3400 al sub v s = true ∧ ((sub = 7 ∧ v = 0) ∨ (sub = 8 ∧ v ≤ s.get 0x3400 al 8) ∨ flamFits (s.put 0x3400 al sub v) (al / 1024) = true))
    ∧ (∃ (s : State) (acc : Acc) (al sub v : Nat),
      Up s ∧ mayWrite acc 0x3400 al sub v s = true ∧ ((sub = 7 ∧ v = 1) ∨ (sub = 8 ∧ s.get 0x3400 al 8 < v)) ∧ flamFits (s.put 0x3400 al sub v) (al / 1024) = false)
    ∧ (∃ (s : State) (acc : Acc) (tree sub v : Nat),
      let s1 := s.put 0x3600 tree sub v
      Up s ∧ (sub = 5 ∨ sub = 6) ∧ mayWrite acc 0x3600 tree sub v s = true ∧ s1.get 0x3600 tree 5 + s1.get 0x3600 tree 6 ≤ 48600 ∧ (sub = 5 ∨ s.get 0x3600 tree 6 ≤ v ∨ flamFits s1 tree = true))
    ∧ (∃ (s : State) (acc : Acc) (tree sub v : Nat),
      let s1 := s.put 0x3600 tree sub v
      Up s ∧ (sub = 5 ∨ sub = 6) ∧ mayWrite acc 0x3600 tree sub v s = true ∧ (48600 < s1.get 0x3600 tree 5 + s1.get 0x3600 tree 6 ∨ sub = 6 ∧ v < s.get 0x3600 tree 6 ∧ flamFits s1 tree = false))
    ∧ (∃ (s : State) (acc : Acc) (index inst sub v : Nat),
      Up s ∧ (index = 0x2005 ∨ index = 0x2006) ∧ 1 ≤ sub ∧ sub ≤ 7 ∧ mayWrite acc index inst sub v s = true ∧ (profileInUse s (inst / 1024) (if index = 0x2005 then 0 else 1) (inst % 1024) = false) ∧ (index = 0x2006 ∨ flamFits s (inst / 1024) = false ∨ flamFits (s.put index inst sub v) (inst / 1024) = true))
    ∧ (∃ (s : State) (acc : Acc) (index inst sub v : Nat),
      Up s ∧ (index = 0x2005 ∨ index = 0x2006) ∧ 1 ≤ sub ∧ sub ≤ 7 ∧ mayWrite acc index inst sub v s = true ∧ (profileInUse s (inst / 1024) (if index = 0x2005 then 0 else 1) (inst % 1024) = false) ∧ (index = 0x2006 ∨ flamFits s (inst / 1024) = false ∨ flamFits (s.put index inst sub v) (inst / 1024) = true))
    ∧ (∃ (s : State) (acc : Acc) (index inst sub v : Nat),
      Up s ∧ (index = 0x2005 ∨ index = 0x2006) ∧ 1 ≤ sub ∧ sub ≤ 7 ∧ mayWrite acc index inst sub v s = true ∧ (profileInUse s (inst / 1024) (if index = 0x2005 then 0 else 1) (inst % 1024) = true)) :=
  ⟨⟨((base.put 0x3400 49151 4 3).put 0x3A00 49151 3 5), own, 49151, by decide +kernel⟩,
   ⟨((((base.put 0x3400 49151 4 3).put 0x3A00 49151 3 5).put 0x3400 49151 2 24000).put 0x3000 24000 4 3), own, 49151, by decide +kernel⟩,
   ⟨(((((base.put 0x3400 49151 4 3).put 0x3A00 49151 3 5).put 0x2003 47 1 1).put 0x2003 47 2 46).put 0x2003 46 1 2), own, 49151, 46, by decide +kernel⟩,
   ⟨(((base.put 0x3400 49151 4 3).put 0x3A00 49151 3 5).put 0x3500 0 1 32768), own, 49151, by decide +kernel⟩,
   ⟨((base.put 0x3400 49151 4 2).put 0x3A00 49151 1 5), own, 49151, by decide +kernel⟩,
   ⟨((base.put 0x3400 49151 1 1).setAux .allocDrain 49151 0 1), own, 49151, by decide +kernel⟩,
   ⟨base, own, 49151, by decide +kernel⟩,
   ⟨((base.put 0x3400 49151 1 1).put 0x3500 0 1 3), own, 49151, by decide +kernel⟩,
   ⟨({ ((base.put 0x3400 49151 1 1).put 0x3500 0 1 3).put 0x4800 5 3 49151 with fifo := [⟨47, 1, 0, 2, 1, false, 0, [1], 5, 9⟩] }), own, 49151, by decide +kernel⟩,
   ⟨({ (((base.put 0x3400 49151 1 1).put 0x3500 0 1 3).put 0x4800 5 3 49151).setAux .allocDrain 49151 0 1 with fifo := [⟨47, 1, 0, 2, 1, false, 0, [1], 5, 9⟩], sdus := [⟨47, 1023, 65535, 5, 9, [1, 2], 0, false⟩] }), 49151, by decide +kernel⟩,
   ⟨base, 49151, by decide +kernel⟩,
   ⟨base, own, 49151, 7, 1, by decide +kernel⟩,
   ⟨base, own, 49151, 8, 100, by decide +kernel⟩,
   ⟨((((((base.put 0x3400 49151 1 1).put 0x3400 49151 2 24000).put 0x3000 24000 4 3).put 0x3000 24000 9 4).put 0x3400 49151 8 60000)), own, 49151, 7, 1, by decide +kernel⟩,
   ⟨base, own, 47, 6, 4000, by decide +kernel⟩,
   ⟨(base.put 0x3600 47 5 48600), own, 47, 6, 4000, by decide +kernel⟩,
   ⟨base, own, 0x2005, (1024 * 47 + 3), 2, 300, by decide +kernel⟩,
   ⟨base, own, 0x2006, (1024 * 47 + 3), 2, 300, by decide +kernel⟩,
   ⟨((base.put 0x3000 24000 4 3).put 0x3900 24000 1 3), own, 0x2005, (1024 * 46 + 3), 2, 300, by decide +kernel⟩⟩

theorem wit_OwnershipAndShareCommandsComplete :
    (∃ (s : State) (acc : Acc) (r v : Nat),
      Up s ∧ mayWrite acc 0x3800 r 1 v s = true ∧ s.get 0x3800 r 4 < kindCount (s.get 0x3800 r 2) ∧ recordOverlaps s r = false ∧ s.get 0x3800 r 1 ≠ v ∧ (s.get 0x3800 r 1 = 0xFF ∨ recordInUse s r = 0) ∧ movesAdmissible r (s.put 0x3800 r 1 v) = true ∧ v ≠ 0xFF)
    ∧ (∃ (s : State) (acc : Acc) (r v : Nat),
      Up s ∧ mayWrite acc 0x3800 r 1 v s = true ∧ s.get 0x3800 r 4 < kindCount (s.get 0x3800 r 2) ∧ recordOverlaps s r = false ∧ s.get 0x3800 r 1 ≠ v ∧ (s.get 0x3800 r 1 = 0xFF ∨ recordInUse s r = 0) ∧ movesAdmissible r (s.put 0x3800 r 1 v) = true ∧ v ≠ 0xFF)
    ∧ (∃ (s : State) (acc : Acc) (r : Nat),
      Up s ∧ mayWrite acc 0x3800 r 1 0xFF s = true ∧ s.get 0x3800 r 1 ≠ 0xFF ∧ recordInUse s r = 0 ∧ movesAdmissible r (s.put 0x3800 r 1 0xFF) = true)
    ∧ (∃ (s : State) (acc : Acc) (r v : Nat),
      Up s ∧ mayWrite acc 0x3800 r 1 v s = true ∧ s.get 0x3800 r 1 ≠ v ∧ (s.get 0x3800 r 1 = 0xFF ∨ recordInUse s r = 0) ∧ (v ≠ 0xFF ∧ (kindCount (s.get 0x3800 r 2) ≤ s.get 0x3800 r 4 ∨ recordOverlaps s r = true) ∨ movesAdmissible r (s.put 0x3800 r 1 v) = false))
    ∧ (∃ (s : State) (acc : Acc) (r : Nat),
      Up s ∧ mayWrite acc 0x3800 r 1 0xFF s = true ∧ s.get 0x3800 r 1 ≠ 0xFF ∧ recordInUse s r ≠ 0)
    ∧ (∃ (s : State) (acc : Acc) (index inst sub v : Nat),
      Up s ∧ ((index = 0x3700 ∧ sub = 3) ∨ (index = 0x4800 ∧ sub = 3)) ∧ mayWrite acc index inst sub v s = true ∧ bindingFits s index inst sub v = true)
    ∧ (∃ (s : State) (acc : Acc) (index inst sub v : Nat),
      Up s ∧ ((index = 0x3700 ∧ sub = 3) ∨ (index = 0x4800 ∧ sub = 3)) ∧ mayWrite acc index inst sub v s = true ∧ bindingFits s index inst sub v = true)
    ∧ (∃ (s : State) (acc : Acc) (al v : Nat),
      Up s ∧ mayWrite acc 0x3400 al 2 v s = true ∧ bindingFits s 0x3400 al 2 v = true ∧ (∀ i ∈ allocLane (s.put 0x3400 al 2 v) al, admissible (s.put 0x3400 al 2 v) i = true))
    ∧ (∃ (s : State) (acc : Acc) (al v : Nat),
      Up s ∧ mayWrite acc 0x3400 al 2 v s = true ∧ bindingFits s 0x3400 al 2 v = true ∧ (∀ i ∈ allocLane (s.put 0x3400 al 2 v) al, admissible (s.put 0x3400 al 2 v) i = true))
    ∧ (∃ (s : State) (acc : Acc) (index inst sub v : Nat),
      Up s ∧ ((index = 0x3400 ∧ sub = 2) ∨ (index = 0x3700 ∧ sub = 3) ∨ (index = 0x4800 ∧ sub = 3)) ∧ mayWrite acc index inst sub v s = true ∧ bindingFits s index inst sub v = false ∧ acc.role ∉ (List.range 256).map .tenant)
    ∧ (∃ (s : State) (acc : Acc) (al v i : Nat),
      Up s ∧ mayWrite acc 0x3400 al 2 v s = true ∧ bindingFits s 0x3400 al 2 v = true ∧ allocLane (s.put 0x3400 al 2 v) al = some i ∧ admissible (s.put 0x3400 al 2 v) i = false)
    ∧ (∃ (s : State) (acc : Acc) (index inst sub v : Nat),
      Up s ∧ mayWrite acc index inst sub v s = true ∧ (admissible (s.put index inst sub v) (if index = 0x3820 then inst % 96 else inst) = true) ∧ (index = 0x3820 ∧ 1 ≤ sub ∧ sub ≤ 2 ∨ index = 0x3880 ∧ 1 ≤ sub ∧ sub ≤ 2))
    ∧ (∃ (s : State) (acc : Acc) (index inst sub v : Nat),
      Up s ∧ mayWrite acc index inst sub v s = true ∧ (admissible (s.put index inst sub v) (if index = 0x3820 then inst % 96 else inst) = true) ∧ (index = 0x3820 ∧ 1 ≤ sub ∧ sub ≤ 2 ∨ index = 0x3880 ∧ 1 ≤ sub ∧ sub ≤ 2))
    ∧ (∃ (s : State) (acc : Acc) (inst sub v : Nat),
      Up s ∧ 3 ≤ sub ∧ sub ≤ 4 ∧ mayWrite acc 0x3820 inst sub v s = true ∧ admissible (s.put 0x3820 inst sub v) (inst % 96) = true)
    ∧ (∃ (s : State) (acc : Acc) (index inst sub v : Nat),
      Up s ∧ (index = 0x3820 ∧ 1 ≤ sub ∧ sub ≤ 4 ∨ index = 0x3880 ∧ 1 ≤ sub ∧ sub ≤ 2) ∧ mayWrite acc index inst sub v s = true ∧ (admissible (s.put index inst sub v) (if index = 0x3820 then inst % 96 else inst) = false))
    ∧ (∃ (s : State) (acc : Acc) (al sub v : Nat),
      Up s ∧ 1 ≤ sub ∧ sub ≤ 3 ∧ mayWrite acc 0x3A00 al sub v s = true ∧ (contractFits (s.put 0x3A00 al sub v) al = false ∨ ∃ i ∈ allocLane s al, admissible (s.put 0x3A00 al sub v) i = false))
    ∧ (∃ (s : State) (acc : Acc) (al sub v : Nat),
      Up s ∧ 1 ≤ sub ∧ sub ≤ 3 ∧ mayWrite acc 0x3A00 al sub v s = true ∧ contractFits (s.put 0x3A00 al sub v) al = true ∧ (∀ i ∈ allocLane s al, admissible (s.put 0x3A00 al sub v) i = true))
    ∧ (∃ (s : State) (acc : Acc) (al sub v : Nat),
      let s1 := s.put 0x3A00 al sub v
      Up s ∧ 4 ≤ sub ∧ sub ≤ 6 ∧ mayWrite acc 0x3A00 al sub v s = true ∧ 1 ≤ s1.get 0x3A00 al 5 ∧ s1.get 0x3A00 al 5 ≤ s1.get 0x3A00 al 4 ∧ s1.get 0x3A00 al 4 ≤ s1.get 0x3A00 al 6 ∧ s1.get 0x3A00 al 6 ≤ 1000)
    ∧ (∃ (s : State) (acc : Acc) (al sub v : Nat),
      let s1 := s.put 0x3A00 al sub v
      Up s ∧ 4 ≤ sub ∧ sub ≤ 6 ∧ mayWrite acc 0x3A00 al sub v s = true ∧ 1 ≤ s1.get 0x3A00 al 5 ∧ s1.get 0x3A00 al 5 ≤ s1.get 0x3A00 al 4 ∧ s1.get 0x3A00 al 4 ≤ s1.get 0x3A00 al 6 ∧ s1.get 0x3A00 al 6 ≤ 1000)
    ∧ (∃ (s : State) (acc : Acc) (n v : Nat),
      Up s ∧ mayWrite acc 0x3900 n 1 v s = true ∧ adapts s n = false ∧ bit v (s.get 0x3900 n 2) = true)
    ∧ (∃ (s : State) (acc : Acc) (n v : Nat),
      Up s ∧ mayWrite acc 0x3900 n 1 v s = true ∧ (adapts s n = true ∨ bit v (s.get 0x3900 n 2) = false))
    ∧ (∃ (s : State) (acc : Acc) (n v : Nat),
      Up s ∧ mayWrite acc 0x3900 n 1 v s = true ∧ (adapts s n = true ∨ bit v (s.get 0x3900 n 2) = false))
    ∧ (∃ (s : State) (acc : Acc) (n v : Nat),
      Up s ∧ mayWrite acc 0x3900 n 2 v s = true ∧ v ≠ 0 ∧ (bit (s.get 0x3900 n 1) v = true ∨ laneOf s n ≠ 0) ∧ v < 16)
    ∧ (∃ (s : State) (acc : Acc) (n v pf : Nat),
      let s1 := s.put 0x3900 n 2 v
      Up s ∧ mayWrite acc 0x3900 n 2 v s = true ∧ v ≠ 0 ∧ bit (s.get 0x3900 n 1) v = false ∧ laneOf s n = 0 ∧ (nextProfile s1 n false).or (nextProfile s1 n true) = some pf ∧ v < 16)
    ∧ (∃ (s : State) (_n _pf : Nat),
      Up s)
    ∧ (∃ (s : State) (i al : Nat),
      Up s ∧ i < 2 * s.trees ∧ s.get 0x5400 (16 * (i / 8) + 10) 2 = 0 ∧ allocLane s al = some i)
    ∧ (∃ (s : State) (i al : Nat),
      Up s ∧ i < 2 * s.trees ∧ s.get 0x5400 (16 * (i / 8) + 10) 2 = 0 ∧ ((measured s i).filter (fun n => adapts s n && s.get 0x3000 n 4 == 3) = []) ∧ 1 ≤ s.get 0x3880 i 9 ∧ ((s.objs.filterMap fun e => if e.1.index == 0x3400 && e.1.sub == 1 && e.2 == 1 then some e.1.inst else none).filter (fun a => allocLane s a == some i && s.get 0x3400 a 4 == 2 && s.get 0x3A00 a 8 == 1 && s.get 0x3880 i 6 == 1) = [al]))
    ∧ (∃ (s : State) (i n q1 : Nat),
      let pf := s.get 0x3900 n 1
      let bits := s.aux .adBits n
      let rate := s.aux .adErr n * 1000000000 / max 1 bits
      Up s ∧ i < 2 * s.trees ∧ s.get 0x5400 (16 * (i / 8) + 10) 2 = 0 ∧ ((measured s i).filter (fun n => adapts s n && s.get 0x3000 n 4 == 3) = [n]) ∧ ((s.objs.filterMap fun e => if e.1.index == 0x3400 && e.1.sub == 1 && e.2 == 1 then some e.1.inst else none).filter (fun a => allocLane s a == some i && s.get 0x3400 a 4 == 2 && s.get 0x3A00 a 8 == 1 && s.get 0x3880 i 6 == 1) = []) ∧ (0 < s.aux .adUnc n ∨ 2 ≤ s.aux .adHdr n ∨ (1000000 ≤ bits ∧ s.get 0x3B00 (4 * (n / 512) + pf) 2 < rate)) ∧ nextProfile s n false = some q1)
    ∧ (∃ (s : State) (i n : Nat),
      let pf := s.get 0x3900 n 1
      let bits := s.aux .adBits n
      let rate := s.aux .adErr n * 1000000000 / max 1 bits
      Up s ∧ i < 2 * s.trees ∧ s.get 0x5400 (16 * (i / 8) + 10) 2 = 0 ∧ ((measured s i).filter (fun n => adapts s n && s.get 0x3000 n 4 == 3) = [n]) ∧ ((s.objs.filterMap fun e => if e.1.index == 0x3400 && e.1.sub == 1 && e.2 == 1 then some e.1.inst else none).filter (fun a => allocLane s a == some i && s.get 0x3400 a 4 == 2 && s.get 0x3A00 a 8 == 1 && s.get 0x3880 i 6 == 1) = []) ∧ (0 < s.aux .adUnc n ∨ 2 ≤ s.aux .adHdr n ∨ (1000000 ≤ bits ∧ s.get 0x3B00 (4 * (n / 512) + pf) 2 < rate)) ∧ nextProfile s n false = none)
    ∧ (∃ (s : State) (i n q1 : Nat),
      let pf := s.get 0x3900 n 1
      let bits := s.aux .adBits n
      let rate := s.aux .adErr n * 1000000000 / max 1 bits
      Up s ∧ i < 2 * s.trees ∧ s.get 0x5400 (16 * (i / 8) + 10) 2 = 0 ∧ ((measured s i).filter (fun n => adapts s n && s.get 0x3000 n 4 == 3) = [n]) ∧ ((s.objs.filterMap fun e => if e.1.index == 0x3400 && e.1.sub == 1 && e.2 == 1 then some e.1.inst else none).filter (fun a => allocLane s a == some i && s.get 0x3400 a 4 == 2 && s.get 0x3A00 a 8 == 1 && s.get 0x3880 i 6 == 1) = []) ∧ s.aux .adUnc n = 0 ∧ s.aux .adHdr n = 0 ∧ 1000000 ≤ bits ∧ rate ≤ s.get 0x3B00 (4 * (n / 512) + pf) 2 ∧ nextProfile s n true = some q1 ∧ rate ≤ s.get 0x3B00 (4 * (n / 512) + q1) 1)
    ∧ (∃ (s : State) (i : Nat),
      Up s ∧ (2 * s.trees ≤ i ∨ s.get 0x5400 (16 * (i / 8) + 10) 2 ≠ 0)) :=
  ⟨⟨((base.put 0x3800 0 2 8).put 0x3800 0 4 65535), own, 0, 15, by decide +kernel⟩,
   ⟨(((base.put 0x3800 0 2 8).put 0x3800 0 4 65535).put 0x3800 0 1 3), own, 0, 15, by decide +kernel⟩,
   ⟨((base.put 0x3800 0 1 15).put 0x3800 0 4 5), own, 0, by decide +kernel⟩,
   ⟨((base.put 0x3800 0 2 8).put 0x3800 0 4 65536), own, 0, 15, by decide +kernel⟩,
   ⟨(((base.put 0x3800 0 1 15).put 0x3800 0 4 5).put 0x3000 5 4 3), own, 0, by decide +kernel⟩,
   ⟨base, own, 0x3700, 1023, 3, 49151, by decide +kernel⟩,
   ⟨base, own, 0x4800, 131071, 3, 49151, by decide +kernel⟩,
   ⟨base, own, 49151, 24575, by decide +kernel⟩,
   ⟨base, own, 49151, 65535, by decide +kernel⟩,
   ⟨(((base.put 0x3800 0 2 1).put 0x3800 0 4 65535).put 0x3800 0 1 3), own, 0x3700, 1023, 3, 49151, by decide +kernel⟩,
   ⟨(base.put 0x3A00 49151 1 1000000), own, 49151, 24575, 94, by decide +kernel⟩,
   ⟨base, own, 0x3820, 1535, 2, 77, by decide +kernel⟩,
   ⟨base, own, 0x3880, 95, 2, 1000, by decide +kernel⟩,
   ⟨(base.put 0x4E20 1630 8 5), own, 1535, 4, 77, by decide +kernel⟩,
   ⟨base, own, 0x3820, 1535, 1, 700001, by decide +kernel⟩,
   ⟨(base.put 0x3400 49151 4 1), own, 49151, 3, 77, by decide +kernel⟩,
   ⟨(base.put 0x3400 49151 4 3), own, 49151, 3, 77, by decide +kernel⟩,
   ⟨(((base.put 0x3A00 49151 7 50).put 0x3A00 49151 5 1).put 0x3A00 49151 6 100), own, 49151, 4, 77, by decide +kernel⟩,
   ⟨((((base.put 0x3A00 49151 7 900).put 0x3A00 49151 5 1).put 0x3A00 49151 6 1000).put 0x3A00 49151 4 5), own, 49151, 6, 500, by decide +kernel⟩,
   ⟨((base.put 0x3900 24575 2 15).put 0x3880 94 7 0), own, 24575, 3, by decide +kernel⟩,
   ⟨(((base.put 0x3900 24575 2 15).put 0x3880 94 7 1).put 0x3900 24575 3 1), own, 24575, 3, by decide +kernel⟩,
   ⟨((base.put 0x3900 24575 2 7).put 0x3880 94 7 0), own, 24575, 3, by decide +kernel⟩,
   ⟨(base.put 0x3900 24575 1 3), own, 24575, 8, by decide +kernel⟩,
   ⟨(base.put 0x3900 24575 1 3), own, 24575, 4, 2, by decide +kernel⟩,
   ⟨(base.setAux .upHoldX 24575 3 3), 24575, 3, by decide +kernel⟩,
   ⟨(((base.put 0x3400 49151 2 24575).setAux .adFrames 49151 0 9).setAux .adUsed 49151 0 9), 94, 49151, by decide +kernel⟩,
   ⟨(((((((((base.put 0x3400 49151 1 1).put 0x3400 49151 2 24575).put 0x3400 49151 4 2).put 0x3A00 49151 8 1).put 0x3880 94 6 1).put 0x3880 94 9 5).setAux .adGranted 49151 0 100).setAux .adUsed 49151 0 95 |>.setAux .adFrames 49151 0 100 |>.setAux .adWant 49151 0 50)), 94, 49151, by decide +kernel⟩,
   ⟨((((((base.put 0x3000 24575 4 3).put 0x3900 24575 3 1).put 0x3880 94 7 1).put 0x3900 24575 1 3).put 0x3900 24575 2 15).setAux .adUnc 24575 0 1), 94, 24575, ((nextProfile ((((((base.put 0x3000 24575 4 3).put 0x3900 24575 3 1).put 0x3880 94 7 1).put 0x3900 24575 1 3).put 0x3900 24575 2 15).setAux .adUnc 24575 0 1) 24575 false).getD 9), by decide +kernel⟩,
   ⟨((((((base.put 0x3000 24575 4 3).put 0x3900 24575 3 1).put 0x3880 94 7 1).put 0x3900 24575 1 3).put 0x3900 24575 2 8).setAux .adHdr 24575 0 2), 94, 24575, by decide +kernel⟩,
   ⟨(((((((((base.put 0x3000 24575 4 3).put 0x3900 24575 3 1).put 0x3880 94 7 1).put 0x3880 94 9 5).put 0x3900 24575 1 0).put 0x3900 24575 2 15).setAux .adBits 24575 0 2000000).setAux .upRun 24575 0 299).put 0x3B00 189 3 300), 94, 24575, ((nextProfile ((((((((base.put 0x3000 24575 4 3).put 0x3900 24575 3 1).put 0x3880 94 7 1).put 0x3880 94 9 5).put 0x3900 24575 1 0).put 0x3900 24575 2 15).setAux .adBits 24575 0 2000000).setAux .upRun 24575 0 299) 24575 true).getD 9), by decide +kernel⟩,
   ⟨(base.put 0x5400 186 2 2), 95, by decide +kernel⟩⟩

theorem wit_KeySlotCommandsComplete :
    (∃ (s : State) (acc : Acc) (slot len _key : Nat),
      Up s ∧ mayAccess acc true 0x4000 slot 2 s = true ∧ kindWriter acc.role (slotKind s slot) = true ∧ len = s.get 0x4000 slot 3 ∧ (slotState s slot = 0 ∨ slotState s slot = 1 ∧ (3 < slotKind s slot ∨ bindCode s slot = 0)) ∧ portServed s 12 = true ∧ (∀ w ∈ s.keyWaits, (portServed s w.port = false ∨ slotState s w.slot = 3) ∧ w.slot ≠ slot))
    ∧ (∃ (s : State) (acc : Acc) (slot len _key : Nat),
      Up s ∧ mayAccess acc true 0x4000 slot 2 s = true ∧ kindWriter acc.role (slotKind s slot) = true ∧ len = s.get 0x4000 slot 3 ∧ (slotState s slot = 0 ∨ slotState s slot = 1 ∧ (3 < slotKind s slot ∨ bindCode s slot = 0)) ∧ portServed s 12 = true ∧ (∀ w ∈ s.keyWaits, (portServed s w.port = false ∨ slotState s w.slot = 3) ∧ w.slot ≠ slot))
    ∧ (∃ (s : State) (acc : Acc) (slot len _key : Nat),
      Up s ∧ mayAccess acc true 0x4000 slot 2 s = true ∧ kindWriter acc.role (slotKind s slot) = true ∧ len = s.get 0x4000 slot 3 ∧ slotState s slot ≠ 3 ∧ portServed s 12 = false ∧ (∀ w ∈ s.keyWaits, portServed s w.port = false ∨ slotState s w.slot = 3))
    ∧ (∃ (s : State) (acc : Acc) (slot len _key : Nat),
      Up s ∧ mayAccess acc true 0x4000 slot 2 s = true ∧ kindWriter acc.role (slotKind s slot) = true ∧ len = s.get 0x4000 slot 3 ∧ (slotState s slot = 1 ∧ slotKind s slot = 3 ∧ bindCode s slot ≠ 0 ∨ slotState s slot = 2) ∧ portServed s 12 = true ∧ (∀ w ∈ s.keyWaits, (portServed s w.port = false ∨ slotState s w.slot = 3) ∧ w.slot ≠ slot))
    ∧ (∃ (s : State) (acc : Acc) (slot len _key : Nat),
      Up s ∧ mayAccess acc true 0x4000 slot 2 s = true ∧ acc.role ≠ .operator ∧ (kindWriter acc.role (slotKind s slot) = false ∨ len ≠ s.get 0x4000 slot 3 ∨ slotState s slot = 3))
    ∧ (∃ (s : State) (acc : Acc) (slot len _key : Nat),
      Up s ∧ mayAccess acc true 0x4000 slot 2 s = true ∧ acc.role ≠ .operator ∧ (kindWriter acc.role (slotKind s slot) = false ∨ len ≠ s.get 0x4000 slot 3 ∨ slotState s slot = 3))
    ∧ (∃ (s : State) (acc : Acc) (slot len _key : Nat),
      Up s ∧ mayAccess acc true 0x4000 slot 2 s = true ∧ acc.role ≠ .operator ∧ (kindWriter acc.role (slotKind s slot) = false ∨ len ≠ s.get 0x4000 slot 3 ∨ slotState s slot = 3))
    ∧ (∃ (s : State) (acc : Acc) (slot : Nat),
      Up s ∧ mayWrite acc 0x4000 slot 0x0B 1 s = true ∧ ¬(bindCode s slot = 3 ∧ terminalIdle s (bindInst s slot) = false) ∧ slotState s slot ≠ 0 ∧ (∀ w ∈ s.keyWaits, portServed s w.port = false ∨ (slotState s w.slot = 3 ∧ w.slot ≠ slot)))
    ∧ (∃ (s : State) (acc : Acc) (slot : Nat),
      Up s ∧ mayWrite acc 0x4000 slot 0x0B 1 s = true ∧ bindCode s slot = 3 ∧ terminalIdle s (bindInst s slot) = false)
    ∧ (∃ (s : State) (acc : Acc) (slot : Nat),
      Up s ∧ mayWrite acc 0x4000 slot 0x0B 1 s = true ∧ ¬(bindCode s slot = 3 ∧ terminalIdle s (bindInst s slot) = false) ∧ slotState s slot = 0)
    ∧ (∃ (s : State) (slot : Nat),
      Up s ∧ slotState s slot = 3 ∧ (∀ w ∈ s.keyWaits, portServed s w.port = false ∨ (slotState s w.slot = 3 ∧ w.slot ≠ slot)))
    ∧ (∃ (s : State) (slot : Nat),
      Up s ∧ slotState s slot ≠ 3)
    ∧ (∃ (s : State) (slot : Nat) (w : KeyWait),
      Up s ∧ slotState s slot = 3 ∧ s.keyWaits = [w] ∧ w.slot = slot ∧ portServed s w.port = true)
    ∧ (∃ (s : State) (acc : Acc) (slot v : Nat),
      Up s ∧ mayWrite acc 0x4000 slot 1 v s = true ∧ (v = 3 ∨ v = 7 → ownerOf s 6 slot = 16))
    ∧ (∃ (s : State) (acc : Acc) (slot v : Nat),
      Up s ∧ mayWrite acc 0x4000 slot 1 v s = true ∧ (v = 3 ∨ v = 7 → ownerOf s 6 slot = 16))
    ∧ (∃ (s : State) (acc : Acc) (slot v : Nat),
      Up s ∧ mayWrite acc 0x4000 slot 3 v s = true)
    ∧ (∃ (s : State) (acc : Acc) (slot v : Nat),
      Up s ∧ mayWrite acc 0x4000 slot 1 v s = true ∧ (v = 3 ∨ v = 7) ∧ ownerOf s 6 slot ≠ 16)
    ∧ (∃ (s : State) (acc : Acc) (n sub v : Nat),
      Up s ∧ (sub = 1 ∨ sub = 2) ∧ mayWrite acc 0x4200 n sub v s = true ∧ v ≠ 0xFFFF ∧ ownerOf s 6 v = ownerOf s 0 n ∧ slotKind s v = sub ∧ s.get 0x4000 v 3 = 16 * sub ∧ bindCode s v = 0 ∧ s.get 0x4200 n sub = 0xFFFF)
    ∧ (∃ (s : State) (acc : Acc) (n sub v : Nat),
      Up s ∧ 1 ≤ sub ∧ sub ≤ 3 ∧ mayWrite acc 0x4200 n sub v s = true ∧ v ≠ 0xFFFF ∧ ownerOf s 6 v = ownerOf s 0 n ∧ (slotKind s v ≠ (if sub = 3 then 4 else sub) ∨ s.get 0x4000 v 3 ≠ (if sub = 2 then 32 else 16) ∨ (bindCode s v ≠ 0 ∧ s.get 0x4000 v 0x0E ≠ sub * 2 ^ 24 + n)))
    ∧ (∃ (s : State) (acc : Acc) (n v : Nat),
      Up s ∧ mayWrite acc 0x4200 n 3 v s = true ∧ v ≠ 0xFFFF ∧ ownerOf s 6 v = ownerOf s 0 n ∧ slotKind s v = 4 ∧ s.get 0x4000 v 3 = 16 ∧ bindCode s v = 0 ∧ s.get 0x4200 n 3 = 0xFFFF)
    ∧ (∃ (s : State) (acc : Acc) (n sub : Nat),
      let old := s.get 0x4200 n sub
      Up s ∧ (sub = 1 ∨ sub = 2) ∧ mayWrite acc 0x4200 n sub 0xFFFF s = true ∧ old ≠ 0xFFFF ∧ s.get 0x4000 old 0x0E = sub * 2 ^ 24 + n)
    ∧ (∃ (s : State) (acc : Acc) (tree sub v : Nat),
      Up s ∧ (sub = 1 ∨ sub = 2) ∧ mayWrite acc 0x4100 tree sub v s = true ∧ v ≠ 0xFFFF ∧ slotKind s v = 3 ∧ s.get 0x4000 v 3 = 16 * sub ∧ ownerOf s 6 v = 16 ∧ bindCode s v = 0 ∧ s.get 0x4100 tree sub = 0xFFFF)
    ∧ (∃ (s : State) (acc : Acc) (index inst v : Nat),
      let sub := if index = 0x5590 then 3 else 1
      Up s ∧ ((index = 0x5590 ∧ mayWrite acc 0x5590 inst 3 v s = true) ∨ (index = 0x1130 ∧ inst = 0 ∧ mayWrite acc 0x1130 0 1 v s = true)) ∧ v ≠ 0xFFFF ∧ slotKind s v = 7 ∧ s.get 0x4000 v 3 = 32 ∧ ownerOf s 6 v = 16 ∧ bindCode s v = 0 ∧ s.get index inst sub = 0xFFFF)
    ∧ (∃ (s : State) (acc : Acc) (index inst v : Nat),
      let sub := if index = 0x5590 then 3 else 1
      Up s ∧ ((index = 0x5590 ∧ mayWrite acc 0x5590 inst 3 v s = true) ∨ (index = 0x1130 ∧ inst = 0 ∧ mayWrite acc 0x1130 0 1 v s = true)) ∧ v ≠ 0xFFFF ∧ slotKind s v = 7 ∧ s.get 0x4000 v 3 = 32 ∧ ownerOf s 6 v = 16 ∧ bindCode s v = 0 ∧ s.get index inst sub = 0xFFFF) :=
  ⟨⟨(((base.setAux .engVac 1 12 1).put 0x4000 65535 1 7).put 0x4000 65535 3 32 |>.put 0x4000 65535 6 65535), own, 65535, 32, (2 ^ 256 - 1), by decide +kernel⟩,
   ⟨({ ((base.setAux .engVac 1 12 1).put 0x4000 65535 1 6).put 0x4000 65535 3 16 |>.put 0x4000 65535 4 1 with keyWaits := [⟨3, 9, 16, 4, none⟩] }), own, 65535, 16, 5, by decide +kernel⟩,
   ⟨((base.put 0x4000 65535 1 7).put 0x4000 65535 3 32), own, 65535, 32, 9, by decide +kernel⟩,
   ⟨(((((base.setAux .engVac 1 12 1).put 0x4000 65535 1 3).put 0x4000 65535 3 32).put 0x4000 65535 4 1).put 0x4000 65535 0x0E (5 * 2 ^ 24 + 47)), own, 65535, 32, 9, by decide +kernel⟩,
   ⟨(base.put 0x4000 65535 1 1), own, 65535, 32, 9, by decide +kernel⟩,
   ⟨(base.put 0x4000 65535 1 7), own, 65535, 5, 9, by decide +kernel⟩,
   ⟨(((base.put 0x4000 65535 1 7).put 0x4000 65535 3 32).put 0x4000 65535 4 3), own, 65535, 32, 9, by decide +kernel⟩,
   ⟨((base.put 0x4000 65535 4 3).setAux .keyMat 65535 1 9), own, 65535, by decide +kernel⟩,
   ⟨((base.put 0x4000 65535 0x0E (3 * 2 ^ 24 + 24575)).put 0x3000 24575 4 3), own, 65535, by decide +kernel⟩,
   ⟨(base.setAux .keyPoison 65535 0 1), own, 65535, by decide +kernel⟩,
   ⟨(((base.put 0x4000 65535 4 3).setAux .keyMat 65535 1 9).setAux .keyMat 65535 0 8), 65535, by decide +kernel⟩,
   ⟨base, 65535, by decide +kernel⟩,
   ⟨({ ((((base.put 0x4000 65535 1 1).put 0x4000 65535 3 16).put 0x4000 65535 4 3).put 0x4000 65535 0x0E (2 ^ 24 + 24575)).setAux .engVac 1 11 1 with keyWaits := [⟨11, 65535, 16, 5, some 24575⟩] }), 65535, (⟨11, 65535, 16, 5, some 24575⟩), by decide +kernel⟩,
   ⟨base, own, 65535, 7, by decide +kernel⟩,
   ⟨base, own, 65535, 5, by decide +kernel⟩,
   ⟨(base.put 0x4000 65535 1 5), own, 65535, 32, by decide +kernel⟩,
   ⟨(((base.put 0x3800 0 2 6).put 0x3800 0 4 65535).put 0x3800 0 1 3), own, 65535, 7, by decide +kernel⟩,
   ⟨((base.put 0x4000 65534 1 2).put 0x4000 65534 3 32), own, 24575, 2, 65534, by decide +kernel⟩,
   ⟨((base.put 0x4000 65534 1 1).put 0x4000 65534 3 16), own, 24575, 2, 65534, by decide +kernel⟩,
   ⟨(((base.put 0x4000 65534 1 4).put 0x4000 65534 3 16).put 0x4000 65534 4 1), own, 24575, 65534, by decide +kernel⟩,
   ⟨((base.put 0x4000 65534 0x0E (2 * 2 ^ 24 + 24575)).put 0x4200 24575 2 65534), own, 24575, 2, by decide +kernel⟩,
   ⟨((base.put 0x4000 65534 1 3).put 0x4000 65534 3 32), own, 47, 2, 65534, by decide +kernel⟩,
   ⟨((base.put 0x4000 65534 1 7).put 0x4000 65534 3 32), own, 0x5590, 63, 65534, by decide +kernel⟩,
   ⟨((base.put 0x4000 65534 1 7).put 0x4000 65534 3 32), own, 0x1130, 0, 65534, by decide +kernel⟩⟩

theorem wit_KeyExchangeCommandsComplete :
    (∃ (s : State) (acc : Acc) (n slot : Nat),
      Up s ∧ mayWrite acc 0x4200 n 7 1 s = true ∧ s.aux .kxKind n = 0 ∧ exchangeSlot s n (modeKind s n) = some slot ∧ s.aux .sesDerived n ≠ 0 ∧ termState s n = 3)
    ∧ (∃ (s : State) (acc : Acc) (n slot : Nat),
      Up s ∧ mayWrite acc 0x4200 n 7 1 s = true ∧ s.aux .kxKind n = 0 ∧ exchangeSlot s n (modeKind s n) = some slot ∧ s.aux .sesDerived n ≠ 0 ∧ termState s n = 3)
    ∧ (∃ (s : State) (acc : Acc) (n : Nat),
      Up s ∧ mayWrite acc 0x4200 n 7 1 s = true ∧ s.aux .kxKind n ≠ 0)
    ∧ (∃ (s : State) (acc : Acc) (n : Nat),
      Up s ∧ mayWrite acc 0x4200 n 7 1 s = true ∧ s.aux .kxKind n = 0 ∧ (exchangeSlot s n (modeKind s n) = none ∨ s.aux .sesDerived n = 0 ∨ termState s n ≠ 3))
    ∧ (∃ (s : State) (n slot index _wrapped _ty _sq : Nat) (content : List Nat),
      Up s ∧ s.aux .kxKind n = 1 ∧ s.aux .kxIndex n = index ∧ exchangeSlot s n 1 = some slot ∧ ((s.keyWaits.any fun w => w.terminal == some n) = false) ∧ (∀ w ∈ s.keyWaits, (portServed s w.port = false ∨ slotState s w.slot = 3) ∧ w.slot ≠ slot) ∧ slotState s slot = 0 ∧ portServed s (n / 2048) = true ∧ s.aux .kxNext n = 0 ∧ (∀ x ∈ (slotTree s slot).bind (remotePartner s), bindCode s (s.get 0x5590 x.1 3) ≠ 1 ∧ bindCode s (s.get 0x5590 x.1 3) ≠ 2) ∧ content.length = 36)
    ∧ (∃ (s : State) (n index frag _u : Nat) (wrapped : List Nat),
      Up s ∧ s.aux .kxKind n = 2 ∧ s.aux .kxSeq n ≠ 0 ∧ s.aux .kxIndex n = index ∧ s.aux .kxGen n < 65536 ∧ frag < 2 ∧ (s.aux .kxFrag n = 0 ∨ s.aux .kxFrag n = frag + 1) ∧ ((s.keyWaits.any fun w => w.terminal == some n) = false) ∧ wrapped.length = 16)
    ∧ (∃ (s : State) (n slot index frag _u : Nat) (wrapped : List Nat),
      Up s ∧ s.aux .kxKind n = 2 ∧ s.aux .kxSeq n ≠ 0 ∧ s.aux .kxIndex n = index ∧ s.aux .kxGen n < 65536 ∧ frag < 2 ∧ s.aux .kxFrag n = 2 - frag ∧ exchangeSlot s n 2 = some slot ∧ ((s.keyWaits.any fun w => w.terminal == some n) = false) ∧ (∀ w ∈ s.keyWaits, (portServed s w.port = false ∨ slotState s w.slot = 3) ∧ w.slot ≠ slot) ∧ slotState s slot = 0 ∧ portServed s (n / 2048) = true ∧ s.aux .kxNext n = 0 ∧ (∀ x ∈ (slotTree s slot).bind (remotePartner s), bindCode s (s.get 0x5590 x.1 3) ≠ 1 ∧ bindCode s (s.get 0x5590 x.1 3) ≠ 2) ∧ wrapped.length = 16)
    ∧ (∃ (s : State) (n slot index _wrapped _ty _sq : Nat) (content : List Nat),
      Up s ∧ s.aux .kxKind n = 1 ∧ s.aux .kxIndex n = index ∧ exchangeSlot s n 1 = some slot ∧ ((s.keyWaits.any fun w => w.terminal == some n) = false) ∧ (∀ w ∈ s.keyWaits, portServed s w.port = false ∨ slotState s w.slot = 3) ∧ (slotState s slot = 3 ∨ portServed s (n / 2048) = false) ∧ content.length = 36)
    ∧ (∃ (s : State) (n : Nat) (onu : List Nat) (kind seq : Nat) (content check : List Nat) (index : Option Nat) (_wrapped : Nat),
      let bytes := upstreamPloam onu kind seq content check
      Up s ∧ (bytes.length ≠ 48 ∨ ofBytes (bytes.take 2) % 1024 ≠ n % 512 ∨ (s.keyWaits.any fun w => w.terminal == some n) = true ∨ (∃ x ∈ index, s.aux .kxKind n ≠ 1 ∨ s.aux .kxIndex n ≠ x) ∨ (index = none ∧ (s.aux .kxKind n ≠ 2 ∨ bytes.getD 2 0 ≠ 0xE5 ∨ bytes.getD 3 0 ≠ s.aux .kxSeq n ∨ bytes.getD 4 0 ≠ 1 ∨ bytes.getD 5 0 ≠ s.aux .kxIndex n ∨ ofBytes ((bytes.drop 7).take 2) ≠ s.aux .kxGen n))))
    ∧ (∃ (s : State) (n : Nat),
      Up s ∧ (s.get 0x4200 n 4 = 1 ∨ s.get 0x4200 n 4 = 2) ∧ ((s.keyWaits.any fun w => w.terminal == some n) = false) ∧ s.aux .kxTries n < 3)
    ∧ (∃ (s : State) (n : Nat),
      Up s ∧ (s.get 0x4200 n 4 = 1 ∨ s.get 0x4200 n 4 = 2) ∧ ((s.keyWaits.any fun w => w.terminal == some n) = false) ∧ 3 ≤ s.aux .kxTries n)
    ∧ (∃ (s : State) (n : Nat),
      Up s ∧ s.get 0x4200 n 4 = 3 ∧ termState s n = 3)
    ∧ (∃ (s : State) (n : Nat),
      Up s ∧ ((s.get 0x4200 n 4 ≠ 1 ∧ s.get 0x4200 n 4 ≠ 2) ∨ (s.keyWaits.any fun w => w.terminal == some n) = true))
    ∧ (∃ (s : State) (n : Nat),
      Up s ∧ (s.get 0x4200 n 4 ≠ 3 ∨ termState s n ≠ 3)) :=
  ⟨⟨(((base.put 0x4200 24575 1 65534).setAux .sesDerived 24575 0 1).put 0x3000 24575 4 3), own, 24575, 65534, by decide +kernel⟩,
   ⟨(((((base.put 0x4200 24575 2 65534).setAux .sesDerived 24575 0 1).put 0x3000 24575 4 3).put 0x2001 47 1 1).put 0x4000 65534 4 1 |>.put 0x4000 65534 5 1), own, 24575, 65534, by decide +kernel⟩,
   ⟨(base.setAux .kxKind 24575 0 1), own, 24575, by decide +kernel⟩,
   ⟨base, own, 24575, by decide +kernel⟩,
   ⟨(((((base.put 0x4200 24575 1 65534).setAux .kxKind 24575 0 1).setAux .kxIndex 24575 0 1).setAux .engVac 1 11 1).put 0x4000 65534 3 16), 24575, 65534, 1, (2 ^ 100), 4, 9, (List.replicate 36 7), by decide +kernel⟩,
   ⟨((((base.put 0x4200 24575 4 1).setAux .kxKind 24575 0 2).setAux .kxIndex 24575 0 2).setAux .kxSeq 24575 0 77), 24575, 2, 1, 0, (List.replicate 16 3), by decide +kernel⟩,
   ⟨((((((((base.put 0x4200 24575 2 65534).put 0x4200 24575 4 2).setAux .kxKind 24575 0 2).setAux .kxIndex 24575 0 2).setAux .kxSeq 24575 0 77).setAux .engVac 1 11 1).put 0x4000 65534 3 32).setAux .kxFrag 24575 0 1 |>.setAux .kxKey 24575 0 (5 * 2 ^ 128)), 24575, 65534, 2, 1, 0, (List.replicate 16 3), by decide +kernel⟩,
   ⟨(((((base.put 0x4200 24575 1 65534).setAux .kxKind 24575 0 1).setAux .kxIndex 24575 0 1).put 0x4200 24575 4 1).put 0x4000 65534 4 3), 24575, 65534, 1, (2 ^ 100), 4, 9, (List.replicate 36 7), by decide +kernel⟩,
   ⟨base, 24575, [], 0, 0, [], [], (some 1), 2, by decide +kernel⟩,
   ⟨((base.put 0x4200 24575 4 2).setAux .kxTries 24575 0 2), 24575, by decide +kernel⟩,
   ⟨((base.put 0x4200 24575 4 2).setAux .kxTries 24575 0 3), 24575, by decide +kernel⟩,
   ⟨((base.put 0x4200 24575 4 3).put 0x3000 24575 4 3), 24575, by decide +kernel⟩,
   ⟨base, 24575, by decide +kernel⟩,
   ⟨base, 24575, by decide +kernel⟩⟩

theorem wit_MemoryCommandsComplete :
    (∃ (s : State) (me : Nat),
      let wd := s.aux .scrubAt me
      Up s ∧ scrubbing s me = true ∧ wd < Objects.memWords me ∧ classOf (syndrome (s.word me (readPlace s me wd))) = .clean)
    ∧ (∃ (s : State) (me flips : Nat),
      let wd := s.aux .scrubAt me
      let cw := Nat.xor (s.word me (readPlace s me wd)) (flips % 2 ^ 72)
      Up s ∧ scrubbing s me = true ∧ wd < Objects.memWords me ∧ classOf (syndrome cw) = .correctable)
    ∧ (∃ (s : State) (me flips : Nat),
      let wd := s.aux .scrubAt me
      let cw := Nat.xor (s.word me (readPlace s me wd)) (flips % 2 ^ 72)
      Up s ∧ scrubbing s me = true ∧ wd < Objects.memWords me ∧ classOf (syndrome cw) = .correctable)
    ∧ (∃ (s : State) (me flips : Nat),
      let wd := s.aux .scrubAt me
      let cw := Nat.xor (s.word me (readPlace s me wd)) (flips % 2 ^ 72)
      Up s ∧ scrubbing s me = true ∧ wd < Objects.memWords me ∧ classOf (syndrome cw) = .uncorrectable)
    ∧ (∃ (s : State) (me flips : Nat),
      let wd := s.aux .scrubAt me
      let cw := Nat.xor (s.word me (readPlace s me wd)) (flips % 2 ^ 72)
      Up s ∧ scrubbing s me = true ∧ wd < Objects.memWords me ∧ (classOf (syndrome cw) = .poisoned ∨ classOf (syndrome cw) = .clean))
    ∧ (∃ (s : State) (me _flips : Nat),
      Up s ∧ (scrubbing s me = false ∨ Objects.memWords me ≤ s.aux .scrubAt me))
    ∧ (∃ (s : State) (me : Nat),
      Up s ∧ scrubbing s me = true ∧ s.aux .scrubAt me = Objects.memWords me)
    ∧ (∃ (s : State) (me : Nat),
      Up s ∧ scrubbing s me = true ∧ s.aux .scrubAt me = Objects.memWords me)
    ∧ (∃ (s : State) (me b0 : Nat),
      let thr := s.get 0x5900 me 4
      Up s ∧ scrubbing s me = true ∧ s.aux .scrubAt me = Objects.memWords me ∧ me < 14 ∧ b0 < 16 ∧ (s.aux .bankReq (16 * me + b0) = 1 ∨ (thr ≠ 0 ∧ thr ≤ s.aux .bankCorr (16 * me + b0))) ∧ (∀ x ∈ List.range 16, x ≠ b0 → s.aux .bankReq (16 * me + x) ≠ 1 ∧ (thr = 0 ∨ s.aux .bankCorr (16 * me + x) < thr)) ∧ testCause s me b0 = 0)
    ∧ (∃ (s : State) (me : Nat),
      Up s ∧ (scrubbing s me = false ∨ s.aux .scrubAt me ≠ Objects.memWords me))
    ∧ (∃ (s : State) (acc : Acc) (m v : Nat),
      Up s ∧ mayWrite acc 0x5820 m 2 v s = true)
    ∧ (∃ (s : State) (acc : Acc) (m : Nat),
      Up s ∧ mayWrite acc 0x5840 m 4 1 s = true ∧ s.get 0x5840 m 4 ≠ 1)
    ∧ (∃ (s : State) (acc : Acc) (m : Nat),
      Up s ∧ mayWrite acc 0x5840 m 4 1 s = true ∧ s.get 0x5840 m 4 = 1)
    ∧ (∃ (s : State) (acc : Acc) (m : Nat),
      Up s ∧ mayWrite acc 0x5840 m 4 0 s = true)
    ∧ (∃ (s : State) (acc : Acc) (m v : Nat),
      Up s ∧ mayWrite acc 0x5800 m 0x0A v s = true)
    ∧ (∃ (s : State) (acc : Acc) (c bank : Nat),
      Up s ∧ mayWrite acc 0x5900 c 1 bank s = true ∧ bank ≠ 0xFF ∧ testCause s c bank = 0)
    ∧ (∃ (s : State) (acc : Acc) (c bank : Nat),
      Up s ∧ mayWrite acc 0x5900 c 1 bank s = true ∧ bank ≠ 0xFF ∧ testCause s c bank ≠ 0)
    ∧ (∃ (s : State) (c : Nat) (_fails : List FailBit),
      Up s ∧ s.get 0x5900 c 2 = 1 ∧ c < 14 ∧ s.islandUp c = true)
    ∧ (∃ (s : State) (c : Nat) (_fails : List FailBit),
      Up s ∧ s.get 0x5900 c 2 = 1 ∧ c < 14 ∧ s.islandUp c = true)
    ∧ (∃ (s : State) (c : Nat) (fails : List FailBit),
      Up s ∧ c < 14 ∧ s.islandUp c = true ∧ s.get 0x5900 c 2 = 2 ∧ distinctFails fails = [])
    ∧ (∃ (s : State) (c : Nat) (fails : List FailBit),
      let fl := distinctFails fails
      let rows := (fl.map fun f => f.word / 128).eraseDups
      let i := 16 * c + lentBank s c
      Up s ∧ c < 14 ∧ s.islandUp c = true ∧ s.get 0x5900 c 2 = 2 ∧ fl ≠ [] ∧ s.get 0x5940 i 1 + rows.length ≤ 8)
    ∧ (∃ (s : State) (c : Nat) (fails : List FailBit),
      let fl := distinctFails fails
      let rows := (fl.map fun f => f.word / 128).eraseDups
      let i := 16 * c + lentBank s c
      Up s ∧ c < 14 ∧ s.islandUp c = true ∧ fl ≠ [] ∧ ((s.get 0x5900 c 2 = 2 ∧ 8 < s.get 0x5940 i 1 + rows.length) ∨ s.get 0x5900 c 2 = 3))
    ∧ (∃ (s : State) (c : Nat) (fails : List FailBit),
      let fl := distinctFails fails
      let rows := (fl.map fun f => f.word / 128).eraseDups
      let i := 16 * c + lentBank s c
      Up s ∧ c < 14 ∧ s.islandUp c = true ∧ fl ≠ [] ∧ ((s.get 0x5900 c 2 = 2 ∧ 8 < s.get 0x5940 i 1 + rows.length) ∨ s.get 0x5900 c 2 = 3))
    ∧ (∃ (s : State) (c : Nat) (fails : List FailBit),
      Up s ∧ c < 14 ∧ s.islandUp c = true ∧ s.get 0x5900 c 2 = 3 ∧ distinctFails fails = [])
    ∧ (∃ (s : State) (c : Nat) (_fails : List FailBit),
      Up s ∧ c < 14 ∧ s.islandUp c = true ∧ s.get 0x5900 c 2 = 4)
    ∧ (∃ (s : State) (c : Nat) (_fails : List FailBit),
      Up s ∧ c < 14 ∧ s.islandUp c = true ∧ s.get 0x5900 c 2 = 4)
    ∧ (∃ (s : State) (c : Nat) (_fails : List FailBit),
      Up s ∧ (14 ≤ c ∨ s.islandUp c = false ∨ s.get 0x5900 c 2 = 0))
    ∧ (∃ (s : State) (acc : Acc) (c : Nat),
      Up s ∧ mayWrite acc 0x5900 c 1 0xFF s = true ∧ (testRunning s c = false ∨ s.aux .stAban c ≠ 0))
    ∧ (∃ (s : State) (acc : Acc) (c : Nat),
      Up s ∧ mayWrite acc 0x5900 c 1 0xFF s = true ∧ 1 < s.get 0x5900 c 2 ∧ s.aux .stAban c = 0)
    ∧ (∃ (s : State) (acc : Acc) (c : Nat),
      Up s ∧ mayWrite acc 0x5900 c 1 0xFF s = true ∧ s.get 0x5900 c 2 = 1 ∧ s.aux .stAban c = 0) :=
  ⟨⟨((base.put 0x5820 66 1 1).setAux .scrubAt 66 0 786431), 66, by decide +kernel⟩,
   ⟨(base.put 0x5820 0 1 1), 0, 2, by decide +kernel⟩,
   ⟨(((base.put 0x5820 0 1 1).put 0x5820 0 4 6).setAux .lastCorr 0 0 6), 0, 2, by decide +kernel⟩,
   ⟨(base.put 0x5820 0 1 1), 0, 3, by decide +kernel⟩,
   ⟨((base.put 0x5820 0 1 1).setWord 0 0 (codeWord 5 0x60)), 0, 0, by decide +kernel⟩,
   ⟨(base.put 0x5820 66 1 0), 66, 3, by decide +kernel⟩,
   ⟨({ (base.put 0x5820 66 1 1).setAux .scrubAt 66 0 786432 with now := 5 }), 66, by decide +kernel⟩,
   ⟨({ ((base.put 0x5820 66 1 1).setAux .scrubAt 66 0 786432).setAux .scrubAllow 66 0 3 with now := 5 }), 66, by decide +kernel⟩,
   ⟨((((base.put 0x5820 13 1 1).setAux .scrubAt 13 0 (Objects.memWords 13)).put 0x1050 0 1 2).setAux .bankCorr (16 * 13 + 15) 0 8), 13, 15, by decide +kernel⟩,
   ⟨(base.put 0x5820 66 1 0), 66, by decide +kernel⟩,
   ⟨base, own, 66, 60, by decide +kernel⟩,
   ⟨(base.put 0x5840 66 4 2), own, 66, by decide +kernel⟩,
   ⟨(base.put 0x5840 66 4 1), own, 66, by decide +kernel⟩,
   ⟨(base.put 0x5840 66 4 1), own, 66, by decide +kernel⟩,
   ⟨(base.put 0x5800 66 9 77), own, 66, 1, by decide +kernel⟩,
   ⟨(base.put 0x1050 0 1 2), own, 13, 15, by decide +kernel⟩,
   ⟨((base.put 0x1050 0 1 2).put 0x5900 13 2 2), own, 13, 15, by decide +kernel⟩,
   ⟨(base.put 0x5900 13 2 1), 13, [], by decide +kernel⟩,
   ⟨((((base.put 0x5900 13 2 1).put 0x5900 13 3 2).setWord 13 65540 (codeWord 77 0 + 1)).setWord 13 524290 9), 13, [], by decide +kernel⟩,
   ⟨(base.put 0x5900 13 2 2), 13, ([⟨32768, 0, 0, 0, 0⟩]), by decide +kernel⟩,
   ⟨((base.put 0x5900 13 2 2).put 0x5900 13 3 15), 13, ([⟨32767, 71, 3, 5, 1⟩]), by decide +kernel⟩,
   ⟨((base.put 0x5900 13 2 2).put 0x5940 (16 * 13 + 255) 1 8), 13, ([⟨32767, 71, 3, 5, 1⟩]), by decide +kernel⟩,
   ⟨(base.put 0x5900 13 2 3), 13, ([⟨32767, 71, 3, 5, 1⟩]), by decide +kernel⟩,
   ⟨(base.put 0x5900 13 2 3), 13, [], by decide +kernel⟩,
   ⟨(((base.put 0x5900 13 2 4).put 0x5900 13 3 15).setAux .stRows 13 0 1), 13, [], by decide +kernel⟩,
   ⟨(((base.put 0x5900 13 2 4).put 0x5900 13 3 15).setAux .stAban 13 0 4), 13, [], by decide +kernel⟩,
   ⟨base, 13, [], by decide +kernel⟩,
   ⟨base, own, 13, by decide +kernel⟩,
   ⟨(base.put 0x5900 13 2 2), own, 13, by decide +kernel⟩,
   ⟨(base.put 0x5900 13 2 1), own, 13, by decide +kernel⟩⟩

theorem wit_UpgradeCommandsComplete :
    (∃ (s : State) (acc : Acc) (c slot : Nat) (_features : List (Nat × Nat × Nat × Nat)),
      Up s ∧ mayWrite acc 0x5500 0 2 c s = true ∧ s.get 0x5500 0 1 = slot ∧ (clusters s).contains c = true ∧ s.aux .upStep = 0 ∧ s.get 0x1301 0 1 ≠ 2 ∧ (((clusterSpares s c).any fun e => carries s e || s.get 0x5400 e 2 == 4) = false) ∧ s.get 0x1300 slot 2 = 1 ∧ (((clusters s).any fun x => x != c && !levelFits (s.get 0x5510 x 1) (s.get 0x1300 slot 3)) = false) ∧ (((List.range 64).any fun m => s.get 0x5590 m 1 != 0 && !levelFits (s.get 0x5590 m 1) (s.get 0x1300 slot 3)) = false) ∧ stepSpares (s.setAux .upTarget 0 0 slot) c ≠ [])
    ∧ (∃ (s : State) (acc : Acc) (c : Nat) (_features : List (Nat × Nat × Nat × Nat)),
      let slot := s.get 0x5500 0 1
      let busy := s.aux .upStep ≠ 0 ∨ s.get 0x1301 0 1 = 2 ∨ ((clusterSpares s c).any fun e => carries s e || s.get 0x5400 e 2 == 4) = true
      Up s ∧ mayWrite acc 0x5500 0 2 c s = true ∧ (clusters s).contains c = true ∧ (busy ∨ s.get 0x1300 slot 2 ≠ 1 ∨ ((clusters s).any fun x => x != c && !levelFits (s.get 0x5510 x 1) (s.get 0x1300 slot 3)) = true ∨ ((List.range 64).any fun m => s.get 0x5590 m 1 != 0 && !levelFits (s.get 0x5590 m 1) (s.get 0x1300 slot 3)) = true))
    ∧ (∃ (s : State) (acc : Acc) (c : Nat) (_features : List (Nat × Nat × Nat × Nat)),
      let slot := s.get 0x5500 0 1
      let busy := s.aux .upStep ≠ 0 ∨ s.get 0x1301 0 1 = 2 ∨ ((clusterSpares s c).any fun e => carries s e || s.get 0x5400 e 2 == 4) = true
      Up s ∧ mayWrite acc 0x5500 0 2 c s = true ∧ (clusters s).contains c = true ∧ (busy ∨ s.get 0x1300 slot 2 ≠ 1 ∨ ((clusters s).any fun x => x != c && !levelFits (s.get 0x5510 x 1) (s.get 0x1300 slot 3)) = true ∨ ((List.range 64).any fun m => s.get 0x5590 m 1 != 0 && !levelFits (s.get 0x5590 m 1) (s.get 0x1300 slot 3)) = true))
    ∧ (∃ (s : State) (c : Nat),
      Up s ∧ s.aux .upStep = 1 ∧ s.aux .upCluster = c + 1)
    ∧ (∃ (s : State) (c e : Nat),
      Up s ∧ s.aux .upStep ≠ 0 ∧ s.aux .upCluster = c + 1 ∧ e ∈ reloading s c)
    ∧ (∃ (s : State) (c : Nat),
      Up s ∧ s.aux .upStep = 2 ∧ s.aux .upCluster = c + 1)
    ∧ (∃ (s : State) (c : Nat),
      Up s ∧ s.aux .upStep = 3 ∧ s.aux .upCluster = c + 1)
    ∧ (∃ (s : State) (c : Nat),
      Up s ∧ s.aux .upStep = 4 ∧ s.aux .upCluster = c + 1)
    ∧ (∃ (s : State) (c : Nat),
      Up s ∧ s.aux .upStep = 5 ∧ s.aux .upCluster = c + 1)
    ∧ (∃ (s : State) (c : Nat),
      Up s ∧ s.aux .upStep = 5 ∧ s.aux .upCluster = c + 1 ∧ stepSpares s c = [] ∧ rolesLeft s c = [] ∧ (∀ e ∈ inPlace s c, e ∈ reloading s c))
    ∧ (∃ (s : State) (failed : Option Nat),
      Up s ∧ (s.aux .upStep = 0 ∨ ∃ e ∈ failed, e ∉ reloading s (s.aux .upCluster - 1)))
    ∧ (∃ (s : State) (acc : Acc) (c : Nat),
      Up s ∧ mayWrite acc 0x5500 0 3 1 s = true ∧ s.aux .upStep = 0 ∧ s.aux .upStop = c + 1)
    ∧ (∃ (s : State) (acc : Acc),
      Up s ∧ mayWrite acc 0x5500 0 3 1 s = true ∧ (s.aux .upStep ≠ 0 ∨ s.aux .upStop = 0)) :=
  ⟨⟨((base.put 0x1300 1 2 1).put 0x5500 0 1 1), own, 0, 1, ([(3, 0x0101, 1, 5)]), by decide +kernel⟩,
   ⟨((base.put 0x1300 1 2 1).put 0x5500 0 1 1 |>.setAux .upStep 0 0 1), own, 0, [], by decide +kernel⟩,
   ⟨(base.put 0x5500 0 1 1), own, 0, [], by decide +kernel⟩,
   ⟨((((base.setAux .upStep 0 0 1).setAux .upCluster 0 0 1).setAux .upTarget 0 0 1).put 0x5400 4 2 2), 0, by decide +kernel⟩,
   ⟨((((base.setAux .upStep 0 0 1).setAux .upCluster 0 0 1).setAux .upTarget 0 0 1).put 0x5400 4 2 2), 0, 4, by decide +kernel⟩,
   ⟨((((base.setAux .upStep 0 0 2).setAux .upCluster 0 0 1).setAux .upTarget 0 0 1).put 0x5400 4 2 1), 0, by decide +kernel⟩,
   ⟨((((base.setAux .upStep 0 0 3).setAux .upCluster 0 0 1).setAux .upTarget 0 0 1).put 0x5400 0 2 2), 0, by decide +kernel⟩,
   ⟨(((((base.setAux .upStep 0 0 4).setAux .upCluster 0 0 1).setAux .upTarget 0 0 1).put 0x5400 0 2 3).setAux .engImg 0 0 1), 0, by decide +kernel⟩,
   ⟨((((base.setAux .upStep 0 0 5).setAux .upCluster 0 0 1).setAux .upTarget 0 0 1).put 0x5400 10 2 2), 0, by decide +kernel⟩,
   ⟨((((base.setAux .upStep 0 0 5).setAux .upCluster 0 0 1).setAux .upTarget 0 0 0).put 0x1300 0 3 0x0101), 0, by decide +kernel⟩,
   ⟨base, none, by decide +kernel⟩,
   ⟨((base.setAux .upStop 0 0 14).setAux .prevImg 13 0 2), own, 13, by decide +kernel⟩,
   ⟨base, own, by decide +kernel⟩⟩

theorem wit_SessionCommandsComplete :
    (∃ (s : State) (m : RolIn) (x pr : Nat),
      Up s ∧ rolForm m.bytes = true ∧ m.bytes.getD 3 0 = 1 ∧ (m.bytes.getD 24 0 = 0xFF ∨ m.bytes.getD 24 0 = member s) ∧ (rolPayload m.bytes).length = 68 ∧ numAt (rolPayload m.bytes) 0 2 = pr ∧ mayOpen s pr = true ∧ ((List.range 63).find? (fun x => s.get 0x1120 x 1 == 0) = some x) ∧ ((List.range 63).countP (fun x => s.get 0x1120 x 1 == 1) < 16) ∧ (carrierOf s (209 + x / 32)).isSome = true)
    ∧ (∃ (s : State) (m : RolIn),
      Up s ∧ rolForm m.bytes = true ∧ m.bytes.getD 3 0 = 1 ∧ (m.bytes.getD 24 0 = 0xFF ∨ m.bytes.getD 24 0 = member s) ∧ (rolPayload m.bytes).length = 68 ∧ (mayOpen s (numAt (rolPayload m.bytes) 0 2) = false ∨ (List.range 63).find? (fun x => s.get 0x1120 x 1 == 0) = none ∨ 16 ≤ (List.range 63).countP (fun x => s.get 0x1120 x 1 == 1)))
    ∧ (∃ (s : State) (m : RolIn),
      Up s ∧ (rolForm m.bytes = false ∨ m.bytes.getD 3 0 ≠ 1))
    ∧ (∃ (s : State) (m0 : RolIn) (x : Nat),
      let m := signed m0 s
      Up s ∧ rolForm m.bytes = true ∧ m.bytes.getD 3 0 = 3 ∧ (m.bytes.getD 24 0 = 0xFF ∨ m.bytes.getD 24 0 = member s) ∧ slotOf m = x ∧ (carrierOf s (209 + x / 32)).isSome = true ∧ s.get 0x1120 x 1 = 1 ∧ s.aux .sesNonce x = numAt m.bytes 4 4 ∧ numOf m = 0 ∧ rolPayload m.bytes = bytesOf 32 (s.aux .sesKeys x 3))
    ∧ (∃ (s : State) (m0 : RolIn) (x : Nat),
      let m := signed m0 s
      Up s ∧ rolForm m.bytes = true ∧ m.bytes.getD 3 0 = 3 ∧ (m.bytes.getD 24 0 = 0xFF ∨ m.bytes.getD 24 0 = member s) ∧ slotOf m = x ∧ (carrierOf s (209 + x / 32)).isSome = true ∧ s.get 0x1120 x 1 = 1 ∧ s.aux .sesNonce x = numAt m.bytes 4 4 ∧ (numOf m ≠ 0 ∨ rolPayload m.bytes ≠ bytesOf 32 (s.aux .sesKeys x 3)))
    ∧ (∃ (s : State) (m0 : RolIn) (x : Nat),
      let m := missigned m0 s
      Up s ∧ rolForm m.bytes = true ∧ m.bytes.getD 3 0 = 3 ∧ (m.bytes.getD 24 0 = 0xFF ∨ m.bytes.getD 24 0 = member s) ∧ slotOf m = x ∧ (carrierOf s (209 + x / 32)).isSome = true ∧ s.get 0x1120 x 1 = 1 ∧ s.aux .sesNonce x = numAt m.bytes 4 4)
    ∧ (∃ (s : State) (m0 : RolIn) (tag : List Nat) (x : Nat),
      let m := { m0 with bytes := m0.bytes ++ tag }
      Up s ∧ rolForm m.bytes = true ∧ m.bytes.getD 3 0 = 3 ∧ (m.bytes.getD 24 0 = 0xFF ∨ m.bytes.getD 24 0 = member s) ∧ slotOf m = x ∧ (carrierOf s (209 + x / 32)).isSome = true ∧ (s.get 0x1120 x 1 ≠ 1 ∨ s.aux .sesNonce x ≠ numAt m.bytes 4 4))
    ∧ (∃ (s : State) (x : Nat),
      Up s ∧ x < 63 ∧ s.get 0x1120 x 1 = 1 ∧ s.aux .sesAlive x + 1000000000 ≤ s.now)
    ∧ (∃ (s : State) (x : Nat),
      Up s ∧ (63 ≤ x ∨ s.get 0x1120 x 1 ≠ 1 ∨ s.now < s.aux .sesAlive x + 1000000000))
    ∧ (∃ (s : State) (m0 : RolIn),
      let m := signed m0 s
      Up s ∧ sessionTakes 0x30 m s = true)
    ∧ (∃ (s : State) (m0 : RolIn),
      let m := signed m0 s
      Up s ∧ sessionTakes 0x30 m s = true)
    ∧ (∃ (s : State) (m0 : RolIn),
      let m := missigned m0 s
      Up s ∧ sessionTakes 0x30 m s = true ∧ (s.aux .sesFails (slotOf m) < 63 ∨ s.aux .sesFail0 (slotOf m) + 1000000000 ≤ s.now))
    ∧ (∃ (s : State) (m0 : RolIn),
      let m := missigned m0 s
      let x := slotOf m
      Up s ∧ sessionTakes 0x30 m s = true ∧ 63 ≤ s.aux .sesFails x ∧ s.now < s.aux .sesFail0 x + 1000000000)
    ∧ (∃ (s : State) (m0 : RolIn),
      let m := signed m0 s
      let x := slotOf m
      Up s ∧ rolForm m.bytes = true ∧ m.bytes.getD 3 0 = 0x30 ∧ (m.bytes.getD 24 0 = 0xFF ∨ m.bytes.getD 24 0 = member s) ∧ (carrierOf s (209 + x / 32)).isSome = true ∧ 2 ≤ s.get 0x1120 x 1 ∧ s.aux .sesNonce x = numAt m.bytes 4 4 ∧ windowCode s x (numOf m) = 2)
    ∧ (∃ (s : State) (m0 : RolIn),
      let m := signed m0 s
      Up s ∧ sessionTakes 0x31 m s = true)
    ∧ (∃ (s : State) (x : Nat),
      Up s ∧ x < 63 ∧ 2 ≤ s.get 0x1120 x 1 ∧ s.aux .sesAlive x + s.get 0x1100 0 5 * 1000000000 ≤ s.now)
    ∧ (∃ (s : State) (x : Nat),
      Up s ∧ (63 ≤ x ∨ s.get 0x1120 x 1 < 2 ∨ s.now < s.aux .sesAlive x + s.get 0x1100 0 5 * 1000000000))
    ∧ (∃ (s : State) (acc : Acc) (x : Nat),
      Up s ∧ mayWrite acc 0x1120 x 7 1 s = true ∧ 2 ≤ s.get 0x1120 x 1)
    ∧ (∃ (s : State) (acc : Acc) (x : Nat),
      Up s ∧ mayWrite acc 0x1120 x 7 1 s = true ∧ s.get 0x1120 x 1 < 2)
    ∧ (∃ (s : State) (acc : Acc) (pr sub v : Nat),
      Up s ∧ (sub = 3 ∨ (sub = 4 ∧ v = 0)) ∧ mayWrite acc 0x1110 pr sub v s = true)
    ∧ (∃ (s : State) (acc : Acc) (pr sub v : Nat),
      Up s ∧ (sub = 3 ∨ (sub = 4 ∧ v = 0)) ∧ mayWrite acc 0x1110 pr sub v s = true)
    ∧ (∃ (s : State) (acc : Acc) (pr sub v : Nat),
      Up s ∧ sub ≠ 3 ∧ (sub ≠ 4 ∨ v ≠ 0) ∧ mayWrite acc 0x1110 pr sub v s = true)
    ∧ (∃ (s : State) (acc : Acc),
      Up s ∧ mayWrite acc 0x1112 0 1 1 s = true)
    ∧ (∃ (s : State) (acc : Acc),
      Up s ∧ mayWrite acc 0x1112 0 1 0 s = true) :=
  ⟨⟨((base.put 0x1110 3 4 1).put 0x1120 0 1 2), (rolMsg 1 9 ([0, 3] ++ List.replicate 66 1)), 1, 3, by decide +kernel⟩,
   ⟨base, (rolMsg 1 9 ([0, 3] ++ List.replicate 66 1)), by decide +kernel⟩,
   ⟨base, (rolMsg 2 9 []), by decide +kernel⟩,
   ⟨((sesBase.put 0x1120 5 1 1).put 0x1110 65535 3 1 |>.setAux .sesKeys 5 3 9), (rolBare 3 0 (List.replicate 31 0 ++ [9])), 5, by decide +kernel⟩,
   ⟨(sesBase.put 0x1120 5 1 1), (rolBare 3 0 (List.replicate 32 1)), 5, by decide +kernel⟩,
   ⟨(sesBase.put 0x1120 5 1 1), (rolBare 3 0 (List.replicate 32 1)), 5, by decide +kernel⟩,
   ⟨sesBase, (rolBare 3 0 (List.replicate 32 1)), (List.replicate 32 5), 5, by decide +kernel⟩,
   ⟨({ base.put 0x1120 62 1 1 with now := 1000000000 }), 62, by decide +kernel⟩,
   ⟨(base.put 0x1120 62 1 1), 62, by decide +kernel⟩,
   ⟨sesBase, (rolBare 0x30 1 []), by decide +kernel⟩,
   ⟨((sesBase.setAux .sesHigh 5 0 70).setAux .sesSeen 5 0 1), (rolBare 0x30 7 []), by decide +kernel⟩,
   ⟨sesBase, (rolBare 0x30 1 []), by decide +kernel⟩,
   ⟨(sesBase.setAux .sesFails 5 0 63), (rolBare 0x30 1 []), by decide +kernel⟩,
   ⟨(sesBase.setAux .sesHigh 5 0 70), (rolBare 0x30 5 []), by decide +kernel⟩,
   ⟨({ sesBase with replies := [⟨5, 1, []⟩] }), (rolBare 0x31 1 []), by decide +kernel⟩,
   ⟨({ sesBase with now := 400000000000000 }), 5, by decide +kernel⟩,
   ⟨sesBase, 5, by decide +kernel⟩,
   ⟨sesBase, own, 5, by decide +kernel⟩,
   ⟨base, own, 5, by decide +kernel⟩,
   ⟨((sesBase.put 0x1120 5 2 3).put 0x1110 3 4 1), own, 3, 4, 0, by decide +kernel⟩,
   ⟨(sesBase.put 0x1120 5 2 3), own, 3, 3, 1, by decide +kernel⟩,
   ⟨sesBase, own, 3, 4, 1, by decide +kernel⟩,
   ⟨base, own, by decide +kernel⟩,
   ⟨((sesBase.put 0x1120 5 3 3).setAux .vendorOn 0 0 1), own, by decide +kernel⟩⟩

theorem wit_RequestCommandsComplete :
    (∃ (s : State) (m0 : RolIn),
      let m := signed m0 s
      let x := slotOf m
      Up s ∧ sessionTakes 0x10 m s = true ∧ s.get 0x1120 x 1 = 2 ∧ s.aux .sesSeq x < 2 ^ 63)
    ∧ (∃ (s : State) (m0 : RolIn),
      let m := signed m0 s
      let x := slotOf m
      Up s ∧ sessionTakes 0x10 m s = true ∧ s.get 0x1120 x 1 = 2 ∧ s.aux .sesSeq x < 2 ^ 63)
    ∧ (∃ (s : State) (m0 : RolIn) (i : Item),
      let m := signed m0 s
      let x := slotOf m
      let r := readItem (sessionAcc (counted m s) x) i.index i.inst i.sub (counted m s)
      Up s ∧ sessionTakes 0x10 m s = true ∧ s.get 0x1120 x 1 = 2 ∧ s.aux .sesSeq x < 2 ^ 63 ∧ parseItems 64 (rolPayload m.bytes) = some [i] ∧ i.sealing = false ∧ widthAt i.index i.inst i.sub ≤ 1372 ∧ r.2.2.get 0x1120 x 1 = 2)
    ∧ (∃ (s : State) (m0 : RolIn),
      let m := signed m0 s
      let x := slotOf m
      Up s ∧ sessionTakes 0x10 m s = true ∧ s.get 0x1120 x 1 = 3 ∧ s.aux .sesSeq x < 2 ^ 63)
    ∧ (∃ (s : State) (m0 : RolIn),
      let m := signed m0 s
      let x := slotOf m
      Up s ∧ rolForm m.bytes = true ∧ m.bytes.getD 3 0 = 0x10 ∧ (m.bytes.getD 24 0 = 0xFF ∨ m.bytes.getD 24 0 = member s) ∧ (carrierOf s (209 + x / 32)).isSome = true ∧ 2 ≤ s.get 0x1120 x 1 ∧ s.aux .sesNonce x = numAt m.bytes 4 4 ∧ windowCode s x (numOf m) = 1)
    ∧ (∃ (s : State) (m0 : RolIn) (bw : WriteIn) (i : Item),
      let m := signed m0 s
      let x := slotOf m
      let data := if i.sealing then sealData (s.aux .sesKeys x 2) (s.aux .sesNonce x) (numOf m) 0 i.data else i.data
      let r := writeItem (sessionAcc (counted m s) x) i.index i.inst i.sub data bw (counted m s)
      Up s ∧ sessionTakes 0x12 m s = true ∧ s.get 0x1120 x 1 = 2 ∧ s.aux .sesSeq x < 2 ^ 63 ∧ parseItems 128 (rolPayload m.bytes) = some [i] ∧ (unsealedKey i = false ∨ i.sealing = true) ∧ r.2.get 0x1120 x 1 = 2)
    ∧ (∃ (s : State) (m0 : RolIn) (_bw : WriteIn),
      let m := signed m0 s
      let x := slotOf m
      Up s ∧ sessionTakes 0x12 m s = true ∧ s.get 0x1120 x 1 = 2 ∧ s.aux .sesSeq x < 2 ^ 63)
    ∧ (∃ (s : State) (m0 : RolIn) (_bw : WriteIn),
      let m := signed m0 s
      let x := slotOf m
      Up s ∧ sessionTakes 0x12 m s = true ∧ s.get 0x1120 x 1 = 2 ∧ s.aux .sesSeq x < 2 ^ 63)
    ∧ (∃ (s : State) (m0 : RolIn) (_bw : WriteIn) (i : Item),
      let m := signed m0 s
      let x := slotOf m
      Up s ∧ sessionTakes 0x12 m s = true ∧ s.get 0x1120 x 1 = 2 ∧ s.aux .sesSeq x < 2 ^ 63 ∧ parseItems 128 (rolPayload m.bytes) = some [i] ∧ i.sealing = false ∧ unsealedKey i = true ∧ frozen s (280 + x) = false)
    ∧ (∃ (s : State) (m0 : RolIn),
      let m := signed m0 s
      let x := slotOf m
      let b := rolPayload m.bytes
      Up s ∧ sessionTakes 0x14 m s = true ∧ s.get 0x1120 x 1 = 2 ∧ s.aux .sesSeq x < 2 ^ 63 ∧ b.length = 20 ∧ (numAt b 16 4 = 0 ∨ 65536 < numAt b 16 4))
    ∧ (∃ (s : State) (m0 : RolIn),
      let m := signed m0 s
      let x := slotOf m
      let b := rolPayload m.bytes
      let r := readRange (sessionAcc (counted m s) x) (numAt b 0 2) (numAt b 4 4) (b.getD 2 0) (numAt b 12 4) (numAt b 16 4) id (counted m s)
      Up s ∧ sessionTakes 0x14 m s = true ∧ s.get 0x1120 x 1 = 2 ∧ s.aux .sesSeq x < 2 ^ 63 ∧ b.length = 20 ∧ r.1 = 0 ∧ r.2.2.get 0x1120 x 1 = 2 ∧ bit 7 (b.getD 3 0) = false)
    ∧ (∃ (s : State) (m0 : RolIn),
      let m := signed m0 s
      let x := slotOf m
      let b := rolPayload m.bytes
      let r := readRange (sessionAcc (counted m s) x) (numAt b 0 2) (numAt b 4 4) (b.getD 2 0) (numAt b 12 4) (numAt b 16 4) id (counted m s)
      Up s ∧ sessionTakes 0x14 m s = true ∧ s.get 0x1120 x 1 = 2 ∧ s.aux .sesSeq x < 2 ^ 63 ∧ b.length = 20 ∧ r.1 ≠ 0 ∧ r.2.2.get 0x1120 x 1 = 2)
    ∧ (∃ (s : State) (m0 : RolIn),
      let m := signed m0 s
      let x := slotOf m
      Up s ∧ sessionTakes 0x14 m s = true ∧ s.get 0x1120 x 1 = 2 ∧ s.aux .sesSeq x < 2 ^ 63 ∧ (rolPayload m.bytes).length ≠ 20)
    ∧ (∃ (s : State) (m0 : RolIn) (bw : WriteIn),
      let m := signed m0 s
      let x := slotOf m
      let b := rolPayload m.bytes
      let data := if bit 7 (b.getD 3 0) then sealData (s.aux .sesKeys x 2) (s.aux .sesNonce x) (numOf m) 0 (b.drop 24) else b.drop 24
      let r := takeBlock (sessionAcc (counted m s) x) (numAt b 12 2) (numAt b 0 2) (numAt b 4 4) (b.getD 2 0) (numAt b 16 4) (numAt b 20 4) data bw (counted m s)
      Up s ∧ sessionTakes 0x16 m s = true ∧ s.get 0x1120 x 1 = 2 ∧ s.aux .sesSeq x < 2 ^ 63 ∧ b.length = 24 + numAt b 14 2 ∧ (numAt b 0 2 ≠ 0x4000 ∨ b.getD 2 0 ≠ 2 ∨ bit 7 (b.getD 3 0) = true) ∧ r.2.2.get 0x1120 x 1 = 2)
    ∧ (∃ (s : State) (m0 : RolIn) (_bw : WriteIn),
      let m := signed m0 s
      let x := slotOf m
      let b := rolPayload m.bytes
      Up s ∧ sessionTakes 0x16 m s = true ∧ s.get 0x1120 x 1 = 2 ∧ s.aux .sesSeq x < 2 ^ 63 ∧ (b.length ≠ 24 + numAt b 14 2 ∨ (numAt b 0 2 = 0x4000 ∧ b.getD 2 0 = 2 ∧ bit 7 (b.getD 3 0) = false)))
    ∧ (∃ (s : State) (m0 : RolIn) (_bw : WriteIn),
      let m := signed m0 s
      let x := slotOf m
      let b := rolPayload m.bytes
      Up s ∧ sessionTakes 0x16 m s = true ∧ s.get 0x1120 x 1 = 2 ∧ s.aux .sesSeq x < 2 ^ 63 ∧ (b.length ≠ 24 + numAt b 14 2 ∨ (numAt b 0 2 = 0x4000 ∧ b.getD 2 0 = 2 ∧ bit 7 (b.getD 3 0) = false)))
    ∧ (∃ (s : State) (x num : Nat) (u : Transfer),
      Up s ∧ transferOf s (280 + x) num = some u ∧ s.aux .sesSeq x < 2 ^ 63 ∧ u.last + 1000000000 ≤ s.now)
    ∧ (∃ (s : State) (x num : Nat),
      Up s ∧ ((transferOf s (280 + x) num).all (fun u => decide (s.now < u.last + 1000000000)) = true))
    ∧ (∃ (s : State) (m0 : RolIn) (num low first last clears : Nat),
      let m := signed m0 s
      let x := slotOf m
      Up s ∧ sessionTakes 0x20 m s = true ∧ s.get 0x1120 x 1 = 2 ∧ s.aux .sesSeq x < 2 ^ 63 ∧ rolPayload m.bytes = [num, 1, low, clears, first / 256, first % 256, last / 256, last % 256] ∧ num ≤ 15 ∧ 1 ≤ low ∧ low ≤ 3 ∧ first ≤ last ∧ last < 65536)
    ∧ (∃ (s : State) (m0 : RolIn) (num low first last clears : Nat),
      let m := signed m0 s
      let x := slotOf m
      Up s ∧ sessionTakes 0x20 m s = true ∧ s.get 0x1120 x 1 = 2 ∧ s.aux .sesSeq x < 2 ^ 63 ∧ rolPayload m.bytes = [num, 0, low, clears, first / 256, first % 256, last / 256, last % 256] ∧ num ≤ 15)
    ∧ (∃ (s : State) (m0 : RolIn),
      let m := signed m0 s
      let x := slotOf m
      let b := rolPayload m.bytes
      Up s ∧ sessionTakes 0x20 m s = true ∧ s.get 0x1120 x 1 = 2 ∧ s.aux .sesSeq x < 2 ^ 63 ∧ (b.length ≠ 8 ∨ 15 < b.getD 0 0 ∨ 1 < b.getD 1 0 ∨ (b.getD 1 0 = 1 ∧ (b.getD 2 0 = 0 ∨ 3 < b.getD 2 0 ∨ numAt b 6 2 < numAt b 4 2))))
    ∧ (∃ (s : State) (m0 : RolIn),
      let m := signed m0 s
      let x := slotOf m
      Up s ∧ sessionTakes 0x23 m s = true ∧ ((s.backlog.any fun b => b.1 == x) = false))
    ∧ (∃ (s : State) (x seq : Nat) (n : Notify),
      Up s ∧ (s.notifies.find? (fun n => n.slot == x && n.seq == seq) = some n) ∧ n.tries < 5 ∧ n.sent + 200000000 ≤ s.now)
    ∧ (∃ (s : State) (x seq : Nat) (n : Notify),
      Up s ∧ (s.notifies.find? (fun n => n.slot == x && n.seq == seq) = some n) ∧ 5 ≤ n.tries ∧ 2 ≤ s.get 0x1120 x 1 ∧ n.sent + 200000000 ≤ s.now)
    ∧ (∃ (s : State) (x seq : Nat),
      Up s ∧ ((s.notifies.find? fun n => n.slot == x && n.seq == seq).all (fun n => decide (s.now < n.sent + 200000000)) = true))
    ∧ (∃ (s : State) (m : RolIn) (target : Nat) (l : List RelayEntry),
      Up s ∧ rolForm m.bytes = true ∧ m.bytes.getD 24 0 = target ∧ target < 64 ∧ target ≠ member s ∧ (activePort s target).isSome = true ∧ (touchRelay ⟨m.peer, m.port, target, s.now, if awaitsAnswer (m.bytes.getD 3 0) then [(numAt m.bytes 4 4, numAt m.bytes 8 8, s.now)] else []⟩ s = some l))
    ∧ (∃ (s : State) (m : RolIn) (target : Nat),
      Up s ∧ rolForm m.bytes = true ∧ m.bytes.getD 24 0 = target ∧ target ≠ 0xFF ∧ target ≠ member s ∧ (64 ≤ target ∨ activePort s target = none) ∧ (m.via = none))
    ∧ (∃ (s : State) (m : RolIn) (target : Nat),
      Up s ∧ rolForm m.bytes = true ∧ m.bytes.getD 24 0 = target ∧ target < 64 ∧ target ≠ member s ∧ (activePort s target).isSome = true ∧ (touchRelay ⟨m.peer, m.port, target, s.now, if awaitsAnswer (m.bytes.getD 3 0) then [(numAt m.bytes 4 4, numAt m.bytes 8 8, s.now)] else []⟩ s = none))
    ∧ (∃ (s : State) (m : RolIn) (answerOf : Option Nat),
      Up s ∧ (rolForm m.bytes = false ∨ (∃ g ∈ answerOf, (s.relays.any fun r => r.peer == m.peer && r.port == m.port && r.target == g) = false) ∨ (answerOf = none ∧ (m.bytes.getD 24 0 = 0xFF ∨ m.bytes.getD 24 0 = member s))))
    ∧ (∃ (s : State) (m : RolIn) (answerOf : Option Nat),
      Up s ∧ (rolForm m.bytes = false ∨ (∃ g ∈ answerOf, (s.relays.any fun r => r.peer == m.peer && r.port == m.port && r.target == g) = false) ∨ (answerOf = none ∧ (m.bytes.getD 24 0 = 0xFF ∨ m.bytes.getD 24 0 = member s))))
    ∧ (∃ (s : State) (m : RolIn) (target : Nat),
      Up s ∧ rolForm m.bytes = true ∧ ((s.relays.any fun r => r.peer == m.peer && r.port == m.port && r.target == target) = true))
    ∧ (∃ (s : State) (target seq session peer : Nat) (r : RelayEntry),
      let late := fun w : Nat × Nat × Ns => w.1 == session && w.2.1 == seq && decide (w.2.2 + 10000000 ≤ s.now)
      Up s ∧ (s.relays.find? (fun r => r.peer == peer && r.target == target && r.waits.any late) = some r))
    ∧ (∃ (s : State) (target seq session peer : Nat),
      Up s ∧ ((s.relays.any fun r => r.peer == peer && r.target == target && r.waits.any fun w => w.1 == session && w.2.1 == seq && decide (w.2.2 + 10000000 ≤ s.now)) = false))
    ∧ (∃ (s : State) (target seq _session _peer : Nat),
      Up s ∧ ((s.hostWaits.find? fun w => w.member == target && w.seq == seq).all (fun w => decide (s.now < w.sent + 10000000)) = true))
    ∧ (∃ (s : State) (target seq _session _peer : Nat) (w : HostWait),
      Up s ∧ (s.hostWaits.find? (fun w => w.member == target && w.seq == seq) = some w) ∧ w.mailbox = true ∧ w.sent + 10000000 ≤ s.now) :=
  ⟨⟨sesBase, (rolBare 0x10 1 ([0x10, 0, 3, 0] ++ List.replicate 8 0)), by decide +kernel⟩,
   ⟨sesBase, (rolBare 0x10 1 [0x10, 0, 3]), by decide +kernel⟩,
   ⟨sesBase, (rolBare 0x10 1 ([0x10, 0, 3, 0] ++ List.replicate 8 0)), (⟨0x1000, 3, false, 0, []⟩), by decide +kernel⟩,
   ⟨(sesBase.put 0x1120 5 1 3), (rolBare 0x10 1 ([0x10, 0, 3, 0] ++ List.replicate 8 0)), by decide +kernel⟩,
   ⟨({ (sesBase.setAux .sesHigh 5 0 70).setAux .sesSeen 5 0 3 with replies := [⟨5, 69, [[1, 2]]⟩] }), (rolBare 0x10 69 []), by decide +kernel⟩,
   ⟨sesBase, (rolBare 0x12 1 ([0x10, 0x40, 3, 0, 255, 255, 255, 255, 0, 2, 0, 0, 2, 0xEE, 0, 0])), noBeyond, (⟨0x1040, 3, false, 0xFFFFFFFF, [2, 0xEE]⟩), by decide +kernel⟩,
   ⟨sesBase, (rolBare 0x12 1 ([0x10, 0x40, 3, 0, 255, 255, 255, 255, 0, 2, 0, 0, 2, 0xEE, 0, 0])), noBeyond, by decide +kernel⟩,
   ⟨sesBase, (rolBare 0x12 1 [1]), noBeyond, by decide +kernel⟩,
   ⟨sesBase, (rolBare 0x12 1 ([0x40, 0, 2, 0, 0, 0, 0, 9, 0, 2, 0, 0, 2, 0xEE, 0, 0])), noBeyond, (⟨0x4000, 2, false, 9, [2, 0xEE]⟩), by decide +kernel⟩,
   ⟨sesBase, (rolBare 0x14 1 (List.replicate 20 0)), by decide +kernel⟩,
   ⟨sesBase, (rolBare 0x14 1 ([0x10, 0x40, 3, 0, 255, 255, 255, 255] ++ List.replicate 11 0 ++ [2])), by decide +kernel⟩,
   ⟨sesBase, (rolBare 0x14 1 ([0x10, 0x40, 3, 0, 255, 255, 255, 255] ++ List.replicate 11 0 ++ [9])), by decide +kernel⟩,
   ⟨sesBase, (rolBare 0x14 1 []), by decide +kernel⟩,
   ⟨sesBase, (rolBare 0x16 1 ([0x10, 0x40, 3, 0, 255, 255, 255, 255, 0, 0, 0, 0, 0, 3, 0, 1, 0, 0, 0, 0, 0, 0, 0, 2, 9])), noBeyond, by decide +kernel⟩,
   ⟨sesBase, (rolBare 0x16 1 []), noBeyond, by decide +kernel⟩,
   ⟨sesBase, (rolBare 0x16 1 ([0x40, 0, 2, 0, 0, 0, 0, 5, 0, 0, 0, 0, 0, 3, 0, 1, 0, 0, 0, 0, 0, 0, 0, 2, 9])), noBeyond, by decide +kernel⟩,
   ⟨({ sesBase with now := 1000000005, transfers := [⟨285, 3, 0x1040, 0, 3, 2, [(0, [9])], 5⟩, ⟨285, 2, 0x1040, 0, 4, 2, [(0, [9])], 5⟩] }), 5, 3, (⟨285, 3, 0x1040, 0, 3, 2, [(0, [9])], 5⟩), by decide +kernel⟩,
   ⟨({ sesBase with transfers := [⟨285, 3, 0x1040, 0, 3, 2, [(0, [9])], 5⟩] }), 5, 3, by decide +kernel⟩,
   ⟨({ sesBase with subs := [⟨5, 15, 3, true, 0, 0⟩, ⟨4, 15, 3, true, 0, 0⟩] }), (rolBare 0x20 1 [15, 1, 1, 1, 0, 0, 15, 255]), 15, 1, 0, 4095, 1, by decide +kernel⟩,
   ⟨({ sesBase with subs := [⟨5, 15, 3, true, 0, 0⟩, ⟨4, 15, 3, true, 0, 0⟩] }), (rolBare 0x20 1 [15, 0, 1, 1, 0, 0, 15, 255]), 15, 1, 0, 4095, 1, by decide +kernel⟩,
   ⟨sesBase, (rolBare 0x20 1 [16, 1, 1, 1, 0, 0, 15, 255]), by decide +kernel⟩,
   ⟨({ sesBase with notifies := [⟨5, 0, [], 1, 4⟩, ⟨4, 0, [], 1, 4⟩] }), (rolBare 0x23 1 []), by decide +kernel⟩,
   ⟨({ sesBase with now := 200000004, notifies := [⟨5, 9, [1, 2], 4, 4⟩] }), 5, 9, (⟨5, 9, [1, 2], 4, 4⟩), by decide +kernel⟩,
   ⟨({ sesBase with now := 200000004, notifies := [⟨5, 9, [1, 2], 5, 4⟩] }), 5, 9, (⟨5, 9, [1, 2], 5, 4⟩), by decide +kernel⟩,
   ⟨({ sesBase with notifies := [⟨5, 9, [1, 2], 4, 4⟩] }), 5, 9, by decide +kernel⟩,
   ⟨(base.put 0x5140 9 3 2), (⟨0, 7, none, ((rolMsg 0x10 1 []).bytes.set 24 9)⟩), 9, ([⟨7, 0, 9, 0, [(69, 1, 0)]⟩]), by decide +kernel⟩,
   ⟨base, (⟨0, 7, none, ((rolMsg 0x10 1 []).bytes.set 24 9)⟩), 9, by decide +kernel⟩,
   ⟨({ base.put 0x5140 9 3 2 with relays := List.replicate 256 ⟨8, 0, 9, 0, []⟩ }), (⟨0, 7, none, ((rolMsg 0x10 1 []).bytes.set 24 9)⟩), 9, by decide +kernel⟩,
   ⟨base, (rolMsg 0x10 1 []), none, by decide +kernel⟩,
   ⟨base, (⟨0, 7, none, []⟩), none, by decide +kernel⟩,
   ⟨({ base with relays := [⟨7, 0, 9, 0, [(69, 0, 0)]⟩] }), (rolMsg 0x11 1 []), 9, by decide +kernel⟩,
   ⟨({ base with now := 10000003, relays := [⟨7, 0, 9, 0, [(69, 0, 3)]⟩] }), 9, 0, 69, 7, (⟨7, 0, 9, 0, [(69, 0, 3)]⟩), by decide +kernel⟩,
   ⟨({ base with now := 10000002, relays := [⟨7, 0, 9, 0, [(69, 0, 3)]⟩] }), 9, 0, 69, 7, by decide +kernel⟩,
   ⟨({ base with now := 10000002, hostWaits := [⟨9, 5, true, 3, ⟨1, 0, 0, 0, 0, 9, 0, 0, 0, 0, 0, 0⟩, 3⟩] }), 9, 5, 0, 0, by decide +kernel⟩,
   ⟨({ base with now := 10000003, hostWaits := [⟨9, 5, true, 3, ⟨1, 0, 0, 0, 0, 9, 0, 0, 0, 0, 0, 0⟩, 3⟩] }), 9, 5, 0, 0, (⟨9, 5, true, 3, ⟨1, 0, 0, 0, 0, 9, 0, 0, 0, 0, 0, 0⟩, 3⟩), by decide +kernel⟩⟩

theorem wit_MailboxAndDmaCommandsComplete :
    (∃ (s : State) (m w0 w1 w2 : Nat) (_irq : Bool),
      Up s ∧ m < 4 ∧ bit 31 (s.aux .mbox m 3) = false ∧ w0 < 2 ^ 24 ∧ field 15 0 w2 ≤ 128 ∧ widthAt (field 15 0 w0) w1 (field 23 16 w0) ≤ 128 ∧ (field 23 16 w2 = 0xFF ∨ field 23 16 w2 = member s))
    ∧ (∃ (s : State) (m w0 _w1 w2 : Nat) (_irq : Bool) (_data : List Nat) (_w : WriteIn),
      Up s ∧ m < 4 ∧ bit 31 (s.aux .mbox m 3) = false ∧ w0 < 2 ^ 24 ∧ field 15 0 w2 ≤ 128 ∧ (field 23 16 w2 = 0xFF ∨ field 23 16 w2 = member s))
    ∧ (∃ (s : State) (m _w0 _w1 _w2 : Nat) (_irq : Bool),
      Up s ∧ (4 ≤ m ∨ bit 31 (s.aux .mbox m 3) = true))
    ∧ (∃ (s : State) (m _w0 _w1 _w2 : Nat) (_irq : Bool),
      Up s ∧ (4 ≤ m ∨ bit 31 (s.aux .mbox m 3) = true))
    ∧ (∃ (s : State) (m w0 w1 w2 : Nat) (_irq : Bool),
      Up s ∧ m < 4 ∧ bit 31 (s.aux .mbox m 3) = false ∧ (field 31 24 w0 ≠ 0 ∨ 128 < field 15 0 w2 ∨ 128 < widthAt (field 15 0 w0) w1 (field 23 16 w0)))
    ∧ (∃ (s : State) (m w0 w1 w2 : Nat) (_irq : Bool),
      Up s ∧ m < 4 ∧ bit 31 (s.aux .mbox m 3) = false ∧ w0 < 2 ^ 24 ∧ field 15 0 w2 ≤ 128 ∧ widthAt (field 15 0 w0) w1 (field 23 16 w0) ≤ 128 ∧ field 23 16 w2 ≠ 0xFF ∧ field 23 16 w2 ≠ member s ∧ (64 ≤ field 23 16 w2 ∨ activePort s (field 23 16 w2) = none))
    ∧ (∃ (s : State) (m w0 w1 w2 : Nat) (irq : Bool),
      let s1 := ((s.setAux .mbox m 0 w0).setAux .mbox m 1 w1).setAux .mbox m 2 w2 |>.setAux .mbox m 3 (mailWord true irq 0)
      let peer := field 23 16 w2
      let d : DmaDesc := ⟨1, 0, 0, field 15 0 w0, field 23 16 w0, peer, w1, field 15 0 w2, 0, 0, 0, 0⟩
      let seq := wrapAdd 64 (s.aux .relaySeq peer) 1
      let body := hostBody seq (s.get 0x1140 0 1) (descBytes d) []
      Up s ∧ m < 4 ∧ bit 31 (s.aux .mbox m 3) = false ∧ w0 < 2 ^ 24 ∧ field 15 0 w2 ≤ 128 ∧ widthAt (field 15 0 w0) w1 (field 23 16 w0) ≤ 128 ∧ field 23 16 w2 ≠ 0xFF ∧ field 23 16 w2 ≠ member s ∧ field 23 16 w2 < 64 ∧ (activePort s (field 23 16 w2)).isSome = true ∧ (domainTag body s1).1.isSome = true)
    ∧ (∃ (s : State) (m w0 w1 w2 : Nat) (irq : Bool),
      let s1 := ((s.setAux .mbox m 0 w0).setAux .mbox m 1 w1).setAux .mbox m 2 w2 |>.setAux .mbox m 3 (mailWord true irq 0)
      let peer := field 23 16 w2
      let d : DmaDesc := ⟨1, 0, 0, field 15 0 w0, field 23 16 w0, peer, w1, field 15 0 w2, 0, 0, 0, 0⟩
      let body := hostBody (wrapAdd 64 (s.aux .relaySeq peer) 1) (s.get 0x1140 0 1) (descBytes d) []
      Up s ∧ m < 4 ∧ bit 31 (s.aux .mbox m 3) = false ∧ w0 < 2 ^ 24 ∧ field 15 0 w2 ≤ 128 ∧ widthAt (field 15 0 w0) w1 (field 23 16 w0) ≤ 128 ∧ field 23 16 w2 ≠ 0xFF ∧ field 23 16 w2 ≠ member s ∧ field 23 16 w2 < 64 ∧ (activePort s (field 23 16 w2)).isSome = true ∧ (domainTag body s1).1 = none)
    ∧ (∃ (s : State) (m _w0 _w1 _w2 : Nat) (_irq : Bool) (_data : List Nat) (_w : WriteIn),
      Up s ∧ (4 ≤ m ∨ bit 31 (s.aux .mbox m 3) = true))
    ∧ (∃ (s : State) (m _w0 _w1 _w2 : Nat) (_irq : Bool) (_data : List Nat) (_w : WriteIn),
      Up s ∧ (4 ≤ m ∨ bit 31 (s.aux .mbox m 3) = true))
    ∧ (∃ (s : State) (m w0 _w1 w2 : Nat) (_irq : Bool) (_data : List Nat) (_w : WriteIn),
      Up s ∧ m < 4 ∧ bit 31 (s.aux .mbox m 3) = false ∧ (field 31 24 w0 ≠ 0 ∨ 128 < field 15 0 w2))
    ∧ (∃ (s : State) (m w0 _w1 w2 : Nat) (_irq : Bool) (_data : List Nat) (_w : WriteIn),
      Up s ∧ m < 4 ∧ bit 31 (s.aux .mbox m 3) = false ∧ w0 < 2 ^ 24 ∧ field 15 0 w2 ≤ 128 ∧ field 23 16 w2 ≠ 0xFF ∧ field 23 16 w2 ≠ member s ∧ (64 ≤ field 23 16 w2 ∨ activePort s (field 23 16 w2) = none))
    ∧ (∃ (s : State) (m w0 w1 w2 : Nat) (irq : Bool) (data : List Nat) (_w : WriteIn),
      let s1 := (((s.setAux .mbox m 0 w0).setAux .mbox m 1 w1).setAux .mbox m 2 w2).setAux .mboxData m 0 (ofBytes (data.take 128 ++ List.replicate (128 - data.length) 0)) |>.setAux .mbox m 3 (mailWord true irq 0)
      let peer := field 23 16 w2
      let d : DmaDesc := ⟨2, 0, 0, field 15 0 w0, field 23 16 w0, peer, w1, field 15 0 w2, 0, 0, 0, 0⟩
      let seq := wrapAdd 64 (s.aux .relaySeq peer) 1
      let body := hostBody seq (s.get 0x1140 0 1) (descBytes d) (data.take (field 15 0 w2))
      Up s ∧ m < 4 ∧ bit 31 (s.aux .mbox m 3) = false ∧ w0 < 2 ^ 24 ∧ field 15 0 w2 ≤ 128 ∧ field 23 16 w2 ≠ 0xFF ∧ field 23 16 w2 ≠ member s ∧ field 23 16 w2 < 64 ∧ (activePort s (field 23 16 w2)).isSome = true ∧ (domainTag body s1).1.isSome = true)
    ∧ (∃ (s : State) (m w0 w1 w2 : Nat) (irq : Bool) (data : List Nat) (_w : WriteIn),
      let s1 := (((s.setAux .mbox m 0 w0).setAux .mbox m 1 w1).setAux .mbox m 2 w2).setAux .mboxData m 0 (ofBytes (data.take 128 ++ List.replicate (128 - data.length) 0)) |>.setAux .mbox m 3 (mailWord true irq 0)
      let peer := field 23 16 w2
      let d : DmaDesc := ⟨2, 0, 0, field 15 0 w0, field 23 16 w0, peer, w1, field 15 0 w2, 0, 0, 0, 0⟩
      let body := hostBody (wrapAdd 64 (s.aux .relaySeq peer) 1) (s.get 0x1140 0 1) (descBytes d) (data.take (field 15 0 w2))
      Up s ∧ m < 4 ∧ bit 31 (s.aux .mbox m 3) = false ∧ w0 < 2 ^ 24 ∧ field 15 0 w2 ≤ 128 ∧ field 23 16 w2 ≠ 0xFF ∧ field 23 16 w2 ≠ member s ∧ field 23 16 w2 < 64 ∧ (activePort s (field 23 16 w2)).isSome = true ∧ (domainTag body s1).1 = none)
    ∧ (∃ (s : State) (h _v : Nat),
      Up s ∧ h < 16)
    ∧ (∃ (s : State) (h : Nat) (desc : List Nat),
      let d := dmaDesc desc
      Up s ∧ h < 16 ∧ s.get 0x1150 h 2 = 2 ∧ s.get 0x1150 h 9 ≠ s.aux .dmaProd h ∧ s.aux .dmaBusy h = 0 ∧ d.op = 1 ∧ d.flags < 4 ∧ (d.target = 0xFF ∨ d.target = member s))
    ∧ (∃ (s : State) (h : Nat) (desc : List Nat) (_data : List Nat) (_w : WriteIn),
      let d := dmaDesc desc
      Up s ∧ h < 16 ∧ s.get 0x1150 h 2 = 2 ∧ s.get 0x1150 h 9 ≠ s.aux .dmaProd h ∧ s.aux .dmaBusy h = 0 ∧ d.op = 2 ∧ d.flags < 4 ∧ (d.target = 0xFF ∨ d.target = member s))
    ∧ (∃ (s : State) (h : Nat) (desc : List Nat),
      let d := dmaDesc desc
      Up s ∧ h < 16 ∧ s.get 0x1150 h 2 = 2 ∧ s.get 0x1150 h 9 ≠ s.aux .dmaProd h ∧ s.aux .dmaBusy h = 0 ∧ d.op = 3 ∧ d.flags < 4 ∧ (d.target = 0xFF ∨ d.target = member s))
    ∧ (∃ (s : State) (h : Nat) (desc : List Nat) (_data : List Nat) (_w : WriteIn),
      let d := dmaDesc desc
      Up s ∧ h < 16 ∧ s.get 0x1150 h 2 = 2 ∧ s.get 0x1150 h 9 ≠ s.aux .dmaProd h ∧ s.aux .dmaBusy h = 0 ∧ d.op = 4 ∧ d.flags < 4 ∧ (d.target = 0xFF ∨ d.target = member s) ∧ d.length ≤ 2 ^ 24 ∧ ((Objects.locate d.index d.inst).all (fun x => !transferOpen s x.1 x.2 d.sub) = true ∨ frozen s (256 + h) = true))
    ∧ (∃ (s : State) (h : Nat) (desc : List Nat) (addresses payload : List Nat) (_pick _delay : Nat),
      let d := dmaDesc desc
      let bytes := addresses ++ payload
      Up s ∧ h < 16 ∧ s.get 0x1150 h 2 = 2 ∧ s.get 0x1150 h 9 ≠ s.aux .dmaProd h ∧ s.aux .dmaBusy h = 0 ∧ d.op = 16 ∧ d.flags < 4 ∧ 60 ≤ d.length ∧ d.length ≤ 10240 ∧ bytes.length = d.length ∧ d.kind = 1 ∧ d.port < 2 ∧ s.get 0x50C0 d.port 3 = 4 ∧ mayTake s (512 + h) (poolFor d.length) = true)
    ∧ (∃ (s : State) (h : Nat) (_desc : List Nat),
      Up s ∧ (16 ≤ h ∨ s.get 0x1150 h 2 ≠ 2 ∨ s.get 0x1150 h 9 = s.aux .dmaProd h ∨ s.aux .dmaBusy h ≠ 0))
    ∧ (∃ (s : State) (h : Nat) (desc : List Nat),
      let d := dmaDesc desc
      Up s ∧ h < 16 ∧ s.get 0x1150 h 2 = 2 ∧ s.get 0x1150 h 9 ≠ s.aux .dmaProd h ∧ s.aux .dmaBusy h = 0 ∧ (d.op ≠ 1 ∨ 4 ≤ d.flags))
    ∧ (∃ (s : State) (h : Nat) (desc : List Nat),
      let d := dmaDesc desc
      Up s ∧ h < 16 ∧ s.get 0x1150 h 2 = 2 ∧ s.get 0x1150 h 9 ≠ s.aux .dmaProd h ∧ s.aux .dmaBusy h = 0 ∧ d.op = 1 ∧ d.flags < 4 ∧ d.target ≠ 0xFF ∧ d.target ≠ member s ∧ (64 ≤ d.target ∨ activePort s d.target = none))
    ∧ (∃ (s : State) (h : Nat) (desc : List Nat),
      let d := dmaDesc desc
      let seq := wrapAdd 64 (s.aux .relaySeq d.target) 1
      let body := hostBody seq (s.get 0x1150 h 3) (descBytes d) []
      Up s ∧ h < 16 ∧ s.get 0x1150 h 2 = 2 ∧ s.get 0x1150 h 9 ≠ s.aux .dmaProd h ∧ s.aux .dmaBusy h = 0 ∧ d.op = 1 ∧ d.flags < 4 ∧ d.target ≠ 0xFF ∧ d.target ≠ member s ∧ d.target < 64 ∧ (activePort s d.target).isSome = true ∧ (domainTag body s).1.isSome = true)
    ∧ (∃ (s : State) (h : Nat) (desc : List Nat),
      let d := dmaDesc desc
      let body := hostBody (wrapAdd 64 (s.aux .relaySeq d.target) 1) (s.get 0x1150 h 3) (descBytes d) []
      Up s ∧ h < 16 ∧ s.get 0x1150 h 2 = 2 ∧ s.get 0x1150 h 9 ≠ s.aux .dmaProd h ∧ s.aux .dmaBusy h = 0 ∧ d.op = 1 ∧ d.flags < 4 ∧ d.target ≠ 0xFF ∧ d.target ≠ member s ∧ d.target < 64 ∧ (activePort s d.target).isSome = true ∧ (domainTag body s).1 = none)
    ∧ (∃ (s : State) (h : Nat) (_desc : List Nat) (_data : List Nat) (_w : WriteIn),
      Up s ∧ (16 ≤ h ∨ s.get 0x1150 h 2 ≠ 2 ∨ s.get 0x1150 h 9 = s.aux .dmaProd h ∨ s.aux .dmaBusy h ≠ 0))
    ∧ (∃ (s : State) (h : Nat) (desc : List Nat) (_data : List Nat) (_w : WriteIn),
      let d := dmaDesc desc
      Up s ∧ h < 16 ∧ s.get 0x1150 h 2 = 2 ∧ s.get 0x1150 h 9 ≠ s.aux .dmaProd h ∧ s.aux .dmaBusy h = 0 ∧ (d.op ≠ 2 ∨ 4 ≤ d.flags))
    ∧ (∃ (s : State) (h : Nat) (desc : List Nat) (_data : List Nat) (_w : WriteIn),
      let d := dmaDesc desc
      Up s ∧ h < 16 ∧ s.get 0x1150 h 2 = 2 ∧ s.get 0x1150 h 9 ≠ s.aux .dmaProd h ∧ s.aux .dmaBusy h = 0 ∧ d.op = 2 ∧ d.flags < 4 ∧ d.target ≠ 0xFF ∧ d.target ≠ member s ∧ (64 ≤ d.target ∨ activePort s d.target = none))
    ∧ (∃ (s : State) (h : Nat) (desc : List Nat) (data : List Nat) (_w : WriteIn),
      let d := dmaDesc desc
      let seq := wrapAdd 64 (s.aux .relaySeq d.target) 1
      let body := hostBody seq (s.get 0x1150 h 3) (descBytes d) (data.take d.length)
      Up s ∧ h < 16 ∧ s.get 0x1150 h 2 = 2 ∧ s.get 0x1150 h 9 ≠ s.aux .dmaProd h ∧ s.aux .dmaBusy h = 0 ∧ d.op = 2 ∧ d.flags < 4 ∧ d.target ≠ 0xFF ∧ d.target ≠ member s ∧ d.target < 64 ∧ (activePort s d.target).isSome = true ∧ (domainTag body s).1.isSome = true)
    ∧ (∃ (s : State) (h : Nat) (desc : List Nat) (data : List Nat) (_w : WriteIn),
      let d := dmaDesc desc
      let body := hostBody (wrapAdd 64 (s.aux .relaySeq d.target) 1) (s.get 0x1150 h 3) (descBytes d) (data.take d.length)
      Up s ∧ h < 16 ∧ s.get 0x1150 h 2 = 2 ∧ s.get 0x1150 h 9 ≠ s.aux .dmaProd h ∧ s.aux .dmaBusy h = 0 ∧ d.op = 2 ∧ d.flags < 4 ∧ d.target ≠ 0xFF ∧ d.target ≠ member s ∧ d.target < 64 ∧ (activePort s d.target).isSome = true ∧ (domainTag body s).1 = none)
    ∧ (∃ (s : State) (h : Nat) (_desc : List Nat),
      Up s ∧ (16 ≤ h ∨ s.get 0x1150 h 2 ≠ 2 ∨ s.get 0x1150 h 9 = s.aux .dmaProd h ∨ s.aux .dmaBusy h ≠ 0))
    ∧ (∃ (s : State) (h : Nat) (desc : List Nat),
      let d := dmaDesc desc
      Up s ∧ h < 16 ∧ s.get 0x1150 h 2 = 2 ∧ s.get 0x1150 h 9 ≠ s.aux .dmaProd h ∧ s.aux .dmaBusy h = 0 ∧ (d.op ≠ 3 ∨ 4 ≤ d.flags))
    ∧ (∃ (s : State) (h : Nat) (desc : List Nat),
      let d := dmaDesc desc
      Up s ∧ h < 16 ∧ s.get 0x1150 h 2 = 2 ∧ s.get 0x1150 h 9 ≠ s.aux .dmaProd h ∧ s.aux .dmaBusy h = 0 ∧ d.op = 3 ∧ d.flags < 4 ∧ d.target ≠ 0xFF ∧ d.target ≠ member s ∧ (64 ≤ d.target ∨ activePort s d.target = none))
    ∧ (∃ (s : State) (h : Nat) (desc : List Nat),
      let d := dmaDesc desc
      let seq := wrapAdd 64 (s.aux .relaySeq d.target) 1
      let body := hostBody seq (s.get 0x1150 h 3) (descBytes d) []
      Up s ∧ h < 16 ∧ s.get 0x1150 h 2 = 2 ∧ s.get 0x1150 h 9 ≠ s.aux .dmaProd h ∧ s.aux .dmaBusy h = 0 ∧ d.op = 3 ∧ d.flags < 4 ∧ d.target ≠ 0xFF ∧ d.target ≠ member s ∧ d.target < 64 ∧ (activePort s d.target).isSome = true ∧ (domainTag body s).1.isSome = true)
    ∧ (∃ (s : State) (h : Nat) (desc : List Nat),
      let d := dmaDesc desc
      let body := hostBody (wrapAdd 64 (s.aux .relaySeq d.target) 1) (s.get 0x1150 h 3) (descBytes d) []
      Up s ∧ h < 16 ∧ s.get 0x1150 h 2 = 2 ∧ s.get 0x1150 h 9 ≠ s.aux .dmaProd h ∧ s.aux .dmaBusy h = 0 ∧ d.op = 3 ∧ d.flags < 4 ∧ d.target ≠ 0xFF ∧ d.target ≠ member s ∧ d.target < 64 ∧ (activePort s d.target).isSome = true ∧ (domainTag body s).1 = none)
    ∧ (∃ (s : State) (h : Nat) (_desc : List Nat) (_data : List Nat) (_w : WriteIn),
      Up s ∧ (16 ≤ h ∨ s.get 0x1150 h 2 ≠ 2 ∨ s.get 0x1150 h 9 = s.aux .dmaProd h ∨ s.aux .dmaBusy h ≠ 0))
    ∧ (∃ (s : State) (h : Nat) (desc : List Nat) (_data : List Nat) (_w : WriteIn),
      let d := dmaDesc desc
      Up s ∧ h < 16 ∧ s.get 0x1150 h 2 = 2 ∧ s.get 0x1150 h 9 ≠ s.aux .dmaProd h ∧ s.aux .dmaBusy h = 0 ∧ (d.op ≠ 4 ∨ 4 ≤ d.flags))
    ∧ (∃ (s : State) (h : Nat) (desc : List Nat) (_data : List Nat) (_w : WriteIn),
      let d := dmaDesc desc
      Up s ∧ h < 16 ∧ s.get 0x1150 h 2 = 2 ∧ s.get 0x1150 h 9 ≠ s.aux .dmaProd h ∧ s.aux .dmaBusy h = 0 ∧ d.op = 4 ∧ d.flags < 4 ∧ d.target ≠ 0xFF ∧ d.target ≠ member s ∧ (64 ≤ d.target ∨ activePort s d.target = none))
    ∧ (∃ (s : State) (h : Nat) (desc : List Nat) (data : List Nat) (_w : WriteIn),
      let d := dmaDesc desc
      let seq := wrapAdd 64 (s.aux .relaySeq d.target) 1
      let body := hostBody seq (s.get 0x1150 h 3) (descBytes d) (data.take d.length)
      Up s ∧ h < 16 ∧ s.get 0x1150 h 2 = 2 ∧ s.get 0x1150 h 9 ≠ s.aux .dmaProd h ∧ s.aux .dmaBusy h = 0 ∧ d.op = 4 ∧ d.flags < 4 ∧ d.target ≠ 0xFF ∧ d.target ≠ member s ∧ d.target < 64 ∧ (activePort s d.target).isSome = true ∧ (domainTag body s).1.isSome = true)
    ∧ (∃ (s : State) (h : Nat) (desc : List Nat) (data : List Nat) (_w : WriteIn),
      let d := dmaDesc desc
      let body := hostBody (wrapAdd 64 (s.aux .relaySeq d.target) 1) (s.get 0x1150 h 3) (descBytes d) (data.take d.length)
      Up s ∧ h < 16 ∧ s.get 0x1150 h 2 = 2 ∧ s.get 0x1150 h 9 ≠ s.aux .dmaProd h ∧ s.aux .dmaBusy h = 0 ∧ d.op = 4 ∧ d.flags < 4 ∧ d.target ≠ 0xFF ∧ d.target ≠ member s ∧ d.target < 64 ∧ (activePort s d.target).isSome = true ∧ (domainTag body s).1 = none)
    ∧ (∃ (s : State) (h : Nat) (desc : List Nat) (_data : List Nat) (_w : WriteIn),
      let d := dmaDesc desc
      Up s ∧ h < 16 ∧ s.get 0x1150 h 2 = 2 ∧ s.get 0x1150 h 9 ≠ s.aux .dmaProd h ∧ s.aux .dmaBusy h = 0 ∧ d.op = 4 ∧ d.flags < 4 ∧ (d.target = 0xFF ∨ d.target = member s) ∧ 2 ^ 24 < d.length)
    ∧ (∃ (s : State) (h : Nat) (desc : List Nat) (_data : List Nat) (_w : WriteIn),
      let d := dmaDesc desc
      Up s ∧ h < 16 ∧ s.get 0x1150 h 2 = 2 ∧ s.get 0x1150 h 9 ≠ s.aux .dmaProd h ∧ s.aux .dmaBusy h = 0 ∧ d.op = 4 ∧ d.flags < 4 ∧ (d.target = 0xFF ∨ d.target = member s) ∧ d.length ≤ 2 ^ 24 ∧ ((Objects.locate d.index d.inst).any (fun x => transferOpen s x.1 x.2 d.sub) = true) ∧ frozen s (256 + h) = false)
    ∧ (∃ (s : State) (h : Nat) (_desc : List Nat) (_addresses _payload : List Nat) (_pick _delay : Nat),
      Up s ∧ (16 ≤ h ∨ s.get 0x1150 h 2 ≠ 2 ∨ s.get 0x1150 h 9 = s.aux .dmaProd h ∨ s.aux .dmaBusy h ≠ 0))
    ∧ (∃ (s : State) (h : Nat) (desc : List Nat) (_addresses _payload : List Nat) (_pick _delay : Nat),
      let d := dmaDesc desc
      Up s ∧ h < 16 ∧ s.get 0x1150 h 2 = 2 ∧ s.get 0x1150 h 9 ≠ s.aux .dmaProd h ∧ s.aux .dmaBusy h = 0 ∧ (d.op ≠ 16 ∨ 4 ≤ d.flags))
    ∧ (∃ (s : State) (h : Nat) (desc : List Nat) (addresses payload : List Nat) (_pick _delay : Nat),
      let d := dmaDesc desc
      let bytes := addresses ++ payload
      Up s ∧ h < 16 ∧ s.get 0x1150 h 2 = 2 ∧ s.get 0x1150 h 9 ≠ s.aux .dmaProd h ∧ s.aux .dmaBusy h = 0 ∧ d.op = 16 ∧ d.flags < 4 ∧ 60 ≤ d.length ∧ d.length ≤ 10240 ∧ bytes.length = d.length ∧ d.kind = 0 ∧ d.port < 32 ∧ s.get 0x5090 d.port 2 = 4 ∧ mayTake s (512 + h) (poolFor d.length) = true)
    ∧ (∃ (s : State) (h : Nat) (desc : List Nat) (addresses payload : List Nat) (_pick _delay : Nat),
      let d := dmaDesc desc
      let bytes := addresses ++ payload
      Up s ∧ h < 16 ∧ s.get 0x1150 h 2 = 2 ∧ s.get 0x1150 h 9 ≠ s.aux .dmaProd h ∧ s.aux .dmaBusy h = 0 ∧ d.op = 16 ∧ d.flags < 4 ∧ (d.length < 60 ∨ 10240 < d.length ∨ bytes.length ≠ d.length ∨ 1 < d.kind))
    ∧ (∃ (s : State) (h : Nat) (desc : List Nat) (addresses payload : List Nat) (_pick _delay : Nat),
      let d := dmaDesc desc
      let bytes := addresses ++ payload
      Up s ∧ h < 16 ∧ s.get 0x1150 h 2 = 2 ∧ s.get 0x1150 h 9 ≠ s.aux .dmaProd h ∧ s.aux .dmaBusy h = 0 ∧ d.op = 16 ∧ d.flags < 4 ∧ 60 ≤ d.length ∧ d.length ≤ 10240 ∧ bytes.length = d.length ∧ d.kind ≤ 1 ∧ sendPort s d.kind d.port = false)
    ∧ (∃ (s : State) (h : Nat) (desc : List Nat) (addresses payload : List Nat) (_pick _delay : Nat),
      let d := dmaDesc desc
      let bytes := addresses ++ payload
      Up s ∧ h < 16 ∧ s.get 0x1150 h 2 = 2 ∧ s.get 0x1150 h 9 ≠ s.aux .dmaProd h ∧ s.aux .dmaBusy h = 0 ∧ d.op = 16 ∧ d.flags < 4 ∧ 60 ≤ d.length ∧ d.length ≤ 10240 ∧ bytes.length = d.length ∧ d.kind ≤ 1 ∧ sendPort s d.kind d.port = true ∧ mayTake s (512 + h) (poolFor d.length) = false)
    ∧ (∃ (s : State) (h _kind _port : Nat) (_stamp : Int) (_bytes _entry : List Nat),
      Up s ∧ 16 ≤ h)
    ∧ (∃ (s : State) (h _v : Nat),
      Up s ∧ 16 ≤ h)
    ∧ (∃ (s : State) (acc : Acc) (h : Nat),
      Up s ∧ mayWrite acc 0x1150 h 1 1 s = true ∧ s.get 0x1150 h 2 = 1)
    ∧ (∃ (s : State) (acc : Acc) (h : Nat),
      Up s ∧ mayWrite acc 0x1150 h 1 1 s = true ∧ (s.get 0x1150 h 2 = 2 ∨ s.get 0x1150 h 2 = 3))
    ∧ (∃ (s : State) (acc : Acc) (h : Nat),
      Up s ∧ mayWrite acc 0x1150 h 1 0 s = true ∧ s.get 0x1150 h 2 < 2)
    ∧ (∃ (s : State) (h : Nat),
      Up s ∧ (16 ≤ h ∨ s.get 0x1150 h 2 ≠ 1))
    ∧ (∃ (s : State) (h _kind _port : Nat) (_stamp : Int) (bytes entry : List Nat),
      Up s ∧ h < 16 ∧ s.get 0x1150 h 2 = 2 ∧ s.get 0x1150 h 8 ≠ 0 ∧ entry.length = 32 ∧ bytes.length ≤ leAt entry 8 2)
    ∧ (∃ (s : State) (h _kind _port : Nat) (_stamp : Int) (bytes entry : List Nat),
      Up s ∧ h < 16 ∧ (entry.length ≠ 32 ∨ leAt entry 8 2 < bytes.length ∨ s.get 0x1150 h 8 = 0 ∨ s.get 0x1150 h 2 ≠ 2))
    ∧ (∃ (s : State) (h _kind _port : Nat) (_stamp : Int) (bytes entry : List Nat),
      Up s ∧ h < 16 ∧ (entry.length ≠ 32 ∨ leAt entry 8 2 < bytes.length ∨ s.get 0x1150 h 8 = 0 ∨ s.get 0x1150 h 2 ≠ 2))
    ∧ (∃ (s : State) (acc : Acc) (h : Nat),
      Up s ∧ mayWrite acc 0x1150 h 1 1 s = true ∧ s.get 0x1150 h 2 = 0)
    ∧ (∃ (s : State) (acc : Acc) (h : Nat),
      Up s ∧ mayWrite acc 0x1150 h 1 0 s = true ∧ (s.get 0x1150 h 2 = 2 ∨ s.get 0x1150 h 2 = 3))
    ∧ (∃ (s : State) (acc : Acc) (h : Nat),
      Up s ∧ mayWrite acc 0x1150 h 1 0 s = true ∧ (s.get 0x1150 h 2 = 2 ∨ s.get 0x1150 h 2 = 3))
    ∧ (∃ (s : State) (h : Nat),
      Up s ∧ h < 16 ∧ s.get 0x1150 h 2 = 1)
    ∧ (∃ (s : State) (m seq role : Nat) (words data : List Nat) (_x : WriteIn) (w : HostWait),
      let body := hostBody seq role words data
      Up s ∧ words.length = 32 ∧ seq < 2 ^ 64 ∧ (domainTag body s).1.isSome = true ∧ (s.hostWaits.find? (fun w => w.member == m && w.seq == seq) = some w) ∧ w.mailbox = true)
    ∧ (∃ (s : State) (m seq role : Nat) (words data : List Nat) (_x : WriteIn),
      let body := hostBody seq role words data
      Up s ∧ words.length = 64 ∧ seq < 2 ^ 64 ∧ (domainTag body s).1.isSome = true ∧ relayFresh s m seq = true ∧ frozen s 343 = false ∧ grantRole (s.get 0x1130 0 2) role = none)
    ∧ (∃ (s : State) (m seq code : Nat) (words data : List Nat) (_x : WriteIn) (role : Role),
      let d := dmaDesc words
      let body := hostBody seq code words data
      Up s ∧ words.length = 64 ∧ seq < 2 ^ 64 ∧ (domainTag body s).1.isSome = true ∧ relayFresh s m seq = true ∧ frozen s 343 = false ∧ grantRole (s.get 0x1130 0 2) code = some role ∧ (¬((d.op = 2 ∨ d.op = 4) ∧ d.index = 0x4000 ∧ d.sub = 2)))
    ∧ (∃ (s : State) (m seq role : Nat) (words data : List Nat) (_x : WriteIn) (w : HostWait),
      let body := hostBody seq role words data
      Up s ∧ words.length = 32 ∧ seq < 2 ^ 64 ∧ (domainTag body s).1.isSome = true ∧ (s.hostWaits.find? (fun w => w.member == m && w.seq == seq) = some w) ∧ w.mailbox = false)
    ∧ (∃ (s : State) (m seq role : Nat) (words data : List Nat) (_x : WriteIn) (w : HostWait),
      let body := hostBody seq role words data
      Up s ∧ words.length = 32 ∧ seq < 2 ^ 64 ∧ (domainTag body s).1.isSome = true ∧ (s.hostWaits.find? (fun w => w.member == m && w.seq == seq) = some w) ∧ w.mailbox = false)
    ∧ (∃ (s : State) (m seq role : Nat) (words data : List Nat) (_x : WriteIn),
      let body := hostBody seq role words data
      Up s ∧ words.length = 32 ∧ seq < 2 ^ 64 ∧ (domainTag body s).1.isSome = true ∧ (s.hostWaits.find? (fun w => w.member == m && w.seq == seq) = none))
    ∧ (∃ (s : State) (m seq role : Nat) (words data : List Nat) (_x : WriteIn),
      let body := hostBody seq role words data
      Up s ∧ words.length = 64 ∧ seq < 2 ^ 64 ∧ (domainTag body s).1.isSome = true ∧ relayFresh s m seq = false)
    ∧ (∃ (s : State) (m seq role : Nat) (words data : List Nat) (_x : WriteIn),
      let body := hostBody seq role words data
      Up s ∧ words.length = 64 ∧ seq < 2 ^ 64 ∧ (domainTag body s).1.isSome = true ∧ relayFresh s m seq = true ∧ frozen s 343 = true)
    ∧ (∃ (s : State) (m seq code : Nat) (words data : List Nat) (_x : WriteIn) (role : Role),
      let d := dmaDesc words
      let body := hostBody seq code words data
      Up s ∧ words.length = 64 ∧ seq < 2 ^ 64 ∧ (domainTag body s).1.isSome = true ∧ relayFresh s m seq = true ∧ frozen s 343 = false ∧ grantRole (s.get 0x1130 0 2) code = some role ∧ ((d.op = 2 ∨ d.op = 4) ∧ d.index = 0x4000 ∧ d.sub = 2))
    ∧ (∃ (s : State) (_m kind seq role : Nat) (words data : List Nat) (_x : WriteIn),
      let body := hostBody seq role words data
      Up s ∧ (kind = 1 ∧ words.length = 64 ∨ kind = 2 ∧ words.length = 32) ∧ (domainTag body s).1.isSome = true)
    ∧ (∃ (s : State) (_m kind seq role _tag : Nat) (words data : List Nat) (_x : WriteIn),
      let body := hostBody seq role words data
      Up s ∧ (kind = 1 ∧ words.length = 64 ∨ kind = 2 ∧ words.length = 32) ∧ (domainTag body s).1 = none)
    ∧ (∃ (s : State) (m : Nat) (bytes : List Nat) (_x : WriteIn),
      Up s ∧ hostMsg m bytes = none) :=
  ⟨⟨(base.put 0x1140 0 1 2), 3, 0x31040, 0xFFFFFFFF, 0xFF0080, true, by decide +kernel⟩,
   ⟨(base.put 0x1140 0 1 2), 3, 0x31040, 0xFFFFFFFF, 0xFF0002, true, ([0xEE, 2]), noBeyond, by decide +kernel⟩,
   ⟨base, 4, 0x31040, 0xFFFFFFFF, 0xFF0002, true, by decide +kernel⟩,
   ⟨(base.setAux .mbox 3 3 (2 ^ 31)), 3, 0x31040, 0xFFFFFFFF, 0xFF0002, true, by decide +kernel⟩,
   ⟨base, 3, 0x31040, 0xFFFFFFFF, 0xFF0081, true, by decide +kernel⟩,
   ⟨(base.put 0x5140 9 3 0xFF), 3, 0x31040, 0xFFFFFFFF, 0x090002, true, by decide +kernel⟩,
   ⟨(((base.put 0x1130 0 1 9).put 0x4000 9 4 1).put 0x5140 9 3 2), 3, 0x31040, 0xFFFFFFFF, 0x090002, true, by decide +kernel⟩,
   ⟨(base.put 0x5140 9 3 2), 3, 0x31040, 0xFFFFFFFF, 0x090002, true, by decide +kernel⟩,
   ⟨base, 4, 0x31040, 0xFFFFFFFF, 0xFF0002, true, ([0xEE, 2]), noBeyond, by decide +kernel⟩,
   ⟨(base.setAux .mbox 3 3 (2 ^ 31)), 3, 0x31040, 0xFFFFFFFF, 0xFF0002, true, ([0xEE, 2]), noBeyond, by decide +kernel⟩,
   ⟨base, 3, 0x31040, 0xFFFFFFFF, 0xFF0081, true, ([0xEE, 2]), noBeyond, by decide +kernel⟩,
   ⟨(base.put 0x5140 9 3 0xFF), 3, 0x31040, 0xFFFFFFFF, 0x090002, true, ([0xEE, 2]), noBeyond, by decide +kernel⟩,
   ⟨(((base.put 0x1130 0 1 9).put 0x4000 9 4 1).put 0x5140 9 3 2), 3, 0x31040, 0xFFFFFFFF, 0x090002, true, ([0xEE, 2]), noBeyond, by decide +kernel⟩,
   ⟨(base.put 0x5140 9 3 2), 3, 0x31040, 0xFFFFFFFF, 0x090002, true, ([0xEE, 2]), noBeyond, by decide +kernel⟩,
   ⟨dmaBase, 3, 7, by decide +kernel⟩,
   ⟨dmaBase, 3, (descBytes ⟨1, 1, 0, 0x1040, 3, 0xFF, 0xFFFFFFFF, 2, 4096, 0, 0, 0⟩), by decide +kernel⟩,
   ⟨dmaBase, 3, (descBytes ⟨2, 1, 0, 0x1040, 3, 0xFF, 0xFFFFFFFF, 2, 4096, 0, 0, 0⟩), ([0xEE, 2]), noBeyond, by decide +kernel⟩,
   ⟨dmaBase, 3, (descBytes ⟨3, 1, 0, 0x1040, 3, 0xFF, 0xFFFFFFFF, 1, 4096, 1, 0, 0⟩), by decide +kernel⟩,
   ⟨dmaBase, 3, (descBytes ⟨4, 1, 0, 0x1040, 3, 0xFF, 0xFFFFFFFF, 2, 4096, 0, 0, 0⟩), ([0xEE, 2]), noBeyond, by decide +kernel⟩,
   ⟨(dmaBase.put 0x50C0 1 3 4), 3, (descBytes ⟨16, 1, 0, 0, 0, 0, 0, 60, 4096, 0, 1, 1⟩), (List.replicate 12 9), (List.replicate 48 9), 5, 0, by decide +kernel⟩,
   ⟨(dmaBase.setAux .dmaBusy 3 0 1), 3, (descBytes ⟨1, 1, 0, 0x1040, 3, 0xFF, 0xFFFFFFFF, 2, 4096, 0, 0, 0⟩), by decide +kernel⟩,
   ⟨dmaBase, 3, (descBytes ⟨9, 1, 0, 0x1040, 3, 0xFF, 0xFFFFFFFF, 2, 4096, 0, 0, 0⟩), by decide +kernel⟩,
   ⟨(dmaBase.put 0x5140 9 3 0xFF), 3, (descBytes ⟨1, 1, 0, 0x1040, 3, 9, 0xFFFFFFFF, 2, 4096, 0, 0, 0⟩), by decide +kernel⟩,
   ⟨(((dmaBase.put 0x1130 0 1 9).put 0x4000 9 4 1).put 0x5140 9 3 2), 3, (descBytes ⟨1, 1, 0, 0x1040, 3, 9, 0xFFFFFFFF, 2, 4096, 0, 0, 0⟩), by decide +kernel⟩,
   ⟨(dmaBase.put 0x5140 9 3 2), 3, (descBytes ⟨1, 1, 0, 0x1040, 3, 9, 0xFFFFFFFF, 2, 4096, 0, 0, 0⟩), by decide +kernel⟩,
   ⟨(dmaBase.setAux .dmaBusy 3 0 1), 3, (descBytes ⟨2, 1, 0, 0x1040, 3, 0xFF, 0xFFFFFFFF, 2, 4096, 0, 0, 0⟩), ([0xEE, 2]), noBeyond, by decide +kernel⟩,
   ⟨dmaBase, 3, (descBytes ⟨9, 1, 0, 0x1040, 3, 0xFF, 0xFFFFFFFF, 2, 4096, 0, 0, 0⟩), ([0xEE, 2]), noBeyond, by decide +kernel⟩,
   ⟨(dmaBase.put 0x5140 9 3 0xFF), 3, (descBytes ⟨2, 1, 0, 0x1040, 3, 9, 0xFFFFFFFF, 2, 4096, 0, 0, 0⟩), ([0xEE, 2]), noBeyond, by decide +kernel⟩,
   ⟨(((dmaBase.put 0x1130 0 1 9).put 0x4000 9 4 1).put 0x5140 9 3 2), 3, (descBytes ⟨2, 1, 0, 0x1040, 3, 9, 0xFFFFFFFF, 2, 4096, 0, 0, 0⟩), ([0xEE, 2]), noBeyond, by decide +kernel⟩,
   ⟨(dmaBase.put 0x5140 9 3 2), 3, (descBytes ⟨2, 1, 0, 0x1040, 3, 9, 0xFFFFFFFF, 2, 4096, 0, 0, 0⟩), ([0xEE, 2]), noBeyond, by decide +kernel⟩,
   ⟨(dmaBase.setAux .dmaBusy 3 0 1), 3, (descBytes ⟨3, 1, 0, 0x1040, 3, 0xFF, 0xFFFFFFFF, 2, 4096, 0, 0, 0⟩), by decide +kernel⟩,
   ⟨dmaBase, 3, (descBytes ⟨9, 1, 0, 0x1040, 3, 0xFF, 0xFFFFFFFF, 2, 4096, 0, 0, 0⟩), by decide +kernel⟩,
   ⟨(dmaBase.put 0x5140 9 3 0xFF), 3, (descBytes ⟨3, 1, 0, 0x1040, 3, 9, 0xFFFFFFFF, 2, 4096, 0, 0, 0⟩), by decide +kernel⟩,
   ⟨(((dmaBase.put 0x1130 0 1 9).put 0x4000 9 4 1).put 0x5140 9 3 2), 3, (descBytes ⟨3, 1, 0, 0x1040, 3, 9, 0xFFFFFFFF, 2, 4096, 0, 0, 0⟩), by decide +kernel⟩,
   ⟨(dmaBase.put 0x5140 9 3 2), 3, (descBytes ⟨3, 1, 0, 0x1040, 3, 9, 0xFFFFFFFF, 2, 4096, 0, 0, 0⟩), by decide +kernel⟩,
   ⟨(dmaBase.setAux .dmaBusy 3 0 1), 3, (descBytes ⟨4, 1, 0, 0x1040, 3, 0xFF, 0xFFFFFFFF, 2, 4096, 0, 0, 0⟩), ([0xEE, 2]), noBeyond, by decide +kernel⟩,
   ⟨dmaBase, 3, (descBytes ⟨9, 1, 0, 0x1040, 3, 0xFF, 0xFFFFFFFF, 2, 4096, 0, 0, 0⟩), ([0xEE, 2]), noBeyond, by decide +kernel⟩,
   ⟨(dmaBase.put 0x5140 9 3 0xFF), 3, (descBytes ⟨4, 1, 0, 0x1040, 3, 9, 0xFFFFFFFF, 2, 4096, 0, 0, 0⟩), ([0xEE, 2]), noBeyond, by decide +kernel⟩,
   ⟨(((dmaBase.put 0x1130 0 1 9).put 0x4000 9 4 1).put 0x5140 9 3 2), 3, (descBytes ⟨4, 1, 0, 0x1040, 3, 9, 0xFFFFFFFF, 2, 4096, 0, 0, 0⟩), ([0xEE, 2]), noBeyond, by decide +kernel⟩,
   ⟨(dmaBase.put 0x5140 9 3 2), 3, (descBytes ⟨4, 1, 0, 0x1040, 3, 9, 0xFFFFFFFF, 2, 4096, 0, 0, 0⟩), ([0xEE, 2]), noBeyond, by decide +kernel⟩,
   ⟨dmaBase, 3, (descBytes ⟨4, 1, 0, 0x1040, 3, 0xFF, 0xFFFFFFFF, 16777217, 4096, 0, 0, 0⟩), ([0xEE, 2]), noBeyond, by decide +kernel⟩,
   ⟨({ dmaBase with transfers := [⟨285, 3, 0x1040, 0, 3, 2, [(0, [9])], 5⟩] }), 3, (descBytes ⟨4, 1, 0, 0x1040, 3, 0xFF, 0xFFFFFFFF, 2, 4096, 0, 0, 0⟩), ([0xEE, 2]), noBeyond, by decide +kernel⟩,
   ⟨(dmaBase.setAux .dmaBusy 3 0 1), 3, (descBytes ⟨16, 1, 0, 0, 0, 0, 0, 60, 4096, 0, 1, 1⟩), (List.replicate 12 9), (List.replicate 48 9), 5, 0, by decide +kernel⟩,
   ⟨dmaBase, 3, (descBytes ⟨9, 1, 0, 0, 0, 0, 0, 60, 4096, 0, 1, 1⟩), (List.replicate 12 9), (List.replicate 48 9), 5, 0, by decide +kernel⟩,
   ⟨(dmaBase.put 0x5090 1 2 4), 3, (descBytes ⟨16, 3, 0, 0, 0, 0, 0, 60, 4096, 0, 0, 1⟩), (List.replicate 12 9), (List.replicate 48 9), 5, 0, by decide +kernel⟩,
   ⟨dmaBase, 3, (descBytes ⟨16, 1, 0, 0, 0, 0, 0, 59, 4096, 0, 1, 1⟩), (List.replicate 12 9), (List.replicate 48 9), 5, 0, by decide +kernel⟩,
   ⟨dmaBase, 3, (descBytes ⟨16, 1, 0, 0, 0, 0, 0, 60, 4096, 0, 1, 1⟩), (List.replicate 12 9), (List.replicate 48 9), 5, 0, by decide +kernel⟩,
   ⟨((dmaBase.put 0x50C0 1 3 4).put 0x4C10 515 9 1), 3, (descBytes ⟨16, 1, 0, 0, 0, 0, 0, 60, 4096, 0, 1, 1⟩), (List.replicate 12 9), (List.replicate 48 9), 5, 0, by decide +kernel⟩,
   ⟨base, 16, 0, 5, 65537, ([1, 2, 3]), (leBytes 8 8192 ++ leBytes 2 3 ++ List.replicate 22 0), by decide +kernel⟩,
   ⟨base, 16, 7, by decide +kernel⟩,
   ⟨(dmaBase.put 0x1150 3 2 1), own, 3, by decide +kernel⟩,
   ⟨dmaBase, own, 3, by decide +kernel⟩,
   ⟨(dmaBase.put 0x1150 3 2 1), own, 3, by decide +kernel⟩,
   ⟨dmaBase, 3, by decide +kernel⟩,
   ⟨(dmaBase.put 0x1150 3 8 16), 3, 0, 5, 65537, ([1, 2, 3]), (leBytes 8 8192 ++ leBytes 2 3 ++ List.replicate 22 0), by decide +kernel⟩,
   ⟨dmaBase, 3, 0, 5, 65537, ([1, 2, 3]), [], by decide +kernel⟩,
   ⟨((dmaBase.put 0x1150 3 8 16).put 0x1150 3 2 1), 3, 0, 5, 65537, ([1, 2, 3]), (leBytes 8 8192 ++ leBytes 2 3 ++ List.replicate 22 0), by decide +kernel⟩,
   ⟨((base.put 0x1150 15 5 8).put 0x1150 15 9 3), own, 15, by decide +kernel⟩,
   ⟨dmaBase, own, 3, by decide +kernel⟩,
   ⟨(dmaBase.setAux .dmaBusy 3 0 1), own, 3, by decide +kernel⟩,
   ⟨({ (dmaBase.put 0x1150 3 2 1).setAux .dmaBusy 3 0 1 with hostWaits := [⟨9, 5, false, 3, ⟨1, 0, 0, 0, 0, 9, 0, 0, 0, 0, 0, 0⟩, 0⟩, ⟨9, 6, true, 3, ⟨1, 0, 0, 0, 0, 9, 0, 0, 0, 0, 0, 0⟩, 0⟩] }), 3, by decide +kernel⟩,
   ⟨({ ((base.put 0x1130 0 1 9).put 0x4000 9 4 1) with hostWaits := [⟨9, 5, true, 3, ⟨1, 0, 0, 0, 0, 9, 0, 0, 0, 0, 0, 0⟩, 0⟩] }), 9, 5, 0, (doneBytes 0 2 0 7), ([1, 2]), noBeyond, (⟨9, 5, true, 3, ⟨1, 0, 0, 0, 0, 9, 0, 0, 0, 0, 0, 0⟩, 0⟩), by decide +kernel⟩,
   ⟨(((base.put 0x1130 0 1 9).put 0x4000 9 4 1)), 9, 5, 2, (descBytes ⟨1, 0, 0, 0x1040, 3, 9, 0xFFFFFFFF, 2, 0, 0, 0, 0⟩), [], noBeyond, by decide +kernel⟩,
   ⟨(((base.put 0x1130 0 1 9).put 0x4000 9 4 1).put 0x1130 0 2 3), 9, 5, 2, (descBytes ⟨1, 0, 0, 0x1040, 3, 9, 0xFFFFFFFF, 2, 0, 0, 0, 0⟩), [], noBeyond, .owner, by decide +kernel⟩,
   ⟨({ ((dmaBase.put 0x1130 0 1 9).put 0x4000 9 4 1) with hostWaits := [⟨9, 5, false, 3, ⟨1, 0, 0, 0, 0, 9, 0, 0, 0, 0, 0, 0⟩, 0⟩] }), 9, 5, 0, (doneBytes 0 2 0 7), ([1, 2]), noBeyond, (⟨9, 5, false, 3, ⟨1, 0, 0, 0, 0, 9, 0, 0, 0, 0, 0, 0⟩, 0⟩), by decide +kernel⟩,
   ⟨({ (((dmaBase.put 0x1150 3 2 1).put 0x1130 0 1 9).put 0x4000 9 4 1) with hostWaits := [⟨9, 5, false, 3, ⟨1, 0, 0, 0, 0, 9, 0, 0, 0, 0, 0, 0⟩, 0⟩] }), 9, 5, 0, (doneBytes 0 2 0 7), ([1, 2]), noBeyond, (⟨9, 5, false, 3, ⟨1, 0, 0, 0, 0, 9, 0, 0, 0, 0, 0, 0⟩, 0⟩), by decide +kernel⟩,
   ⟨(((base.put 0x1130 0 1 9).put 0x4000 9 4 1)), 9, 5, 0, (doneBytes 0 2 0 7), ([1, 2]), noBeyond, by decide +kernel⟩,
   ⟨(((base.put 0x1130 0 1 9).put 0x4000 9 4 1).setAux .relayHigh 9 0 70), 9, 5, 2, (descBytes ⟨1, 0, 0, 0x1040, 3, 9, 0xFFFFFFFF, 2, 0, 0, 0, 0⟩), [], noBeyond, by decide +kernel⟩,
   ⟨(((base.put 0x1130 0 1 9).put 0x4000 9 4 1).put 0x5480 343 1 1), 9, 5, 2, (descBytes ⟨1, 0, 0, 0x1040, 3, 9, 0xFFFFFFFF, 2, 0, 0, 0, 0⟩), [], noBeyond, by decide +kernel⟩,
   ⟨(((base.put 0x1130 0 1 9).put 0x4000 9 4 1).put 0x1130 0 2 3), 9, 5, 2, (descBytes ⟨2, 0, 0, 0x4000, 2, 9, 9, 16, 0, 0, 0, 0⟩), [], noBeyond, .owner, by decide +kernel⟩,
   ⟨(((base.put 0x1130 0 1 9).put 0x4000 9 4 1)), 9, 1, 5, 2, (descBytes ⟨1, 0, 0, 0x1040, 3, 9, 0xFFFFFFFF, 2, 0, 0, 0, 0⟩), [], noBeyond, by decide +kernel⟩,
   ⟨(base.put 0x1130 0 1 9), 9, 1, 5, 2, 3, (descBytes ⟨1, 0, 0, 0x1040, 3, 9, 0xFFFFFFFF, 2, 0, 0, 0, 0⟩), [], noBeyond, by decide +kernel⟩,
   ⟨base, 9, (List.replicate 99 1), noBeyond, by decide +kernel⟩⟩

theorem wit_EventPathCommandsComplete :
    (∃ (s : State) (acc : Acc) (n : Nat),
      Up s ∧ mayWrite acc 0x1200 n 1 1 s = true)
    ∧ (∃ (s : State) (acc : Acc) (n : Nat),
      Up s ∧ mayWrite acc 0x1200 n 1 0 s = true ∧ s.get 0x1200 n 1 = 1 ∧ s.evQueue.length + 1024 ≤ 8192)
    ∧ (∃ (s : State) (acc : Acc) (n : Nat),
      Up s ∧ mayWrite acc 0x1200 n 1 0 s = true ∧ s.get 0x1200 n 1 = 1 ∧ s.evQueue.length = 8192)
    ∧ (∃ (s : State) (acc : Acc) (n : Nat),
      Up s ∧ mayWrite acc 0x1200 n 1 0 s = true ∧ s.get 0x1200 n 1 = 0)
    ∧ (∃ (s : State) (v : Nat),
      Up s ∧ v < 2 ^ 32 ∧ (v + 2 ^ 32 - s.aux .ringCons) % 2 ^ 32 ≤ ringUsed s)
    ∧ (∃ (s : State) (v : Nat),
      Up s ∧ v < 2 ^ 32 ∧ (v + 2 ^ 32 - s.aux .ringCons) % 2 ^ 32 ≤ ringUsed s)
    ∧ (∃ (s : State) (v : Nat),
      Up s ∧ (ringUsed s < (v + 2 ^ 32 - s.aux .ringCons) % 2 ^ 32 ∨ 2 ^ 32 ≤ v))
    ∧ (∃ (s : State) (r : Rec) (rest : List Rec),
      Up s ∧ s.evQueue = r :: rest ∧ (carrierOf s 211).isSome = true ∧ s.get 0x1210 0 8 ≠ 1 ∧ ((s.subs.any fun u => u.takes r) = false) ∧ (rest.length < 4096 → s.aux .evLostRep = 0))
    ∧ (∃ (s : State) (r : Rec) (rest : List Rec),
      Up s ∧ s.evQueue = r :: rest ∧ (carrierOf s 211).isSome = true ∧ s.get 0x1210 0 8 = 1 ∧ ringUsed s < s.get 0x1210 0 5 ∧ ((s.subs.any fun u => u.takes r) = false) ∧ (rest.length < 4096 → s.aux .evLostRep = 0))
    ∧ (∃ (s : State) (r : Rec) (rest : List Rec),
      Up s ∧ s.evQueue = r :: rest ∧ (carrierOf s 211).isSome = true ∧ s.get 0x1210 0 8 = 1 ∧ ringUsed s < s.get 0x1210 0 5 ∧ ((s.subs.any fun u => u.takes r) = false) ∧ (rest.length < 4096 → s.aux .evLostRep = 0))
    ∧ (∃ (s : State) (r : Rec) (rest : List Rec),
      Up s ∧ s.evQueue = r :: rest ∧ (carrierOf s 211).isSome = true ∧ s.get 0x1210 0 8 ≠ 1 ∧ ((s.subs.any fun u => u.takes r) = false) ∧ rest.length < 4096 ∧ s.aux .evLostRep ≠ 0)
    ∧ (∃ (s : State) (r : Rec) (rest : List Rec) (x : Nat),
      Up s ∧ s.evQueue = r :: rest ∧ (carrierOf s 211).isSome = true ∧ s.get 0x1210 0 8 ≠ 1 ∧ (((s.subs.filter fun u => u.takes r).map Sub.slot).eraseDups = [x]) ∧ ((s.backlog.countP fun b => b.1 == x) < 2048) ∧ (s.get 0x1120 x 1 < 2 ∨ 2 ≤ (s.notifies.countP fun n => n.slot == x)) ∧ (rest.length < 4096 → s.aux .evLostRep = 0))
    ∧ (∃ (s : State) (r : Rec) (rest : List Rec) (x : Nat),
      Up s ∧ s.evQueue = r :: rest ∧ (carrierOf s 211).isSome = true ∧ s.get 0x1210 0 8 ≠ 1 ∧ (((s.subs.filter fun u => u.takes r).map Sub.slot).eraseDups = [x]) ∧ (2048 ≤ (s.backlog.countP fun b => b.1 == x)) ∧ (rest.length < 4096 → s.aux .evLostRep = 0))
    ∧ (∃ (s : State),
      Up s ∧ s.evQueue ≠ [] ∧ (carrierOf s 211).isSome = true ∧ (s.get 0x1210 0 8 = 1 → ringUsed s < s.get 0x1210 0 5))
    ∧ (∃ (s : State),
      Up s ∧ (s.evQueue = [] ∨ (carrierOf s 211).isNone = true))
    ∧ (∃ (s : State) (r : Rec) (rest : List Rec),
      Up s ∧ s.evQueue = r :: rest ∧ s.get 0x1210 0 8 = 1 ∧ s.get 0x1210 0 5 ≤ ringUsed s) :=
  ⟨⟨base, own, 3079, by decide +kernel⟩,
   ⟨(raise 3079 5 1 2 (raise 3079 4 1 2 (base.put 0x1200 3079 1 1))), own, 3079, by decide +kernel⟩,
   ⟨({ raise 3079 5 1 2 (raise 3079 4 1 2 (base.put 0x1200 3079 1 1)) with evQueue := List.replicate 8192 ⟨3079, 2, 5, 0, 0, 0, 1⟩ }), own, 3079, by decide +kernel⟩,
   ⟨base, own, 3079, by decide +kernel⟩,
   ⟨(base.setAux .ringProd 0 0 7), 7, by decide +kernel⟩,
   ⟨(base.setAux .ringProd 0 0 7), 6, by decide +kernel⟩,
   ⟨(base.setAux .ringProd 0 0 7), 8, by decide +kernel⟩,
   ⟨({ base.setAux .logSeq 0 0 1023 with evQueue := [⟨3079, 2, 5, 0, 0, 0, 1⟩, ⟨3079, 2, 6, 0, 0, 0, 2⟩] }), (⟨3079, 2, 5, 0, 0, 0, 1⟩), ([⟨3079, 2, 6, 0, 0, 0, 2⟩]), by decide +kernel⟩,
   ⟨({ (base.put 0x1210 0 8 1).setAux .ringProd 0 0 65535 |>.setAux .ringCons 0 0 65535 with evQueue := [⟨3079, 2, 5, 0, 0, 0, 1⟩] }), (⟨3079, 2, 5, 0, 0, 0, 1⟩), [], by decide +kernel⟩,
   ⟨({ (base.put 0x1210 0 8 1).setAux .ringProd 0 0 (2 ^ 32 - 1) |>.setAux .ringCons 0 0 (2 ^ 32 - 2) with evQueue := [⟨3079, 2, 5, 0, 0, 0, 1⟩] }), (⟨3079, 2, 5, 0, 0, 0, 1⟩), [], by decide +kernel⟩,
   ⟨({ base.setAux .evLostRep 0 0 9 with evQueue := [⟨3079, 2, 5, 0, 0, 0, 1⟩] }), (⟨3079, 2, 5, 0, 0, 0, 1⟩), [], by decide +kernel⟩,
   ⟨({ sesBase with subs := [⟨5, 15, 1, true, 0, 4095⟩], notifies := [⟨5, 1, [], 1, 0⟩, ⟨5, 2, [], 1, 0⟩], evQueue := [⟨3079, 2, 5, 0, 0, 0, 1⟩] }), (⟨3079, 2, 5, 0, 0, 0, 1⟩), [], 5, by decide +kernel⟩,
   ⟨({ sesBase with subs := [⟨5, 15, 1, true, 0, 4095⟩], backlog := List.replicate 2048 (5, ⟨3079, 2, 5, 0, 0, 0, 1⟩), evQueue := [⟨3079, 2, 5, 0, 0, 0, 1⟩] }), (⟨3079, 2, 5, 0, 0, 0, 1⟩), [], 5, by decide +kernel⟩,
   ⟨({ sesBase with subs := [⟨5, 15, 1, true, 0, 4095⟩], evQueue := [⟨3079, 2, 5, 0, 0, 0, 1⟩] }), by decide +kernel⟩,
   ⟨base, by decide +kernel⟩,
   ⟨({ (base.put 0x1210 0 8 1).setAux .ringProd 0 0 65536 with evQueue := [⟨3079, 2, 5, 0, 0, 0, 1⟩] }), (⟨3079, 2, 5, 0, 0, 0, 1⟩), [], by decide +kernel⟩⟩

theorem wit_StartCommandsComplete :
    (∃ (s : State) (b : BootIn),
      (s.phase = .heldBrownOut → 10000 ≤ b.width) ∧ (s.phase = .heldThermal → (b.sensors.zipIdx.all fun r => r.1 + sensorTrim s r.2 < 12000) = true) ∧ b.testEn = true)
    ∧ (∃ (s : State) (b : BootIn),
      (s.phase = .heldBrownOut → 10000 ≤ b.width) ∧ (s.phase = .heldThermal → (b.sensors.zipIdx.all fun r => r.1 + sensorTrim s r.2 < 12000) = true) ∧ b.testEn = true)
    ∧ (∃ (s : State) (b : BootIn),
      (s.phase = .heldBrownOut → 10000 ≤ b.width) ∧ (s.phase = .heldThermal → (b.sensors.zipIdx.all fun r => r.1 + sensorTrim s r.2 < 12000) = true) ∧ b.testEn = true)
    ∧ (∃ (s : State) (b : BootIn),
      (s.phase = .heldBrownOut → 10000 ≤ b.width) ∧ (s.phase = .heldThermal → (b.sensors.zipIdx.all fun r => r.1 + sensorTrim s r.2 < 12000) = true) ∧ b.testEn = true)
    ∧ (∃ (s : State) (b : BootIn),
      ((s.phase = .heldBrownOut ∧ b.width < 10000) ∨ (s.phase = .heldThermal ∧ (b.sensors.zipIdx.any fun r => 12000 ≤ r.1 + sensorTrim s r.2) = true)))
    ∧ (∃ (s : State) (b : BootIn),
      ((s.phase = .heldBrownOut ∧ b.width < 10000) ∨ (s.phase = .heldThermal ∧ (b.sensors.zipIdx.any fun r => 12000 ≤ r.1 + sensorTrim s r.2) = true)))
    ∧ (∃ (s : State) (b : BootIn),
      (s.phase = .heldBrownOut → 10000 ≤ b.width) ∧ (s.phase = .heldThermal → (b.sensors.zipIdx.all fun r => r.1 + sensorTrim s r.2 < 12000) = true) ∧ b.testEn = false ∧ b.straps % 4 = 2)
    ∧ (∃ (s : State) (b : BootIn),
      let k : Nat := (if b.straps % 4 = 1 then 1 else 0)
      (s.phase = .heldBrownOut → 10000 ≤ b.width) ∧ (s.phase = .heldThermal → (b.sensors.zipIdx.all fun r => r.1 + sensorTrim s r.2 < 12000) = true) ∧ b.testEn = false ∧ b.straps % 4 ≠ 2 ∧ (imageCause s (if k = 0 then b.imageA else b.imageB) = 0) ∧ s.get 0x1300 k 2 ≠ 3 ∧ b.onLine = false)
    ∧ (∃ (s : State) (b : BootIn),
      let k : Nat := (if b.straps % 4 = 1 then 1 else 0)
      (s.phase = .heldBrownOut → 10000 ≤ b.width) ∧ (s.phase = .heldThermal → (b.sensors.zipIdx.all fun r => r.1 + sensorTrim s r.2 < 12000) = true) ∧ b.testEn = false ∧ b.straps % 4 ≠ 2 ∧ (imageCause s (if k = 0 then b.imageA else b.imageB) = 0) ∧ s.get 0x1300 k 2 ≠ 3 ∧ b.onLine = false)
    ∧ (∃ (s : State) (b : BootIn),
      let k : Nat := (if b.straps % 4 = 1 then 1 else 0)
      let c1 : Nat := (match imageCause s (if k = 0 then b.imageA else b.imageB) with
          | 0 => if s.get 0x1300 (k) 2 = 3 then 9 else 0
          | c => c)
      let c2 : Nat := (match imageCause s (if (1 - k) = 0 then b.imageA else b.imageB) with
          | 0 => if s.get 0x1300 ((1 - k)) 2 = 3 then 9 else 0
          | c => c)
      (s.phase = .heldBrownOut → 10000 ≤ b.width) ∧ (s.phase = .heldThermal → (b.sensors.zipIdx.all fun r => r.1 + sensorTrim s r.2 < 12000) = true) ∧ b.testEn = false ∧ b.straps % 4 ≠ 2 ∧ c1 ≠ 0 ∧ c2 = 0 ∧ b.onLine = false)
    ∧ (∃ (s : State) (b : BootIn),
      let k : Nat := (if b.straps % 4 = 1 then 1 else 0)
      let c1 : Nat := (match imageCause s (if k = 0 then b.imageA else b.imageB) with
          | 0 => if s.get 0x1300 (k) 2 = 3 then 9 else 0
          | c => c)
      let c2 : Nat := (match imageCause s (if (1 - k) = 0 then b.imageA else b.imageB) with
          | 0 => if s.get 0x1300 ((1 - k)) 2 = 3 then 9 else 0
          | c => c)
      (s.phase = .heldBrownOut → 10000 ≤ b.width) ∧ (s.phase = .heldThermal → (b.sensors.zipIdx.all fun r => r.1 + sensorTrim s r.2 < 12000) = true) ∧ b.testEn = false ∧ b.straps % 4 ≠ 2 ∧ c1 ≠ 0 ∧ c2 = 0 ∧ b.onLine = false)
    ∧ (∃ (s : State) (b : BootIn),
      let k : Nat := (if b.straps % 4 = 1 then 1 else 0)
      let c1 : Nat := (match imageCause s (if k = 0 then b.imageA else b.imageB) with
          | 0 => if s.get 0x1300 (k) 2 = 3 then 9 else 0
          | c => c)
      let c2 : Nat := (match imageCause s (if (1 - k) = 0 then b.imageA else b.imageB) with
          | 0 => if s.get 0x1300 ((1 - k)) 2 = 3 then 9 else 0
          | c => c)
      (s.phase = .heldBrownOut → 10000 ≤ b.width) ∧ (s.phase = .heldThermal → (b.sensors.zipIdx.all fun r => r.1 + sensorTrim s r.2 < 12000) = true) ∧ b.testEn = false ∧ b.straps % 4 ≠ 2 ∧ c1 ≠ 0 ∧ c2 ≠ 0)
    ∧ (∃ (s : State) (_b : BootIn),
      s.phase ≠ .heldPorst ∧ s.phase ≠ .heldBrownOut ∧ s.phase ≠ .heldThermal ∧ s.aux .bootTest = 1)
    ∧ (∃ (s : State) (_b : BootIn),
      (s.phase = .heldPorst ∨ s.phase = .heldBrownOut ∨ s.phase = .heldThermal))
    ∧ (∃ (s : State) (_b : BootIn),
      s.phase ≠ .heldPorst ∧ s.phase ≠ .heldBrownOut ∧ s.phase ≠ .heldThermal ∧ s.aux .bootTest ≠ 1 ∧ s.aux .bootSel = 2)
    ∧ (∃ (s : State) (b : BootIn),
      let k : Nat := (if s.aux .bootSel = 1 then 1 else 0)
      s.phase ≠ .heldPorst ∧ s.phase ≠ .heldBrownOut ∧ s.phase ≠ .heldThermal ∧ s.aux .bootTest ≠ 1 ∧ s.aux .bootSel ≠ 2 ∧ (imageCause s (if k = 0 then b.imageA else b.imageB) = 0) ∧ s.get 0x1300 k 2 ≠ 3 ∧ b.onLine = false)
    ∧ (∃ (s : State) (b : BootIn),
      let k : Nat := (if s.aux .bootSel = 1 then 1 else 0)
      s.phase ≠ .heldPorst ∧ s.phase ≠ .heldBrownOut ∧ s.phase ≠ .heldThermal ∧ s.aux .bootTest ≠ 1 ∧ s.aux .bootSel ≠ 2 ∧ (imageCause s (if k = 0 then b.imageA else b.imageB) = 0) ∧ s.get 0x1300 k 2 ≠ 3 ∧ b.onLine = false)
    ∧ (∃ (s : State) (b : BootIn),
      let k : Nat := (if s.aux .bootSel = 1 then 1 else 0)
      let c1 : Nat := (match imageCause s (if k = 0 then b.imageA else b.imageB) with
          | 0 => if s.get 0x1300 (k) 2 = 3 then 9 else 0
          | c => c)
      let c2 : Nat := (match imageCause s (if (1 - k) = 0 then b.imageA else b.imageB) with
          | 0 => if s.get 0x1300 ((1 - k)) 2 = 3 then 9 else 0
          | c => c)
      s.phase ≠ .heldPorst ∧ s.phase ≠ .heldBrownOut ∧ s.phase ≠ .heldThermal ∧ s.aux .bootTest ≠ 1 ∧ s.aux .bootSel ≠ 2 ∧ c1 ≠ 0 ∧ c2 = 0 ∧ b.onLine = false)
    ∧ (∃ (s : State) (b : BootIn),
      let k : Nat := (if s.aux .bootSel = 1 then 1 else 0)
      let c1 : Nat := (match imageCause s (if k = 0 then b.imageA else b.imageB) with
          | 0 => if s.get 0x1300 (k) 2 = 3 then 9 else 0
          | c => c)
      let c2 : Nat := (match imageCause s (if (1 - k) = 0 then b.imageA else b.imageB) with
          | 0 => if s.get 0x1300 ((1 - k)) 2 = 3 then 9 else 0
          | c => c)
      s.phase ≠ .heldPorst ∧ s.phase ≠ .heldBrownOut ∧ s.phase ≠ .heldThermal ∧ s.aux .bootTest ≠ 1 ∧ s.aux .bootSel ≠ 2 ∧ c1 ≠ 0 ∧ c2 = 0 ∧ b.onLine = false)
    ∧ (∃ (s : State) (b : BootIn),
      let k : Nat := (if s.aux .bootSel = 1 then 1 else 0)
      let c1 : Nat := (match imageCause s (if k = 0 then b.imageA else b.imageB) with
          | 0 => if s.get 0x1300 (k) 2 = 3 then 9 else 0
          | c => c)
      let c2 : Nat := (match imageCause s (if (1 - k) = 0 then b.imageA else b.imageB) with
          | 0 => if s.get 0x1300 ((1 - k)) 2 = 3 then 9 else 0
          | c => c)
      s.phase ≠ .heldPorst ∧ s.phase ≠ .heldBrownOut ∧ s.phase ≠ .heldThermal ∧ s.aux .bootTest ≠ 1 ∧ s.aux .bootSel ≠ 2 ∧ c1 ≠ 0 ∧ c2 ≠ 0)
    ∧ (∃ (s : State) (_b : BootIn) (k : Nat),
      s.phase = .starting ∧ s.get 0x1301 0 1 = k ∧ (k < 2 → s.aux .slotTried 0 ≠ 0 ∧ s.aux .slotTried 1 ≠ 0))
    ∧ (∃ (s : State) (_b : BootIn) (k : Nat),
      s.phase = .starting ∧ s.get 0x1301 0 1 = k ∧ (k < 2 → s.aux .slotTried 0 ≠ 0 ∧ s.aux .slotTried 1 ≠ 0))
    ∧ (∃ (s : State) (b : BootIn) (k : Nat),
      s.phase = .starting ∧ s.get 0x1301 0 1 = k ∧ k < 2 ∧ s.aux .slotTried k = 1 ∧ s.aux .slotTried (1 - k) = 0 ∧ (imageCause s (if (1 - k) = 0 then b.imageA else b.imageB) = 0) ∧ s.get 0x1300 (1 - k) 2 ≠ 3 ∧ b.onLine = false)
    ∧ (∃ (s : State) (b : BootIn) (k : Nat),
      let c2 : Nat := (match imageCause s (if (1 - k) = 0 then b.imageA else b.imageB) with
          | 0 => if s.get 0x1300 ((1 - k)) 2 = 3 then 9 else 0
          | c => c)
      s.phase = .starting ∧ s.get 0x1301 0 1 = k ∧ k < 2 ∧ s.aux .slotTried k = 1 ∧ s.aux .slotTried (1 - k) = 0 ∧ c2 ≠ 0)
    ∧ (∃ (s : State) (_b : BootIn),
      s.phase ≠ .starting)
    ∧ (∃ (s : State) (_addr length : Nat) (image : ImageIn) (b : BootIn),
      let cause := (if length < 515 ∨ 3146240 < length then 2 else imageCause s { image with bytes := min image.bytes length })
      s.phase = .recovery ∧ cause = 0 ∧ b.onLine = false)
    ∧ (∃ (s : State) (_addr length : Nat) (image : ImageIn) (_b : BootIn),
      let cause := (if length < 515 ∨ 3146240 < length then 2 else imageCause s { image with bytes := min image.bytes length })
      s.phase = .recovery ∧ cause ≠ 0)
    ∧ (∃ (s : State) (_addr length : Nat) (image : ImageIn) (_b : BootIn),
      let cause := (if length < 515 ∨ 3146240 < length then 2 else imageCause s { image with bytes := min image.bytes length })
      s.phase = .recovery ∧ cause ≠ 0)
    ∧ (∃ (s : State) (_addr _length : Nat) (_image : ImageIn) (_b : BootIn),
      s.phase ≠ .recovery) :=
  ⟨⟨State.reset, ({ boot0 with testEn := true }), by decide +kernel⟩,
   ⟨({ base with phase := .heldBrownOut }), ({ boot0 with testEn := true }), by decide +kernel⟩,
   ⟨({ base with phase := .heldThermal }), ({ boot0 with testEn := true, sensors := [11999] }), by decide +kernel⟩,
   ⟨base, ({ boot0 with testEn := true, straps := 3 }), by decide +kernel⟩,
   ⟨({ base with phase := .heldBrownOut }), ({ boot0 with width := 9999 }), by decide +kernel⟩,
   ⟨({ base with phase := .heldThermal }), ({ boot0 with sensors := [0, 12000] }), by decide +kernel⟩,
   ⟨State.reset, ({ boot0 with straps := 2 }), by decide +kernel⟩,
   ⟨State.reset, ({ boot0 with onLine := false, straps := 0 }), by decide +kernel⟩,
   ⟨State.reset, ({ boot0 with onLine := false, straps := 1 }), by decide +kernel⟩,
   ⟨State.reset, ({ boot0 with onLine := false, imageA := { goodImage with knabexOk := false }, straps := 0 }), by decide +kernel⟩,
   ⟨((State.reset.put 0x1300 1 2 3)), ({ boot0 with onLine := false, straps := 1 }), by decide +kernel⟩,
   ⟨State.reset, ({ boot0 with imageA := { goodImage with answers := false }, imageB := { goodImage with majorOk := false }, straps := 0 }), by decide +kernel⟩,
   ⟨(base.setAux .bootTest 0 0 1), boot0, by decide +kernel⟩,
   ⟨State.reset, boot0, by decide +kernel⟩,
   ⟨(base.setAux .bootSel 0 0 2), boot0, by decide +kernel⟩,
   ⟨(base.setAux .bootSel 0 0 0), ({ boot0 with onLine := false }), by decide +kernel⟩,
   ⟨(base.setAux .bootSel 0 0 1), ({ boot0 with onLine := false }), by decide +kernel⟩,
   ⟨(base.setAux .bootSel 0 0 0), ({ boot0 with onLine := false, imageA := { goodImage with knabexOk := false } }), by decide +kernel⟩,
   ⟨((base.put 0x1300 1 2 3).setAux .bootSel 0 0 1), ({ boot0 with onLine := false }), by decide +kernel⟩,
   ⟨(base.setAux .bootSel 0 0 0), ({ boot0 with imageA := { goodImage with answers := false }, imageB := { goodImage with majorOk := false } }), by decide +kernel⟩,
   ⟨((({ base with phase := .starting } : State).put 0x1301 0 1 1).setAux .slotTried 1 0 1 |>.setAux .slotTried 0 0 1), boot0, 1, by decide +kernel⟩,
   ⟨((({ base with phase := .starting } : State).put 0x1301 0 1 2).setAux .recSlot 0 0 0xFF), boot0, 2, by decide +kernel⟩,
   ⟨(({ base with phase := .starting } : State).setAux .slotTried 0 0 1), ({ boot0 with onLine := false }), 0, by decide +kernel⟩,
   ⟨(({ base with phase := .starting } : State).setAux .slotTried 0 0 1), ({ boot0 with imageB := { goodImage with answers := false } }), 0, by decide +kernel⟩,
   ⟨base, boot0, by decide +kernel⟩,
   ⟨({ base with phase := .recovery }), 4096, 516, goodImage, ({ boot0 with onLine := false }), by decide +kernel⟩,
   ⟨({ base with phase := .recovery }), 4096, 514, goodImage, boot0, by decide +kernel⟩,
   ⟨({ base with phase := .recovery }), 0, 3146240, ({ goodImage with bytes := 511 }), boot0, by decide +kernel⟩,
   ⟨base, 0, 516, goodImage, boot0, by decide +kernel⟩⟩

theorem wit_WhatStartsBring :
    (∃ (s : State) (b : BootIn),
      let cause := (if s.phase = .heldBrownOut then 1 else if s.phase = .heldThermal then 2 else 0)
      let s0 := readTrims (newStart cause ((s.setAux .bootSel 0 0 (b.straps % 4)).setAux .bootTest 0 0 0))
      let k : Nat := (if b.straps % 4 = 1 then 1 else 0)
      let i := (if k = 0 then b.imageA else b.imageB)
      (s.phase = .heldBrownOut → 10000 ≤ b.width) ∧ (s.phase = .heldThermal → (b.sensors.zipIdx.all fun r => r.1 + sensorTrim s r.2 < 12000) = true) ∧ b.testEn = false ∧ b.straps % 4 ≠ 2 ∧ imageCause s i = 0 ∧ s.get 0x1300 k 2 ≠ 3 ∧ b.onLine = true ∧ ((b.sensors.take 10).zipIdx.all (fun r => decide (r.1 + sensorTrim s0 r.2 < 13500)) = true))
    ∧ (∃ (s : State) (b : BootIn),
      let cause := (if s.phase = .heldBrownOut then 1 else if s.phase = .heldThermal then 2 else 0)
      let s0 := readTrims (newStart cause ((s.setAux .bootSel 0 0 (b.straps % 4)).setAux .bootTest 0 0 0))
      let k : Nat := (if b.straps % 4 = 1 then 1 else 0)
      let i := (if k = 0 then b.imageA else b.imageB)
      (s.phase = .heldBrownOut → 10000 ≤ b.width) ∧ (s.phase = .heldThermal → (b.sensors.zipIdx.all fun r => r.1 + sensorTrim s r.2 < 12000) = true) ∧ b.testEn = false ∧ b.straps % 4 ≠ 2 ∧ imageCause s i = 0 ∧ s.get 0x1300 k 2 ≠ 3 ∧ b.onLine = true ∧ ((b.sensors.take 10).zipIdx.all (fun r => decide (r.1 + sensorTrim s0 r.2 < 13500)) = true))
    ∧ (∃ (s : State) (b : BootIn),
      let cause := (if s.phase = .heldBrownOut then 1 else if s.phase = .heldThermal then 2 else 0)
      let s0 := readTrims (newStart cause ((s.setAux .bootSel 0 0 (b.straps % 4)).setAux .bootTest 0 0 0))
      let k : Nat := (if b.straps % 4 = 1 then 1 else 0)
      let i := (if k = 0 then b.imageA else b.imageB)
      (s.phase = .heldBrownOut → 10000 ≤ b.width) ∧ (s.phase = .heldThermal → (b.sensors.zipIdx.all fun r => r.1 + sensorTrim s r.2 < 12000) = true) ∧ b.testEn = false ∧ b.straps % 4 ≠ 2 ∧ imageCause s i = 0 ∧ s.get 0x1300 k 2 ≠ 3 ∧ b.onLine = true ∧ ((b.sensors.take 10).zipIdx.any (fun r => decide (13500 ≤ r.1 + sensorTrim s0 r.2)) = true))
    ∧ (∃ (s : State) (b : BootIn) (n : Nat),
      let cause := (if s.phase = .heldBrownOut then 1 else if s.phase = .heldThermal then 2 else 0)
      let s0 := readTrims (newStart cause ((s.setAux .bootSel 0 0 (b.straps % 4)).setAux .bootTest 0 0 0))
      let k : Nat := (if b.straps % 4 = 1 then 1 else 0)
      let i := (if k = 0 then b.imageA else b.imageB)
      (s.phase = .heldBrownOut → 10000 ≤ b.width) ∧ (s.phase = .heldThermal → (b.sensors.zipIdx.all fun r => r.1 + sensorTrim s r.2 < 12000) = true) ∧ b.testEn = false ∧ b.straps % 4 ≠ 2 ∧ imageCause s i = 0 ∧ s.get 0x1300 k 2 ≠ 3 ∧ b.onLine = true ∧ ((b.sensors.take 10).zipIdx.all (fun r => decide (r.1 + sensorTrim s0 r.2 < 13500)) = true) ∧ n < b.sensors.length ∧ n < 10)
    ∧ (∃ (s : State) (b : BootIn) (n : Nat),
      let cause := (if s.phase = .heldBrownOut then 1 else if s.phase = .heldThermal then 2 else 0)
      let s0 := readTrims (newStart cause ((s.setAux .bootSel 0 0 (b.straps % 4)).setAux .bootTest 0 0 0))
      let k : Nat := (if b.straps % 4 = 1 then 1 else 0)
      let i := (if k = 0 then b.imageA else b.imageB)
      (s.phase = .heldBrownOut → 10000 ≤ b.width) ∧ (s.phase = .heldThermal → (b.sensors.zipIdx.all fun r => r.1 + sensorTrim s r.2 < 12000) = true) ∧ b.testEn = false ∧ b.straps % 4 ≠ 2 ∧ imageCause s i = 0 ∧ s.get 0x1300 k 2 ≠ 3 ∧ b.onLine = true ∧ ((b.sensors.take 10).zipIdx.all (fun r => decide (r.1 + sensorTrim s0 r.2 < 13500)) = true) ∧ n < b.sensors.length ∧ n < 10)
    ∧ (∃ (s : State) (b : BootIn) (n : Nat),
      let cause := (if s.phase = .heldBrownOut then 1 else if s.phase = .heldThermal then 2 else 0)
      let s0 := readTrims (newStart cause ((s.setAux .bootSel 0 0 (b.straps % 4)).setAux .bootTest 0 0 0))
      let k : Nat := (if b.straps % 4 = 1 then 1 else 0)
      let i := (if k = 0 then b.imageA else b.imageB)
      (s.phase = .heldBrownOut → 10000 ≤ b.width) ∧ (s.phase = .heldThermal → (b.sensors.zipIdx.all fun r => r.1 + sensorTrim s r.2 < 12000) = true) ∧ b.testEn = false ∧ b.straps % 4 ≠ 2 ∧ imageCause s i = 0 ∧ s.get 0x1300 k 2 ≠ 3 ∧ b.onLine = true ∧ ((b.sensors.take 10).zipIdx.all (fun r => decide (r.1 + sensorTrim s0 r.2 < 13500)) = true) ∧ n < b.refs.length ∧ n < 4)
    ∧ (∃ (s : State) (b : BootIn) (n : Nat),
      let cause := (if s.phase = .heldBrownOut then 1 else if s.phase = .heldThermal then 2 else 0)
      let s0 := readTrims (newStart cause ((s.setAux .bootSel 0 0 (b.straps % 4)).setAux .bootTest 0 0 0))
      let k : Nat := (if b.straps % 4 = 1 then 1 else 0)
      let i := (if k = 0 then b.imageA else b.imageB)
      (s.phase = .heldBrownOut → 10000 ≤ b.width) ∧ (s.phase = .heldThermal → (b.sensors.zipIdx.all fun r => r.1 + sensorTrim s r.2 < 12000) = true) ∧ b.testEn = false ∧ b.straps % 4 ≠ 2 ∧ imageCause s i = 0 ∧ s.get 0x1300 k 2 ≠ 3 ∧ b.onLine = true ∧ ((b.sensors.take 10).zipIdx.all (fun r => decide (r.1 + sensorTrim s0 r.2 < 13500)) = true) ∧ n < b.refs.length ∧ n < 4)
    ∧ (∃ (s : State) (b : BootIn) (n : Nat),
      let cause := (if s.phase = .heldBrownOut then 1 else if s.phase = .heldThermal then 2 else 0)
      let s0 := readTrims (newStart cause ((s.setAux .bootSel 0 0 (b.straps % 4)).setAux .bootTest 0 0 0))
      let k : Nat := (if b.straps % 4 = 1 then 1 else 0)
      let i := (if k = 0 then b.imageA else b.imageB)
      (s.phase = .heldBrownOut → 10000 ≤ b.width) ∧ (s.phase = .heldThermal → (b.sensors.zipIdx.all fun r => r.1 + sensorTrim s r.2 < 12000) = true) ∧ b.testEn = false ∧ b.straps % 4 ≠ 2 ∧ imageCause s i = 0 ∧ s.get 0x1300 k 2 ≠ 3 ∧ b.onLine = true ∧ ((b.sensors.take 10).zipIdx.all (fun r => decide (r.1 + sensorTrim s0 r.2 < 13500)) = true) ∧ Objects.hasInst s.trees 0x1051 n = true ∧ n < 142 ∧ ((b.clocks.all fun c => c.1 != n) = true))
    ∧ (∃ (s : State) (b : BootIn),
      let cause := (if s.phase = .heldBrownOut then 1 else if s.phase = .heldThermal then 2 else 0)
      let s0 := readTrims (newStart cause ((s.setAux .bootSel 0 0 (b.straps % 4)).setAux .bootTest 0 0 0))
      let k : Nat := (if b.straps % 4 = 1 then 1 else 0)
      let i := (if k = 0 then b.imageA else b.imageB)
      (s.phase = .heldBrownOut → 10000 ≤ b.width) ∧ (s.phase = .heldThermal → (b.sensors.zipIdx.all fun r => r.1 + sensorTrim s r.2 < 12000) = true) ∧ b.testEn = false ∧ b.straps % 4 ≠ 2 ∧ imageCause s i = 0 ∧ s.get 0x1300 k 2 ≠ 3 ∧ b.onLine = true ∧ ((b.sensors.take 10).zipIdx.all (fun r => decide (r.1 + sensorTrim s0 r.2 < 13500)) = true) ∧ boardResult b.board ≠ 0)
    ∧ (∃ (s : State) (b : BootIn),
      let cause := (if s.phase = .heldBrownOut then 1 else if s.phase = .heldThermal then 2 else 0)
      let s0 := readTrims (newStart cause ((s.setAux .bootSel 0 0 (b.straps % 4)).setAux .bootTest 0 0 0))
      let k : Nat := (if b.straps % 4 = 1 then 1 else 0)
      let i := (if k = 0 then b.imageA else b.imageB)
      (s.phase = .heldBrownOut → 10000 ≤ b.width) ∧ (s.phase = .heldThermal → (b.sensors.zipIdx.all fun r => r.1 + sensorTrim s r.2 < 12000) = true) ∧ b.testEn = false ∧ b.straps % 4 ≠ 2 ∧ imageCause s i = 0 ∧ s.get 0x1300 k 2 ≠ 3 ∧ b.onLine = true ∧ ((b.sensors.take 10).zipIdx.all (fun r => decide (r.1 + sensorTrim s0 r.2 < 13500)) = true) ∧ boardResult b.board = 0)
    ∧ (∃ (s : State) (b : BootIn) (n : Nat) (m : ModuleIn),
      let cause := (if s.phase = .heldBrownOut then 1 else if s.phase = .heldThermal then 2 else 0)
      let s0 := readTrims (newStart cause ((s.setAux .bootSel 0 0 (b.straps % 4)).setAux .bootTest 0 0 0))
      let k : Nat := (if b.straps % 4 = 1 then 1 else 0)
      let i := (if k = 0 then b.imageA else b.imageB)
      (s.phase = .heldBrownOut → 10000 ≤ b.width) ∧ (s.phase = .heldThermal → (b.sensors.zipIdx.all fun r => r.1 + sensorTrim s r.2 < 12000) = true) ∧ b.testEn = false ∧ b.straps % 4 ≠ 2 ∧ imageCause s i = 0 ∧ s.get 0x1300 k 2 ≠ 3 ∧ b.onLine = true ∧ ((b.sensors.take 10).zipIdx.all (fun r => decide (r.1 + sensorTrim s0 r.2 < 13500)) = true) ∧ b.modules = [(n, m)] ∧ n < s.trees)
    ∧ (∃ (s : State) (b : BootIn) (n : Nat),
      let cause := (if s.phase = .heldBrownOut then 1 else if s.phase = .heldThermal then 2 else 0)
      let s0 := readTrims (newStart cause ((s.setAux .bootSel 0 0 (b.straps % 4)).setAux .bootTest 0 0 0))
      let k : Nat := (if b.straps % 4 = 1 then 1 else 0)
      let i := (if k = 0 then b.imageA else b.imageB)
      (s.phase = .heldBrownOut → 10000 ≤ b.width) ∧ (s.phase = .heldThermal → (b.sensors.zipIdx.all fun r => r.1 + sensorTrim s r.2 < 12000) = true) ∧ b.testEn = false ∧ b.straps % 4 ≠ 2 ∧ imageCause s i = 0 ∧ s.get 0x1300 k 2 ≠ 3 ∧ b.onLine = true ∧ ((b.sensors.take 10).zipIdx.all (fun r => decide (r.1 + sensorTrim s0 r.2 < 13500)) = true) ∧ n < Objects.poolSize 3 ∧ n ∈ b.pages)
    ∧ (∃ (s : State) (b : BootIn) (ty : Nat),
      let cause := (if s.phase = .heldBrownOut then 1 else if s.phase = .heldThermal then 2 else 0)
      let s0 := readTrims (newStart cause ((s.setAux .bootSel 0 0 (b.straps % 4)).setAux .bootTest 0 0 0))
      let k : Nat := (if b.straps % 4 = 1 then 1 else 0)
      let i := (if k = 0 then b.imageA else b.imageB)
      (s.phase = .heldBrownOut → 10000 ≤ b.width) ∧ (s.phase = .heldThermal → (b.sensors.zipIdx.all fun r => r.1 + sensorTrim s r.2 < 12000) = true) ∧ b.testEn = false ∧ b.straps % 4 ≠ 2 ∧ imageCause s i = 0 ∧ s.get 0x1300 k 2 ≠ 3 ∧ b.onLine = true ∧ ((b.sensors.take 10).zipIdx.all (fun r => decide (r.1 + sensorTrim s0 r.2 < 13500)) = true) ∧ ty ∈ [2, 3, 4, 6] ∧ ((calRecords s (s.get 0x1400 0 3)).all (fun r => r.1 != 5) = true))
    ∧ (∃ (s : State) (b : BootIn),
      let s0 := readTrims (newStart 3 s)
      let k : Nat := (if s.aux .bootSel = 1 then 1 else 0)
      let i := (if k = 0 then b.imageA else b.imageB)
      s.phase ≠ .heldPorst ∧ s.phase ≠ .heldBrownOut ∧ s.phase ≠ .heldThermal ∧ s.aux .bootTest ≠ 1 ∧ s.aux .bootSel ≠ 2 ∧ imageCause s i = 0 ∧ s.get 0x1300 k 2 ≠ 3 ∧ b.onLine = true ∧ ((b.sensors.take 10).zipIdx.all (fun r => decide (r.1 + sensorTrim s0 r.2 < 13500)) = true))
    ∧ (∃ (s : State) (b : BootIn),
      let s0 := readTrims (newStart 3 s)
      let k : Nat := (if s.aux .bootSel = 1 then 1 else 0)
      let i := (if k = 0 then b.imageA else b.imageB)
      s.phase ≠ .heldPorst ∧ s.phase ≠ .heldBrownOut ∧ s.phase ≠ .heldThermal ∧ s.aux .bootTest ≠ 1 ∧ s.aux .bootSel ≠ 2 ∧ imageCause s i = 0 ∧ s.get 0x1300 k 2 ≠ 3 ∧ b.onLine = true ∧ ((b.sensors.take 10).zipIdx.all (fun r => decide (r.1 + sensorTrim s0 r.2 < 13500)) = true))
    ∧ (∃ (s : State) (b : BootIn) (k : Nat),
      let i := (if (1 - k) = 0 then b.imageA else b.imageB)
      s.phase = .starting ∧ s.get 0x1301 0 1 = k ∧ k < 2 ∧ s.aux .slotTried k = 1 ∧ s.aux .slotTried (1 - k) = 0 ∧ imageCause s i = 0 ∧ s.get 0x1300 (1 - k) 2 ≠ 3 ∧ b.onLine = true ∧ ((b.sensors.take 10).zipIdx.all (fun r => decide (r.1 + sensorTrim s r.2 < 13500)) = true))
    ∧ (∃ (s : State) (_addr length : Nat) (image : ImageIn) (b : BootIn),
      let cause := (if length < 515 ∨ 3146240 < length then 2 else imageCause s { image with bytes := min image.bytes length })
      s.phase = .recovery ∧ cause = 0 ∧ b.onLine = true ∧ ((b.sensors.take 10).zipIdx.all (fun r => decide (r.1 + sensorTrim s r.2 < 13500)) = true)) :=
  ⟨⟨State.reset, boot0, by decide +kernel⟩,
   ⟨({ base with phase := .heldThermal }), ({ boot0 with straps := 1, sensors := [11999] }), by decide +kernel⟩,
   ⟨State.reset, ({ boot0 with sensors := [0, 13500] }), by decide +kernel⟩,
   ⟨State.reset, ({ boot0 with sensors := [10, -20, 9000] }), 1, by decide +kernel⟩,
   ⟨State.reset, ({ boot0 with sensors := [0, 0, 0, 0, 0, 0, 0, 0, 9500, 11500] }), 9, by decide +kernel⟩,
   ⟨State.reset, ({ boot0 with refs := [(2, 5), (1, -7), (0, 0)] }), 1, by decide +kernel⟩,
   ⟨State.reset, ({ boot0 with refs := [(2, 5), (1, -7), (0, 0)] }), 2, by decide +kernel⟩,
   ⟨State.reset, boot0, 20, by decide +kernel⟩,
   ⟨State.reset, boot0, by decide +kernel⟩,
   ⟨State.reset, ({ boot0 with board := ⟨true, [66, 73, 1, 0, 0, 52, 0, 0, 162, 87, 119, 170, 1, 2, 3, 4, 5, 6, 7, 8, 9, 10, 11, 12, 13, 14, 15, 16, 0, 7, 0, 1, 3, 0, 0, 16, 1, 2, 3, 4, 5, 6, 7, 8, 9, 10, 11, 12, 13, 14, 15, 16]⟩ }), by decide +kernel⟩,
   ⟨State.reset, ({ boot0 with modules := [(1, ⟨24 :: List.replicate 255 65, true, true, 0⟩)] }), 1, (⟨24 :: List.replicate 255 65, true, true, 0⟩), by decide +kernel⟩,
   ⟨State.reset, ({ boot0 with pages := [3, 3, 8, 5] }), 3, by decide +kernel⟩,
   ⟨State.reset, boot0, 3, by decide +kernel⟩,
   ⟨base, boot0, by decide +kernel⟩,
   ⟨(base.setAux .bootSel 0 0 1), boot0, by decide +kernel⟩,
   ⟨(({ base with phase := .starting } : State).setAux .slotTried 0 0 1), boot0, 0, by decide +kernel⟩,
   ⟨({ base with phase := .recovery }), 4096, 516, goodImage, boot0, by decide +kernel⟩⟩

theorem wit_DictionaryWritesComplete :
    (∃ (s : State) (acc : Acc) (raw inst i n sub : Nat) (data : List Nat) (_x : WriteIn) (r : Row),
      Up s ∧ Objects.locate raw inst = some (i, n) ∧ (i, sub) ∈ plainObjects ∧ Objects.row i sub = some r ∧ r.ty.lengthOk data.length = true ∧ mayWrite acc i n sub (r.ty.fill data.length (ofBytes data)) s = true)
    ∧ (∃ (s : State) (acc : Acc) (raw inst i n sub : Nat) (data : List Nat) (_x : WriteIn) (r : Row),
      Up s ∧ Objects.locate raw inst = some (i, n) ∧ (i, sub) ∈ plainObjects ∧ Objects.row i sub = some r ∧ r.ty.lengthOk data.length = true ∧ mayWrite acc i n sub (r.ty.fill data.length (ofBytes data)) s = true)
    ∧ (∃ (s : State) (acc : Acc) (raw inst i n sub : Nat) (data : List Nat) (_x : WriteIn) (r : Row),
      Up s ∧ Objects.locate raw inst = some (i, n) ∧ (i, sub) ∈ plainObjects ∧ Objects.row i sub = some r ∧ r.ty.lengthOk data.length = true ∧ mayWrite acc i n sub (r.ty.fill data.length (ofBytes data)) s = true)
    ∧ (∃ (s : State) (acc : Acc) (raw inst i n sub : Nat) (data : List Nat) (_x : WriteIn) (r : Row),
      Up s ∧ Objects.locate raw inst = some (i, n) ∧ sub ≠ 0 ∧ mayAccess acc true i n sub s = true ∧ Objects.row i sub = some r ∧ r.acc ≠ .ro ∧ roAt i n sub = false ∧ ¬(i = 0x4000 ∧ sub = 2) ∧ r.ty.lengthOk data.length = true)
    ∧ (∃ (s : State) (acc : Acc) (raw inst i n sub : Nat) (data : List Nat) (_x : WriteIn) (r : Row),
      Up s ∧ Objects.locate raw inst = some (i, n) ∧ sub ≠ 0 ∧ mayAccess acc true i n sub s = true ∧ Objects.row i sub = some r ∧ r.acc ≠ .ro ∧ roAt i n sub = false ∧ ¬(i = 0x4000 ∧ sub = 2) ∧ r.ty.lengthOk data.length = true)
    ∧ (∃ (s : State) (acc : Acc) (raw inst n : Nat) (_data : List Nat) (_x : WriteIn),
      Up s ∧ Objects.locate raw inst = some (0x4000, n) ∧ mayAccess acc true 0x4000 n 2 s = true) :=
  ⟨⟨base, own, 0x1040, 0xFFFFFFFF, 0x1040, 0, 3, ([3, 32]), noBeyond, ((Objects.row 0x1040 3).getD noRow), by decide +kernel⟩,
   ⟨base, (⟨.operator, 200⟩), 0x4D80, 4095, 0x4D80, 4095, 1, ([0, 0, 255, 255]), noBeyond, ((Objects.row 0x4D80 1).getD noRow), by decide +kernel⟩,
   ⟨base, (⟨.operator, 200⟩), 0x20C0, 0xFFFFFFFF, 0x2000, 3, 6, ([0, 0, 0, 100]), noBeyond, ((Objects.row 0x2000 6).getD noRow), by decide +kernel⟩,
   ⟨base, own, 0x3810, 7, 0x3810, 7, 2, ([0, 9]), noBeyond, ((Objects.row 0x3810 2).getD noRow), by decide +kernel⟩,
   ⟨base, own, 0x5000, 7, 0x5000, 7, 15, [1], noBeyond, ((Objects.row 0x5000 15).getD noRow), by decide +kernel⟩,
   ⟨base, own, 0x4000, 5, 5, (List.replicate 16 9), noBeyond, by decide +kernel⟩⟩

theorem wit_RefusedWritesChangeNothing :
    (∃ (s : State) (acc : Acc) (raw inst _sub : Nat) (_data : List Nat) (_x : WriteIn),
      Up s ∧ Objects.locate raw inst = none ∧ frozen s acc.master = false ∧ acc.role ≠ .vendor)
    ∧ (∃ (s : State) (acc : Acc) (raw inst i n sub : Nat) (_data : List Nat) (_x : WriteIn),
      Up s ∧ Objects.locate raw inst = some (i, n) ∧ sub ≠ 0 ∧ frozen s acc.master = true)
    ∧ (∃ (s : State) (acc : Acc) (raw inst i n sub : Nat) (_data : List Nat) (_x : WriteIn),
      Up s ∧ Objects.locate raw inst = some (i, n) ∧ sub ≠ 0 ∧ frozen s acc.master = false ∧ acc.role = .vendor ∧ s.aux .vendorOn = 0)
    ∧ (∃ (s : State) (acc : Acc) (raw inst i n sub : Nat) (_data : List Nat) (_x : WriteIn),
      Up s ∧ Objects.locate raw inst = some (i, n) ∧ sub ≠ 0 ∧ frozen s acc.master = false ∧ (acc.role = .vendor → s.aux .vendorOn ≠ 0) ∧ Objects.has s.trees i n sub = false)
    ∧ (∃ (s : State) (acc : Acc) (raw inst i n sub : Nat) (_data : List Nat) (_x : WriteIn) (r : Row),
      Up s ∧ Objects.locate raw inst = some (i, n) ∧ sub ≠ 0 ∧ mayAccess acc true i n sub s = true ∧ Objects.row i sub = some r ∧ (r.acc = .ro ∨ roAt i n sub = true))
    ∧ (∃ (s : State) (acc : Acc) (raw inst i n sub : Nat) (data : List Nat) (_x : WriteIn) (r : Row),
      Up s ∧ Objects.locate raw inst = some (i, n) ∧ sub ≠ 0 ∧ mayAccess acc true i n sub s = true ∧ Objects.row i sub = some r ∧ r.acc ≠ .ro ∧ roAt i n sub = false ∧ ¬(i = 0x4000 ∧ sub = 2) ∧ r.ty.lengthOk data.length = false)
    ∧ (∃ (s : State) (acc : Acc) (raw inst i n sub : Nat) (data : List Nat) (_x : WriteIn) (r : Row),
      Up s ∧ Objects.locate raw inst = some (i, n) ∧ (i, sub) ∈ plainObjects ∧ mayAccess acc true i n sub s = true ∧ Objects.row i sub = some r ∧ r.ty.lengthOk data.length = true ∧ rwdBusy s i n sub = true)
    ∧ (∃ (s : State) (acc : Acc) (raw inst i n sub : Nat) (data : List Nat) (_x : WriteIn) (r : Row),
      Up s ∧ Objects.locate raw inst = some (i, n) ∧ (i, sub) ∈ plainObjects ∧ mayAccess acc true i n sub s = true ∧ Objects.row i sub = some r ∧ r.ty.lengthOk data.length = true ∧ (r.valueOk (r.ty.fill data.length (ofBytes data)) = false ∨ orderOk s i n sub (r.ty.fill data.length (ofBytes data)) = false) ∧ rwdBusy s i n sub = false)
    ∧ (∃ (s : State) (acc : Acc) (raw inst i n sub : Nat) (data : List Nat) (_x : WriteIn) (r : Row),
      Up s ∧ Objects.locate raw inst = some (i, n) ∧ (i, sub) ∈ plainObjects ∧ mayAccess acc true i n sub s = true ∧ Objects.row i sub = some r ∧ r.ty.lengthOk data.length = true ∧ (r.valueOk (r.ty.fill data.length (ofBytes data)) = false ∨ orderOk s i n sub (r.ty.fill data.length (ofBytes data)) = false) ∧ rwdBusy s i n sub = false)
    ∧ (∃ (s : State) (acc : Acc) (raw inst i n : Nat) (_data : List Nat) (_x : WriteIn),
      Up s ∧ Objects.locate raw inst = some (i, n) ∧ reachable s i n = true ∧ frozen s acc.master = false ∧ (acc.role = .vendor → s.aux .vendorOn ≠ 0) ∧ rights s acc.role true i n 0 = 0) :=
  ⟨⟨base, own, 0x1F00, 0, 1, [0], noBeyond, by decide +kernel⟩,
   ⟨(base.put 0x5480 215 1 1), own, 0x1040, 0xFFFFFFFF, 0x1040, 0, 3, ([3, 32]), noBeyond, by decide +kernel⟩,
   ⟨base, (⟨.vendor, 215⟩), 0x1040, 0xFFFFFFFF, 0x1040, 0, 3, ([3, 32]), noBeyond, by decide +kernel⟩,
   ⟨base, own, 0x1040, 0xFFFFFFFF, 0x1040, 0, 200, ([3, 32]), noBeyond, by decide +kernel⟩,
   ⟨base, own, 0x1040, 0xFFFFFFFF, 0x1040, 0, 1, ([3, 32]), noBeyond, ((Objects.row 0x1040 1).getD noRow), by decide +kernel⟩,
   ⟨base, own, 0x1040, 0xFFFFFFFF, 0x1040, 0, 3, ([3, 32, 1]), noBeyond, ((Objects.row 0x1040 3).getD noRow), by decide +kernel⟩,
   ⟨(base.put 0x50C0 1 3 2), own, 0x50C0, 1, 0x50C0, 1, 2, [0], noBeyond, ((Objects.row 0x50C0 2).getD noRow), by decide +kernel⟩,
   ⟨base, own, 0x1301, 0xFFFFFFFF, 0x1301, 0, 3, ([0, 61]), noBeyond, ((Objects.row 0x1301 3).getD noRow), by decide +kernel⟩,
   ⟨base, own, 0x1040, 0xFFFFFFFF, 0x1040, 0, 3, ([3, 33]), noBeyond, ((Objects.row 0x1040 3).getD noRow), by decide +kernel⟩,
   ⟨base, own, 0x1040, 0xFFFFFFFF, 0x1040, 0, [3], noBeyond, by decide +kernel⟩⟩

theorem wit_EventTreeShowsWhatIsPending :
    (∃ (_s : State) (_g n : Nat),
      n < 64)
    ∧ (∃ (_s : State) (_g n : Nat),
      n < 64)
    ∧ (∃ (_s : State) (g : Nat),
      g < 64)
    ∧ (∃ (s : State) (num : Nat),
      num < 4096 ∧ s.get 0x1200 num 1 = 0 ∧ (∃ r ∈ s.evPending, r.num = num)) :=
  ⟨⟨(raise 3971 4 0 0 base), 62, 3, by decide +kernel⟩,
   ⟨base, 63, 63, by decide +kernel⟩,
   ⟨(raise 3971 4 0 0 base), 62, by decide +kernel⟩,
   ⟨(raise 3971 4 0 0 base), 3971, by decide +kernel⟩⟩

theorem wit_PendingFromRaisedRecordToClearing :
    (∃ (_s : State) (num _inst _a1 _a2 : Nat),
      Objects.lasting num = true)
    ∧ (∃ (_s : State) (num inst _a1 _a2 n i : Nat),
      (n ≠ num ∨ i ≠ inst) ∧ Objects.aliasOf num ≠ some n)
    ∧ (∃ (_s : State) (_num _inst _a1 _a2 n _i : Nat),
      Objects.lasting n = false) :=
  ⟨⟨base, 3971, 4, 0, 0, by decide +kernel⟩,
   ⟨(raise 3971 4 0 0 base), 3971, 5, 0, 0, 3971, 4, by decide +kernel⟩,
   ⟨base, 3981, 5, 0, 0, 3981, 5, by decide +kernel⟩⟩

theorem wit_RecordsEnterTheQueue :
    (∃ (s : State) (num _inst _a1 _a2 : Nat),
      s.get 0x1200 num 1 = 0 ∧ s.evQueue.length < 8192)
    ∧ (∃ (s : State) (num _inst _a1 _a2 : Nat),
      s.get 0x1200 num 1 = 0 ∧ 8192 ≤ s.evQueue.length)
    ∧ (∃ (s : State) (num _inst _a1 _a2 : Nat),
      s.get 0x1200 num 1 = 1) :=
  ⟨⟨base, 3971, 4, 7, (2 ^ 32 + 1), by decide +kernel⟩,
   ⟨({ base with evQueue := List.replicate 8192 ⟨0, 0, 0, 0, 0, 0, 0⟩ }), 3971, 4, 7, 1, by decide +kernel⟩,
   ⟨(base.put 0x1200 3971 1 1), 3971, 4, 7, 1, by decide +kernel⟩⟩

theorem wit_AccessOutsideItsRoleFreezesTheMaster :
    (∃ (s : State) (acc : Acc) (raw inst i n sub : Nat) (_data : List Nat) (_x : WriteIn),
      Up s ∧ Objects.locate raw inst = some (i, n) ∧ sub ≠ 0 ∧ frozen s acc.master = false ∧ (acc.role = .vendor → s.aux .vendorOn ≠ 0) ∧ Objects.has s.trees i n sub = true ∧ access.present s i n = true ∧ rights s acc.role true i n sub ≠ 0)
    ∧ (∃ (s : State) (acc : Acc) (raw inst i n sub : Nat) (_data : List Nat) (_x : WriteIn),
      Up s ∧ Objects.locate raw inst = some (i, n) ∧ sub ≠ 0 ∧ frozen s acc.master = false ∧ (acc.role = .vendor → s.aux .vendorOn ≠ 0) ∧ Objects.has s.trees i n sub = true ∧ access.present s i n = true ∧ rights s acc.role true i n sub ≠ 0)
    ∧ (∃ (s : State) (acc : Acc) (raw inst i n sub : Nat) (_data : List Nat) (_x : WriteIn),
      Up s ∧ Objects.locate raw inst = some (i, n) ∧ sub ≠ 0 ∧ frozen s acc.master = false ∧ (acc.role = .vendor → s.aux .vendorOn ≠ 0) ∧ Objects.has s.trees i n sub = true ∧ access.present s i n = true ∧ rights s acc.role true i n sub ≠ 0) :=
  ⟨⟨base, (⟨.observer, 256⟩), 0x1040, 0xFFFFFFFF, 0x1040, 0, 3, ([3, 32]), noBeyond, by decide +kernel⟩,
   ⟨base, (⟨.tenant 3, 20⟩), 0x4F00, 7, 0x4F00, 7, 2, ([0, 0, 0, 1]), noBeyond, by decide +kernel⟩,
   ⟨dmaBase, (⟨.observer, 259⟩), 0x1040, 0xFFFFFFFF, 0x1040, 0, 3, ([3, 32]), noBeyond, by decide +kernel⟩⟩

theorem wit_UnfittedTreesRefuseTheirLanes :
    (∃ (s : State) (acc : Acc) (tree : Nat),
      Up s ∧ mayWrite acc 0x2000 tree 2 1 s = true ∧ bit 7 (s.get 0x5E01 tree 1) = false)
    ∧ (∃ (s : State) (acc : Acc) (tree : Nat),
      Up s ∧ mayWrite acc 0x2002 tree 2 1 s = true ∧ (bit 7 (s.get 0x5E01 tree 1) = false ∨ bit 6 (s.get 0x5E01 tree 1) = false))
    ∧ (∃ (s : State) (acc : Acc) (tree : Nat),
      Up s ∧ mayWrite acc 0x2002 tree 2 1 s = true ∧ (bit 7 (s.get 0x5E01 tree 1) = false ∨ bit 6 (s.get 0x5E01 tree 1) = false)) :=
  ⟨⟨(base.put 0x5E01 47 1 0x40), own, 47, by decide +kernel⟩,
   ⟨(base.put 0x5E01 47 1 0x40), own, 47, by decide +kernel⟩,
   ⟨(base.put 0x5E01 0 1 0x80), own, 0, by decide +kernel⟩⟩

theorem wit_LowestMatchingRuleDecides :
    (∃ (_s : State) (_i key : Nat),
      key < 2 ^ 576)
    ∧ (∃ (s : State) (_slot _key _i : Nat),
      Store.wf Objects.dflt s.objs = true)
    ∧ (∃ (s : State) (_slot _key : Nat),
      Store.wf Objects.dflt s.objs = true) :=
  ⟨⟨base, 0, 5, by decide +kernel⟩,
   ⟨((base.put 0x4400 65541 4 1).put 0x4400 65543 4 1), 1, 9, 65541, by decide +kernel⟩,
   ⟨base, 0, 9, by decide +kernel⟩⟩

theorem wit_OneBitErrorsAreCorrected :
    (∃ (data : Nat),
      data < 2 ^ 64)
    ∧ (∃ (data i : Nat),
      data < 2 ^ 64 ∧ i < 72)
    ∧ (∃ (data i : Nat),
      data < 2 ^ 64 ∧ i < 72)
    ∧ (∃ (data i j : Nat),
      data < 2 ^ 64 ∧ i < j ∧ j < 72) :=
  ⟨⟨(2 ^ 63 + 5), by decide +kernel⟩,
   ⟨(2 ^ 63 + 5), 71, by decide +kernel⟩,
   ⟨0, 63, by decide +kernel⟩,
   ⟨(2 ^ 63 + 5), 70, 71, by decide +kernel⟩⟩

/-! ## Witnesses of the statements about every step -/

theorem wit_HeldDeviceIgnoresCommands : State.reset.phase ≠ .running := by decide

theorem wit_CommandsLeaveTheQueueAndTheLog : ∃ t, exec .avsRetry State.reset = .next t := ⟨_, rfl⟩

theorem wit_StepRunsTheFrontCommand : State.reset.pending = [] := by decide

theorem wit_StepsKeepTheCanonicalForm : ∃ s t : State, Canonical s ∧ step s = .next t :=
  ⟨State.reset, _, ⟨by decide, by decide, by decide⟩, rfl⟩

theorem wit_StepsKeepTheEventPathSound : ∃ s t : State, EventsSound s ∧ step s = .next t :=
  ⟨raise 3971 4 0 0 base, _, ⟨by decide +kernel, by decide +kernel⟩, rfl⟩

/-! ## WellFormed: one ill-formed term for each check, and terms at the ends of the ranges -/

/-- A descriptor whose fields are all zero. -/
def zeroDesc : List Nat := List.replicate 64 0

theorem test_illFormed_access : ([.vendorEnable ⟨.tenant 16, 0⟩, .vendorEnable ⟨.owner, 344⟩, .objectWrite own 0 0 0 [256] noBeyond,
    .signalStrengthRequest own 0 512, .ownershipOutOfForce own 1024, .ownershipInForce own 0 16, .keyErase own 65536,
    .ruleWrite own 131072 1 0, .meterClear own 262144 1, .flowMapWrite own 131072 1 0, .quadModeWrite own 8 0, .mgmtPortEnable own 2,
    .spareCommand own 0 8, .masterRelease own 344 1, .selfTestAbandon own 14, .selfTestRequest own 0 16, .edgeQueueRead own 8,
    .principalChange own 256 1 0, .eventUnmask own 4096] : List Instr).all (fun c => !c.wellFormed) = true := by decide +kernel

theorem test_illFormed_instance : ([.railExcursion 10, .temperatureSample 10 0, .islandReset 142, .memoryZeroingDone 472,
    .modeNoticeResend 48, .downstreamDrainExpiry 0 2, .terminalDrainEnd 24576, .flamPoint 0 4, .allocationDrainEnd 49152,
    .adaptationPeriodEnd 96, .bulkDrainExpiry (8, [], []), .pipeServiceReturn 6, .macLearn 216, .domainDrainEnd 4096, .bufferReturn 528 0,
    .poolLowClear 4, .packetSelect 128 [] false, .queueDrainExpiry true 131072, .laneStart 70, .uplinkDrainExpiry 32, .viothDrainExpiry 4,
    .levelReportTimeout 64, .featureSwitchOn 64, .sourceUnusableTimeout 8, .ptpMessageReceive 0 0 256 (.delayReq, 0), .ppsPulse 2,
    .handshakeTimeout 63, .blockTransferTimeout 0 4, .relayTimeout true 0 0 (2 ^ 32) 0, .imageProgramDone 2 true] : List Instr).all
    (fun c => !c.wellFormed) = true := by decide +kernel

theorem test_illFormed_host : ([.hello ⟨2, 0, none, []⟩, .hello ⟨0, 2 ^ 144, none, []⟩, .hello ⟨0, 0, some 64, []⟩,
    .hello ⟨0, 0, none, [256]⟩, .mailboxRead 4 0 0 0 false, .mailboxRead 0 (2 ^ 32) 0 0 false, .mailboxRead 0 0 (2 ^ 32) 0 false,
    .mailboxRead 0 0 0 (2 ^ 32) false, .dmaDrainExpiry 16, .dmaWrite 0 zeroDesc [256] noBeyond, .dmaPacketSend 0 zeroDesc [] [256] 0 0,
    .dmaRead 0 (256 :: List.replicate 63 0), .dmaRead 0 (List.replicate 63 0), .dmaReceiveFrame 0 0 0 0 [] [256], .hostRequestRelay (64, []) noBeyond,
    .keyReport 24576 [] 0 0 [] [] none 0, .capabilityReport 0 [] [256] []] : List Instr).all (fun c => !c.wellFormed) = true := by decide +kernel

theorem test_wellFormed_ends : ([.vendorEnable ⟨.tenant 15, 343⟩, .railExcursion 9, .islandReset 141, .memoryZeroingDone 471,
    .terminalDrainEnd 24575, .allocationDrainEnd 49151, .laneStart 69, .ruleWrite own 131071 1 0, .flowMapWrite own 131071 1 0,
    .masterRelease own 343 1, .hello ⟨1, 2 ^ 144 - 1, some 63, [255]⟩, .dmaRead 15 zeroDesc, .eventUnmask own 4095]
    : List Instr).all Instr.wellFormed = true := by decide +kernel

/-! ## Single steps and tables against the spec's words -/

/-- R409: data bit 0 stands at position 3, so it sets check bits 0 and 1, and with three ones the parity bit. -/
theorem test_code_of_one : checkBits 1 = 0x83 := by decide +kernel

/-- R409: data bit 63 stands at position 71 = 64 + 4 + 2 + 1: five ones with it, so the parity bit is set. -/
theorem test_code_of_top : checkBits (2 ^ 63) = 0xC7 := by decide +kernel

/-- The check value of CRC-32C over the digits 1 to 9. -/
theorem test_crc32c : crc32c [0x31, 0x32, 0x33, 0x34, 0x35, 0x36, 0x37, 0x38, 0x39] = 0xE3069283 := by decide +kernel

/-- R18, R57: tree 3's B + 0x00.06 is index 0x20C0, and its drain limit defaults to 1,000. -/
theorem test_tree_object : Objects.locate 0x20C0 0xFFFFFFFF = some (0x2000, 3) ∧ State.reset.get 0x2000 3 6 = 1000 := by decide +kernel

/-- R450: a write on a device that is held does nothing. -/
theorem test_held : exec (.objectWrite own 0x1040 0xFFFFFFFF 3 [3, 0] noBeyond) State.reset = .next State.reset := rfl

/-- The front command runs with the queue's rest. -/
theorem test_step : step { State.reset with pending := [.avsRetry, .avsNoResponse] } = .next { State.reset with pending := [.avsNoResponse] } :=
  rfl

end Sys2Proof.Machine
end

section
/-!
PROOFS of the statements on the scope of the block (spec/00): every command answers, a write reaches its object's rule, and what
the freeze of a master changes.
-/
namespace Sys2Proof.Machine

/-! ## Every command answers -/

/-- Each arm of exec is a gate (whenUp, whenPowered) or a start of the device, and each of these answers a next state. -/
theorem exec_next (c : Instr) (s : State) : ∃ t, exec c s = .next t := by
  cases c <;> exact ⟨_, rfl⟩

/-- Settles O54: an empty queue idles, and every command answers a next state. -/
theorem everyStepAnswersANextState : Obligations.EveryStepAnswersANextState := by
  unfold Obligations.EveryStepAnswersANextState
  intro s
  unfold step
  split
  · exact ⟨idle s, rfl⟩
  · exact exec_next _ _

/-! ## Writes that reach their object's rule -/

/-- Every plain object is a value (not subindex 0, not key material) of an index whose row is no command. -/
theorem plainObjects_are_values : (plainObjects.all fun p =>
    p.2 != 0 && p.1 != 0x4000 && (Objects.row p.1 p.2).all fun r => r.acc != .cmd) = true := by
  decide +kernel

theorem plain_value {i sub : Nat} (h : (i, sub) ∈ plainObjects) :
    sub ≠ 0 ∧ i ≠ 0x4000 ∧ ∀ r, Objects.row i sub = some r → r.acc ≠ .cmd := by
  have hp := List.all_eq_true.1 plainObjects_are_values _ h
  simpa [and_assoc, Option.all_eq_true] using hp

theorem plain_sub_ne_zero {i sub : Nat} (h : (i, sub) ∈ plainObjects) : sub ≠ 0 := (plain_value h).1

theorem plain_index_ne_keys {i sub : Nat} (h : (i, sub) ∈ plainObjects) : i ≠ 0x4000 := (plain_value h).2.1

theorem plain_acc_ne_cmd {i sub : Nat} {r : Row} (h : (i, sub) ∈ plainObjects) (hr : Objects.row i sub = some r) :
    r.acc ≠ .cmd := (plain_value h).2.2 r hr

/-- No chapter gives a plain object a rule of its own: each falls through to the last arm of its part of the dictionary. -/
theorem writeRule_plain {i sub : Nat} (h : (i, sub) ∈ plainObjects) (acc : Acc) (n : Nat) (v : Reg) (x : WriteIn) (s : State) :
    writeRule acc i n sub v x s = plain acc i n sub v s := by
  suffices all : ∀ p ∈ plainObjects, writeRule acc p.1 n p.2 v x s = plain acc p.1 n p.2 v s from all _ h
  repeat refine List.forall_mem_cons.2 ⟨rfl, ?_⟩
  exact List.forall_mem_nil _

/-- A write that the access checks admit, of an object that is not read-only, and with data of its type's length, runs the
object's rule. -/
theorem writeObj_of_mayAccess {acc : Acc} {raw inst i n sub : Nat} {data : List Nat} {x : WriteIn} {s : State} {r : Row}
    (hloc : Objects.locate raw inst = some (i, n)) (hsub : sub ≠ 0) (hmay : mayAccess acc true i n sub s = true)
    (hrow : Objects.row i sub = some r) (hro : r.acc ≠ .ro ∧ roAt i n sub = false) (hkey : ¬(i = 0x4000 ∧ sub = 2))
    (hlen : r.ty.lengthOk data.length = true) :
    writeObj acc raw inst sub data x s = writeRule acc i n sub (r.ty.fill data.length (ofBytes data)) x s := by
  simp [writeObj, hloc, hsub, access_of_admits hmay, hrow, hro, hkey, hlen]

/-- Key material goes to KEY_WRITE, whatever its length. -/
theorem writeObj_keyMaterial {acc : Acc} {raw inst n : Nat} {data : List Nat} {x : WriteIn} {s : State}
    (hloc : Objects.locate raw inst = some (0x4000, n)) (hmay : mayAccess acc true 0x4000 n 2 s = true) :
    writeObj acc raw inst 2 data x s = keyWrite acc n data.length (ofBytes data) s := by
  have hrow : ∃ r, Objects.row 0x4000 2 = some r ∧ r.acc ≠ .ro := ⟨⟨0x4000, 2, .octets 32, .wo, .any, 0⟩, by decide +kernel⟩
  obtain ⟨r, hrow, hro⟩ := hrow
  have hat : roAt 0x4000 n 2 = false := rfl
  simp [writeObj, hloc, access_of_admits hmay, hrow, hro, hat]

theorem mayAccess_of_mayWrite {acc : Acc} {i n b : Nat} {v : Reg} {s : State} (h : mayWrite acc i n b v s = true) :
    mayAccess acc true i n b s = true := by
  unfold mayWrite at h
  exact (Bool.and_eq_true_iff.1 h).1

/-- An admitted write is of an object that is writable where it stands. -/
theorem writable_of_mayWrite {acc : Acc} {i n b : Nat} {v : Reg} {s : State} {r : Row} (hrow : Objects.row i b = some r)
    (h : mayWrite acc i n b v s = true) : r.acc ≠ .ro ∧ roAt i n b = false := by
  simp only [mayWrite, hrow, Bool.and_eq_true, Bool.not_eq_true', bne_iff_ne, ne_eq] at h
  obtain ⟨-, ⟨⟨hacc, hat⟩, -⟩, -⟩ := h
  exact ⟨hacc, hat⟩

/-- An admitted write of a plain object stores the value, and no more. -/
theorem plain_of_mayWrite {acc : Acc} {i n sub : Nat} {v : Reg} {s : State} {r : Row} (hplain : (i, sub) ∈ plainObjects)
    (hrow : Objects.row i sub = some r) (hmay : mayWrite acc i n sub v s = true) :
    plain acc i n sub v s = { s.put i n sub v with answer := ⟨0, 0⟩ } := by
  have hcmd : ¬(r.acc = .cmd ∧ i ≠ 0x5840) := fun h => plain_acc_ne_cmd hplain hrow h.1
  rw [plain, writeValue_of_mayWrite hrow hmay, if_neg hcmd]
  rfl

/-- So does OBJECT_WRITE of a plain object (R20, R449, R450). -/
theorem writeObj_plain {acc : Acc} {raw inst i n sub : Nat} {data : List Nat} {x : WriteIn} {s : State} {r : Row}
    (hloc : Objects.locate raw inst = some (i, n)) (hplain : (i, sub) ∈ plainObjects) (hrow : Objects.row i sub = some r)
    (hlen : r.ty.lengthOk data.length = true) (hmay : mayWrite acc i n sub (r.ty.fill data.length (ofBytes data)) s = true) :
    writeObj acc raw inst sub data x s
      = { s.put i n sub (r.ty.fill data.length (ofBytes data)) with answer := ⟨0, 0⟩ } := by
  rw [writeObj_of_mayAccess hloc (plain_sub_ne_zero hplain) (mayAccess_of_mayWrite hmay) hrow (writable_of_mayWrite hrow hmay)
    (fun h => plain_index_ne_keys hplain h.1) hlen, writeRule_plain hplain, plain_of_mayWrite hplain hrow hmay]

/-- OBJECT_WRITE on a running device runs to the state that its rule gives. -/
theorem runs_objectWrite {acc : Acc} {raw inst sub : Nat} {data : List Nat} {x : WriteIn} {s : State} {p : State → Prop}
    (hup : Up s) (h : p (writeObj acc raw inst sub data x s)) : Runs (.objectWrite acc raw inst sub data x) s p :=
  runs_of rfl hup h

/-- A state with one object written differs in that object only. -/
theorem only_put (s : State) (i n b : Nat) (v : Reg) (a : Answer) :
    Only (fun ix k sb => ix = i ∧ k = n ∧ sb = b) (fun _ _ _ => False) s { s.put i n b v with answer := a } :=
  ⟨fun ix k sb h => (State.get_congr rfl ix k sb).trans ((s.get_put i n b ix k sb v).trans (if_neg h)), fun _ _ _ _ => rfl⟩

/-- Settles O44: the access checks, the row and the length admit the write, and then its object's rule runs; a plain object's
rule is to store. -/
theorem dictionaryWritesComplete : Obligations.DictionaryWritesComplete := by
  unfold Obligations.DictionaryWritesComplete
  refine ⟨?plain, ?ruled, ?key⟩
  case plain =>
    intro s acc raw inst i n sub data x r hup hloc hplain hrow hlen hmay
    refine runs_objectWrite hup ?_
    rw [writeObj_plain hloc hplain hrow hlen hmay]
    exact ⟨rfl, State.get_put_self .., only_put .., rfl⟩
  case ruled =>
    intro s acc raw inst i n sub data x r hup hloc hsub hmay hrow hro hkey hlen
    exact runs_objectWrite hup (writeObj_of_mayAccess hloc hsub hmay hrow hro hkey hlen)
  case key =>
    intro s acc raw inst n data x hup hloc hmay
    exact runs_objectWrite hup (writeObj_keyMaterial hloc hmay)

/-! ## The missing premise of the statement on refused writes -/

/-- Tree 0's main lane runs, on a device that is otherwise as after its start. -/
def mainLaneRuns : State := { State.reset with phase := .running }.put 0x2000 0 1 2

/-- The row of a tree's drain limit: read-write whether or not the lane is disabled (RW, not RWD). -/
def drainLimitRow : Row := ⟨0x2000, 6, .u32, .rw, .between 10 100000, 1000⟩

/-- The owner, at the host interface's engine. -/
def ownerAccess : Acc := ⟨.owner, 215⟩

/-- Nothing comes with the write beyond its value. -/
def valueAlone : WriteIn := ⟨0, [], ⟨false, 0, [], 0, false, false, false, []⟩, noFar⟩

/-- Refutes O45: its clause on "busy" asks that the owning function runs, but not that the object is RWD. The drain limit of a tree
whose main lane runs is a plain RW object, so the owner's write of 100 is admitted and answered "done", not "busy" (R20). -/
theorem not_refusedWritesChangeNothing : ¬ Obligations.RefusedWritesChangeNothing := by
  unfold Obligations.RefusedWritesChangeNothing
  rintro ⟨-, -, -, -, -, -, hbusy, -⟩
  have hloc : Objects.locate 0x2000 0xFFFFFFFF = some (0x2000, 0) := by decide +kernel
  have hplain : (0x2000, 6) ∈ plainObjects := by decide +kernel
  have hrow : Objects.row 0x2000 6 = some drainLimitRow := by decide +kernel
  have hruns : rwdBusy mainLaneRuns 0x2000 0 6 = true := by decide +kernel
  have hmay : mayWrite ownerAccess 0x2000 0 6 100 mainLaneRuns = true := by decide +kernel
  obtain ⟨t, hexec, hrefused⟩ := hbusy mainLaneRuns ownerAccess 0x2000 0xFFFFFFFF 0x2000 0 6 [0, 0, 0, 100] valueAlone drainLimitRow
    rfl hloc hplain (mayAccess_of_mayWrite hmay) hrow rfl hruns
  obtain ⟨u, hexec', hdone⟩ := runs_objectWrite (x := valueAlone) (p := fun u => u.answer.status = 0) (s := mainLaneRuns) rfl
    (congrArg (fun u => u.answer.status) (writeObj_plain hloc hplain hrow (data := [0, 0, 0, 100]) rfl hmay))
  have same : t = u := Host.Outcome.next.inj (hexec.symm.trans hexec')
  rw [← same, hrefused] at hdone
  exact absurd hdone (by decide)

/-! ## Frames -/

/-- An operation changes, beside the event path and the answer, only the objects that o names and the hidden registers that h
names. -/
structure ChangesOnly (o : Nat → Nat → Nat → Prop) (h : Aux → Nat → Nat → Prop) (s t : State) : Prop where
  only : OnlyEv o h s t
  rest : { t with objs := s.objs, regs := s.regs, evQueue := s.evQueue, evPending := s.evPending, answer := s.answer } = s

namespace ChangesOnly

variable {o o' : Nat → Nat → Nat → Prop} {h h' : Aux → Nat → Nat → Prop} {s t u : State}

theorem refl (s : State) : ChangesOnly o h s s := ⟨⟨fun _ _ _ _ => rfl, fun _ _ _ _ => rfl⟩, rfl⟩

theorem trans (f : ChangesOnly o h s t) (g : ChangesOnly o h t u) : ChangesOnly o h s u := by
  refine ⟨⟨fun i n b x => (g.only.1 i n b x).trans (f.only.1 i n b x),
    fun a i j x => (g.only.2 a i j x).trans (f.only.2 a i j x)⟩, ?_⟩
  have e := congrArg (fun t : State =>
    { t with objs := s.objs, regs := s.regs, evQueue := s.evQueue, evPending := s.evPending, answer := s.answer }) g.rest
  exact e.trans f.rest

theorem mono (f : ChangesOnly o h s t) (ho : ∀ i n b, o i n b → o' i n b) (hh : ∀ a i j, h a i j → h' a i j) :
    ChangesOnly o' h' s t :=
  ⟨⟨fun i n b x => f.only.1 i n b fun y => x (y.imp_right (.imp_right (ho i n b))),
    fun a i j x => f.only.2 a i j fun y => x (y.imp_right (.imp_right (.imp_right (hh a i j))))⟩, f.rest⟩

/-- What an event changes, every frame admits. -/
theorem ofEvent (e : EventOnly s t) : ChangesOnly o h s t := by
  refine ⟨⟨fun i n b x => ?_, fun a i j x => ?_⟩, ?_⟩
  · exact e.get i n b (fun y => x (.inl y)) (fun y => x (.inr (.inl y)))
  · exact e.aux a i j (fun y => x (.inl y)) (fun y => x (.inr (.inl y))) (fun y => x (.inr (.inr (.inl y))))
  · exact congrArg (fun t : State => { t with answer := s.answer }) e.rest

theorem put (f : ChangesOnly o h s t) {i n b : Nat} (x : o i n b) (v : Reg) : ChangesOnly o h s (t.put i n b v) := by
  refine f.trans ⟨⟨fun i' n' b' y => ?_, fun _ _ _ _ => rfl⟩, rfl⟩
  rw [State.get_put, if_neg]
  rintro ⟨rfl, rfl, rfl⟩
  exact y (.inr (.inr x))

theorem setAux (f : ChangesOnly o h s t) {a : Aux} {i j : Nat} (x : h a i j) (v : Reg) : ChangesOnly o h s (t.setAux a i j v) := by
  refine f.trans ⟨⟨fun _ _ _ _ => rfl, fun a' i' j' y => ?_⟩, rfl⟩
  rw [State.aux_setAux, if_neg]
  rintro ⟨rfl, rfl, rfl⟩
  exact y (.inr (.inr (.inr x)))

theorem raise (f : ChangesOnly o h s t) (num inst : Nat) (a1 a2 : Reg) : ChangesOnly o h s (Machine.raise num inst a1 a2 t) :=
  f.trans (ofEvent (raise_only ..))

theorem refuse (f : ChangesOnly o h s t) (status : Nat) : ChangesOnly o h s (Machine.refuse status t) :=
  f.trans ⟨⟨fun _ _ _ _ => rfl, fun _ _ _ _ => rfl⟩, rfl⟩

/-- Either branch of a condition. -/
theorem ite {c : Prop} [Decidable c] (f : ChangesOnly o h s t) (g : ChangesOnly o h s u) : ChangesOnly o h s (if c then t else u) := by
  split <;> assumption

/-- What every step of a fold keeps to, the fold keeps to. -/
theorem overAll {α : Type} {l : List α} {g : α → State → State} (f : ChangesOnly o h s t)
    (step : ∀ a ∈ l, ∀ u, ChangesOnly o h u (g a u)) : ChangesOnly o h s (Machine.overAll l g t) :=
  overAll_induct (ChangesOnly o h s) f fun a ha u hu => hu.trans (step a ha u)

theorem get (f : ChangesOnly o h s t) {i n b : Nat} (h1 : i ≠ 0x1200) (h2 : i ≠ 0x1210) (x : ¬o i n b) :
    t.get i n b = s.get i n b :=
  f.only.1 i n b fun y => y.elim h1 fun y => y.elim h2 x

theorem now (f : ChangesOnly o h s t) : t.now = s.now := (congrArg State.now f.rest : _)

/-- The fields of the state that no such operation touches. -/
theorem eq_update (f : ChangesOnly o h s t) :
    t = { s with objs := t.objs, regs := t.regs, evQueue := t.evQueue, evPending := t.evPending, answer := t.answer } :=
  (congrArg (fun u : State =>
    { u with objs := t.objs, regs := t.regs, evQueue := t.evQueue, evPending := t.evPending, answer := t.answer }) f.rest : _)

end ChangesOnly

/-! ## The abandonment of self-tests (spec/12 R424) -/

/-- What an abandoned test of cluster c shows. -/
def TestObj (c ix k sb : Nat) : Prop := ix = 0x5900 ∧ k = c ∧ sb ∈ [2, 5, 6, 8, 9]

theorem endTest_abandoned (c : Nat) (s : State) {h : Aux → Nat → Nat → Prop} : ChangesOnly (TestObj c) h s (endTest c 4 s) := by
  unfold endTest
  extract_lets bank s₁ s₂ s₃
  have f₁ : ChangesOnly (TestObj c) h s s₁ :=
    (((ChangesOnly.refl s).put ⟨rfl, rfl, by decide⟩ _).put ⟨rfl, rfl, by decide⟩ _).put ⟨rfl, rfl, by decide⟩ _
  exact f₁.put ⟨rfl, rfl, by decide⟩ _

theorem abandonTest_changesOnly (c cause : Nat) (s : State) :
    ChangesOnly (TestObj c) (fun a p _ => a = .stAban ∧ p = c) s (abandonTest c cause s) := by
  unfold abandonTest
  extract_lets st s₁
  have f₁ : ChangesOnly (TestObj c) (fun a p _ => a = .stAban ∧ p = c) s s₁ :=
    (((ChangesOnly.refl s).setAux ⟨rfl, rfl⟩ _).put ⟨rfl, rfl, by decide⟩ _).raise ..
  exact .ite (.ite (f₁.trans (endTest_abandoned c s₁)) (f₁.put ⟨rfl, rfl, by decide⟩ _)) (.refl s)

/-- The stop of a diagnostic engine touches the tests that it supervises. -/
theorem diagnosticDown_changesOnly (e : Nat) (s : State) :
    ChangesOnly (fun ix k sb => ix = 0x5900 ∧ diagnostic k = e ∧ sb ∈ [2, 5, 6, 8, 9])
      (fun a p _ => a = .stAban ∧ diagnostic p = e) s (diagnosticDown e s) := by
  unfold diagnosticDown
  refine (ChangesOnly.refl s).overAll fun c _ u => ?_
  split
  next hc =>
    refine (abandonTest_changesOnly c 3 u).mono ?_ ?_
    · rintro i n b ⟨hi, rfl, hb⟩
      exact ⟨hi, hc, hb⟩
    · rintro a p q ⟨ha, rfl⟩
      exact ⟨ha, hc⟩
  next => exact .refl u

/-! ## Knells (spec/11 R382 to R386) -/

theorem trees_congr {s t : State} (h : t.get 0x1000 0 3 = s.get 0x1000 0 3) : t.trees = s.trees := by
  simp only [State.trees, h]

theorem roleStages_congr {s t : State} (h : t.trees = s.trees) (role : Nat) : roleStages t role = roleStages s role := by
  simp only [roleStages, h]

/-- The objects of an engine's knell: its own record, the spares of the role it carried, and the tests that it supervised. -/
def KnellObj (e role ix k sb : Nat) : Prop :=
  ix = 0x5400 ∧ (k = e ∧ sb ∈ [1, 2, 3, 4] ∨ k ∈ roleSpares role ∧ sb = 1) ∨ ix = 0x5900 ∧ diagnostic k = role ∧ sb ∈ [2, 5, 6, 8, 9]

/-- The hidden registers of an engine's knell: its times, the stages of the role, what waits for a spare, and those tests. -/
def KnellAux (stages : List (Nat × Nat)) (e role : Nat) (a : Aux) (p q : Nat) : Prop :=
  a ∈ [.knellAt, .safePoint] ∧ p = e ∨ a = .engVac ∧ (p, q) ∈ stages ∨ a ∈ [.knellBy, .unserved] ∧ p = role ∨ a = .unservedN
    ∨ a = .stAban ∧ diagnostic p = role

theorem assignSpare_changesOnly (stages : List (Nat × Nat)) (e role : Nat) (s : State) :
    ChangesOnly (KnellObj e role) (KnellAux stages e role) s (assignSpare role s) := by
  unfold assignSpare
  split
  next x hx => exact (ChangesOnly.refl s).put (.inl ⟨rfl, .inr ⟨List.mem_of_find?_eq_some hx, rfl⟩⟩) _
  next =>
    have n : KnellAux stages e role .unservedN 0 0 := by simp [KnellAux]
    have r : KnellAux stages e role .unserved role 0 := by simp [KnellAux]
    exact (((ChangesOnly.refl s).setAux n _).setAux r _).raise ..

/-- A knell changes what the engine, its role and the role's spares and tests show. -/
theorem knell_changesOnly {s : State} {e role : Nat} {stages : List (Nat × Nat)} (hrole : s.get 0x5400 e 1 = role)
    (hstages : roleStages s role = stages) (cause : Nat) :
    ChangesOnly (KnellObj e role) (KnellAux stages e role) s (knell e cause s) := by
  obtain rfl := hrole
  unfold knell
  extract_lets st role third s₁ s₂ s₃ s₄ s₅ s₆
  have own {b : Nat} (hb : b ∈ [1, 2, 3, 4]) : KnellObj e role 0x5400 e b := .inl ⟨rfl, .inl ⟨rfl, hb⟩⟩
  have time {a : Aux} (ha : a ∈ [.knellAt, .safePoint]) (q : Nat) : KnellAux stages e role a e q := .inl ⟨ha, rfl⟩
  have f₁ : ChangesOnly (KnellObj e role) (KnellAux stages e role) s s₁ :=
    .ite (((ChangesOnly.refl s).setAux (time (by decide) 2) _).setAux (time (by decide) 1) _) (.refl s)
  have f₂ : ChangesOnly (KnellObj e role) (KnellAux stages e role) s s₂ :=
    ((((f₁.put (own (by decide)) _).put (own (by decide)) _).put (own (by decide)) _).setAux (time (by decide) 0) _).setAux
      (time (by decide) 0) _
  have hstages₂ : roleStages s₂ role = stages :=
    (roleStages_congr (trees_congr (f₂.get (by decide) (by decide) (by simp [KnellObj]))) role).trans hstages
  have f₃ : ChangesOnly (KnellObj e role) (KnellAux stages e role) s s₃ := by
    refine .ite f₂ (f₂.overAll fun x hx u => ?_)
    have hx' : (x.1, x.2) ∈ stages := hstages₂ ▸ hx
    exact .ite ((ChangesOnly.refl u).setAux (.inr (.inl ⟨rfl, hx'⟩)) _) (.refl u)
  have f₅ : ChangesOnly (KnellObj e role) (KnellAux stages e role) s s₅ := (f₃.raise ..).put (own (by decide)) _
  have f₆ : ChangesOnly (KnellObj e role) (KnellAux stages e role) s s₆ := by
    refine .ite f₅ (.ite (.ite (f₅.raise ..) (f₅.trans ?down)) ?seek)
    case down =>
      refine (diagnosticDown_changesOnly role s₅).mono ?_ ?_
      · exact fun _ _ _ h => .inr h
      · exact fun _ _ _ h => .inr (.inr (.inr (.inr h)))
    case seek => exact (f₅.setAux (by simp [KnellAux]) _).trans (assignSpare_changesOnly ..)
  exact .ite (.refl s) (.ite (f₆.raise ..) f₆)

/-! ## The freeze of a master (spec/11 R391, R392) -/

/-- The record of a freeze, and the buffer requester of the same unit (R392). -/
def freezeRecord (master cause access : Nat) (s : State) : State :=
  let s := ((((s.put 0x5480 master 1 1).put 0x5480 master 2 cause).put 0x5480 master 3 (access % 2 ^ 32)).put
    0x5480 master 4 (time80 s.now)).bump32 0x5480 master 6
  match requesterOf master with
  | some r => s.put 0x4C10 r 9 1
  | none => s

/-- The same, with event 3079. -/
def freezeReport (master cause access : Nat) (s : State) : State :=
  raise 3079 master cause (access % 2 ^ 32) (freezeRecord master cause access s)

/-- What the unit of a frozen master shows: an engine is knelled, a channel, a ring or a session shows frozen. -/
def freezeUnit (master : Nat) (s : State) : State :=
  if master < 216 then knell master 5 s
  else if 256 ≤ master ∧ master < 272 then
    (if s.get 0x1150 (master - 256) 2 = 2 then raise 3991 (master - 256) 2 3 (s.put 0x1150 (master - 256) 2 3) else s)
  else if 272 ≤ master ∧ master < 280 then
    (if s.get 0x4380 (master - 272) 2 = 2 then s.put 0x4380 (master - 272) 2 3 else s)
  else if 280 ≤ master ∧ master < 344 ∧ s.get 0x1120 (master - 280) 1 = 2 then s.put 0x1120 (master - 280) 1 3
  else s

/-- The freeze of a master that is not frozen: its record with event 3079, and its unit. -/
theorem freeze_eq {master : Nat} {s : State} (h : frozen s master = false) (cause access : Nat) :
    freeze master cause access s = freezeUnit master (freezeReport master cause access s) := by
  rw [freeze, if_neg (by simp [h])]
  rfl

/-- The objects of a freeze record. -/
def RecordObj (master ix k sb : Nat) : Prop :=
  ix = 0x5480 ∧ k = master ∧ sb ∈ [1, 2, 3, 4, 6] ∨ ix = 0x4C10 ∧ requesterOf master = some k ∧ sb = 9

/-- The objects of a frozen master's unit. -/
def UnitObj (master role ix k sb : Nat) : Prop :=
  ix = 0x1150 ∧ master = 256 + k ∧ sb = 2 ∨ ix = 0x4380 ∧ master = 272 + k ∧ sb = 2 ∨ ix = 0x1120 ∧ master = 280 + k ∧ sb = 1
    ∨ KnellObj master role ix k sb

theorem freezeRecord_changesOnly (master cause access : Nat) (s : State) {h : Aux → Nat → Nat → Prop} :
    ChangesOnly (RecordObj master) h s (freezeRecord master cause access s) := by
  unfold freezeRecord
  extract_lets s₁
  have own {b : Nat} (hb : b ∈ [1, 2, 3, 4, 6]) : RecordObj master 0x5480 master b := .inl ⟨rfl, rfl, hb⟩
  have f₁ : ChangesOnly (RecordObj master) h s s₁ :=
    (((((ChangesOnly.refl s).put (own (by decide)) _).put (own (by decide)) _).put (own (by decide)) _).put (own (by decide)) _).put
      (own (by decide)) _
  split
  next r hr => exact f₁.put (.inr ⟨rfl, hr, rfl⟩) _
  next => exact f₁

theorem freezeReport_changesOnly (master cause access : Nat) (s : State) {h : Aux → Nat → Nat → Prop} :
    ChangesOnly (RecordObj master) h s (freezeReport master cause access s) :=
  (freezeRecord_changesOnly master cause access s).raise ..

theorem freezeUnit_changesOnly {s : State} {master role : Nat} {stages : List (Nat × Nat)} (hrole : s.get 0x5400 master 1 = role)
    (hstages : roleStages s role = stages) :
    ChangesOnly (UnitObj master role) (KnellAux stages master role) s (freezeUnit master s) := by
  unfold freezeUnit
  split
  next => exact (knell_changesOnly hrole hstages 5).mono (fun _ _ _ h => .inr (.inr (.inr h))) fun _ _ _ h => h
  next =>
    split
    next hm => exact .ite (((ChangesOnly.refl s).put (.inl ⟨rfl, by omega, rfl⟩) _).raise ..) (.refl s)
    next =>
      split
      next hm => exact .ite ((ChangesOnly.refl s).put (.inr (.inl ⟨rfl, by omega, rfl⟩)) _) (.refl s)
      next =>
        split
        next hm => exact (ChangesOnly.refl s).put (.inr (.inr (.inl ⟨rfl, by omega, rfl⟩))) _
        next => exact .refl s

/-- What a freeze record holds, and that the requester of the same unit is frozen with the master. -/
structure Recorded (master cause access : Nat) (s t : State) : Prop where
  frozen : t.get 0x5480 master 1 = 1
  cause : t.get 0x5480 master 2 = cause
  access : t.get 0x5480 master 3 = access % 2 ^ 32
  time : t.get 0x5480 master 4 = time80 s.now
  count : t.get 0x5480 master 6 = wrapAdd 32 (s.get 0x5480 master 6) 1
  requester : ∀ r, requesterOf master = some r → t.get 0x4C10 r 9 = 1

theorem freezeRecord_recorded (master cause access : Nat) (s : State) :
    Recorded master cause access s (freezeRecord master cause access s) := by
  unfold freezeRecord
  cases hr : requesterOf master with
  | none => constructor <;> simp [State.get_bump32, State.get_put, hr]
  | some r =>
    constructor
    case requester =>
      intro r' hr'
      obtain rfl : r = r' := Option.some.inj (hr.symm.trans hr')
      exact State.get_put_self ..
    all_goals simp [State.get_bump32, State.get_put]

/-- An operation that leaves the freeze records and the requesters alone leaves a record as it is. -/
theorem Recorded.keep {o : Nat → Nat → Nat → Prop} {h : Aux → Nat → Nat → Prop} {master cause access : Nat} {s t u : State}
    (hrec : Recorded master cause access s t) (f : ChangesOnly o h t u) (ho : ∀ k b, ¬o 0x5480 k b ∧ ¬o 0x4C10 k b) :
    Recorded master cause access s u := by
  have same (b : Nat) : u.get 0x5480 master b = t.get 0x5480 master b := f.get (by decide) (by decide) (ho master b).1
  exact ⟨(same 1).trans hrec.frozen, (same 2).trans hrec.cause, (same 3).trans hrec.access, (same 4).trans hrec.time,
    (same 6).trans hrec.count, fun r hr => (f.get (by decide) (by decide) (ho r 9).2).trans (hrec.requester r hr)⟩

theorem unitObj_leaves_records (master role k b : Nat) : ¬UnitObj master role 0x5480 k b ∧ ¬UnitObj master role 0x4C10 k b := by
  simp [UnitObj, KnellObj]

theorem freezeReport_recorded (master cause access : Nat) (s : State) :
    Recorded master cause access s (freezeReport master cause access s) :=
  (freezeRecord_recorded master cause access s).keep (o := fun _ _ _ => False) (h := fun _ _ _ => False)
    (.ofEvent (raise_only ..)) fun _ _ => ⟨id, id⟩

/-- The freeze of a master records it (R392). -/
theorem freeze_recorded {master : Nat} {s : State} (h : frozen s master = false) (cause access : Nat) :
    Recorded master cause access s (freeze master cause access s) := by
  rw [freeze_eq h]
  exact (freezeReport_recorded ..).keep (freezeUnit_changesOnly rfl rfl) (unitObj_leaves_records master _)

/-- The objects of a freeze, by the role that the master's engine carried. -/
def FreezeObj (master role ix k sb : Nat) : Prop := RecordObj master ix k sb ∨ UnitObj master role ix k sb

/-- A freeze changes its record and the unit of its master only. -/
theorem freeze_changesOnly {s : State} {master role : Nat} {stages : List (Nat × Nat)} (h : frozen s master = false)
    (hrole : s.get 0x5400 master 1 = role) (hstages : roleStages s role = stages) (cause access : Nat) :
    ChangesOnly (FreezeObj master role) (KnellAux stages master role) s (freeze master cause access s) := by
  rw [freeze_eq h]
  have f : ChangesOnly (RecordObj master) (KnellAux stages master role) s (freezeReport master cause access s) :=
    freezeReport_changesOnly ..
  have g := freezeUnit_changesOnly (master := master) ((f.get (by decide) (by decide) (by simp [RecordObj])).trans hrole)
    ((roleStages_congr (trees_congr (f.get (by decide) (by decide) (by simp [RecordObj]))) role).trans hstages)
  exact (f.mono (fun _ _ _ => .inl) fun _ _ _ => id).trans (g.mono (fun _ _ _ => .inr) fun _ _ _ => id)

/-! ## Accesses outside the rights of a role (spec/00 R21, spec/06 R203) -/

/-- The objects in which a tenant's refusals are counted. -/
def RefusalObj (role : Role) (ix k sb : Nat) : Prop := ix = 0x3810 ∧ role = .tenant k ∧ sb ∈ [4, 5]

/-- A refused access counts for its tenant, freezes its master, and answers "access denied". -/
theorem refuseRole_eq (acc : Acc) (code index inst sub : Nat) (s : State) :
    ∃ u, ChangesOnly (RefusalObj acc.role) (fun _ _ _ => False) s u
      ∧ refuseRole acc code index inst sub s = refuse 2 (freeze acc.master code (accessWord index sub) u) := by
  unfold refuseRole
  cases acc.role with
  | owner | operator | observer | vendor => exact ⟨s, .refl s, rfl⟩
  | tenant k =>
    have counted {b : Nat} (hb : b ∈ [4, 5]) : RefusalObj (.tenant k) 0x3810 k b := ⟨rfl, rfl, hb⟩
    exact ⟨_, .ite (c := code = 2) ((((ChangesOnly.refl s).put (counted (by decide)) _).put (counted (by decide)) _).raise ..)
      (.refl s), rfl⟩

/-- A refused access answers "access denied", records the freeze, and changes its tenant's counts and what the freeze changes. -/
theorem refuseRole_freezes {acc : Acc} {s : State} (h : frozen s acc.master = false) (code index inst sub : Nat) :
    let role := s.get 0x5400 acc.master 1
    let t := refuseRole acc code index inst sub s
    t.answer = ⟨2, 0⟩ ∧ Recorded acc.master code (accessWord index sub) s t
      ∧ ChangesOnly (fun ix k sb => RefusalObj acc.role ix k sb ∨ FreezeObj acc.master role ix k sb)
        (KnellAux (roleStages s role) acc.master role) s t := by
  intro role t
  obtain ⟨u, f, eq⟩ := refuseRole_eq acc code index inst sub s
  have same {ix k sb : Nat} (h1 : ix ≠ 0x1200) (h2 : ix ≠ 0x1210) (h3 : ix ≠ 0x3810) : u.get ix k sb = s.get ix k sb :=
    f.get h1 h2 fun x => h3 x.1
  have hu : frozen u acc.master = false := by rwa [frozen, same (by decide) (by decide) (by decide)]
  have hrec := freeze_recorded hu code (accessWord index sub)
  have g := freeze_changesOnly hu (same (by decide) (by decide) (by decide))
    (roleStages_congr (trees_congr (same (by decide) (by decide) (by decide))) _) code (accessWord index sub)
  rw [show t = _ from eq]
  refine ⟨rfl, ⟨hrec.frozen, hrec.cause, hrec.access, ?_, ?_, hrec.requester⟩, ?_⟩
  · rw [← f.now]
    exact hrec.time
  · rw [← same (by decide) (by decide) (by decide)]
    exact hrec.count
  · exact ((f.mono (fun _ _ _ => .inl) fun _ _ _ => False.elim).trans (g.mono (fun _ _ _ => .inr) fun _ _ _ h => h)).refuse 2

/-- An access that only its role's rights stop is refused for them. -/
theorem access_of_rights {acc : Acc} {w : Bool} {i n b : Nat} {s : State} (hfrozen : frozen s acc.master = false)
    (hvendor : acc.role = .vendor → s.aux .vendorOn ≠ 0) (hhas : Objects.has s.trees i n b = true)
    (hpresent : access.present s i n = true) (hrights : rights s acc.role w i n b ≠ 0) (body : State → State) :
    access acc w i n b s body = refuseRole acc (rights s acc.role w i n b) i n b s := by
  have hvendor' : ¬(acc.role = .vendor ∧ s.aux .vendorOn = 0) := fun h => hvendor h.1 h.2
  unfold access
  rw [if_neg (by simp [hfrozen]), if_neg hvendor', if_neg (by simp [hhas, hpresent])]
  split
  next h => exact absurd h hrights
  next => rfl

/-- The 24 bits of an access word are all in the freeze record (0x5480[k].03). -/
theorem accessWord_mod (i sub : Nat) : accessWord i sub % 2 ^ 32 = accessWord i sub :=
  Nat.mod_eq_of_lt (by unfold accessWord; omega)

/-- Settles O49: the access is refused for its rights, and then the freeze of the master and its frame say the rest. -/
theorem accessOutsideItsRoleFreezesTheMaster : Obligations.AccessOutsideItsRoleFreezesTheMaster := by
  unfold Obligations.AccessOutsideItsRoleFreezesTheMaster
  intro s acc raw inst i n sub data x hup hloc hsub hfrozen hvendor hhas hpresent hrights code
  have hwrite : writeObj acc raw inst sub data x s = refuseRole acc code i n sub s := by
    simp only [writeObj, hloc, if_neg hsub]
    exact access_of_rights hfrozen hvendor hhas hpresent hrights _
  obtain ⟨hanswer, hrec, f⟩ := refuseRole_freezes hfrozen code i n sub
  refine runs_objectWrite hup ?_
  rw [hwrite]
  refine ⟨hanswer, ?_, hrec.cause, hrec.access.trans (accessWord_mod ..), hrec.time, hrec.count, hrec.requester, ?_, f.eq_update⟩
  · simp [frozen, hrec.frozen]
  · refine (f.mono ?_ ?_).only
    · rintro ix k sb (hrefusal | (hrecord | hrequester) | hunit)
      · exact .inr (.inr (.inl hrefusal))
      · exact .inl hrecord
      · exact .inr (.inl hrequester)
      · exact .inr (.inr (.inr (hunit.imp_right (.imp_right (.imp_right (.imp_right .inl))))))
    · exact fun _ _ _ h => h

end Sys2Proof.Machine
end

section
/-!
PROOFS on the statements of the tree's downstream side (spec/02, spec/03): each of the four fails in one clause, at what the clause
says that its command leaves alone. A refutation gives the state, and the object, hidden register or field that changes there.
-/
namespace Sys2Proof.Machine

/-! ## What a refutation reads off a run -/

/-- What is claimed of a command's run holds of the state that it answers. -/
theorem of_runs {c : Instr} {s t : State} {p : State → Prop} (h : exec c s = .next t) (r : Runs c s p) : p t := by
  obtain ⟨u, hu, hp⟩ := r
  exact Host.Outcome.next.inj (hu.symm.trans h) ▸ hp

/-- An admitted write of a command object leaves in it the status of its answer (R20). -/
theorem get_writeValue_cmd {acc : Acc} {i n b : Nat} {v : Reg} {s : State} {r : Row} (hrow : Objects.row i b = some r)
    (hcmd : r.acc = .cmd ∧ i ≠ 0x5840) (hmay : mayWrite acc i n b v s = true) (body : State → State) :
    (writeValue acc i n b v s body).get i n b = (body s).answer.status := by
  rw [writeValue_of_mayWrite hrow hmay, if_pos hcmd]
  exact State.get_put_self ..

/-! ## Protection (spec/02 R81) -/

/-- A device on which an enable of tree 0's protection has been refused as out of range: its command object shows that answer. -/
def pairingRefused : State := { State.reset with phase := .running }.put 0x2003 0 3 4

/-- The disable is a write of 0 to the protection enable. -/
theorem protectionDisable_next {acc : Acc} {tree : Nat} {s : State} (hup : Up s) :
    exec (.protectionDisable acc tree) s = .next (protectionWrite acc tree 0 noFar s) := by
  show execProtectionDisable acc tree s = _
  exact whenUp_up hup _

/-- The row of the protection enable. -/
def protectionRow : Row := ⟨0x2003, 3, .bool, .cmd, .any, 0⟩

/-- The disable that follows is done, and the command object shows that. -/
theorem protectionWrite_shows_done :
    (protectionWrite ownerAccess 0 0 noFar pairingRefused).get 0x2003 0 3 = 0 :=
  get_writeValue_cmd (r := protectionRow) (by decide +kernel) ⟨rfl, by decide⟩ (by decide +kernel) _

/-- Refutes O22: its clause on the disable leaves 0x2003[t].03 out of what changes. The object shows the answer to the last write of
it (R20), so after a refused enable (the clause on a pair that does not fit) the disable takes it from 4 to 0. -/
theorem not_protectionCommandsComplete : ¬ Obligations.ProtectionCommandsComplete := by
  unfold Obligations.ProtectionCommandsComplete
  rintro ⟨-, -, -, hdisable, -⟩
  have hmay : mayWrite ownerAccess 0x2003 0 3 0 pairingRefused = true := by decide +kernel
  obtain ⟨-, -, -, hframe, -⟩ := of_runs (protectionDisable_next rfl) (hdisable pairingRefused ownerAccess 0 rfl hmay)
  have hkept := hframe.1 0x2003 0 3 (by decide +kernel)
  have hshown : pairingRefused.get 0x2003 0 3 = 4 := by decide +kernel
  exact absurd (protectionWrite_shows_done.symm.trans (hkept.trans hshown)) (by decide)

/-! ## Lanes (spec/02 R80, spec/13 R434) -/

/-- The boundary after a drain with nothing left to send takes the lane down. -/
theorem downstreamDrainEnd_next {s : State} {tree lane : Nat} (hup : Up s) (hlane : lane ≤ 1) (hdrains : laneState s tree lane = 1)
    (hempty : waitingFrames s tree lane = 0) : exec (.downstreamDrainEnd tree lane) s = .next (laneDown tree lane s) := by
  have hgate : ¬(1 < lane ∨ laneState s tree lane ≠ 1 ∨ (waitingFrames s tree lane ≠ 0 ∧ s.aux .drainOver tree lane = 0)) := by
    rintro (hover | hother | ⟨hwaits, -⟩)
    · exact Nat.not_lt_of_le hlane hover
    · exact hother hdrains
    · exact hwaits hempty
  show execDownstreamDrainEnd tree lane s = _
  rw [execDownstreamDrainEnd, whenUp_up hup, if_neg hgate]

/-- Tree 0's main lane drains, alone of all lanes, while a refused correction of 1 ms is pending and is to be accepted as soon as
the downstream lanes are disabled. -/
def lastLaneDrains : State :=
  let s := { State.reset with phase := .running }
  let s := overAll [(1, 5), (7, 1000000), (0x0A, 1)] (fun x s => s.put 0x5C00 0 x.1 x.2) s
  (s.setAux .pend3841 0 0 1).put 0x2000 0 1 1

/-- The end of the drain accepts the correction as a step (R434). -/
theorem laneDown_steps_time : (laneDown 0 0 lastLaneDrains).now = lastLaneDrains.now + 1000000 := by decide +kernel

/-- Refutes O23: its clause on the boundary that ends a drain leaves the time base out of what changes. When the last lane goes down,
a pending correction under auto-accept is stepped (R434), and the time base moves. -/
theorem not_treeLaneCommandsComplete : ¬ Obligations.TreeLaneCommandsComplete := by
  unfold Obligations.TreeLaneCommandsComplete
  rintro ⟨-, -, -, -, -, hend, -⟩
  have hdrains : laneState lastLaneDrains 0 0 = 1 := by decide +kernel
  have hempty : waitingFrames lastLaneDrains 0 0 = 0 := rfl
  obtain ⟨-, -, -, -, -, hrest⟩ := of_runs (downstreamDrainEnd_next rfl (by decide) hdrains hempty)
    (hend lastLaneDrains 0 0 rfl (by decide) hdrains (.inl hempty))
  have hkept : (laneDown 0 0 lastLaneDrains).now = lastLaneDrains.now := (congrArg State.now hrest : _)
  exact absurd (laneDown_steps_time.symm.trans hkept) (Nat.ne_of_gt (Nat.lt_add_of_pos_right (by decide)))

/-! ## The change of a tree's mode (spec/05 R197) -/

/-- With no notice on record, an Acknowledgement of a terminal in OPERATION can only be that of an Assign_Alloc-ID. -/
theorem modeNoticeAck_next {s : State} {terminal seq : Nat} (hup : Up s) (hoperates : termState s terminal = 3)
    (hnone : s.notices = []) : exec (.modeNoticeAck terminal (false, seq)) s = .next (allocAcked terminal seq s) := by
  have hkept : (allocAcked terminal seq s).notices = [] :=
    overAll_induct (fun u => u.notices = []) hnone fun _ _ _ h => h
  show execModeNoticeAck terminal (false, seq) s = _
  simp [execModeNoticeAck, whenUp_up hup, hoperates, hkept]

/-- Allocation 0 is listed twice with a terminal, 6 before 5, and waits for the Acknowledgement of message 9; terminal 5 is in
OPERATION. The table is not Canonical, and the statement asks for no canonical table. -/
def listedTwice : State :=
  { State.reset with
    phase := .running
    objs := [(⟨0x3000, 5, 4⟩, 3), (⟨0x3400, 0, 1⟩, 1), (⟨0x3400, 0, 2⟩, 6), (⟨0x3400, 0, 2⟩, 5)]
    regs := [(⟨Aux.allocSeq.ctorIdx, 0, 0⟩, 9)] }

/-- The listing gives the allocation to terminal 5, a read gives it to terminal 6. -/
theorem allocsOf_ne_get : allocsOf listedTwice 5 = [0] ∧ listedTwice.get 0x3400 0 2 = 6 := by decide +kernel

/-- Refutes O24: its clause on the Acknowledgement of an Assign_Alloc-ID names the allocations that may change by what a read of their
terminal gives, while the command takes those that the table lists with the terminal. A table that lists an allocation's terminal
twice separates the two: the clause lacks the premise that the table is in its canonical form. -/
theorem not_modeChangeCommandsComplete : ¬ Obligations.ModeChangeCommandsComplete := by
  unfold Obligations.ModeChangeCommandsComplete
  rintro ⟨-, -, -, -, hack, -⟩
  have hoperates : termState listedTwice 5 = 3 := by decide +kernel
  obtain ⟨hassigned, hframe, -⟩ := of_runs (modeNoticeAck_next rfl hoperates rfl)
    (hack listedTwice 5 9 false rfl hoperates rfl (by decide))
  have hshown := hassigned 0 (by rw [allocsOf_ne_get.1]; exact List.mem_singleton_self 0) (by decide +kernel)
  have hkept := hframe.1 0x3400 0 16 fun h => absurd (allocsOf_ne_get.2.symm.trans h.2.1) (by decide)
  exact absurd (hshown.symm.trans hkept) (by decide +kernel)

/-! ## Bursts (spec/07 R234, R246, R250) -/

/-- On a tree that runs, the receiver takes the burst; no memory write and no poison comes with it. -/
theorem burstReceive_next {s : State} {tree frame start light : Nat} {b : BurstIn} (hup : Up s) (htree : s.treeUp tree = true) :
    exec (.burstReceive tree frame start b light [] []) s = .next (receiveBurst tree 0 frame start b light s) := by
  show execBurstReceive tree frame start b light [] [] s = _
  simp [execBurstReceive, whenUp_up hup, htree, overAll, writeWords]

/-- The grant of a burst to ONU-ID 5 of tree 0. -/
def dataGrant : Grant := ⟨5, 77, 8, 0, false, false, 2, 3000, 2000, 5000, false⟩

/-- Its burst: the delimiter in its place, the header right, and one XGEM frame of port 9 under key index 1, an SDU of no bytes. -/
def dataBurst : BurstIn := ⟨[⟨0, 0⟩], 0, [], some 5, true, bytesOf 8 (2 ^ 48 + 9 * 2 ^ 32 + 2 ^ 13), [], [(0, none)]⟩

/-- Tree 0 has granted that burst to allocation 3 of terminal 5, whose flow 0 has port 9 and whose slot 1 is RETIRING. The session
key of terminal 6, written by the host into slot 2 while port 12 had no claim holder, still waits, and the port is served again. -/
def sessionKeyWaits : State :=
  let s := { State.reset with phase := .running, keyWaits := [⟨12, 2, 16, 7, none⟩], sentMaps := [⟨0, 0, 9, [dataGrant]⟩] }
  let s := (s.setAux .upLane 0 0 2).setAux .engVac 1 12 1
  let s := overAll [(1, 1), (2, 5), (3, 77)] (fun x s => s.put 0x3400 3 x.1 x.2) s
  let s := overAll [(1, 0), (2, 9), (3, 3)] (fun x s => s.put 0x4800 0 x.1 x.2) s
  let s := overAll [(1, 1), (3, 16), (4, 3), (5, 1), (0x0E, 2 ^ 24 + 5)] (fun x s => s.put 0x4000 1 x.1 x.2) s
  let s := overAll [(1, 4), (3, 16), (0x0E, 3 * 2 ^ 24 + 6)] (fun x s => s.put 0x4000 2 x.1 x.2) s
  (s.put 0x4200 5 1 1).put 0x4200 6 3 2

/-- The frame under the current key retires slot 1 (R234), the key writes that wait are made (R250), and so the session keys of
terminal 6 are derived (R246). -/
theorem receiveBurst_derives_session :
    sessionKeyWaits.aux .sesDerived 6 = 0 ∧ (receiveBurst 0 0 9 3000 dataBurst 0 sessionKeyWaits).aux .sesDerived 6 = 1 := by
  decide +kernel

/-- Refutes O25: its clause on a burst with a right header leaves the derivation of session keys out of what changes. A frame of the
burst may retire a slot, and with that the key writes that wait are made, a session key's among them. -/
theorem not_burstCommandsComplete : ¬ Obligations.BurstCommandsComplete := by
  unfold Obligations.BurstCommandsComplete
  rintro ⟨hright, -⟩
  have hentries : burstEntries sessionKeyWaits 0 0 9 3000 = [dataGrant] := by decide +kernel
  have hfound : foundAt sessionKeyWaits 0 0 9 0 dataBurst = some ⟨0, 0⟩ := by decide +kernel
  have htree : sessionKeyWaits.treeUp 0 = true := by decide +kernel
  have hrun := of_runs (burstReceive_next rfl htree)
    (hright sessionKeyWaits 0 9 3000 0 dataBurst ⟨0, 0⟩ [] [] dataGrant [] rfl htree (by decide +kernel) (by decide +kernel)
      (by decide +kernel) hentries hfound (by decide +kernel))
  obtain ⟨-, -, -, -, -, -, -, -, hframe, -⟩ := hrun
  have hkept := hframe.2 .sesDerived 6 0 (by decide +kernel)
  obtain ⟨hbefore, hafter⟩ := receiveBurst_derives_session
  exact absurd (hafter.symm.trans (hkept.trans hbefore)) (by decide)

end Sys2Proof.Machine
end

section
/-!
PROOFS on the statement of the policy's commands (spec/06): it fails in its clauses on the end of an adaptation period, at the
measurements that the end drops.
-/
namespace Sys2Proof.Machine

/-! ## The end of an adaptation period (spec/06 R216 to R224) -/

/-- While the cluster's adaptation engine runs, the end of a lane's period takes place. -/
theorem adaptationPeriodEnd_next {s : State} {i : Nat} (hup : Up s) (hlane : i < 2 * s.trees)
    (hengine : s.get 0x5400 (16 * (i / 8) + 10) 2 = 0) : exec (.adaptationPeriodEnd i) s = .next (periodEnd i s) := by
  show execAdaptationPeriodEnd i s = _
  simp [execAdaptationPeriodEnd, whenUp_up hup, hlane, hengine]

/-- The mirror record (R402, type 3) of terminal 0 of member 7's tree 9, in OPERATION under serial number 5, for tree 0. Its byte
for the lane holds 2. -/
def laneTwoRecord : List Nat :=
  [9, 0] ++ bytesOf 2 0 ++ [3, 2] ++ bytesOf 4 0 ++ bytesOf 4 0 ++ bytesOf 8 5 ++ [0, 0]

/-- Tree 0 is the standby partner of member 7's tree 9 and takes that record; 2,000,000 bits of terminal 0 have been measured.
Allocation 1024 is of terminal 512, on tree 1's main lane. -/
def laneTwoMirrored : State :=
  let s := ({ State.reset with phase := .running }.put 0x2003 0 1 2).put 0x2003 0 2 (256 * 7 + 9)
  ((mirrorRecord 0 7 3 laneTwoRecord s).put 0x3400 1024 2 512).setAux .adBits 0 0 2000000

/-- The record's lane is stored as it comes, so that terminal 0 of tree 0 has the lane index of tree 1's main lane, 2t + l = 2. -/
theorem laneTwoMirrored_lane : laneOf laneTwoMirrored 0 = 2 ∧ allocLane laneTwoMirrored 1024 = some 2 := by decide +kernel

/-- The end of the period of tree 1's main lane drops the measurement of that terminal of tree 0. -/
theorem periodEnd_drops_measurement :
    laneTwoMirrored.aux .adBits 0 = 2000000 ∧ (periodEnd 2 laneTwoMirrored).aux .adBits 0 = 0 := by
  decide +kernel

/-- Refutes O33: its clause on the end of a lane's period, of index i, lets measurements of terminals change of tree i / 2 and lane
i % 2 only, while the command drops those with 2t + l = i. A terminal whose lane is neither 0 nor 1, as a mirror record can leave it,
separates the two: the clause lacks the premise that a terminal's lane is 0 or 1. -/
theorem not_ownershipAndShareCommandsComplete : ¬ Obligations.OwnershipAndShareCommandsComplete := by
  unfold Obligations.OwnershipAndShareCommandsComplete
  rintro ⟨-, -, -, -, -, -, -, -, -, -, -, -, -, -, -, -, -, -, -, hend, -⟩
  have hlane : 2 < 2 * laneTwoMirrored.trees := by decide +kernel
  have hengine : laneTwoMirrored.get 0x5400 (16 * (2 / 8) + 10) 2 = 0 := by decide +kernel
  have hup : Up laneTwoMirrored := by decide +kernel
  obtain ⟨-, -, -, -, hframe, -⟩ := of_runs (adaptationPeriodEnd_next hup hlane hengine)
    (hend laneTwoMirrored 2 1024 hup hlane hengine laneTwoMirrored_lane.2)
  have hkept := hframe.2 .adBits 0 0 (by decide +kernel)
  obtain ⟨hbefore, hafter⟩ := periodEnd_drops_measurement
  exact absurd (hafter.symm.trans (hkept.trans hbefore)) (by decide)

end Sys2Proof.Machine
end

section
/-!
PROOFS on the statements of the queues' commands and of the releases (spec/09 R311, R325): each fails in what a clause says that its
command leaves alone. A refutation gives the state, and the object that changes there.
-/
namespace Sys2Proof.Machine

/-! ## The queues' enables (R325) -/

/-- The row of a queue's enable. -/
def queueEnableRow (up : Bool) : Row := ⟨qIndex up, 0x10, .bool, .cmd, .any, 0⟩

theorem row_queueEnable (up : Bool) : Objects.row (qIndex up) 0x10 = some (queueEnableRow up) := by
  cases up <;> decide +kernel

/-- The enable is a write of 1. -/
theorem queueEnable_next {acc : Acc} {up : Bool} {queue : Nat} {s : State} (hup : Up s) :
    exec (.queueEnable acc up queue) s = .next (queueEnableWrite acc up queue 1 s) := by
  show execQueueEnable acc up queue s = _
  exact whenUp_up hup _

/-- The enable of a disabled queue is done, and the command object shows that. -/
theorem queueEnableWrite_shows_done {acc : Acc} {up : Bool} {queue : Nat} {s : State}
    (hmay : mayWrite acc (qIndex up) queue 0x10 1 s = true) (hdisabled : s.get (qIndex up) queue 0x11 = 0) :
    (queueEnableWrite acc up queue 1 s).get (qIndex up) queue 0x10 = 0 := by
  have hindex : qIndex up ≠ 0x5840 := by cases up <;> decide
  unfold queueEnableWrite
  rw [get_writeValue_cmd (row_queueEnable up) ⟨rfl, hindex⟩ hmay, if_pos rfl, hdisabled]
  rfl

/-- Downstream queue 7 has drained, and an enable that came during its drain was refused as busy: its command object shows that
answer. -/
def enableWasBusy : State := { State.reset with phase := .running }.put 0x4C40 7 0x10 3

/-- Refutes O11: its clause on the enable leaves 0x4C40[q].10 out of what changes. The object shows the answer to the last write of it
(R20), so after an enable refused as busy the next one, of the disabled queue, takes it from 3 to 0. -/
theorem not_bufferAndQueueCommandsComplete : ¬ Obligations.BufferAndQueueCommandsComplete := by
  unfold Obligations.BufferAndQueueCommandsComplete
  rintro ⟨-, -, -, henable, -⟩
  have hmay : mayWrite ownerAccess (qIndex false) 7 0x10 1 enableWasBusy = true := by decide +kernel
  have hdisabled : enableWasBusy.get (qIndex false) 7 0x11 = 0 := by decide +kernel
  have hrun := of_runs (queueEnable_next rfl) (henable enableWasBusy ownerAccess false 7 rfl hmay hdisabled)
  obtain ⟨-, -, -, -, -, -, -, hframe, -⟩ := hrun
  have hkept := hframe.1 (qIndex false) 7 0x10 (by decide)
  have hshown : enableWasBusy.get (qIndex false) 7 0x10 = 3 := by decide +kernel
  exact absurd ((queueEnableWrite_shows_done hmay hdisabled).symm.trans (hkept.trans hshown)) (by decide)

/-! ## The release of a requester (R311) -/

/-- The release writes its value to the requester's release object. -/
theorem requesterRelease_next {acc : Acc} {requester value : Nat} {s : State} (hup : Up s) :
    exec (.requesterRelease acc requester value) s = .next (requesterReleaseWrite acc requester value s) := by
  show execRequesterRelease acc requester value s = _
  exact whenUp_up hup _

/-- Requester 0 is frozen after one violation, and the table of ownership words lists one that it holds in a pool 6. The device has
the pools 0 to 3 (R301), and the statement does not ask that the words be theirs. -/
def heldOutsideThePools : State :=
  let s := ({ State.reset with phase := .running }.put 0x4C10 0 9 1).put 0x4C10 0 0x0B 1
  s.setAux .bufWord 6 0 (mkOwn 0 1 0)

/-- The release reclaims that word and takes it off the use of pool 6, which would be 0x4C10[0].0B: the count of violations falls. -/
theorem requesterRelease_changes_violations :
    heldOutsideThePools.get 0x4C10 0 0x0B = 1
      ∧ (requesterReleaseWrite ownerAccess 0 1 heldOutsideThePools).get 0x4C10 0 0x0B = 0 := by
  decide +kernel

/-- Refutes O21: its clause on the release of a requester lets 0x4C10[r].05 to .08 change for the buffers reclaimed, while the command
takes each off subindex 5 and its pool. An ownership word of a pool beyond 3 separates the two: the clause lacks the premise that
every ownership word is of a pool of R301. -/
theorem not_unitAndReleaseCommandsComplete : ¬ Obligations.UnitAndReleaseCommandsComplete := by
  unfold Obligations.UnitAndReleaseCommandsComplete
  rintro ⟨-, -, -, hrelease, -⟩
  have hmay : mayWrite ownerAccess 0x4C10 0 0x0A 1 heldOutsideThePools = true := by decide +kernel
  have hfrozen : heldOutsideThePools.get 0x4C10 0 9 = 1 := by decide +kernel
  have hrun := of_runs (requesterRelease_next rfl) (hrelease heldOutsideThePools ownerAccess 0 rfl hmay hfrozen)
  obtain ⟨-, -, -, -, hframe, -⟩ := hrun
  have hkept := hframe.1 0x4C10 0 0x0B (by decide)
  obtain ⟨hbefore, hafter⟩ := requesterRelease_changes_violations
  exact absurd (hafter.symm.trans (hkept.trans hbefore)) (by decide)

end Sys2Proof.Machine
end
